-- ==== Sys2Proof/Word.lean ====
section
/-! DEFINITION. The word types of the part: registers are 32 bits wide (R12), memories are byte addressed. -/

namespace Sys2Proof

/-- A register or memory word (R12). -/
abbrev Word := BitVec 32

/-- One byte. -/
abbrev Byte := BitVec 8

/-- A finite map with natural keys, kept as an association list in rising key order. -/
abbrev AMap (α : Type) := List (Nat × α)

end Sys2Proof
end

