-- ==== Sys2Proof/Syntax.lean ====
section
/-! DEFINITION. The commands of the block: one constructor of `Instr` for each row of spec/opcode_table.json, with the operands that the outside world supplies, and the operand types. -/

namespace Sys2Proof

/-- A bus master that makes an access (R495 for the Shore masters, R106 for the sender IDs they carry, R497 for the Tarn fabric). -/
inductive Master where
  | ingressRouter | egressRouter | basinRing | weirDma | controlCluster | spring
  | pcie | qspi | xspi | debug | testEngine
  /-- The network receive path, which stamps sender 0x0020 (R106). -/
  | networkMgmt
  /-- Global Ripple core `core` (R38), which reaches the Shore through its Kyoler port. -/
  | ripple (core : Nat)
  /-- The warden of the Tarn `die` (R497). -/
  | warden (die : Nat)
  deriving DecidableEq, Repr

/-- An NCP request after its acceptance by Nerris: header fields of R129 and the payload bytes (R149).
`session` is the UDP session of R168 for sender 0x0020. DESIGN CHOICE, log 1. -/
structure Request where
  sender  : Nat
  seq     : Nat
  flow    : Nat
  version : Nat
  flags   : Nat
  session : Nat
  payload : List Byte
  deriving DecidableEq, Repr

/-- One frame of an AES3 input as it arrives (R353, R354): the two subframes' words, validity, user, status and parity flags. -/
structure AesFrame where
  left      : Int
  right     : Int
  validL    : Bool
  validR    : Bool
  parityOkL : Bool
  parityOkR : Bool
  biphaseOk : Bool
  statusL   : Bool
  statusR   : Bool
  zPreamble : Bool
  ns        : Nat
  deriving DecidableEq, Repr

/-- A received Ethernet frame (R373): its octets from the destination address to the end of the payload, without the FCS. -/
structure Frame where
  bytes    : List Byte
  fcsOk    : Bool
  codingOk : Bool
  deriving DecidableEq, Repr

/-- A PTP message as the PTP engine receives it (R405, R406). -/
structure PtpMessage where
  msgType      : Nat
  domain       : Nat
  seq          : Nat
  twoStep      : Bool
  source       : BitVec 64
  correction   : Int
  originSec    : Nat
  originNs     : Nat
  rxSec        : Nat
  rxNs         : Nat
  gmIdentity   : BitVec 64
  gmPriority1  : Nat
  gmPriority2  : Nat
  gmClass      : Nat
  gmAccuracy   : Nat
  gmVariance   : Nat
  stepsRemoved : Nat
  deriving DecidableEq, Repr

/-- An RTP or IEEE 1722 packet handed to a receive stream (R416 to R420, R198 to R202). -/
structure StreamPacket where
  payloadType : Nat
  seq         : Nat
  timestamp   : Nat
  ssrc        : Nat
  marker      : Bool
  payload     : List Byte
  deriving DecidableEq, Repr

/-- A pond parity error (R507): where, who read it, and whether the replay failed as well. -/
structure ParityError where
  die    : Nat
  bank   : Nat
  word   : Nat
  reader : Master
  again  : Bool
  deriving DecidableEq, Repr

/-- The address post-modification of `LD` and `ST` (R301, R310): an offset register or an immediate in words. -/
inductive PostMod where
  | modifier (m : Fin 8)
  | imm (v : BitVec 8)
  deriving DecidableEq, Repr

/-- The commands of the block: the instructions of the Ripple cores first, then every other row of spec/opcode_table.json in its order. -/
inductive Instr where
  /-- NOP (R308). Does nothing. -/
  | nop (core : Nat)
  /-- REP_IMM (R314). Repeats the next instruction n times. -/
  | repImm (core : Nat) (n : BitVec 16)
  /-- REP_REG (R314). Repeats the next instruction Dn[15:0] times. -/
  | repReg (core : Nat) (dn : Fin 16)
  /-- BR (R308). Branches when the condition holds. -/
  | br (core : Nat) (cc : Fin 15) (target : BitVec 14)
  /-- CALL (R308). Pushes the return index and branches. -/
  | call (core : Nat) (target : BitVec 14)
  /-- RET (R308). Pops the return stack into PC. -/
  | ret (core : Nat)
  /-- RETI (R308). Returns from interrupt, restoring FLAGS and setting IE. -/
  | reti (core : Nat)
  /-- DBNZ (R308). Decrements Dn and branches when it is not 0. -/
  | dbnz (core : Nat) (dn : Fin 16) (target : BitVec 14)
  /-- WAIT (R317). Waits for a tick or for input ready. -/
  | wait (core : Nat) (m : Bool)
  /-- EI (R308). Sets IE. -/
  | ei (core : Nat)
  /-- DI (R308). Clears IE. -/
  | di (core : Nat)
  /-- CLRS (R308). Clears the masked STICKY bits. -/
  | clrs (core : Nat) (mask : Byte)
  /-- TRAP (R308). Traps with cause 6 and a code. -/
  | trap (core : Nat) (code : Byte)
  /-- HALT (R308). Traps with cause 7. -/
  | halt (core : Nat)
  /-- ADD (R309). Adds two registers. -/
  | add (core : Nat) (dd ds1 ds2 : Fin 16)
  /-- SUB (R309). Subtracts two registers. -/
  | sub (core : Nat) (dd ds1 ds2 : Fin 16)
  /-- ADDS (R309). Adds two registers with saturation. -/
  | adds (core : Nat) (dd ds1 ds2 : Fin 16)
  /-- SUBS (R309). Subtracts two registers with saturation. -/
  | subs (core : Nat) (dd ds1 ds2 : Fin 16)
  /-- AND (R309). Bitwise AND of two registers. -/
  | and (core : Nat) (dd ds1 ds2 : Fin 16)
  /-- OR (R309). Bitwise OR of two registers. -/
  | or (core : Nat) (dd ds1 ds2 : Fin 16)
  /-- XOR (R309). Bitwise XOR of two registers. -/
  | xor (core : Nat) (dd ds1 ds2 : Fin 16)
  /-- SHL (R309). Shifts left by a register count. -/
  | shl (core : Nat) (dd ds1 ds2 : Fin 16)
  /-- SHR (R309). Shifts right logically by a register count. -/
  | shr (core : Nat) (dd ds1 ds2 : Fin 16)
  /-- SAR (R309). Shifts right arithmetically by a register count. -/
  | sar (core : Nat) (dd ds1 ds2 : Fin 16)
  /-- MIN (R309). Signed minimum of two registers. -/
  | min (core : Nat) (dd ds1 ds2 : Fin 16)
  /-- MAX (R309). Signed maximum of two registers. -/
  | max (core : Nat) (dd ds1 ds2 : Fin 16)
  /-- ABS (R309). Absolute value of a register. -/
  | abs (core : Nat) (dd ds1 : Fin 16)
  /-- NEG (R309). Negation of a register. -/
  | neg (core : Nat) (dd ds1 : Fin 16)
  /-- CMP (R309). Sets the flags of a subtraction of two registers. -/
  | cmp (core : Nat) (ds1 ds2 : Fin 16)
  /-- MUL (R309). Low 32 bits of the signed product of two registers. -/
  | mul (core : Nat) (dd ds1 ds2 : Fin 16)
  /-- ADDI (R309). Adds a sign-extended immediate. -/
  | addi (core : Nat) (dd ds1 : Fin 16) (imm : BitVec 16)
  /-- SUBI (R309). Subtracts a sign-extended immediate. -/
  | subi (core : Nat) (dd ds1 : Fin 16) (imm : BitVec 16)
  /-- ADDSI (R309). Adds an immediate with saturation. -/
  | addsi (core : Nat) (dd ds1 : Fin 16) (imm : BitVec 16)
  /-- SUBSI (R309). Subtracts an immediate with saturation. -/
  | subsi (core : Nat) (dd ds1 : Fin 16) (imm : BitVec 16)
  /-- ANDI (R309). AND with a zero-extended immediate. -/
  | andi (core : Nat) (dd ds1 : Fin 16) (imm : BitVec 16)
  /-- ORI (R309). OR with a zero-extended immediate. -/
  | ori (core : Nat) (dd ds1 : Fin 16) (imm : BitVec 16)
  /-- XORI (R309). XOR with a zero-extended immediate. -/
  | xori (core : Nat) (dd ds1 : Fin 16) (imm : BitVec 16)
  /-- SHLI (R309). Shifts left by an immediate count. -/
  | shli (core : Nat) (dd ds1 : Fin 16) (imm : BitVec 16)
  /-- SHRI (R309). Shifts right logically by an immediate count. -/
  | shri (core : Nat) (dd ds1 : Fin 16) (imm : BitVec 16)
  /-- SARI (R309). Shifts right arithmetically by an immediate count. -/
  | sari (core : Nat) (dd ds1 : Fin 16) (imm : BitVec 16)
  /-- MINI (R309). Signed minimum with an immediate. -/
  | mini (core : Nat) (dd ds1 : Fin 16) (imm : BitVec 16)
  /-- MAXI (R309). Signed maximum with an immediate. -/
  | maxi (core : Nat) (dd ds1 : Fin 16) (imm : BitVec 16)
  /-- ABSI (R309). Immediate-form absolute value of a register. -/
  | absi (core : Nat) (dd ds1 : Fin 16) (imm : BitVec 16)
  /-- NEGI (R309). Immediate-form negation of a register. -/
  | negi (core : Nat) (dd ds1 : Fin 16) (imm : BitVec 16)
  /-- CMPI (R309). Sets the flags of a subtraction of an immediate. -/
  | cmpi (core : Nat) (ds1 : Fin 16) (imm : BitVec 16)
  /-- MULI (R309). Low 32 bits of the product with an immediate. -/
  | muli (core : Nat) (dd ds1 : Fin 16) (imm : BitVec 16)
  /-- LD (R310). Loads a word and post-modifies the address register. -/
  | ld (core : Nat) (dd : Fin 16) (an : Fin 8) (md : PostMod)
  /-- ST (R310). Stores a word and post-modifies the address register. -/
  | st (core : Nat) (dd : Fin 16) (an : Fin 8) (md : PostMod)
  /-- MAC (R311). Adds a signed product to an accumulator, with optional parallel loads. -/
  | mac (core : Nat) (a : Fin 4) (ds1 ds2 : Fin 16) (p0 : Option (Fin 8 × Fin 4)) (p1 : Option (Fin 8 × Fin 4))
  /-- MSU (R311). Subtracts a signed product from an accumulator. -/
  | msu (core : Nat) (a : Fin 4) (ds1 ds2 : Fin 16) (p0 : Option (Fin 8 × Fin 4)) (p1 : Option (Fin 8 × Fin 4))
  /-- MPY (R311). Replaces an accumulator with a signed product. -/
  | mpy (core : Nat) (a : Fin 4) (ds1 ds2 : Fin 16) (p0 : Option (Fin 8 × Fin 4)) (p1 : Option (Fin 8 × Fin 4))
  /-- MACU (R311). Adds an unsigned-by-signed product to an accumulator. -/
  | macu (core : Nat) (a : Fin 4) (ds1 ds2 : Fin 16) (p0 : Option (Fin 8 × Fin 4)) (p1 : Option (Fin 8 × Fin 4))
  /-- CLRA (R312). Clears an accumulator. -/
  | clra (core : Nat) (a : Fin 4)
  /-- LDA (R312). Loads an accumulator from two registers. -/
  | lda (core : Nat) (a : Fin 4) (dh dl : Fin 16)
  /-- EXT (R305). Extracts a rounded, saturated word from an accumulator. -/
  | ext (core : Nat) (a : Fin 4) (dd : Fin 16) (sh : Fin 41)
  /-- MOVA (R305). Copies part of an accumulator to a register. -/
  | mova (core : Nat) (a : Fin 4) (dd : Fin 16) (part : Fin 3)
  /-- ADDA (R312). Adds one accumulator to another. -/
  | adda (core : Nat) (a b : Fin 4)
  /-- MOV (R312). Copies a data register. -/
  | mov (core : Nat) (dd ds : Fin 16)
  /-- MOVX_TO (R302). Writes an address, offset, base or length register. -/
  | movxTo (core : Nat) (xr : Fin 32) (ds : Fin 16)
  /-- MOVX_FROM (R312). Reads an address, offset, base or length register. -/
  | movxFrom (core : Nat) (dd : Fin 16) (xr : Fin 32)
  /-- MOVC_TO (R298). Writes a control register. -/
  | movcTo (core : Nat) (cr : Fin 11) (ds : Fin 16)
  /-- MOVC_FROM (R298). Reads a control register. -/
  | movcFrom (core : Nat) (dd : Fin 16) (cr : Fin 11)
  /-- LDI (R312). Loads a sign-extended immediate. -/
  | ldi (core : Nat) (dd : Fin 16) (imm : BitVec 16)
  /-- LDIH (R312). Loads an immediate into the upper half. -/
  | ldih (core : Nat) (dd : Fin 16) (imm : BitVec 16)
  /-- REGISTER_WRITE (R15). A write to a register field that has no row of its own takes effect according to its access code (RW, W1C, W1S, WO). -/
  | registerWrite (m : Master) (addr size : Nat) (v : Word)
  /-- W1S_ACTION_DONE (R16). Hardware completes a W1S action and clears its bit, unless a new request arrives in the same cycle. -/
  | w1sActionDone (addr bit : Nat) (again : Bool)
  /-- VDD_AO_RISE (R566). VDD_AO rises, resets the always-on domain and triggers a cold reset. -/
  | vddAoRise (wakeNLow : Bool)
  /-- RESET_N_ASSERT (R566). RESET_N held low for at least 1 µs is taken as a cold reset, and every enable is lowered. -/
  | resetNAssert (ns : Nat)
  /-- RESET_N_RELEASE (R566). RESET_N rises and the cold start raises PWR_EN0 once the 100 ms hold has ended. -/
  | resetNRelease
  /-- ENABLE_HOLD_END (R555). The 100 ms hold of all enables ends and a waiting cold start raises PWR_EN0, which is the reference edge of R60. -/
  | enableHoldEnd
  /-- RAIL_IN_RANGE (R555). A rail group enters its operating range. -/
  | railInRange (group : Nat)
  /-- SEQUENCER_STEP (R555). 1 ms after the previous group is in range, the sequencer raises (or, when lowering, drops) the next enable. -/
  | sequencerStep
  /-- RAIL_TIMEOUT (R555). A group not in range within 4.5 ms of its enable stops start-up, all enables are lowered and PWR_CAUSE records the stop. -/
  | railTimeout (group : Nat)
  /-- RAIL_FAULT (R556). A rail group that has been switched on leaves its range for more than 50 µs and is handled as a standby fault, a hub failure or a restart. -/
  | railFault (group : Nat)
  /-- RAIL_FAULT_RESTART (R556). 500 ms after a rail fault, the sequencer makes a cold start, unless this is the third such restart within 60 s. -/
  | railFaultRestart
  /-- THERMAL_TRIP (R557). A die crosses 125 °C and the sequencer lowers every enable until RESET_N next rises. -/
  | thermalTrip (die : Nat)
  /-- DIE_TEMPERATURE_CROSSING (R557). A die temperature rises above 100 °C or 110 °C and Nerris reports it. -/
  | dieTemperatureCrossing (die : Nat) (temp : Int)
  /-- PLL_LOCK (R60). The Shore PLLs lock, fuses are sensed, repair is applied and the cores start the Spring ROM and its self-tests. -/
  | pllLock (locked : Bool) (failingTest : Nat)
  /-- KYOLER_TRAINING_DONE (R30). A Kyoler link completes training at the highest common version and at 16 or 8 lanes, or fails. -/
  | kyolerTrainingDone (link lanes loA hiA loB hiB : Nat)
  /-- IMAGE_VERIFIED (R74). Spring finishes reading the flash, chooses the boot slot, verifies and measures it, and copies Nerris. -/
  | imageVerified
  /-- DRAM_TRAINING_DONE (R512). DRAM training and initialisation, including the parity shadow, completes or fails with BOOT_ERR 0x07. -/
  | dramTrainingDone (ok : Bool) (units : Nat)
  /-- POND_INIT_DONE (R60). All pond banks of all powered dies are initialised to zero with valid parity. -/
  | pondInitDone
  /-- IMAGE_APPLY (R597). Nerris applies the rate, the REGS, CONFIG and RIPPLE sections and the overlay, checking each against its digest. -/
  | imageApply
  /-- NETWORK_START (R397). At the 340 ms event the ports, switch and PTP start, the PTP clock runs from 0 and the media clock runs. -/
  | networkStart
  /-- RENDER_START (R60). The staged configuration is committed, rendering starts with the index of R45, and sys.ready is sent. -/
  | renderStart
  /-- ROLLBACK_FUSE_BLOW (R83). After sys.ready, Nerris blows rollback fuses up to the image's security version when ADVANCE_ROLLBACK is set. -/
  | rollbackFuseBlow
  /-- KYOLER_FLIT_PARITY_ERROR (R33). A receiver finds a flit parity error, discards the flit and requests replay. -/
  | kyolerFlitParityError (link dir flit : Nat)
  /-- KYOLER_RETRAIN (R34). After four consecutive failures of one flit, the link retrains while the sender holds new flits. -/
  | kyolerRetrain (link : Nat)
  /-- KYOLER_RETRAIN_DONE (R34). A retrain completes, or fails and the link is declared failed. -/
  | kyolerRetrainDone (link : Nat) (ok : Bool)
  /-- MASTER_TICK (R46). The active Shore's synthesiser makes the master tick and sends a tick marker carrying the index on every Shore-Tarn link. -/
  | masterTick (cycles : Nat) (phase : Int)
  /-- TARN_TICK (R47). A Tarn's local oscillator makes its tick and the tile runs the stages of R49 for that tick. -/
  | tarnTick (die : Nat)
  /-- TICK_MARKER_RX (R48). A Tarn receives a tick marker, disciplines its oscillator and checks the index, leaving holdover when it agrees. -/
  | tickMarkerRx (die index : Nat)
  /-- HOLDOVER_ENTRY (R48). After 64 consecutive missing markers, the Tarn enters holdover and starts its hold mute. -/
  | holdoverEntry (die : Nat)
  /-- STAGE_DEADLINE (R51). 200 ns before a tick the stage deadline passes and late inputs, partials and feeds are replaced and counted. -/
  | stageDeadline (die : Nat) (lateInputs lateSlices lateChannels lateFeeds : List Nat)
  /-- PARTIAL_SUM_ARRIVAL (R256). A home tile receives a partial-sum header and checks its stage index. -/
  | partialSumArrival (home src index first : Nat) (sums : List Int)
  /-- DIRECT_SAMPLE_HANDOFF (R340). A directly routed sample complete at ingress is passed to the egress framer within 250 ns. -/
  | directSampleHandoff (source : Nat) (sample : Int)
  /-- CFG_COMMIT (R54). The host asks for a commit at sample C; Nerris checks lead and state and sends prepare to every die in service. -/
  | cfgCommit (rq : Request)
  /-- COMMIT_PREPARE (R54). A die receives a prepare request, checks its shadow banks and replies ready or not ready. -/
  | commitPrepare (die : Nat)
  /-- COMMIT_READY_REPLY (R54). Nerris receives a die's reply and, once all dies are ready, sends arm or cancels. -/
  | commitReadyReply (die : Nat)
  /-- COMMIT_ARM_DEADLINE (R54). The arm deadline passes with a die not ready, and Nerris cancels the commit with ABORTED. -/
  | commitArmDeadline
  /-- COMMIT_ARM (R59). A die receives an arm request and arms its swaps, or reports a commit split when it is late. -/
  | commitArm (die : Nat)
  /-- COMMIT_SWAP_REPORT (R57). Nerris receives a die's swap report and answers OK once every die has reported. -/
  | commitSwapReport (die : Nat)
  /-- CFG_DISCARD (R155). Every shadow bank is reloaded from its active bank. -/
  | cfgDiscard (rq : Request)
  /-- CFG_SAVE (R77). Nerris starts writing the other slot with the booted image and an overlay of layers 1 and 2. -/
  | cfgSave (rq : Request)
  /-- CFG_IMAGE_INSTALL (R79). Nerris verifies an image in Basin and starts writing it to the slot not booted. -/
  | cfgImageInstall (rq : Request)
  /-- SLOT_WRITE_DONE (R80). The erase, program and read-back sequence ends, and the commit record is written or the sequence ends with FAULT. -/
  | slotWriteDone (flashError : Bool)
  /-- SLOT_WRITE_TIMEOUT (R82). A save or install exceeding 20 s ends with TIMEOUT and leaves the slot INCOMPLETE. -/
  | slotWriteTimeout
  /-- CFG_RATE (R155). Nerris mutes every output over 64 samples and stops rendering to change Fr. -/
  | cfgRate (rq : Request)
  /-- RATE_RESTART (R185). Rendering restarts at the new rate with a fresh index, releasing objects that no longer fit and re-deriving models. -/
  | rateRestart
  /-- CFG_STAGED (R155). Returns the mask of dies whose shadow banks differ from their active banks. -/
  | cfgStaged (rq : Request)
  /-- SYS_HELLO (R145). Negotiates the sender's NCP version and reports the part's identity and link status. -/
  | sysHello (rq : Request)
  /-- SYS_STATUS (R153). Returns the index, rate, power state, clock reference and temperatures. -/
  | sysStatus (rq : Request)
  /-- SYS_IMAGE (R76). Returns the state of both slots and the boot flags. -/
  | sysImage (rq : Request)
  /-- SYS_RESET (R153). Checks the scope and slot, answers first, and schedules the reset. -/
  | sysReset (rq : Request)
  /-- SYS_RECOVER (R84). The minimal responder stages an image chunk, or verifies and writes the staged image on FINAL. -/
  | sysRecover (rq : Request)
  /-- SYS_EVENT_MASK (R140). Sets the event and doorbell class masks of the destination. -/
  | sysEventMask (rq : Request)
  /-- SYS_PING (R153). Returns the request payload unchanged. -/
  | sysPing (rq : Request)
  /-- RESPONSE_DELIVERY (R142). A queued response or event is written into an outbound mailbox once one admits its destination and has room. -/
  | responseDelivery (dest : Nat)
  /-- NCP_UDP_DATAGRAM (R167). A management datagram is length-checked, authenticated against the session counter and served or discarded. -/
  | ncpUdpDatagram (port : Nat) (srcAddr : BitVec 128) (srcPort : Nat) (fragment : Bool) (bytes : List Byte)
  /-- UDP_SESSION_TIMEOUT (R168). A session ends after 300 s without a valid message. -/
  | udpSessionTimeout (session : Nat)
  /-- MBX_IN_DATA_WRITE (R107). A write to an inbound mailbox window claims an EMPTY mailbox or is refused under R109. -/
  | mbxInDataWrite (m : Master) (n off size : Nat) (v : Word)
  /-- MBX_IN_COMMIT_READ (R108). A 32-bit read of MBX_INn_COMMIT commits the claimant's message or returns its fate. -/
  | mbxInCommitRead (m : Master) (n size : Nat)
  /-- MBX_STALE_RELEASE (R110). A FILLING mailbox idle for 1 ms returns to EMPTY and sets STALE and ABORTED. -/
  | mbxStaleRelease (n : Nat)
  /-- MBX_IN_POP (R111). Nerris pops a FULL inbound mailbox, which sets ACK and empties it. -/
  | mbxInPop (n : Nat)
  /-- MBX_OUT_POP (R115). A read of MBX_OUTn_POP by DEST returns word 0, empties the mailbox and acknowledges to Nerris. -/
  | mbxOutPop (m : Master) (n size : Nat)
  /-- PCIE_RESET (R110). A PCIe hot or function-level reset releases the sender's claims, marks and outbound messages. -/
  | pcieReset (flr : Bool)
  /-- MSIX_VECTOR_UNMASK (R126). Unmasking a vector fires it if its cause is still set, and clears its pending bit. -/
  | msixVectorUnmask (v : Nat)
  /-- DBL_OUT_DRAINED (R120). The ringer signals that it has emptied its outbound mailbox. -/
  | dblOutDrained (m : Master)
  /-- DBL_HOST_SUSPEND (R141). Nerris holds responses and events for the host senders until HOST_RESUME. -/
  | dblHostSuspend (m : Master)
  /-- DBL_HOST_RESUME (R141). Nerris releases the held responses and events for the host senders. -/
  | dblHostResume (m : Master)
  /-- DBL_RPL_RING (R120). A Ripple program rings one of the RPL doorbell bits to Nerris. -/
  | dblRplRing (core bit : Nat)
  /-- DBL_NERRIS_ACK (R120). Nerris takes a doorbell by writing its bit, which clears it. -/
  | dblNerrisAck (m : Master) (mask : Word)
  /-- DBL_HOST_CLEAR (R120). The host or a Ripple program clears a DBL_HOST bit by writing 1. -/
  | dblHostClear (m : Master) (mask : Word)
  /-- LOCK_READ (R121). A read of LOCK_n acquires a free lock or returns BUSY with the owner. -/
  | lockRead (m : Master) (die n size : Nat)
  /-- LOCK_WRITE (R121). A write of the owner's ID frees the lock; any other write sets LOCK_ERR. -/
  | lockWrite (m : Master) (die n : Nat) (v : Word)
  /-- LOCK_FORCE (R123). Nerris frees a lock by writing its index. -/
  | lockForce (m : Master) (die : Nat) (v : Word)
  /-- QSPI_WRITE_WORDS (R588). A QSPI command 0x02 writes words from a BAR0 offset and returns one status byte. -/
  | qspiWriteWords (addr : Nat) (data : List Word) (tornTail : Bool)
  /-- QSPI_READ_WORDS (R589). A QSPI command 0x0B reads words from a BAR0 offset after a status byte. -/
  | qspiReadWords (addr count : Nat)
  /-- I2C_WRITE (R590). An I²C write sets the register pointer. -/
  | i2cWrite (address pointer : Nat) (data : List Byte)
  /-- I2C_WAKE_WRITE (R590). A write to the wake register with bit 0 set is the I2C wake source. -/
  | i2cWakeWrite (address : Nat) (v : Byte)
  /-- SPRING_RESPONDER_MESSAGE (R62). Before Nerris starts, the minimal responder answers sys.hello BUSY or FAULT and other messages BAD_OPCODE. -/
  | springResponderMessage (rq : Request)
  /-- SEC_ATTEST (R96). Spring signs an attestation report over the SMRs and the nonce. -/
  | secAttest (rq : Request)
  /-- SEC_PROVISION (R91). Blows the owner key hashes and keys and moves the part to PROVISIONED. -/
  | secProvision (rq : Request)
  /-- SEC_LIFECYCLE (R90). Blows the flags of a signed forward lifecycle transition. -/
  | secLifecycle (rq : Request)
  /-- SEC_KEY_REVOKE (R88). Revokes one owner key hash when signed by the other. -/
  | secKeyRevoke (rq : Request)
  /-- SEC_DEBUG_CHALLENGE (R100). Returns a fresh 32-byte challenge for one debug token. -/
  | secDebugChallenge (rq : Request)
  /-- SEC_DEBUG_UNLOCK (R101). Accepts a signed token and widens the effective debug enables. -/
  | secDebugUnlock (rq : Request)
  /-- SEC_DEBUG_EPOCH (R101). Blows the next debug epoch fuse, revoking older tokens. -/
  | secDebugEpoch (rq : Request)
  /-- SEC_SELFTEST (R103). Repeats the Spring power-on self-tests. -/
  | secSelftest (rq : Request)
  /-- ENTROPY_HEALTH_FAIL (R104). A continuous entropy health test fails and Spring enters its error state. -/
  | entropyHealthFail (test : Nat)
  /-- ROUTE_SET (R336). Sets or replaces a destination's route, live with a crossfade or staged. -/
  | routeSet (rq : Request)
  /-- ROUTE_CLEAR (R598). Clears a route live, stages a clear, or removes a staged route. -/
  | routeClear (rq : Request)
  /-- ROUTE_GET (R156). Returns a route's settings and state. -/
  | routeGet (rq : Request)
  /-- ROUTE_LIST (R156). Returns the handles in use from a first handle. -/
  | routeList (rq : Request)
  /-- ROUTE_BASIN_CFG (R361). Configures or removes a Basin playback or capture ring. -/
  | routeBasinCfg (rq : Request)
  /-- ROUTE_CROSSFADE_END (R338). A crossfade ends, its old handle is freed and any pending change starts. -/
  | routeCrossfadeEnd (dst : Nat)
  /-- PORT_TDM_CFG (R344). Stages the configuration of a TDM port direction. -/
  | portTdmCfg (rq : Request)
  /-- PORT_TDM_MASK (R346). Writes the slot-mask buffer, which loads at a later frame start. -/
  | portTdmMask (rq : Request)
  /-- PORT_AES_CFG (R355). Stages the configuration of an AES3 port direction. -/
  | portAesCfg (rq : Request)
  /-- PORT_WCLK_CFG (R356). Configures WCLK_OUT and the use of WCLK_IN. -/
  | portWclkCfg (rq : Request)
  /-- PORT_SRC_CFG (R359). Stages a rate converter's enable and coefficient set and returns its group delay. -/
  | portSrcCfg (rq : Request)
  /-- PORT_STATUS (R157). Returns a port's measured rate, state and clock-loss count. -/
  | portStatus (rq : Request)
  /-- TDM_INPUT_FRAME (R345). A TDM frame start arrives on a port, which checks framing and slips, loads a pending mask and delivers slots. -/
  | tdmInputFrame (port bits : Nat) (slots : List Int) (ns : Nat)
  /-- AES3_INPUT_FRAME (R354). An AES3 frame is received and its subframes are checked, delivered and used for channel-status capture. -/
  | aes3InputFrame (port : Nat) (f : AesFrame)
  /-- CLOCK_LOSS (R349). No frame for 2 frame periods, or two framing or biphase errors, is a clock loss; samples fade to 0. -/
  | clockLoss (kind index dir : Nat)
  /-- CLOCK_RETURN (R351). After 16 frames are measured, a matching port fades in, or one that does not match waits. -/
  | clockReturn (kind index dir rate bits : Nat)
  /-- RATE_CLASS_CHANGE (R352). The gated rate measurement changes class and port.rate is sent. -/
  | rateClassChange (kind index dir rate : Nat)
  /-- SRC_LOCK (R358). A converter's buffer has stayed within ±0.5 sample for 100 ms, so it locks and fades in. -/
  | srcLock (conv : Nat)
  /-- SRC_UNLOCK (R358). A converter whose ratio leaves its range unlocks and fades to 0. -/
  | srcUnlock (conv : Nat)
  /-- RING_FETCH (R363). The Shore fetches a block of 64 playback samples and reads the fill index. -/
  | ringFetch (ring : Nat)
  /-- RING_CAPTURE_BLOCK (R364). A captured block of 64 samples is in DRAM and the device index rises. -/
  | ringCaptureBlock (ring : Nat)
  /-- NET_PORT_CFG (R378). Sets a port's mode, maximum frame, partition and flags. -/
  | netPortCfg (rq : Request)
  /-- NET_PORT_STATUS (R369). Returns a port's link, mode and partner pause ability. -/
  | netPortStatus (rq : Request)
  /-- NET_FILTER_SET (R379). Sets a wake pattern or group-address hash table of a port. -/
  | netFilterSet (rq : Request)
  /-- NET_VLAN_CFG (R375). Sets a port's VLAN ID and priority-to-class map. -/
  | netVlanCfg (rq : Request)
  /-- NET_MGMT_CFG (R158). Sets the management port and address, ending every UDP session. -/
  | netMgmtCfg (rq : Request)
  /-- NET_COUNTERS_READ (R394). Returns a run of a port's counters. -/
  | netCountersRead (rq : Request)
  /-- LINK_UP (R370). A port holds lock for 10 ms and declares its link up. -/
  | linkUp (port partner : Nat)
  /-- LINK_DOWN (R370). After 1 ms of loss, the port declares its link down and discards its partition. -/
  | linkDown (port : Nat)
  /-- NET_FRAME_RX (R373). A received frame is checked, learned, classified and forwarded to the host port and other ports. -/
  | netFrameRx (port : Nat) (f : Frame)
  /-- PAUSE_FRAME_RX (R391). A received PAUSE frame loads, reloads or ends the port's pause timer. -/
  | pauseFrameRx (port time : Nat)
  /-- PFC_FRAME_RX (R392). A received PFC frame pauses each enabled class with its own timer. -/
  | pfcFrameRx (port classes : Nat) (times : List Nat)
  /-- PAUSE_TIMER_EXPIRY (R391). A pause timer expires and transmission resumes. -/
  | pauseTimerExpiry (port : Nat) (cls : Option Nat)
  /-- PAUSE_REFRESH (R387). Every 0x8000 quanta above XON, the port sends PAUSE again. -/
  | pauseRefresh (port : Nat)
  /-- ADDRESS_AGE_OUT (R374). An address-table entry not refreshed for the ageing time is removed. -/
  | addressAgeOut (mac : BitVec 48)
  /-- HOST_FRAME_TX (R385). A frame leaves an external port from its class queue, and a time-stamp is taken and queued on request. -/
  | hostFrameTx (port : Nat)
  /-- HOST_TX_STALE (R385). A host frame not started within 2 ms is discarded. -/
  | hostTxStale (port id : Nat)
  /-- FRAME_ERROR_REPORT (R395). Once per second, the risen frame-error counters are reported in class 13. -/
  | frameErrorReport (port : Nat)
  /-- RX_DMA_COMPLETE (R492). A received frame is in DRAM and its descriptor is enqueued, or the DMA waits at a queue limit. -/
  | rxDmaComplete (port : Nat)
  /-- WEIR_DISPATCH (R489). The Weir hands the oldest ready flow's item of the highest-priority queue to its server. -/
  | weirDispatch
  /-- WEIR_DONE (R489). A write of a descriptor index ends its item's service and frees its buffer. -/
  | weirDone (m : Master) (index : Nat)
  /-- WEIR_AGE_PROMOTION (R490). A flow that has waited beyond the age limit is promoted. -/
  | weirAgePromotion (queue : Nat)
  /-- TIME_PTP_CFG (R404). Sets the PTP profile, domain, role and ports and restarts the protocol. -/
  | timePtpCfg (rq : Request)
  /-- TIME_ADJUST (R400). Replaces the increment, adds an offset, or steps the PTP clock. -/
  | timeAdjust (rq : Request)
  /-- TIME_STATUS (R159). Returns PTP time, port state, offset, grandmaster and index. -/
  | timeStatus (rq : Request)
  /-- TIME_MCLK_CFG (R409). Chooses the media-clock reference and enables MCLK_OUT. -/
  | timeMclkCfg (rq : Request)
  /-- PTP_MESSAGE_RX (R406). The PTP engine processes a PTP message and the servo adjusts the clock. -/
  | ptpMessageRx (port : Nat) (p : PtpMessage)
  /-- ANNOUNCE_TIMEOUT (R406). The announce receipt timeout passes and the servo enters holdover. -/
  | announceTimeout
  /-- PTP_TSQ_SEQ_READ (R403). A read of PTP_PORTp_TSQ_SEQ by the control cluster pops the oldest time-stamp. -/
  | ptpTsqSeqRead (m : Master) (port size : Nat)
  /-- MCLK_LOCK (R411). The synthesiser's phase error stays within limits for 1 s and it locks. -/
  | mclkLock
  /-- MCLK_UNLOCK (R411). The phase error exceeds 1 µs for 100 ms and the synthesiser unlocks. -/
  | mclkUnlock
  /-- MCLK_HOLDOVER (R412). The reference disappears and the synthesiser holds its frequency. -/
  | mclkHoldover
  /-- STREAM_RX_ADD (R415). Adds a receive stream with channels, presentation offset and handle. -/
  | streamRxAdd (rq : Request)
  /-- STREAM_TX_ADD (R423). Adds a transmit stream. -/
  | streamTxAdd (rq : Request)
  /-- STREAM_REMOVE (R426). Fades a stream to 0 and then frees its channels and handle. -/
  | streamRemove (rq : Request)
  /-- STREAM_STATUS (R159). Returns a stream's state and packet counts. -/
  | streamStatus (rq : Request)
  /-- STREAM_OPTS (R427). Sets a stream's RTP offset, ports, DSCP, PCP, TTL and source port. -/
  | streamOpts (rq : Request)
  /-- STREAM_PACKET_RX (R417). A received stream packet is checked and its samples are placed on the index or rejected. -/
  | streamPacketRx (handle : Nat) (p : StreamPacket)
  /-- STREAM_PACKET_MISSING (R420). A packet deadline passes without a packet and the stream conceals or goes lost. -/
  | streamPacketMissing (handle : Nat)
  /-- ARP_REFRESH (R425). Every 60 s a unicast destination is resolved again. -/
  | arpRefresh (handle : Nat) (mac : Option (BitVec 48))
  /-- EOMS_PACKET (R200). An EOMS packet is checked and its elements are accepted as updates, or it is discarded. -/
  | eomsPacket (handle : Nat) (p : StreamPacket)
  /-- OBJ_ALLOC (R181). Admits and places an object on a slice. -/
  | objAlloc (rq : Request)
  /-- OBJ_FREE (R183). Starts the object's fade-out to release. -/
  | objFree (rq : Request)
  /-- OBJECT_RELEASE (R183). At the end of the fade-out period the object is released and its history cleared. -/
  | objectRelease (obj : Nat)
  /-- OBJ_CFG (R187). Queues a timed update of an object's whole record. -/
  | objCfg (rq : Request)
  /-- OBJ_POS (R187). Queues a timed position update. -/
  | objPos (rq : Request)
  /-- OBJ_POS_BATCH (R195). Queues position updates for several objects at one boundary. -/
  | objPosBatch (rq : Request)
  /-- OBJ_GAIN (R187). Queues a timed gain and mute update. -/
  | objGain (rq : Request)
  /-- OBJ_GET (R194). Returns an object's state and record. -/
  | objGet (rq : Request)
  /-- OBJ_SLICE_CFG (R180). Sets an empty slice's history mode. -/
  | objSliceCfg (rq : Request)
  /-- OBJ_SLICE_STATUS (R194). Returns a slice's load and counters. -/
  | objSliceStatus (rq : Request)
  /-- OBJ_BED_MAP (R175). Stages an object's bed map. -/
  | objBedMap (rq : Request)
  /-- OBJ_ZONE_WEIGHTS (R196). Stages an object's zone weights. -/
  | objZoneWeights (rq : Request)
  /-- OBJ_UPDATE_CFG (R193). Stages the update period. -/
  | objUpdateCfg (rq : Request)
  /-- OBJ_EOMS_CFG (R198). Binds an EOMS stream to a range of object IDs. -/
  | objEomsCfg (rq : Request)
  /-- GEOMETRY_FREEZE (R228). At b − U − 16 the merged records for boundary b freeze. -/
  | geometryFreeze (slice boundary : Nat)
  /-- GEOMETRY_WINDOW_END (R230). A window ends before the engine has finished; unfinished pairs keep old targets and OVERRUN sets. -/
  | geometryWindowEnd (slice : Nat) (unfinished : List Nat)
  /-- UPDATE_BOUNDARY (R246). At each boundary the lanes load the new targets and compute gain and delay steps. -/
  | updateBoundary (slice boundary : Nat)
  /-- SLOT_MIGRATION_DONE (R251). A migration's copy completes, the lanes switch to the new slot, and the next migration starts. -/
  | slotMigrationDone (slice : Nat)
  /-- SPK_TABLE_LOAD (R205). Checks and stages a speaker table and builds its mesh. -/
  | spkTableLoad (rq : Request)
  /-- SPK_SET (R219). Stages one speaker record and rebuilds the staged mesh. -/
  | spkSet (rq : Request)
  /-- SPK_GET (R208). Returns a speaker record. -/
  | spkGet (rq : Request)
  /-- SPK_ENV_CFG (R207). Stages the speed of sound and air absorption. -/
  | spkEnvCfg (rq : Request)
  /-- SPK_MESH_GET (R208). Returns mesh triangles. -/
  | spkMeshGet (rq : Request)
  /-- SPK_PAIR_GET (R208). Returns the targets of one object-speaker pair. -/
  | spkPairGet (rq : Request)
  /-- CHAIN_CFG (R291). Stages a channel's flags, sends, trim, delay and model. -/
  | chainCfg (rq : Request)
  /-- CHAIN_SOS_STAGE (R269). Stages SOS sections. -/
  | chainSosStage (rq : Request)
  /-- CHAIN_FIR_STAGE (R273). Stages a FIR from Basin. -/
  | chainFirStage (rq : Request)
  /-- CHAIN_PROT_CFG (R277). Stages protection enables and parameters. -/
  | chainProtCfg (rq : Request)
  /-- CHAIN_MODEL (R481). Stages a loudspeaker model and returns its resonance and Qts. -/
  | chainModel (rq : Request)
  /-- CHAIN_GET (R290). Returns a channel's chain settings. -/
  | chainGet (rq : Request)
  /-- CHAIN_STATUS (R290). Returns a channel's protection state and latency. -/
  | chainStatus (rq : Request)
  /-- CHAIN_BUDGET (R286). Returns a tile's FIR, SOS and delay budgets. -/
  | chainBudget (rq : Request)
  /-- POND_PARITY_ERROR (R507). A read finds a parity error, is replayed and is concealed and queued for test on a second failure. -/
  | pondParityError (e : ParityError)
  /-- POND_TEST_REGION (R508). The background test finishes a region, restoring it, and marks the bank FAILED on a failure. -/
  | pondTestRegion (die bank region : Nat) (pass : Bool)
  /-- PND_BANK_OWNER_WRITE (R504). A write of the OWNER field hands a bank over if permitted, else sets PND_ERR. -/
  | pndBankOwnerWrite (m : Master) (die bank : Nat) (v : Word)
  /-- PND_BANK_POWER_WRITE (R506). A write of the PWR field sets a pool bank ON, RETENTION or OFF. -/
  | pndBankPowerWrite (m : Master) (die bank : Nat) (v : Word)
  /-- DECODE_ERROR_WATCHDOG (R501). An access open 4096 cycles on a decode error is ended with a bus error. -/
  | decodeErrorWatchdog (m : Master)
  /-- BUS_TIMEOUT (R502). A control-cluster access reaching 4096 cycles is a fatal error. -/
  | busTimeout (addr : Nat)
  /-- DRAM_PARITY_ERROR (R515). A DRAM read parity mismatch is replayed or reported uncorrectable. -/
  | dramParityError (addr : Nat) (m : Master) (second : Bool)
  /-- ROWHAMMER_THROTTLE (R514). A master's activates of a row reach the threshold and are throttled with refresh management. -/
  | rowhammerThrottle (channel bank row : Nat) (m : Master) (addr : Nat)
  /-- REFRESH_WINDOW_END (R514). Each 32 ms refresh window clears the activate counts. -/
  | refreshWindowEnd
  /-- DRAM_ROW_IDLE_CLOSE (R513). An open row idle for 1 µs is closed. -/
  | dramRowIdleClose (channel bank : Nat)
  /-- DIAG_WEIR_CFG (R491). Sets a queue's priority, limit and reserve and the age limit. -/
  | diagWeirCfg (rq : Request)
  /-- DIAG_DUMP_INFO (R547). Reports whether a valid dump is present. -/
  | diagDumpInfo (rq : Request)
  /-- DIAG_DUMP_READ (R549). Returns dump bytes. -/
  | diagDumpRead (rq : Request)
  /-- DIAG_DUMP_CLEAR (R549). Invalidates the dump header. -/
  | diagDumpClear (rq : Request)
  /-- DIAG_COUNTERS_READ (R197). Returns a run of counters by ID. -/
  | diagCountersRead (rq : Request)
  /-- DIAG_TMUX (R591). Connects an internal signal to a TMUX pin or releases it. -/
  | diagTmux (rq : Request)
  /-- DIAG_POND_STATUS (R165). Returns a bank's power, test flags, owner and parity count. -/
  | diagPondStatus (rq : Request)
  /-- MEM_READ (R162). Checks and reads internal memory. -/
  | memRead (rq : Request)
  /-- MEM_WRITE (R162). Checks and writes internal memory. -/
  | memWrite (rq : Request)
  /-- MEM_BASIN_INFO (R162). Returns Basin and dump-area places. -/
  | memBasinInfo (rq : Request)
  /-- MEM_BASIN_MAP (R162). Places the BAR2 window in Basin. -/
  | memBasinMap (rq : Request)
  /-- MEM_BASIN_WRITE (R162). Writes bytes into Basin. -/
  | memBasinWrite (rq : Request)
  /-- MEM_BASIN_READ (R162). Reads bytes from Basin. -/
  | memBasinRead (rq : Request)
  /-- BASIN_REFERENCE_COPY (R150). Nerris copies a Basin range and checks its CRC before the request that names it uses it. -/
  | basinReferenceCopy (rq : Request)
  /-- RPL_LOAD (R327). Stops a core and loads its code pond from Basin, extending SMR6. -/
  | rplLoad (rq : Request)
  /-- RPL_START (R328). Resets a core's registers and runs it from word 0. -/
  | rplStart (rq : Request)
  /-- RPL_STOP (R328). Stops a core at its next instruction boundary. -/
  | rplStop (rq : Request)
  /-- RPL_RESET (R328). Stops a core, clears its registers and releases claims and locks. -/
  | rplReset (rq : Request)
  /-- RPL_GRANT (R320). Grants or returns general banks to a core's windows. -/
  | rplGrant (rq : Request)
  /-- RPL_INSERT (R323). Stages an insert binding a point to a core. -/
  | rplInsert (rq : Request)
  /-- RPL_MEASURE (R318). Returns a core's busy, peak and overrun counts. -/
  | rplMeasure (rq : Request)
  /-- RPL_XDONE_WRITE (R325). A program answers an exchange slot; a matching tag sets DONE, another sets STALE. -/
  | rplXdoneWrite (m : Master) (core : Nat) (v : Word)
  /-- RIPPLE_TICK (R315). A tick becomes pending for a core, counting an overrun if one already was. -/
  | rippleTick (core : Nat)
  /-- INTERRUPT_ENTRY (R316). With IE set, a pending tick saves IPC and FLAGS and branches to word 8. -/
  | interruptEntry (core : Nat)
  /-- WAIT_END (R317). A WAIT ends when a tick is pending or a READY bit sets. -/
  | waitEnd (core waited : Nat)
  /-- ILLEGAL_INSTRUCTION (R307). An illegal instruction traps with cause 1 before any effect. -/
  | illegalInstruction (core : Nat) (w : Word)
  /-- OUTLET_TICK (R47). An Outlet tick takes up feeds for the line DACs and power channels. -/
  | outletTick (die : Nat)
  /-- OUT_DAC_CFG (R435). Sets a line DAC's enable, slew and clear code, crossfading as needed. -/
  | outDacCfg (rq : Request)
  /-- OUT_DAC_STATUS (R449). Returns a line DAC channel's state and codes. -/
  | outDacStatus (rq : Request)
  /-- DAC_CLR_RISE (R436). DAC_CLR goes high and every line DAC drives its clear code within 1 µs. -/
  | dacClrRise (ns : Nat)
  /-- DAC_CLR_FALL (R436). DAC_CLR goes low and enabled channels crossfade back to their feeds. -/
  | dacClrFall
  /-- FEED_LOSS (R437). No feed for 4 Outlet ticks; line DACs go to clear codes and power channels hold. -/
  | feedLoss (die : Nat)
  /-- OUT_SENSE_CFG (R442). Sets a channel's decimator, bank selection and full scales, restarting when M or N changes. -/
  | outSenseCfg (rq : Request)
  /-- OUT_SENSE_COEF (R441). Writes a channel's inactive sense coefficient bank. -/
  | outSenseCoef (rq : Request)
  /-- OUT_SENSE_READ (R444). Returns a channel's latest sense samples. -/
  | outSenseRead (rq : Request)
  /-- SENSE_DECIMATOR_OUTPUT (R439). Every M modulator clocks, a sense sample is produced and a pending bank swap takes place. -/
  | senseDecimatorOutput (ch : Nat) (v i : Int)
  /-- OUT_AUX_CFG (R448). Sets an auxiliary input's decimator, enable and limits. -/
  | outAuxCfg (rq : Request)
  /-- OUT_AUX_READ (R447). Returns the auxiliary results. -/
  | outAuxRead (rq : Request)
  /-- AUX_CONVERSION (R447). An auxiliary conversion completes and is checked against its limits and NTC shutdown. -/
  | auxConversion (die input : Nat) (raw : Int)
  /-- AMP_CFG (R469). Sets a power channel's mode, phase, retry interval and current limits. -/
  | ampCfg (rq : Request)
  /-- AMP_CLEAR (R471). Resets retry counts and restarts latched or waiting channels. -/
  | ampClear (rq : Request)
  /-- AMP_BOOST_CFG (R476). Sets a boost controller's look-ahead, margin, slew, floor and ceiling. -/
  | ampBoostCfg (rq : Request)
  /-- AMP_PILOT_CFG (R478). Sets a channel's pilot tone and impedance limits. -/
  | ampPilotCfg (rq : Request)
  /-- AMP_STATUS (R160). Returns a power channel's state, impedance and temperature. -/
  | ampStatus (rq : Request)
  /-- AMP_GUARD_CFG (R472). Sets a group's DC and temperature guard. -/
  | ampGuardCfg (rq : Request)
  /-- AMP_SYNC_CFG (R461). Sets an Outlet's synchronisation reference. -/
  | ampSyncCfg (rq : Request)
  /-- CHANNEL_START (R464). Once its rail is in range, a channel presets its integrator and releases its bridges at half duty. -/
  | channelStart (ch : Nat)
  /-- START_HOLD_END (R464). After the 1 ms hold the idle frequency is judged and the fade-in starts. -/
  | startHoldEnd (ch kHz refHz : Nat)
  /-- CHANNEL_STOP_COMPLETE (R465). After fade-out and hold, the channel turns off at a half-duty edge, or after 2 ms. -/
  | channelStopComplete (ch : Nat)
  /-- CYCLE_TRIP (R467). The current reaches the cycle limit and the on-time ends; three in a row shut the channel down. -/
  | cycleTrip (ch : Nat) (consecutive : Nat)
  /-- HARD_SHORT (R468). The current reaches the hard-short threshold and all gates fall within 300 ns. -/
  | hardShort (ch : Nat)
  /-- CLIP_EPISODE (R460). Sixteen consecutive clip cycles form a clip episode, which is reported. -/
  | clipEpisode (ch : Nat)
  /-- RETRY_TIMER (R470). The retry interval expires and the channel starts a retry check. -/
  | retryTimer (ch : Nat)
  /-- RETRY_CHECK_END (R470). The pilot measurement of a retry check ends and the channel resumes or fails. -/
  | retryCheckEnd (ch : Nat) (zmag : Nat)
  /-- RETRY_COUNT_RESET (R470). Ten seconds of running without a shutdown resets the retry count. -/
  | retryCountReset (ch : Nat)
  /-- SYNC_REF_LOST (R462). No AMP_SYNC edge for 10 µs; mode-2 channels run free. -/
  | syncRefLost (die : Nat)
  /-- SYNC_REF_RETURN (R462). After 16 edges in range, mode-2 channels relock. -/
  | syncRefReturn (die hz : Nat)
  /-- DC_WINDOW_END (R472). The DC window ends and a mean beyond threshold latches the channel off. -/
  | dcWindowEnd (ch : Nat)
  /-- PILOT_INTERVAL_END (R479). A pilot interval ends, |Z| is computed and judged against the limits. -/
  | pilotIntervalEnd (ch : Nat) (vre vim ire iim : Int)
  /-- BOOST_OUT_OF_REG (R477). The rail differs from target by 10 % for 1 ms and the controller reports it. -/
  | boostOutOfReg (ctl : Nat)
  /-- BOOST_OVERCURRENT (R477). BST_CS reaches 100 mV in 64 consecutive cycles and the controller stops for 10 ms. -/
  | boostOvercurrent (ctl : Nat)
  /-- BOOST_OC_RESTART (R477). After 10 ms the controller restarts switching. -/
  | boostOcRestart (ctl : Nat)
  /-- BOOST_AT_FLOOR (R477). With every channel of a group off, the rail reaches the floor and cause 1 is reported. -/
  | boostAtFloor (ctl : Nat)
  /-- LOCKSTEP_DISAGREE (R522). The voter fences a disagreeing core, or a duplex disagreement is fatal. -/
  | lockstepDisagree (core : Nat) (allDiffer : Bool)
  /-- LOCKSTEP_RESYNC (R523). At a resynchronisation point the fenced core is reloaded and rejoins, or stays fenced after three fences. -/
  | lockstepResync
  /-- FATAL_ERROR (R527). The active Shore stops markers, heartbeats and delivery and starts writing its dump. -/
  | fatalError (cause die : Nat)
  /-- DUMP_WRITTEN (R527). The dump ends and the Shore declares itself fatal or restarts the part. -/
  | dumpWritten (complete : Bool)
  /-- FATAL_RESTART (R566). Every die resets and starts again with DRAM and the dump kept, possibly into safe mode. -/
  | fatalRestart
  /-- RED_STATUS (R164). Returns the active Shore, standby state and fail-over counts. -/
  | redStatus (rq : Request)
  /-- RED_CFG (R164). Sets the fail-over window. -/
  | redCfg (rq : Request)
  /-- RED_PROVE (R544). With CONFIRM, runs the standby check and hands the timeline to the standby for 100 ms. -/
  | redProve (rq : Request)
  /-- PROVE_TIMELINE_END (R544). After 100 ms the standby stops and the active Shore resumes markers and delivery. -/
  | proveTimelineEnd (code : Nat)
  /-- RED_READMIT (R543). Runs the standby check on a failed Shore to readmit it as cold standby. -/
  | redReadmit (rq : Request)
  /-- STANDBY_CHECK (R531). The standby is powered and boots in the standby role to check itself. -/
  | standbyCheck
  /-- STANDBY_CHECK_END (R531). The check ends, the standby is powered off, and its result sets its state. -/
  | standbyCheckEnd (code : Nat)
  /-- HEARTBEAT_SEND (R532). Every 100 µs the active Shore sends a heartbeat flit on each Shore-Tarn link. -/
  | heartbeatSend
  /-- WARDEN_SUSPECT (R532). A warden's heartbeat age exceeds the window, and it suspects and sends its vote. -/
  | wardenSuspect (die age : Nat)
  /-- WARDEN_VOTE_RX (R533). A warden receives a vote and declares a hub failure when three suspect. -/
  | wardenVoteRx (die src : Nat) (suspect : Bool)
  /-- FATAL_DECLARATION_RX (R533). A warden receives the Shore's fatal declaration flit and declares a hub failure. -/
  | fatalDeclarationRx (die : Nat)
  /-- DUMP_HOLD_END (R534). After the dump copy, or 5 s, the failed Shore is powered off. -/
  | dumpHoldEnd (copied : Bool)
  /-- JOURNAL_BATCH (R537). Every 10 ms the active Shore writes a batch of changed entries to both mirrors. -/
  | journalBatch
  /-- STANDBY_TAKEOVER (R539). With rails on, the standby boots, reads the journal, adopts time, sends markers and resumes delivery. -/
  | standbyTakeover
  /-- TAKEOVER_TIMEOUT (R542). No accepted marker within 1 s of the declaration; the wardens stop the part. -/
  | takeoverTimeout
  /-- PWR_STATE (R559). Takes the part to a power state after its response. -/
  | pwrState (rq : Request)
  /-- PWR_STATUS (R166). Returns the power state, estimate and temperatures. -/
  | pwrStatus (rq : Request)
  /-- PWR_ALARM (R561). Sets or cancels the AO alarm. -/
  | pwrAlarm (rq : Request)
  /-- ALARM_EXPIRY (R561). The alarm expires and wakes the part, or only sends pwr.wake in RUN. -/
  | alarmExpiry
  /-- WAKE_N_LOW (R561). WAKE_N held low for 100 µs is a wake source. -/
  | wakeNLow (us : Nat)
  /-- WAKE_RETURN (R563). A wake returns the part to RUN, reloading Tarns, Outlets and programs as needed. -/
  | wakeReturn (source : Nat)
  /-- WARM_RESET (R567). A warm reset clears the control cluster and runtime blocks and reapplies layer 1. -/
  | warmReset
  /-- COLD_RESET (R566). A sys.reset of scope 1 lowers and raises every group and restarts from the chosen slot. -/
  | coldReset
  /-- DIE_RESET (R569). A Tarn or Outlet is reset, reloaded and rejoins the timeline. -/
  | dieReset (die : Nat)
  /-- DIE_RESET_TIMEOUT (R569). A Tarn not rejoined within 50 ms is a fatal error. -/
  | dieResetTimeout (die : Nat)
  /-- JTAG_BYPASS (R594). BYPASS instruction, no effect on the part. -/
  | jtagBypass
  /-- JTAG_IDCODE (R594). IDCODE instruction, reports the part number. -/
  | jtagIdcode
  /-- JTAG_SAMPLE_PRELOAD (R594). SAMPLE/PRELOAD instruction, no effect on the part. -/
  | jtagSamplePreload (boundary : List Bool)
  /-- JTAG_EXTEST (R595). The boundary register drives the pins while gates are held low and power channels stop. -/
  | jtagExtest
  /-- JTAG_EXTEST_PULSE (R595). EXTEST_PULSE drives pins from the boundary register. -/
  | jtagExtestPulse
  /-- JTAG_EXTEST_TRAIN (R595). EXTEST_TRAIN drives pins from the boundary register. -/
  | jtagExtestTrain
  /-- JTAG_CLAMP (R595). CLAMP holds pins from the boundary register. -/
  | jtagClamp
  /-- JTAG_HIGHZ (R595). HIGHZ releases the pins. -/
  | jtagHighz
  /-- JTAG_CORE_DEBUG (R594). A core debug instruction acts only with the JTAG enable, else as BYPASS. -/
  | jtagCoreDebug
  /-- JTAG_TEST_LOGIC_RESET (R595). Test-Logic-Reset returns pins to their functions and restarts power channels and links. -/
  | jtagTestLogicReset
  /-- POWER_LOSS (R82). The part's supply, VDD_AO included, is lost, ending any save, install, fuse blow or other work in progress. -/
  | powerLoss
  /-- PTP_MESSAGE_INTERVAL (R405). A PTP message interval (Announce, Sync, Delay_Req or Pdelay_Req) expires and the PTP instance sends the message on its ports. -/
  | ptpMessageInterval (port kind : Nat)
  /-- PCIE_LINK_UP (R599). PCIe link training, begun at the 40 ms event, completes and PCI_LINK reports the negotiated speed and width. -/
  | pcieLinkUp (speed width : Nat)
  /-- ATTESTATION_SIGNED (R96). Spring finishes signing an attestation report, the response is sent, and further sec.attest requests are no longer answered BUSY. -/
  | attestationSigned
  /-- SELFTEST_COMPLETE (R103). A repeated Spring self-test run ends, the result is returned, and cryptographic requests are served again or Spring enters its error state. -/
  | selftestComplete (failingTest : Nat)
  /-- FUSES_BLOWN (R135). Blowing the fuses for sec.provision, sec.lifecycle, sec.key.revoke or sec.debug.epoch completes and the response is sent. -/
  | fusesBlown
  deriving DecidableEq, Repr

end Sys2Proof
end

