-- ==== Sys2Proof/Decode.lean ====
section
/-! DEFINITION. The words of commands: the opcode table gives no row any bits, so no table word spells a command; the instruction words of a Ripple core (R307 to R312) are decoded and encoded here. -/

namespace Sys2Proof

/-- The command that a table word spells. No row of the table has bits: none. DEDUCED, log 9. -/
def decodeTableWord (_nbits _w : Nat) : Option Instr := none

/-- The field of `n` bits from bit `k` of an instruction word. -/
def wordField (w k n : Nat) : Nat := w / 2 ^ k % 2 ^ n

/-- The reserved field of `n` bits from bit `k` is 0. -/
def zeroField (w k n : Nat) : Bool := wordField w k n == 0

/-- A register operand. -/
def regField (w k : Nat) : Fin 16 := Fin.ofNat 16 (wordField w k 4)

/-- Class 0x0, control (R308). -/
def decodeControl (core w : Nat) : Option Instr :=
  let target := BitVec.ofNat 14 (wordField w 0 14)
  match wordField w 24 4 with
  | 0x0 => if zeroField w 0 24 then some (.nop core) else none
  | 0x1 => if zeroField w 16 8 && !zeroField w 0 16 then some (.repImm core (BitVec.ofNat 16 (wordField w 0 16))) else none
  | 0x2 => if zeroField w 4 20 then some (.repReg core (regField w 0)) else none
  | 0x3 =>
    if h : wordField w 20 4 < 15 then
      if zeroField w 14 6 then some (.br core ⟨wordField w 20 4, h⟩ target) else none
    else none
  | 0x4 => if zeroField w 14 10 then some (.call core target) else none
  | 0x5 => if zeroField w 0 24 then some (.ret core) else none
  | 0x6 => if zeroField w 0 24 then some (.reti core) else none
  | 0x7 => if zeroField w 14 6 then some (.dbnz core (regField w 20) target) else none
  | 0x8 => if zeroField w 1 23 then some (.wait core (wordField w 0 1 == 1)) else none
  | 0x9 => if zeroField w 0 24 then some (.ei core) else none
  | 0xA => if zeroField w 0 24 then some (.di core) else none
  | 0xB => if zeroField w 8 16 then some (.clrs core (BitVec.ofNat 8 (wordField w 0 8))) else none
  | 0xC => if zeroField w 8 16 then some (.trap core (BitVec.ofNat 8 (wordField w 0 8))) else none
  | 0xD => if zeroField w 0 24 then some (.halt core) else none
  | _ => none

/-- Class 0x1, ALU register (R309). -/
def decodeAlu (core w : Nat) : Option Instr :=
  let d := regField w 20
  let a := regField w 16
  let b := regField w 12
  if !zeroField w 0 12 then none
  else match wordField w 24 4 with
    | 0x0 => some (.add core d a b)
    | 0x1 => some (.sub core d a b)
    | 0x2 => some (.adds core d a b)
    | 0x3 => some (.subs core d a b)
    | 0x4 => some (.and core d a b)
    | 0x5 => some (.or core d a b)
    | 0x6 => some (.xor core d a b)
    | 0x7 => some (.shl core d a b)
    | 0x8 => some (.shr core d a b)
    | 0x9 => some (.sar core d a b)
    | 0xA => some (.min core d a b)
    | 0xB => some (.max core d a b)
    | 0xC => if zeroField w 12 4 then some (.abs core d a) else none
    | 0xD => if zeroField w 12 4 then some (.neg core d a) else none
    | 0xE => if zeroField w 20 4 then some (.cmp core a b) else none
    | _ => some (.mul core d a b)

/-- Class 0x2, ALU immediate (R309). DEDUCED, log 31. -/
def decodeAluImm (core w : Nat) : Option Instr :=
  let d := regField w 20
  let a := regField w 16
  let i := BitVec.ofNat 16 (wordField w 0 16)
  match wordField w 24 4 with
  | 0x0 => some (.addi core d a i)
  | 0x1 => some (.subi core d a i)
  | 0x2 => some (.addsi core d a i)
  | 0x3 => some (.subsi core d a i)
  | 0x4 => some (.andi core d a i)
  | 0x5 => some (.ori core d a i)
  | 0x6 => some (.xori core d a i)
  | 0x7 => some (.shli core d a i)
  | 0x8 => some (.shri core d a i)
  | 0x9 => some (.sari core d a i)
  | 0xA => some (.mini core d a i)
  | 0xB => some (.maxi core d a i)
  | 0xC => if zeroField w 0 16 then some (.absi core d a 0) else none
  | 0xD => if zeroField w 0 16 then some (.negi core d a 0) else none
  | 0xE => if zeroField w 20 4 then some (.cmpi core a i) else none
  | _ => some (.muli core d a i)

/-- Class 0x3, load and store (R310). -/
def decodeMem (core w : Nat) : Option Instr :=
  let dd := regField w 22
  let an := Fin.ofNat 8 (wordField w 19 3)
  let md : Option PostMod :=
    if wordField w 26 1 = 0 then
      if zeroField w 8 8 then some (.modifier (Fin.ofNat 8 (wordField w 16 3))) else none
    else if zeroField w 16 3 then some (.imm (BitVec.ofNat 8 (wordField w 8 8))) else none
  if !zeroField w 0 8 then none
  else match md with
    | none => none
    | some p => if wordField w 27 1 = 0 then some (.ld core dd an p) else some (.st core dd an p)

/-- A parallel load: enable bit, destination and address fields (R311). -/
def decodeLoad (w e d a : Nat) : Option (Option (Fin 8 × Fin 4)) :=
  if wordField w e 1 = 1 then some (some (Fin.ofNat 8 (wordField w d 3), Fin.ofNat 4 (wordField w a 2)))
  else if zeroField w d 3 && zeroField w a 2 then some none
  else none

/-- Class 0x4, multiply-accumulate (R311). -/
def decodeMac (core w : Nat) : Option Instr :=
  let acc := Fin.ofNat 4 (wordField w 24 2)
  let x := regField w 20
  let y := regField w 16
  if !zeroField w 0 4 then none
  else match decodeLoad w 15 12 10 with
    | none => none
    | some p0 =>
      match decodeLoad w 9 6 4 with
      | none => none
      | some p1 =>
        match wordField w 26 2 with
        | 0 => some (.mac core acc x y p0 p1)
        | 1 => some (.msu core acc x y p0 p1)
        | 2 => some (.mpy core acc x y p0 p1)
        | _ => some (.macu core acc x y p0 p1)

/-- Class 0x5, accumulators (R312). -/
def decodeAcc (core w : Nat) : Option Instr :=
  let a := Fin.ofNat 4 (wordField w 20 2)
  if !zeroField w 22 2 then none
  else match wordField w 24 4 with
    | 0x0 => if zeroField w 0 20 then some (.clra core a) else none
    | 0x1 => if zeroField w 0 12 then some (.lda core a (regField w 16) (regField w 12)) else none
    | 0x2 =>
      if h : wordField w 0 6 < 41 then
        if zeroField w 6 10 then some (.ext core a (regField w 16) ⟨wordField w 0 6, h⟩) else none
      else none
    | 0x3 =>
      if h : wordField w 0 2 < 3 then
        if zeroField w 2 14 then some (.mova core a (regField w 16) ⟨wordField w 0 2, h⟩) else none
      else none
    | 0x4 => if zeroField w 0 16 && zeroField w 18 2 then some (.adda core a (Fin.ofNat 4 (wordField w 16 2))) else none
    | _ => none

/-- Class 0x6, moves (R312). -/
def decodeMove (core w : Nat) : Option Instr :=
  let d := regField w 20
  let xr := Fin.ofNat 32 (wordField w 8 5)
  match wordField w 24 4 with
  | 0x0 => if zeroField w 0 16 then some (.mov core d (regField w 16)) else none
  | 0x1 => if zeroField w 0 8 && zeroField w 13 7 then some (.movxTo core xr d) else none
  | 0x2 => if zeroField w 0 8 && zeroField w 13 7 then some (.movxFrom core d xr) else none
  | 0x3 =>
    if h : wordField w 8 5 < 11 then
      if zeroField w 0 8 && zeroField w 13 7 then some (.movcTo core ⟨wordField w 8 5, h⟩ d) else none
    else none
  | 0x4 =>
    if h : wordField w 8 5 < 11 then
      if zeroField w 0 8 && zeroField w 13 7 then some (.movcFrom core d ⟨wordField w 8 5, h⟩) else none
    else none
  | _ => none

/-- Class 0x7, immediate loads (R312). -/
def decodeImm (core w : Nat) : Option Instr :=
  let d := regField w 23
  let i := BitVec.ofNat 16 (wordField w 0 16)
  if !zeroField w 16 7 then none
  else if wordField w 27 1 = 0 then some (.ldi core d i) else some (.ldih core d i)

/-- The instruction that a word of a core's code pond stands for; none for an illegal one (R307). -/
def rippleDecodeNat (core w : Nat) : Option Instr :=
  match w / 2 ^ 28 with
  | 0 => decodeControl core w
  | 1 => decodeAlu core w
  | 2 => decodeAluImm core w
  | 3 => decodeMem core w
  | 4 => decodeMac core w
  | 5 => decodeAcc core w
  | 6 => decodeMove core w
  | 7 => decodeImm core w
  | _ => none

def rippleDecode (core : Nat) (w : Word) : Option Instr := rippleDecodeNat core w.toNat

/-! ### The encoder, from the same tables -/

/-- Class and operation. -/
def opBits (cls op : Nat) : Nat := cls * 2 ^ 28 + op * 2 ^ 24
/-- An ALU register word. -/
def encAlu (op : Nat) (d a b : Fin 16) : Nat := opBits 1 op + d.val * 2 ^ 20 + a.val * 2 ^ 16 + b.val * 2 ^ 12
/-- An ALU immediate word. -/
def encAluImm (op : Nat) (d a : Fin 16) (i : BitVec 16) : Nat := opBits 2 op + d.val * 2 ^ 20 + a.val * 2 ^ 16 + i.toNat
/-- A load or store word. -/
def encMem (store : Nat) (dd : Fin 16) (an : Fin 8) : PostMod → Nat
  | .modifier m => 3 * 2 ^ 28 + store * 2 ^ 27 + dd.val * 2 ^ 22 + an.val * 2 ^ 19 + m.val * 2 ^ 16
  | .imm v => 3 * 2 ^ 28 + store * 2 ^ 27 + 2 ^ 26 + dd.val * 2 ^ 22 + an.val * 2 ^ 19 + v.toNat * 2 ^ 8
/-- A parallel load's fields. -/
def encLoad (e d a : Nat) : Option (Fin 8 × Fin 4) → Nat
  | none => 0
  | some p => 2 ^ e + p.1.val * 2 ^ d + p.2.val * 2 ^ a
/-- A multiply-accumulate word. -/
def encMac (op : Nat) (a : Fin 4) (x y : Fin 16) (p0 p1 : Option (Fin 8 × Fin 4)) : Nat :=
  4 * 2 ^ 28 + op * 2 ^ 26 + a.val * 2 ^ 24 + x.val * 2 ^ 20 + y.val * 2 ^ 16 + encLoad 15 12 10 p0 + encLoad 9 6 4 p1

/-- The word of a Ripple instruction; none for a command that is no instruction or an instruction that no word spells. -/
def rippleEncodeNat : Instr → Option Nat
  | .nop _ => some 0
  | .repImm _ n => if n = 0 then none else some (opBits 0 0x1 + n.toNat)
  | .repReg _ dn => some (opBits 0 0x2 + dn.val)
  | .br _ cc t => some (opBits 0 0x3 + cc.val * 2 ^ 20 + t.toNat)
  | .call _ t => some (opBits 0 0x4 + t.toNat)
  | .ret _ => some (opBits 0 0x5)
  | .reti _ => some (opBits 0 0x6)
  | .dbnz _ dn t => some (opBits 0 0x7 + dn.val * 2 ^ 20 + t.toNat)
  | .wait _ m => some (opBits 0 0x8 + m.toNat)
  | .ei _ => some (opBits 0 0x9)
  | .di _ => some (opBits 0 0xA)
  | .clrs _ mask => some (opBits 0 0xB + mask.toNat)
  | .trap _ code => some (opBits 0 0xC + code.toNat)
  | .halt _ => some (opBits 0 0xD)
  | .add _ d a b => some (encAlu 0x0 d a b)
  | .sub _ d a b => some (encAlu 0x1 d a b)
  | .adds _ d a b => some (encAlu 0x2 d a b)
  | .subs _ d a b => some (encAlu 0x3 d a b)
  | .and _ d a b => some (encAlu 0x4 d a b)
  | .or _ d a b => some (encAlu 0x5 d a b)
  | .xor _ d a b => some (encAlu 0x6 d a b)
  | .shl _ d a b => some (encAlu 0x7 d a b)
  | .shr _ d a b => some (encAlu 0x8 d a b)
  | .sar _ d a b => some (encAlu 0x9 d a b)
  | .min _ d a b => some (encAlu 0xA d a b)
  | .max _ d a b => some (encAlu 0xB d a b)
  | .abs _ d a => some (encAlu 0xC d a 0)
  | .neg _ d a => some (encAlu 0xD d a 0)
  | .cmp _ a b => some (encAlu 0xE 0 a b)
  | .mul _ d a b => some (encAlu 0xF d a b)
  | .addi _ d a i => some (encAluImm 0x0 d a i)
  | .subi _ d a i => some (encAluImm 0x1 d a i)
  | .addsi _ d a i => some (encAluImm 0x2 d a i)
  | .subsi _ d a i => some (encAluImm 0x3 d a i)
  | .andi _ d a i => some (encAluImm 0x4 d a i)
  | .ori _ d a i => some (encAluImm 0x5 d a i)
  | .xori _ d a i => some (encAluImm 0x6 d a i)
  | .shli _ d a i => some (encAluImm 0x7 d a i)
  | .shri _ d a i => some (encAluImm 0x8 d a i)
  | .sari _ d a i => some (encAluImm 0x9 d a i)
  | .mini _ d a i => some (encAluImm 0xA d a i)
  | .maxi _ d a i => some (encAluImm 0xB d a i)
  | .absi _ d a i => if i = 0 then some (encAluImm 0xC d a 0) else none
  | .negi _ d a i => if i = 0 then some (encAluImm 0xD d a 0) else none
  | .cmpi _ a i => some (encAluImm 0xE 0 a i)
  | .muli _ d a i => some (encAluImm 0xF d a i)
  | .ld _ dd an md => some (encMem 0 dd an md)
  | .st _ dd an md => some (encMem 1 dd an md)
  | .mac _ a x y p0 p1 => some (encMac 0 a x y p0 p1)
  | .msu _ a x y p0 p1 => some (encMac 1 a x y p0 p1)
  | .mpy _ a x y p0 p1 => some (encMac 2 a x y p0 p1)
  | .macu _ a x y p0 p1 => some (encMac 3 a x y p0 p1)
  | .clra _ a => some (opBits 5 0x0 + a.val * 2 ^ 20)
  | .lda _ a dh dl => some (opBits 5 0x1 + a.val * 2 ^ 20 + dh.val * 2 ^ 16 + dl.val * 2 ^ 12)
  | .ext _ a dd sh => some (opBits 5 0x2 + a.val * 2 ^ 20 + dd.val * 2 ^ 16 + sh.val)
  | .mova _ a dd p => some (opBits 5 0x3 + a.val * 2 ^ 20 + dd.val * 2 ^ 16 + p.val)
  | .adda _ a b => some (opBits 5 0x4 + a.val * 2 ^ 20 + b.val * 2 ^ 16)
  | .mov _ dd ds => some (opBits 6 0x0 + dd.val * 2 ^ 20 + ds.val * 2 ^ 16)
  | .movxTo _ xr ds => some (opBits 6 0x1 + ds.val * 2 ^ 20 + xr.val * 2 ^ 8)
  | .movxFrom _ dd xr => some (opBits 6 0x2 + dd.val * 2 ^ 20 + xr.val * 2 ^ 8)
  | .movcTo _ cr ds => some (opBits 6 0x3 + ds.val * 2 ^ 20 + cr.val * 2 ^ 8)
  | .movcFrom _ dd cr => some (opBits 6 0x4 + dd.val * 2 ^ 20 + cr.val * 2 ^ 8)
  | .ldi _ dd i => some (opBits 7 0x0 + dd.val * 2 ^ 23 + i.toNat)
  | .ldih _ dd i => some (opBits 7 0x8 + dd.val * 2 ^ 23 + i.toNat)
  | _ => none

/-- The core that a Ripple instruction is for; 0 for a command that is none. -/
def rippleCore : Instr → Nat
  | .nop core => core
  | .repImm core _ => core
  | .repReg core _ => core
  | .br core _ _ => core
  | .call core _ => core
  | .ret core => core
  | .reti core => core
  | .dbnz core _ _ => core
  | .wait core _ => core
  | .ei core => core
  | .di core => core
  | .clrs core _ => core
  | .trap core _ => core
  | .halt core => core
  | .add core _ _ _ => core
  | .sub core _ _ _ => core
  | .adds core _ _ _ => core
  | .subs core _ _ _ => core
  | .and core _ _ _ => core
  | .or core _ _ _ => core
  | .xor core _ _ _ => core
  | .shl core _ _ _ => core
  | .shr core _ _ _ => core
  | .sar core _ _ _ => core
  | .min core _ _ _ => core
  | .max core _ _ _ => core
  | .abs core _ _ => core
  | .neg core _ _ => core
  | .cmp core _ _ => core
  | .mul core _ _ _ => core
  | .addi core _ _ _ => core
  | .subi core _ _ _ => core
  | .addsi core _ _ _ => core
  | .subsi core _ _ _ => core
  | .andi core _ _ _ => core
  | .ori core _ _ _ => core
  | .xori core _ _ _ => core
  | .shli core _ _ _ => core
  | .shri core _ _ _ => core
  | .sari core _ _ _ => core
  | .mini core _ _ _ => core
  | .maxi core _ _ _ => core
  | .absi core _ _ _ => core
  | .negi core _ _ _ => core
  | .cmpi core _ _ => core
  | .muli core _ _ _ => core
  | .ld core _ _ _ => core
  | .st core _ _ _ => core
  | .mac core _ _ _ _ _ => core
  | .msu core _ _ _ _ _ => core
  | .mpy core _ _ _ _ _ => core
  | .macu core _ _ _ _ _ => core
  | .clra core _ => core
  | .lda core _ _ _ => core
  | .ext core _ _ _ => core
  | .mova core _ _ _ => core
  | .adda core _ _ => core
  | .mov core _ _ => core
  | .movxTo core _ _ => core
  | .movxFrom core _ _ => core
  | .movcTo core _ _ => core
  | .movcFrom core _ _ => core
  | .ldi core _ _ => core
  | .ldih core _ _ => core
  | _ => 0

def rippleEncode (i : Instr) : Option Word := (rippleEncodeNat i).map (BitVec.ofNat 32)

end Sys2Proof
end

