-- ==== Sys2Proof/Config.lean ====
section
/-! DEFINITION. What an implementation fixes and the spec leaves open: opaque functions without a body. A claim that holds of the model holds whatever they are. Sequence operands are byte strings. -/

namespace Sys2Proof

/-- SHA-384 (FIPS 180-4), which the spec names and does not spell out (R9). PRESUMED, log 16. -/
opaque Config.sha384 : List Byte → BitVec 384
/-- HMAC-SHA-384 (FIPS 198-1) under a key. PRESUMED, log 16. -/
opaque Config.hmac384 : BitVec 384 → List Byte → BitVec 384
/-- The ECDSA P-384 public key of a private key, x then y. -/
opaque Config.ecdsaPublic : BitVec 384 → BitVec 768
/-- An ECDSA P-384 signature over SHA-384 of the bytes, r then s; the last operand is the random value drawn. PRESUMED, log 16. -/
opaque Config.ecdsaSign : BitVec 384 → List Byte → Nat → BitVec 768
/-- Whether an ECDSA P-384 signature verifies under a public key. PRESUMED, log 16. -/
opaque Config.ecdsaVerify : BitVec 768 → List Byte → BitVec 768 → Bool
/-- AES-256-GCM decryption of ciphertext with its tag: key, IV, bytes; none on a tag mismatch. PRESUMED, log 16. -/
opaque Config.gcmOpen : BitVec 256 → BitVec 96 → List Byte → Option (List Byte)
/-- Whether a NERRIS section carries a valid Brodruash signature under the vendor key digest of the Spring ROM (R70). -/
opaque Config.vendorSigned : List Byte → Bool
/-- The Spring ROM's version as SMR0 takes it (R94). -/
opaque Config.romVersion : List Byte
/-- The version number that Nerris reports in `sys.hello` (R153). -/
opaque Config.nerrisVersion : Nat
/-- The free value number `n`: random numbers, nonces, challenges and every value the spec leaves undefined. DESIGN CHOICE, log 10. -/
opaque Config.freeBits : Nat → BitVec 1024
/-- Tap `t` of the factory sense set for order `n` (R440), Q2.22. -/
opaque Config.senseFactory : Nat → Nat → Int
/-- The oversampled output of a line DAC's interpolation filter at one of 8 phases, from the feeds it holds, newest first (R432). DEDUCED, log 81. -/
opaque Config.dacFilter : Nat → List Int → Int
/-- The interpolation of a power channel's reference code at one of 8 phases (R456). -/
opaque Config.ampFilter : Nat → List Int → Int
/-- The output of a rate converter: coefficient set, input rate code, output rate code and the samples it holds, newest first (R357, R359). DEDUCED, log 67. -/
opaque Config.srcFilter : Nat → Nat → Nat → List Int → Int
/-- The PTP servo's next increment from the present one and the offset from master in ns (R406). DEDUCED, log 79. -/
opaque Config.servoIncrement : Nat → Int → Nat
/-- Cycles that a geometry window, a matrix lane or a chain tick used beyond the spec's own formula (R232, R260, R293): slice or tile and index. DESIGN CHOICE, log 30. -/
opaque Config.cyclesUsed : Nat → Nat → Nat
/-- Estimated power in mW (R166) from the power state code. DEDUCED, log 104. -/
opaque Config.powerEstimate : Nat → Nat
/-- The meaning of a reserved internal test signal (R592): die, signal. -/
opaque Config.reservedSignal : Nat → Nat → Bool
/-- The bytes of a dump section whose layout the spec leaves open (R548): type and what the model holds for it. DEDUCED, log 93. -/
opaque Config.dumpSection : Nat → List Byte → List Byte
/-- The label with which Spring derives a key: 0 the attestation key, 1 the save key (R93). -/
opaque Config.keyLabel : Nat → List Byte
/-- The value that a PROTECT section gives a sealed register, by address, and the debug enables that it gives; the spec lays the section out nowhere (R70, R97). DESIGN CHOICE, log 23. -/
opaque Config.protectWord : List Byte → Nat → Word
/-- DESIGN CHOICE, log 23. -/
opaque Config.protectDebug : List Byte → BitVec 4
/-- A value where the spec states no result, by rule number and operand. DESIGN CHOICE, log 11. -/
opaque Config.unstated : Nat → Nat → Int

end Sys2Proof
end

