-- ==== Sys2Proof/Machine/Parts.lean ====
section
/-! DEFINITION. The parts of the state that belong to the control side of the block: always-on domain, Spring, start-up, Kyoler links, mailboxes, Nerris and its protocol, bus matrix, ponds, DRAM, Weir, redundancy and debug access. Every field is plain data. -/

namespace Sys2Proof.Machine

/-- The three members of the family (R1, R6). DESIGN CHOICE, log 7. -/
inductive Member where
  | evr2 | evr4 | evr8
  deriving DecidableEq, Repr

/-- The power states of R558. -/
inductive PowerState where
  | run | idle | listen | sleep | deepStandby
  deriving DecidableEq, Repr

/-- The always-on domain (R552, R555, R573) with its sequencer, pins and I²C target (R590). -/
structure Ao where
  /-- VDD_AO is present. -/
  vdd         : Bool
  /-- PWR_EN0 to PWR_EN5 (PWR_RAILS.EN). -/
  enables     : BitVec 6
  /-- Rail groups in range (PWR_RAILS.INRANGE). -/
  inRange     : BitVec 6
  /-- The groups the sequencer is bringing to or keeping on. -/
  target      : BitVec 6
  /-- The 100 ms hold of R555 has ended since the last enable fell. -/
  holdDone    : Bool
  /-- A cold start waits for the hold to end. -/
  coldWaiting : Bool
  /-- Level of RESET_N, true for high. -/
  resetN      : Bool
  /-- The enables stay low until RESET_N next rises (R556, R557) or the next cold reset (R63). -/
  lockedOff   : Bool
  /-- INT_N asserted by the always-on domain after a rail failure at start-up (R63). -/
  aoIntN      : Bool
  /-- PWR_STATE.STATE. -/
  power       : PowerState
  /-- PWR_STATE.CHANGING. -/
  changing    : Bool
  /-- PWR_WAKE.EN. -/
  wakeEn      : BitVec 5
  /-- PWR_WAKE.SRC. -/
  wakeSrc     : BitVec 5
  /-- Time at which the alarm of R561 expires, in timer cycles, when one is set. -/
  alarmAt     : Option Nat
  /-- PWR_CAUSE.CAUSE. -/
  cause       : Nat
  /-- PWR_CAUSE.GROUP. -/
  group       : Nat
  /-- Times of the rail-fault restarts of the last 60 s (PWR_CAUSE.RESTARTS). -/
  railRestarts : List Nat
  /-- A rail-fault restart waits its 500 ms (R556). -/
  railRestartDue : Bool
  /-- PWR_CAUSE.START_STOP. -/
  startStop   : Bool
  /-- RST_CAUSE.SCOPE. -/
  rstScope    : Nat
  /-- RST_CAUSE.DIE. -/
  rstDie      : Nat
  /-- I²C target address, 0x5C or 0x5D (R590). -/
  i2cAddr     : Nat
  /-- I²C register pointer. -/
  i2cPtr      : Nat
  deriving DecidableEq, Repr

/-- The fuse-blowing work of a request in progress (R135): the bits still to be blown and what follows them. -/
structure FuseWork where
  opcode : Nat
  bits  : BitVec 8192
  reply : List Byte
  deriving DecidableEq, Repr

/-- The Spring block (R64, R85 to R104). -/
structure Spring where
  /-- Fuse values sensed into the shadow registers at the last cold start (R60, R87). -/
  shadow       : BitVec 8192
  /-- SPR_STATUS.BOOT_STAGE. -/
  stage        : Nat
  /-- SPR_STATUS.SEALED, per die that is sealed (R97, R98). -/
  sealedDies   : List Nat
  selftestOk   : Bool
  cryptoErr    : Bool
  /-- SPR_STATUS.BOOT_ERR. -/
  bootErr      : Nat
  /-- Slot booted, when one was. -/
  slot         : Option Nat
  fallback     : Bool
  overlay      : Bool
  debugGrant   : Bool
  sealViol     : Bool
  /-- SMR0 to SMR7 (R94). -/
  smr          : List (BitVec 384)
  /-- The attestation private key in the volatile key store (R93). -/
  attestKey    : Option (BitVec 384)
  /-- The save key in the volatile key store (R78, R93). -/
  saveKey      : Option (BitVec 384)
  /-- The challenge outstanding for one debug token (R100). -/
  challenge    : Option (BitVec 256)
  /-- The sealed debug enables (R97). -/
  sealedDebug  : BitVec 4
  /-- The grant of the accepted tokens (R101). -/
  grantedDebug : BitVec 4
  /-- The attestation being signed (R96). -/
  attesting    : Option Request
  /-- The self-test being repeated (R103). -/
  selftesting  : Option Request
  /-- The request whose fuses are being blown, with the fuses (R135). -/
  blowing      : Option (Request × FuseWork)
  /-- Rollback fuses to be blown after `sys.ready` (R83). -/
  rollbackDue  : Bool
  /-- The slot forced for the next boot (R75, R153). -/
  forcedSlot   : Option Nat
  /-- Whether that forcing came from Nerris abandoning a slot (R75), so that FALLBACK sets. -/
  forcedByNerris : Bool
  /-- Slots that Nerris has marked INVALID under R75. -/
  abandoned    : List Nat
  /-- Generation of the slot booted. -/
  generation   : Nat
  /-- Bytes of a recovery image staged so far (R84); the bytes stand in the ponds. -/
  stagedBytes  : Nat
  deriving DecidableEq, Repr

/-- How far a start-up has come (R60). DEDUCED, log 107. -/
inductive BootStep where
  | off | rails | selfTest | links | image | dram | ponds | apply | network | render | ready | recovery | stopped
  deriving DecidableEq, Repr

/-- Why a start-up runs, which `sys.ready` reports (R137, R153). -/
inductive RestartCause where
  | cold | warm | fatal | failover
  deriving DecidableEq, Repr

/-- Start-up in progress. -/
structure Boot where
  step   : BootStep
  cause  : RestartCause
  /-- The wake source to report after `sys.ready` (R563). -/
  wakeReport : Option Nat
  /-- `sys.ready` has been sent since Nerris last started (R61). -/
  ready  : Bool
  /-- Safe mode after the third fatal restart (R529). -/
  safe   : Bool
  deriving DecidableEq, Repr

/-- One Kyoler link (R28 to R35) and its status entry (R154). -/
structure Link where
  /-- 0 absent, 1 up, 2 failed, 3 unpowered standby. -/
  state      : Nat
  major      : Nat
  minor      : Nat
  lanes      : Nat
  retraining : Bool
  /-- Start times of the retrains of the last second (R34). -/
  retrains   : List Nat
  /-- Direction and number of the flit that failed last, and its failures in a row (R33, R34). -/
  flitDir    : Nat
  flitNo     : Nat
  flitFails  : Nat
  replays    : Nat
  deriving DecidableEq, Repr

/-- A save, an installation or a recovery writing a slot (R77 to R84), by the opcode of its request. -/
structure SlotWrite where
  opcode     : Nat
  request    : Request
  slot       : Nat
  generation : Nat
  /-- The slot offsets and bytes of step 3 of R80, sections, header and descriptor. -/
  image      : List Host.Cell
  deriving DecidableEq, Repr

/-- STATE of an inbound mailbox. -/
inductive MbxState where
  | empty | filling | full
  deriving DecidableEq, Repr

/-- An inbound mailbox (R105 to R112). -/
structure MbxIn where
  /-- The words written into the data window, by word number. -/
  words      : AMap Word
  st         : MbxState
  owner      : Nat
  ack        : Bool
  aborted    : Bool
  /-- MBX_INn_CFG: bit 0 PCIe, 1 QSPI, 2 Ripple. -/
  allow      : BitVec 3
  /-- The sender whose abort mark stands (R108). -/
  abortMark  : Option Nat
  /-- The drop mark of PCIe (R108, R109). -/
  dropMark   : Bool
  /-- Time of the claimant's last write or commit read (R110). -/
  lastAccess : Nat
  deriving DecidableEq, Repr

/-- An outbound mailbox (R114 to R116). -/
structure MbxOut where
  words : AMap Word
  full  : Bool
  dest  : Nat
  allow : BitVec 3
  deriving DecidableEq, Repr

/-- The mailbox and doorbell blocks and the MSI-X structures. -/
structure Mbx where
  inb      : AMap MbxIn
  outb     : AMap MbxOut
  /-- MBX_ERR [15:0]. -/
  err      : BitVec 16
  /-- MBX_IRQ_MASK.EN. -/
  irqMask  : BitVec 12
  /-- DBL_NERRIS. -/
  dblNerris : Word
  /-- DBL_HOST.RING. -/
  dblHost  : BitVec 22
  /-- Mask bits of the MSI-X table. -/
  msixMask : Word
  /-- The pending-bit array. -/
  msixPba  : Word
  /-- PCI_LINK (R599). -/
  pciSpeed : Nat
  pciWidth : Nat
  msixEn   : Bool
  msixFmask : Bool
  /-- PCI_RESETS. -/
  hotResets : Nat
  flrs     : Nat
  /-- PCI_BAR2.WINDOW, in MiB. -/
  bar2     : Nat
  /-- PCIe link training has begun (R60, R599). -/
  pciTraining : Bool
  deriving DecidableEq, Repr

/-- LOCK_ERR of one die (R123). -/
structure LockErr where
  index  : Nat
  sender : Nat
  valid  : Bool
  deriving DecidableEq, Repr

/-- The lock registers of all dies: owners by die × 64 + n, and LOCK_ERR by die (R121 to R123). -/
structure Locks where
  owners : AMap Nat
  errs   : AMap LockErr
  deriving DecidableEq, Repr

/-- A message queued for a destination (R141, R142). -/
structure OutMsg where
  event    : Bool
  /-- Flow and sequence of the request answered, for its outstanding entry (R134). -/
  seq      : Nat
  opcode   : Nat
  bytes    : List Byte
  deriving DecidableEq, Repr

/-- What Nerris keeps for one destination (R139 to R146). The key is the sender ID, or 0x20_0000 + session for a UDP session. -/
structure Dest where
  version  : Nat
  evMask   : Nat
  dbMask   : Nat
  /-- The next event number. -/
  nextEv   : Nat
  queue    : List OutMsg
  deriving DecidableEq, Repr

/-- A request accepted and not yet answered (R134). -/
structure Outstanding where
  dest   : Nat
  seq    : Nat
  opcode : Nat
  deriving DecidableEq, Repr

/-- A UDP session (R168 to R170). -/
structure Session where
  addr       : BitVec 128
  port       : Nat
  nonce      : BitVec 128
  lastIn     : Nat
  nextOut    : Nat
  lastValid  : Nat
  deriving DecidableEq, Repr

/-- The management settings of `net.mgmt.cfg` (R158, R167). -/
structure Mgmt where
  port     : Option Nat
  ipv      : Nat
  udpPort  : Nat
  addr     : BitVec 128
  prefixLen : Nat
  gateway  : BitVec 128
  deriving DecidableEq, Repr

/-- A configuration record in force: a message in NCP payload form and the layer of R65 that set it (3 image, 2 overlay, 1 run time). -/
structure Rec where
  layer   : Nat
  opcode  : Nat
  flow    : Nat
  key     : List Byte
  payload : List Byte
  deriving DecidableEq, Repr

/-- The copy that Nerris took of a Basin reference for a request (R150). -/
structure BasinCopy where
  dest : Nat
  seq  : Nat
  ok   : Bool
  data : List Byte
  deriving DecidableEq, Repr

/-- A rate change in progress (R155, R596). -/
structure RateChange where
  request : Request
  rate    : Nat
  mclk512 : Bool
  /-- Egress ticks to come until the mute is over: one more at full level, then the 64 samples of the mute. -/
  mute    : Nat
  deriving DecidableEq, Repr

/-- Nerris and its protocol (R128 to R171). -/
structure Ncp where
  dests       : AMap Dest
  outstanding : List Outstanding
  /-- Destination and sequence of responses to discard when they come, their sender having been reset (R137). -/
  discarding  : List (Nat × Nat)
  /-- HOST_SUSPEND in force (R141). -/
  suspended   : Bool
  mgmt        : Mgmt
  sessions    : AMap Session
  /-- Records in force, in the order applied. -/
  records     : List Rec
  /-- Records staged and not committed. -/
  stagedRecs  : List Rec
  copies      : List BasinCopy
  rateChange  : Option RateChange
  /-- A reset scheduled by `sys.reset` after its response: scope, die, forced slot (R153). -/
  resetDue    : Option (Nat × Nat × Nat)
  /-- The last 1024 events queued, newest first (R548). -/
  eventLog    : List OutMsg
  /-- Times at which events limited to one a second were last sent, by event kind. -/
  lastSent    : AMap Nat
  deriving DecidableEq, Repr

/-- A commit in progress (R53 to R59). -/
structure Commit where
  c        : Nat
  request  : Request
  /-- Dies in service that take part. -/
  dies     : List Nat
  /-- U of R54. -/
  u        : Nat
  /-- The staged set includes a geometry setting of R54. -/
  geometry : Bool
  prepared : List Nat
  /-- Replies on their way or received: die and reason, reason none when ready. -/
  replies  : AMap (Option Nat)
  received : List Nat
  /-- Nerris has sent the arm. -/
  armSent  : Bool
  /-- Dies that have taken the arm. -/
  armed    : List Nat
  reported : List Nat
  /-- Swaps that the active Shore has made: 1 ingress, 2 egress. -/
  shore    : Nat
  /-- The staged mesh differs from the one in force (R208). -/
  mesh     : Bool
  deriving DecidableEq, Repr

/-- BMX_ERR and BMX_ERRADDR (R519). -/
structure BmxErr where
  target : Nat
  master : Nat
  kind   : Nat
  write  : Bool
  valid  : Bool
  addr   : Nat
  deriving DecidableEq, Repr

/-- One pond bank's ownership, power and test marks (R503 to R510). Its contents stand in memory. -/
structure PondBank where
  owner   : Nat
  pwr     : Nat
  testInt : Bool
  queued  : Bool
  failed  : Bool
  errors  : Nat
  deriving DecidableEq, Repr

/-- PND_ERR of one die. -/
structure PndErr where
  bank  : Nat
  owner : Nat
  valid : Bool
  deriving DecidableEq, Repr

/-- PND_REPAIR of one die. -/
structure PndRepair where
  applied  : Nat
  refused  : Nat
  fieldErr : Bool
  deriving DecidableEq, Repr

/-- Ponds of all dies; keys die × 256 + bank, or the die. -/
structure Ponds where
  banks   : AMap PondBank
  errs    : AMap PndErr
  repairs : AMap PndRepair
  /-- Column repairs applied: memory key and column. -/
  repaired : List (Nat × Nat)
  /-- The region now under test, as bank × 256 + region (R508). -/
  testing : AMap Nat
  /-- Words of ponds and DRAM whose next read finds a parity error twice, by address (R322, R507, R515). -/
  bad     : List Nat
  deriving DecidableEq, Repr

/-- A bank of the DRAM and its page predictor (R513). -/
structure DramBank where
  openRow : Option Nat
  pred    : Nat
  deriving DecidableEq, Repr

/-- The DRAM controller (R512 to R516, R521). -/
structure Dram where
  /-- Fitted size in 256 MiB units, the shadow included. -/
  units   : Nat
  /-- 0 training, 1 running, 2 self-refresh, 3 failed. -/
  st      : Nat
  /-- Address order in force. -/
  order   : Nat
  banks   : AMap DramBank
  /-- Rows limited in this window: channel, bank, row and master number (R514). -/
  limited : List (Nat × Nat × Nat × Nat)
  deriving DecidableEq, Repr

/-- A Weir descriptor (R487 to R492). -/
structure WeirItem where
  index : Nat
  flow  : Nat
  kind  : Nat
  len   : Nat
  src   : Nat
  data  : Nat
  /-- Arrival number. -/
  at_   : Nat
  /-- FLAGS and the receive time-stamp of R492: seconds, nanoseconds and the top 8 sub-nanosecond bits. -/
  flags : Nat
  sec   : Nat
  ns    : Nat
  frac  : Nat
  deriving DecidableEq, Repr

/-- One Weir queue: its items in arrival order and its ready flows with the time each became ready (R489). -/
structure WeirQueue where
  items : List WeirItem
  ready : List (Nat × Nat)
  bp    : Bool
  deriving DecidableEq, Repr

/-- The Weir (R487 to R494). -/
structure Weir where
  queues    : AMap WeirQueue
  /-- Flows in service: descriptor index, flow and queue. -/
  inService : List (Nat × Nat × Nat)
  /-- Last queue served at each level, for round robin. -/
  lastAt    : AMap Nat
  /-- Queues promoted by age (R490). -/
  promoted  : List Nat
  /-- Items that have arrived so far. -/
  arrivals  : Nat
  /-- Receive buffers in use: descriptor index to first slot and number of slots. -/
  buffers   : AMap (Nat × Nat)
  deriving DecidableEq, Repr

/-- The lockstep cluster (R522 to R525). -/
structure Lockstep where
  fenced : Option Nat
  /-- Duplex until the next cold reset (R525). -/
  duplex : Bool
  /-- Core and time of each fence. -/
  fences : List (Nat × Nat)
  deriving DecidableEq, Repr

/-- What the part does about a fatal error (R526 to R529). -/
structure Fatal where
  /-- The cause word being dumped. -/
  dumping  : Option Nat
  /-- The dump has ended and the restart or declaration follows. -/
  restartDue : Bool
  /-- Times of the restarts of the last 600 s. -/
  restarts : List Nat
  /-- The dump to announce after the restart. -/
  announce : Bool
  /-- The part is stopped until a cold reset (R542). -/
  halted   : Bool
  deriving DecidableEq, Repr

/-- The standby check in progress, and for whom. -/
inductive CheckFor where
  | startup
  | readmit
  | prove (rq : Request)
  deriving DecidableEq, Repr

/-- One Tarn warden (R532, R533, R551). -/
structure Warden where
  suspect   : Bool
  declared  : Bool
  /-- Votes received: bit j for Tarn 2 + j. -/
  votes     : BitVec 4
  /-- Age of the last heartbeat in 10 µs. -/
  hbAge     : Nat
  /-- Time of the last heartbeat received. -/
  lastHb    : Nat
  failovers : Nat
  deriving DecidableEq, Repr

/-- One mirror of the checkpoint journal (R536, R537); its bytes stand in the ponds. -/
structure Mirror where
  half  : Nat
  pos   : Nat
  deriving DecidableEq, Repr

/-- Redundancy of the EVR-8 (R530 to R545). -/
structure Red where
  active       : Nat
  /-- An active Shore is running (false in a fail-over gap). -/
  hubUp        : Bool
  standbyState : Nat
  standbyCause : Nat
  /-- Fail-over window in ms. -/
  window       : Nat
  check        : Option CheckFor
  /-- `red.prove` past its check: the standby runs the timeline. -/
  proving      : Option Request
  dumpHold     : Bool
  /-- Die of the Shore that failed and the declaration's cause: 0 quorum, 1 self-declared. -/
  declared     : Option (Nat × Nat)
  declaredAt   : Nat
  /-- Time of the first marker missed (R540). -/
  gapStart     : Nat
  wardens      : AMap Warden
  mirrors      : AMap Mirror
  journalSeq   : Nat
  /-- Media sample index of the last batch. -/
  lastJournal  : Nat
  /-- Records changed since the last batch. -/
  dirty        : List Rec
  dumpCopied   : Bool
  deriving DecidableEq, Repr

/-- The test access port (R594, R595). -/
inductive JtagInstr where
  | reset | bypass | idcode | sample | extest | extestPulse | extestTrain | clamp | highz
  deriving DecidableEq, Repr

/-- JTAG and the boundary register. -/
structure Jtag where
  instr    : JtagInstr
  boundary : List Bool
  deriving DecidableEq, Repr

/-- The last answer the block gave on a bus, QSPI, I²C or JTAG transaction: an error flag, a status byte and the words. -/
structure BusReply where
  error  : Bool
  status : Nat
  data   : List Word
  deriving DecidableEq, Repr

end Sys2Proof.Machine
end

