-- ==== Sys2Proof/Machine/PartsAudio.lean ====
section
/-! DEFINITION. The parts of the state that belong to sound: objects and slices, geometry, the delay-gain matrix, the speaker chain, Ripple cores, routing and ports, network and streams, line outputs and power stage. Every field is plain data. -/

namespace Sys2Proof.Machine

/-- The fields of an object's record (R174). -/
structure ObjRec where
  mode    : Nat
  gain    : Int
  mute    : Bool
  x       : Int
  y       : Int
  z       : Int
  size    : Nat
  air     : Bool
  doppler : Bool
  distDelay : Bool
  slew    : Nat
  base    : Nat
  group   : Nat
  refDist : Nat
  k       : Nat
  deriving DecidableEq, Repr

/-- An update accepted and not yet applied: when it was accepted and is due, whether EOMS carried it, the boundary it applies at and the fields it sets (R187 to R189). -/
structure Update where
  at_      : Nat
  due      : Nat
  now_     : Bool
  eoms     : Bool
  boundary : Nat
  mode     : Option Nat
  gain     : Option Int
  mute     : Option Bool
  pos      : Option (Int × Int × Int)
  size     : Option Nat
  options  : Option (Bool × Bool × Bool)
  base     : Option Nat
  group    : Option Nat
  refDist  : Option Nat
  k        : Option Nat
  slew     : Option Nat
  deriving DecidableEq, Repr

/-- An allocated object (R174, R181 to R192). -/
structure Obj where
  slice     : Nat
  /-- History slot; lane group is slot mod 4 (R235). -/
  slot      : Nat
  /-- The slot a migration copies into (R251). -/
  newSlot   : Option Nat
  record    : ObjRec
  pend      : List Update
  /-- First boundary of the object's pairs (R182). -/
  bornAt    : Nat
  /-- A change of mode ramps the old pairs out from this boundary and takes the new mode at the next (R182). -/
  modeChange : Option (Nat × Nat)
  /-- Boundary of the fade-out, while releasing (R183). -/
  freeing   : Option Nat
  late      : Nat
  clamped   : Nat
  /-- Clamps of each kind since the last `obj.clamp` (R192). -/
  clampRun  : AMap Nat
  /-- Position of the last PAN direction that was not the origin (R218). -/
  panDir    : Int × Int × Int
  deriving DecidableEq, Repr

/-- The targets of one pair (R211, R212). -/
structure Target where
  delay : Nat
  gain  : Nat
  pole  : Nat
  /-- Bits 0 delay clamped, 1 near-field floor, 2 gain saturated. -/
  flags : Nat
  deriving DecidableEq, Repr

/-- One entry of a pair store (R246): gain in 2⁻²⁶, delay in 2⁻¹⁶ sample; the delay's travel over a period is kept whole. -/
structure Pair where
  gainB     : Int
  gainStep  : Int
  delayB    : Int
  delayMove : Int
  target    : Target
  pole      : Nat
  air       : Int
  deriving DecidableEq, Repr

/-- A boundary whose records are frozen, with the records and, once computed, the targets by object and speaker (R228). -/
structure Window where
  boundary : Nat
  records  : AMap ObjRec
  computed : Bool
  targets  : AMap (AMap Target)
  deriving DecidableEq, Repr

/-- A render slice (R179 to R181, R233 to R251). -/
structure Slice where
  /-- History mode when set by `obj.slice.cfg`; true for H128. -/
  h128set  : Option Bool
  /-- Boundary in force and the period of its ramp. -/
  boundary : Nat
  period   : Nat
  windows  : List Window
  pairs    : AMap (AMap Pair)
  /-- The object being migrated and its start tick (R251). -/
  migrating : Option (Nat × Nat)
  /-- Partial sums of the last matrix tick, by speaker, and of the one before (R249, R254). -/
  sums     : AMap Int
  prevSums : AMap Int
  geoLast  : Nat
  laneLast : Nat
  deriving DecidableEq, Repr

/-- A speaker record (R204). -/
structure SpkRec where
  x     : Int
  y     : Int
  z     : Int
  ax    : Int
  ay    : Int
  az    : Int
  typ   : Nat
  array : Nat
  elem  : Nat
  group : Nat
  gain  : Int
  delay : Nat
  model : Nat
  deriving DecidableEq, Repr

/-- A panning mesh (R219, R220); vertex 0xFFFE is the nadir and 0xFFFF the zenith. -/
structure Mesh where
  triangles  : List (Nat × Nat × Nat)
  virtual    : Nat
  noPan      : Bool
  coincident : List Nat
  cells      : AMap (List Nat)
  entries    : Nat
  deriving DecidableEq, Repr

/-- A speaker table with its mesh (R203, R208). -/
structure SpkTable where
  recs        : List SpkRec
  arrayInMesh : Bool
  taper       : Nat
  thetaF      : Nat
  thetaC      : Nat
  mesh        : Mesh
  deriving DecidableEq, Repr

/-- The geometry settings that a commit swaps together on every Tarn (R207, R193, R242, R290). -/
structure GeoBank where
  table  : SpkTable
  c      : Nat
  airA   : Nat
  period : Nat
  /-- The index from which `period` applies and the period before it (R193). -/
  since  : Nat
  before : Nat
  /-- Interpolator coefficients that differ from the factory set, by word index (R241, R261). -/
  icoef  : AMap Word
  deriving DecidableEq, Repr

/-- The settings of `chain.cfg` (R290). -/
structure ChanCfg where
  invert     : Bool
  mainOff    : Bool
  sosBypass  : Bool
  firBypass  : Bool
  protBypass : Bool
  sends      : List (Nat × Int)
  trim       : Int
  delay      : Nat
  model      : Nat
  deriving DecidableEq, Repr

/-- One SOS section's coefficients in Q4.28 (R268). -/
structure Section where
  b0 : Int
  b1 : Int
  b2 : Int
  a1 : Int
  a2 : Int
  deriving DecidableEq, Repr

/-- The settings of `chain.prot.cfg` (R279). -/
structure ProtCfg where
  excursion : Bool
  thermal   : Bool
  peak      : Bool
  look      : Nat
  threshold : Int
  release   : Nat
  margin    : Nat
  deriving DecidableEq, Repr

/-- Everything staged for a chain channel (R285). -/
structure ChanSet where
  cfg      : ChanCfg
  sosCount : Nat
  sos      : AMap Section
  fir      : List Int
  prot     : ProtCfg
  deriving DecidableEq, Repr

/-- A loudspeaker model (R290, R481). -/
structure Model where
  re : Nat
  bl : Nat
  mms : Nat
  cms : Nat
  rms : Nat
  xmax : Nat
  vpk : Nat
  coilR : Nat
  coilT : Nat
  magR : Nat
  magT : Nat
  tmax : Int
  ambient : Int
  alpha : Nat
  deriving DecidableEq, Repr

/-- State of one SOS section: x in render words, y with 8 more fraction bits, and the error carried (R268). -/
structure SosState where
  x1 : Int
  x2 : Int
  y1 : Int
  y2 : Int
  e  : Int
  deriving DecidableEq, Repr

/-- Protection state of a channel (R277 to R284); real values in units of 2⁻⁶⁴. -/
structure ProtState where
  /-- Undelayed inputs and their peak and excursion needs, newest first. -/
  inputs  : List Int
  needP   : List Int
  needE   : List Int
  gp      : Int
  ge      : Int
  gt      : Int
  /-- High-pass corner in hertz, 0 when off. -/
  corner  : Int
  hp      : List Int
  disp    : List Int
  /-- How the thermal estimates start: 2 at Tmax − 20 K after a reset, 1 from ambient, 0 running (R281, R283). -/
  seed    : Nat
  coil    : Int
  magnet  : Int
  power   : Int
  powerN  : Nat
  muted   : Bool
  /-- Mute ramp position, 64 for full gain. -/
  mutePos : Nat
  /-- Largest predicted excursion of the second in progress, of the last one, and when it began. -/
  xPeak   : Int
  xLast   : Int
  xSince  : Nat
  /-- Smallest factor of each kind in its second of report, and when that began (kind + 8). -/
  worst   : AMap Int
  deriving DecidableEq, Repr

/-- The running state of a chain channel. -/
structure ChanState where
  sos     : AMap SosState
  hist    : List Int
  line    : List Int
  prot    : ProtState
  lastIn  : Int
  lineOut : Int
  feed    : Int
  /-- Feed index of the last swap and the settings before it, for the 64-sample changes of R285. -/
  swapped : Option (Nat × ChanSet × Nat × Int)
  /-- Insert misses since the last `chain.insert`, by point. -/
  misses  : AMap Nat
  deriving DecidableEq, Repr

/-- An insert of `rpl.insert` (R323): its core and, once bound, its slot. -/
structure Insert where
  core : Nat
  slot : Nat
  deriving DecidableEq, Repr

/-- One exchange slot of a core (R323 to R325). -/
structure XSlot where
  xin   : Word
  xout  : Word
  point : Nat
  bound : Bool
  tag   : Nat
  ready : Bool
  done  : Bool
  id    : Nat
  /-- The input handed in the tick before, and whether a hand-in has happened since binding. -/
  prev  : Int
  fresh : Bool
  deriving DecidableEq, Repr

/-- STATE of RPL_CTRL. -/
inductive CoreState where
  | unloaded | stopped | running | trapped
  deriving DecidableEq, Repr

/-- A Ripple core (R297 to R329). -/
structure Core where
  d      : AMap Word
  a      : AMap Word
  m      : AMap Word
  b      : AMap Word
  l      : AMap Word
  acc    : AMap (BitVec 72)
  pinned : BitVec 4
  pc     : Nat
  stack  : List Nat
  flags  : BitVec 4
  saved  : BitVec 4
  sticky : BitVec 8
  ie     : Bool
  /-- CTRL [6:1]: TP0 to TP3, TB, TPE. -/
  ctrl   : BitVec 6
  ipc    : Nat
  far    : BitVec 16
  /-- Iterations of a repeat still to issue after the current one, when one is in progress. -/
  rep    : Option Nat
  /-- In WAIT, and with which operand. -/
  waiting : Option Bool
  tickPending : Bool
  cycles : Nat
  busy   : Nat
  busyLast : Nat
  peak   : Nat
  ovr    : Nat
  conflict : Nat
  st     : CoreState
  cause  : Nat
  code   : Nat
  trapPc : Nat
  /-- Registers written by the instruction before, for the interlock of R313: (kind, register). -/
  hazard : List (Nat × Nat)
  windows : AMap Nat
  slots  : AMap XSlot
  deriving DecidableEq, Repr

/-- A route (R156, R333 to R339, R598). -/
structure Route where
  src    : Nat
  dst    : Nat
  gain   : Int
  invert : Bool
  fade   : Nat
  staged : Bool
  deriving DecidableEq, Repr

/-- What an audio destination carries: its route, a crossfade in progress and a pending change; handles, none for silence. -/
structure Dst where
  route   : Option Nat
  /-- Old handle, samples and position of the crossfade. -/
  old     : Option Nat
  fading  : Bool
  fadeN   : Nat
  fadeAt  : Nat
  /-- A pending change: its handle (none to clear) and its crossfade. -/
  pending : Option (Option Nat × Nat)
  /-- The last sample given. -/
  last    : Int
  deriving DecidableEq, Repr

/-- A staged route change of a destination (R339, R598). -/
structure DstStage where
  /-- Handle to take, or none to clear; for a clear, the handle it names. -/
  handle : Option Nat
  clears : Option Nat
  fade   : Nat
  deriving DecidableEq, Repr

/-- Configuration of a TDM port direction (R157). -/
structure TdmCfg where
  slots  : Nat
  width  : Nat
  offset : Nat
  master : Bool
  rate   : Nat
  hiZ    : Bool
  mask   : Nat
  deriving DecidableEq, Repr

/-- Configuration of an AES3 port direction (R157). -/
structure AesCfg where
  rate   : Nat
  pro    : Bool
  valid  : Bool
  status : List Byte
  deriving DecidableEq, Repr

/-- A rate converter's settings (R359) and state (R358). -/
structure SrcCfg where
  enable : Bool
  set    : Nat
  deriving DecidableEq, Repr

/-- Running state of a port direction or of WCLK_IN (R341 to R354). -/
structure PortState where
  /-- 0 no clock, 1 measuring, 2 running, 3 fading. -/
  st       : Nat
  mask     : Nat
  /-- A written mask waiting for its frame start, and whether it came too late for the next one. -/
  maskBuf  : Option Nat
  maskLate : Bool
  frameLen : Nat
  losses   : Nat
  /-- Measured rate in 0.01 Hz, and the class last reported. -/
  rate     : Nat
  cls      : Nat
  /-- Errors in consecutive frames. -/
  errRun   : Nat
  /-- The samples of the frame delivered last, by slot or subframe. -/
  held     : List Int
  /-- Frames complete and not yet delivered, oldest first, and ticks that repeat before the next is taken. -/
  queue    : List (List Int)
  skip     : Nat
  /-- The frames that the rate converter holds, newest first. -/
  hist     : List (List Int)
  /-- Fade position 0 to 64 and its direction. -/
  fade     : Nat
  fadeUp   : Bool
  /-- Hold h of R342 in units of 2⁻¹⁶ sample, and the frames since the port entered running. -/
  hold     : Int
  frames   : Nat
  /-- AES3 block position (192 while no Z has come), capture in progress and captured status, and flags. -/
  block    : Nat
  capA     : List Bool
  capB     : List Bool
  csA      : List Byte
  csB      : List Byte
  nonAudio : BitVec 2
  /-- A sample of the last block, and of the present one, had its validity bit set. -/
  validity : Bool
  vNow     : Bool
  crccErr  : Bool
  bsyncErr : Bool
  deriving DecidableEq, Repr

/-- Running state of a rate converter: lock, fade and, for 64 samples, the settings it crosses from (R358, R359). -/
structure SrcState where
  locked : Bool
  fade   : Nat
  old    : Option SrcCfg
  cross  : Nat
  deriving DecidableEq, Repr

/-- A Basin ring (R361 to R364). -/
structure Ring where
  capture  : Bool
  channels : Nat
  length   : Nat
  offset   : Nat
  start    : Nat
  /-- The next index to fetch, or the index after the last block captured. -/
  device   : Nat
  /-- Fill index read at the last fetch. -/
  fill     : Nat
  block    : AMap Int
  deriving DecidableEq, Repr

/-- A frame held in a partition's queue or the transmit buffer, from the destination address to the end of the payload, with its receive time-stamp (R401), or a PTP message that the Shore sends: its kind and sequence. -/
structure QFrame where
  id     : Nat
  bytes  : List Byte
  cls    : Nat
  at_    : Nat
  host   : Bool
  stamp  : Bool
  ptp    : Option (Nat × Nat)
  sec    : Nat
  ns     : Nat
  frac   : Nat
  inPort : Nat
  deriving DecidableEq, Repr

/-- A network port (R368 to R396). -/
structure NetPort where
  mode      : Nat
  maxFrame  : Nat
  partition : Nat
  flags     : Nat
  pfcMask   : Nat
  link      : Bool
  partner   : Nat
  linkDowns : Nat
  pvid      : Nat
  prioMap   : List Nat
  /-- Enabled patterns: number to mask bytes and check value (R379). -/
  patterns  : AMap (List Byte × Word)
  hash      : List Byte
  /-- Frames held for the host port. -/
  hostQ     : List QFrame
  /-- Frames queued for transmission on this port, each counted in its ingress port's partition. -/
  txQ       : List QFrame
  xoff      : Bool
  pauseEnd  : Option Nat
  pfcEnd    : AMap Nat
  /-- Whether a host frame is next within a class (R385). -/
  hostNext  : List Nat
  lastErr   : AMap Nat
  tsqNext   : Nat
  tsqOvf    : Bool
  tsq       : List (Nat × Nat × Nat × Nat)
  tsqPopped : Nat × Nat × Nat × Nat
  tsqValid  : Bool
  deriving DecidableEq, Repr

/-- A learned address (R374). -/
structure MacEntry where
  port : Nat
  seen : Nat
  deriving DecidableEq, Repr

/-- The PTP instance and clock (R397 to R406). -/
structure Ptp where
  sec      : Nat
  ns       : Nat
  sub      : Nat
  incr     : Nat
  dither   : Nat
  running  : Bool
  profile  : Nat
  domain   : Nat
  clock    : Nat
  twoStep  : Bool
  p2p      : Bool
  slaveOnly : Bool
  mask     : Nat
  prio1    : Nat
  prio2    : Nat
  /-- 0 unlocked, 1 locked, 2 holdover, 3 disabled. -/
  servo    : Nat
  gm       : Bool
  pstate   : Nat
  gmId     : BitVec 64
  offset   : Int
  okRun    : Nat
  badRun   : Nat
  /-- The next sequence number of each message kind on each port, by kind × 4 + port (R405). -/
  seqs     : AMap Nat
  /-- The request sent last, by the same key: its sequence number and transmit time in ns. -/
  sent     : AMap (Nat × Int)
  /-- The Sync that awaits its Follow_Up: sequence number and corrected receive time in ns. -/
  sync     : Option (Nat × Int)
  /-- Receive minus origin time of the last Sync, in ns. -/
  syncDiff : Int
  /-- The Pdelay_Resp that awaits its Follow_Up, by port: sequence number, and its part of the delay in ns. -/
  peer     : AMap (Nat × Int)
  pathDelay : Int
  /-- The grandmaster's data as the best-master-clock algorithm compares them, and the port that is slave to it. -/
  gmKey    : List Nat
  slavePort : Nat
  announceAt : Nat
  deriving DecidableEq, Repr

/-- The media-clock synthesiser (R408 to R413, R430). -/
structure Mclk where
  ref      : Nat
  tdmPort  : Nat
  mclkOut  : Bool
  /-- 0 unlocked, 1 locked, 2 holdover, 3 free-running. -/
  st       : Nat
  delta    : Int
  phase    : Int
  slewing  : Bool
  reanchor : Bool
  deriving DecidableEq, Repr

/-- A stream (R159, R414 to R427). -/
structure Stream where
  kind     : Nat
  channels : Nat
  format   : Nat
  rate     : Nat
  packetNs : Nat
  /-- Presentation offset in samples at Fr and in ns. -/
  po       : Nat
  poNs     : Nat
  group    : Nat
  vlan     : Nat
  addr     : BitVec 128
  source   : BitVec 128
  udpPort  : Nat
  ipv      : Nat
  ptype    : Nat
  streamId : BitVec 64
  first    : Nat
  clockOff : Nat
  portMask : Nat
  dscp     : Nat
  pcp      : Nat
  ttl      : Nat
  srcPort  : Nat
  /-- 0 waiting, 1 running, 2 concealing, 3 lost. -/
  st       : Nat
  seq      : Option Nat
  ssrc     : Nat
  /-- The packet placed last, the missing run, and the index at which the eighth missing packet time ends. -/
  lastPkt  : List (List Int)
  missing  : Nat
  lossAt   : Option Nat
  fade     : Nat
  fadeUp   : Bool
  removing : Bool
  /-- Samples waiting, by input index (by stream sample where a converter is needed): whether received, and one sample for each channel. -/
  buffer   : AMap (Bool × List Int)
  lastOut  : List Int
  /-- Transmit: samples gathered and the feed index of the first. -/
  gather   : List (List Int)
  gatherAt : Nat
  mac      : Option (BitVec 48)
  resolvedAt : Nat
  eomsOn   : Bool
  eomsRel  : Bool
  eomsBase : Nat
  eomsCount : Nat
  deriving DecidableEq, Repr

/-- A line DAC channel (R431 to R438). -/
structure Dac where
  enable  : Bool
  clear   : Int
  step    : Nat
  rate    : Nat
  /-- Crossfade position, 0 for the clear code and 64 for the feed. -/
  pos     : Nat
  /-- The last code sent to the ladder, and the limiter's output in 2⁻¹⁶ codes. -/
  code    : Int
  acc     : Int
  limiting : Bool
  /-- Codes in the oversampling filter, newest first. -/
  hist    : List Int
  /-- Linear move of the clear code of R434: where it started and when. -/
  moving  : Option (Int × Nat)
  deriving DecidableEq, Repr

/-- A sense channel (R439 to R445). -/
structure Sense where
  log2M   : Nat
  order   : Nat
  loaded  : Bool
  bank    : Nat
  coef0   : List Int
  coef1   : List Int
  /-- The inactive bank has been written and waits for its swap. -/
  pending : Bool
  vfs     : Nat
  ifs     : Nat
  histV   : List Int
  histI   : List Int
  /-- Outputs that still carry VALID 0, and a restart due at the next output. -/
  restart : Nat
  restartDue : Bool
  v       : Int
  i       : Int
  ovlV    : Bool
  ovlI    : Bool
  valid   : Bool
  /-- A coefficient read has failed its replay. -/
  conceal : Bool
  deriving DecidableEq, Repr

/-- An auxiliary input (R446 to R448). -/
structure Aux where
  m      : Nat
  n      : Nat
  enable : Bool
  low    : Int
  high   : Int
  raw    : Int
  limit  : Bool
  valid  : Bool
  inside : Nat
  deriving DecidableEq, Repr

/-- What a power channel does (R463 to R465, R470): `starting` waits for its rail, `startHold` is the 1 ms of R464, `stopHold` the 100 µs of R465, `waiting` a channel that will restart by itself. -/
inductive AmpState where
  | off | starting | startHold | holding | fadingIn | running | fadingOut | stopHold | waiting | latched
  deriving DecidableEq, Repr

/-- A power channel (R456 to R480). -/
structure Amp where
  mode     : Nat
  phase    : Nat
  retryMs  : Nat
  cycleLim : Nat
  hardLim  : Nat
  st       : AmpState
  /-- Fade factor in 64ths. -/
  fade     : Nat
  retries  : Nat
  cause    : Nat
  /-- A retry check runs (R470). -/
  check    : Bool
  /-- The wait is that of a shutdown, and its interval has expired while the group was hot. -/
  retryDue : Bool
  expired  : Bool
  /-- A check has passed and the 10 s of R470 are not over. -/
  recent   : Bool
  /-- The temperature of the group asks for off (R473). -/
  heat     : Bool
  syncLock : Bool
  freqErr  : Bool
  clip     : Bool
  /-- Idle switching frequency measured at the start, in kHz. -/
  idle     : Nat
  pilotOn  : Bool
  pilotHz  : Nat
  pilotLvl : Int
  pilotMs  : Nat
  openLim  : Nat
  shortLim : Nat
  drift    : Nat
  pilotPhase : Nat
  refMeas  : List Nat
  inOpen   : Bool
  inShort  : Bool
  inDrift  : Bool
  zmag     : Nat
  zph      : Int
  /-- The pilot interval under way holds an overloaded or invalid sample. -/
  pilotBad : Bool
  /-- Sum and number of the samples of the DC window that count, and of all its samples. -/
  dcSum    : Int
  dcN      : Nat
  dcTotal  : Nat
  /-- The look-ahead line, newest first, with each sample's demand in 2⁻¹⁶ mV, its length W, and a change of W that waits for the fade. -/
  line     : List (Int × Int)
  w        : Nat
  resizing : Bool
  /-- The last reference code, the codes of the interpolator, newest first, and the last ladder code. -/
  code     : Int
  hist     : List Int
  ladder   : Int
  deriving DecidableEq, Repr

/-- A boost controller with its group's guard (R472 to R477). -/
structure Boost where
  lookUs  : Nat
  margin  : Nat
  slew    : Nat
  floor   : Nat
  ceiling : Nat
  /-- target(n) in 2⁻¹⁶ mV. -/
  target  : Int
  outOfReg : Bool
  ocStop  : Bool
  /-- BST_hMEAS.VOUT. -/
  vout    : Nat
  /-- A shutdown's cause 1 is still to be sent when the rail reaches the floor. -/
  floorDue : Bool
  dcMv    : Nat
  dcMs    : Nat
  beta    : Nat
  r25     : Nat
  rpu     : Nat
  shutT   : Int
  hystT   : Nat
  temp    : Int
  hot     : Bool
  deriving DecidableEq, Repr

/-- An event that an Outlet keeps while no Shore is active: class, opcode, flow and fields (R466). -/
structure KeptEvent where
  cls    : Nat
  opcode : Nat
  flow   : Nat
  fields : List Byte
  deriving DecidableEq, Repr

/-- Per-Outlet state (R437, R461, R466). -/
structure Outlet where
  syncExt  : Bool
  syncHz   : Nat
  refHz    : Nat
  refLost  : Bool
  /-- Ticks in a row without a feed, and the holds that act: feed loss, hub failure and rate change. -/
  noFeed   : Nat
  loss     : Bool
  hub      : Bool
  rate     : Bool
  kept     : List KeptEvent
  index    : Nat
  deriving DecidableEq, Repr

/-- The tile of a Tarn: its timeline, banks and reduction (R47, R48, R255 to R262, R528). -/
structure Tile where
  index     : Nat
  ticking   : Bool
  /-- Markers missing in a row, and the index of the last marker that agreed. -/
  missing   : Nat
  markerAt  : Nat
  holdover  : Bool
  /-- The hold mute acts; ramp position 64 for full gain. -/
  holdMute  : Bool
  mutePos   : Nat
  /-- Inputs of the coming tick have been delivered: object to sample; and the last input of each object. -/
  delivered : Bool
  inbox     : AMap Int
  lastInputs : AMap Int
  /-- Armed commit sample, and the stages swapped: 1 matrix, 2 reduction, 3 chain. -/
  armed     : Option Nat
  stage     : Nat
  /-- The bank of the matrix and geometry engine, and the one that the chain still runs with. -/
  geo       : GeoBank
  chGeo     : GeoBank
  /-- Own sums of the feed in reduction and its index, and partials arrived for it: source to speaker sums. -/
  ownSums   : AMap Int
  ownIndex  : Nat
  arrived   : AMap (AMap Int)
  /-- Sends to the tile's buses by feed index, the tiles that have sent theirs, and the last feed of the buses (R267). -/
  busSends  : AMap (AMap Int)
  busFrom   : List (Nat × Nat)
  busIndex  : Nat
  /-- Fields of RED_STATUS, CHN_STATUS, DGM_STATUS.LATE and GEO_STATUS.OVERRUN. -/
  miss      : BitVec 4
  misalign  : Bool
  redIndex  : Nat
  chnIndex  : Nat
  chnOverrun : Bool
  dgmLate   : BitVec 4
  geoOverrun : BitVec 4
  /-- Words whose replayed read failed: bank and word (R258, R289). -/
  marked    : List (Nat × Nat)
  inReset   : Bool
  deriving DecidableEq, Repr

end Sys2Proof.Machine
end

