-- ==== Sys2Proof/Machine/State.lean ====
section
/-! DEFINITION. The whole state of the block as plain data, the reasons a step can stop, and the state right after VDD_AO has risen (R566). -/

namespace Sys2Proof.Machine

/-- Why a step faults. DEDUCED, log 4. -/
inductive Fault where
  /-- The command's operands name something no bus or pin can carry (an access size that is not 1, 2 or 4 bytes): raised by the register and mailbox commands. Safe: the hardware has no such access. -/
  | illFormedCommand
  deriving DecidableEq, Repr

/-- Why a step is refused. DEDUCED, log 4. -/
inductive Refusal where
  /-- The command has no meaning yet. Raised by the arms of `exec` only. Safe. -/
  | notModelled (mnemonic : String)
  /-- A core debug instruction on the test access port with the JTAG enable granted: the spec gives the debug unit no behaviour (R594). Raised by JTAG_CORE_DEBUG. Safe. -/
  | debugUnit
  deriving DecidableEq, Repr

/-- What the block gives out on its links, ports and pins. -/
inductive Emission where
  /-- A tick marker with its index on the link to a Tarn (R46). -/
  | marker (die index : Nat)
  /-- A heartbeat flit on the link to a Tarn (R532). -/
  | heartbeat (die : Nat)
  /-- A warden's vote to another warden (R532). -/
  | vote (src dst : Nat) (suspect : Bool)
  /-- A fatal declaration passed from one die to another (R533). -/
  | declaration (src dst : Nat)
  /-- Commit traffic to a die: prepare, arm or cancel for sample `c` (R54). -/
  | prepare (die c : Nat)
  | arm (die c : Nat)
  | cancel (die c : Nat)
  /-- A replay request for a flit (R33) and a retrain (R34). -/
  | replay (link dir flit : Nat)
  | retrain (link : Nat)
  /-- A partial sum sent to a home tile: source, home, index and sums by speaker (R255). -/
  | partialSum (src home index : Nat) (sums : AMap Int)
  /-- A sample given to an output destination for an egress index (R49). -/
  | output (dst index : Nat) (sample : Int)
  /-- An AES3 frame sent on an output: both words, the validity and channel-status bits and whether a block starts (R355). -/
  | aesFrame (port index : Nat) (left right : Int) (valid statusBit z : Bool)
  /-- A direct sample handed to the egress router (R340). -/
  | direct (src : Nat) (sample : Int)
  /-- An MSI-X message (R126). -/
  | msix (vector : Nat)
  /-- A frame transmitted on a network port with its class (R385). -/
  | frame (port cls : Nat) (bytes : List Byte)
  /-- A frame ended with the complement of its FCS (R383). -/
  | stomped (port : Nat) (bytes : List Byte)
  /-- A PAUSE frame with its time, or a PFC frame with its classes and time (R387, R388). -/
  | pause (port time : Nat)
  | pfc (port classes time : Nat)
  /-- A datagram to a management session or its like (R167). -/
  | datagram (addr : BitVec 128) (port : Nat) (bytes : List Byte)
  /-- A PTP message of a kind sent on a port (R405). -/
  | ptp (port kind seq : Nat)
  /-- A group membership report or leave for a receive stream (R422). -/
  | join (port handle : Nat)
  | leave (port handle : Nat)
  /-- A resolution request for a transmit stream (R425). -/
  | arp (handle : Nat)
  /-- A refresh-management command to a DRAM bank (R514). -/
  | refresh (channel bank : Nat)
  /-- A wake request to the control cluster (R113). -/
  | wakeRequest
  /-- The code driven by a line DAC at DAC_CLR (R436). -/
  | dacClear (ch : Nat) (code : Int)
  deriving DecidableEq, Repr

/-- Storage: fuses, NV flash, memories, stored register fields, counters, links, ponds and DRAM control. -/
structure Hw where
  fuses    : BitVec 8192
  flash    : List Host.Cell
  mem      : List Host.Cell
  /-- Stored register fields by internal address, where they differ from reset. -/
  regs     : AMap Word
  /-- Diagnostic counters by ID. -/
  counters : AMap Nat
  links    : AMap Link
  ponds    : Ponds
  dram     : Dram
  bmxErr   : BmxErr
  /-- Accesses open on a decode error (R501): address and write flag by the master's own number. -/
  opens    : AMap (Nat × Bool)
  deriving DecidableEq, Repr

/-- Power, start-up, security and redundancy. -/
structure Sys where
  ao        : Ao
  spring    : Spring
  boot      : Boot
  slotWrite : Option SlotWrite
  lockstep  : Lockstep
  fatal     : Fatal
  red       : Red
  /-- Temperature of each die in 1/16 °C. -/
  temps     : AMap Int
  /-- Thermal reports standing for each die: bit 0 warning, bit 1 critical (R557). -/
  warned    : AMap Nat
  jtag      : Jtag
  deriving DecidableEq, Repr

/-- Messages: mailboxes, locks, Nerris, commit and Weir. -/
structure Msg where
  mbx    : Mbx
  locks  : Locks
  ncp    : Ncp
  commit : Option Commit
  weir   : Weir
  deriving DecidableEq, Repr

/-- The timeline of the active Shore. -/
structure Timeline where
  rendering : Bool
  index     : Nat
  /-- PTP seconds and nanoseconds at the tick that opened the present period. -/
  tickSec   : Nat
  tickNs    : Nat
  /-- Rate code of Fr. -/
  rate      : Nat
  mclk512   : Bool
  ptp       : Ptp
  mclk      : Mclk
  /-- Output mute of `cfg.rate` and of leaving RUN. -/
  muted     : Bool
  deriving DecidableEq, Repr

/-- Objects, slices, geometry and tiles. -/
structure Rend where
  tiles       : AMap Tile
  slices      : AMap Slice
  objs        : AMap Obj
  beds        : AMap (List (Nat × Int))
  bedStage    : AMap (List (Nat × Int))
  zones       : AMap (List (Nat × Int))
  zoneStage   : AMap (List (Nat × Int))
  /-- The geometry settings as Nerris last made them active, and as staged. -/
  geo         : GeoBank
  geoStage    : GeoBank
  deriving DecidableEq, Repr

/-- The speaker chain. Keys are channel indices (R263); inserts are keyed point × 4096 + ID. -/
structure Chain where
  sets        : AMap ChanSet
  stage       : AMap ChanSet
  states      : AMap ChanState
  models      : AMap Model
  modelStage  : AMap Model
  inserts     : AMap Insert
  insertStage : AMap (Option Insert)
  deriving DecidableEq, Repr

/-- Routers, ports, converters and rings. TDM keys are direction × 16 + port, AES3 keys direction × 2 + port, converter keys those of R365, port-state keys kind × 64 + direction × 16 + index. The staged maps hold only what is staged. -/
structure Routing where
  routes    : AMap Route
  dsts      : AMap Dst
  stage     : AMap DstStage
  tdm       : AMap TdmCfg
  tdmStage  : AMap TdmCfg
  aes       : AMap AesCfg
  aesStage  : AMap AesCfg
  src       : AMap SrcCfg
  srcStage  : AMap SrcCfg
  ports     : AMap PortState
  srcState  : AMap SrcState
  wclkOut   : Bool
  wclkRef   : Bool
  wclkRate  : Nat
  rings     : AMap Ring
  /-- The latest sample of each ingress source, and of each feed, by endpoint code. -/
  inputs    : AMap Int
  feeds     : AMap Int
  prevFeeds : AMap Int
  /-- The latest direct sample handed to the egress router, by source. -/
  direct    : AMap Int
  deriving DecidableEq, Repr

/-- Network ports, switch and streams. -/
structure Net where
  ports  : AMap NetPort
  macs   : AMap MacEntry
  nextId : Nat
  rx     : AMap Stream
  tx     : AMap Stream
  deriving DecidableEq, Repr

/-- Line outputs, sense chain and power stage, by global channel, group or die. -/
structure Outs where
  dacs    : AMap Dac
  senses  : AMap Sense
  auxs    : AMap Aux
  amps    : AMap Amp
  boosts  : AMap Boost
  outlets : AMap Outlet
  /-- Level of DAC_CLR. -/
  dacClr  : Bool
  deriving DecidableEq, Repr

/-- What the checkpoint journal holds of the settings at the last batch (R536), as a Shore that takes over reads it. -/
structure Snapshot where
  records : List Rec
  objs    : AMap ObjRec
  route   : Routing
  net     : Net
  mgmt    : Mgmt
  ptp     : Ptp
  mclk    : Mclk
  window  : Nat
  slot    : Option Nat
  generation : Nat
  commit  : Option Commit
  /-- Settings staged for an armed commit. -/
  staged  : List Rec
  /-- The time record: k and the PTP time of B(k). -/
  index   : Nat
  tickSec : Nat
  tickNs  : Nat
  deriving DecidableEq, Repr

/-- The block. -/
structure State where
  member  : Member
  /-- Time in cycles of the 156.25 MHz timer clock. -/
  now     : Nat
  /-- The model's own counter of free values drawn. -/
  free    : Nat
  hw      : Hw
  sys     : Sys
  msg     : Msg
  time    : Timeline
  rend    : Rend
  chain   : Chain
  cores   : AMap Core
  route   : Routing
  net     : Net
  outs    : Outs
  /-- The journal's contents by their meaning; their bytes stand in the mirrors. -/
  journal : Option Snapshot
  /-- Commands waiting, first in, first out. -/
  pending : List Instr
  /-- What the block has given out, newest first. -/
  wire    : List Emission
  /-- The answer to the last bus transaction. -/
  bus     : BusReply
  deriving DecidableEq, Repr

/-- A mesh with no triangle (R219). -/
def Mesh.none : Mesh :=
  { triangles := [], virtual := 0, noPan := true, coincident := [], cells := [], entries := 0 }

/-- The factory geometry: an empty table, c = 343.0 m/s, A = 0.108 dB/m, U = 32 (R203, R207, R208). -/
def GeoBank.factory : GeoBank :=
  { table := { recs := [], arrayInMesh := false, taper := 0, thetaF := 6000, thetaC := 9000, mesh := Mesh.none }
    c := 3430, airA := 108, period := 32, since := 0, before := 32, icoef := [] }

def Ao.reset : Ao :=
  { vdd := true, enables := 0, inRange := 0, target := 0, holdDone := false, coldWaiting := true, resetN := true
    lockedOff := false, aoIntN := false, power := .run, changing := false, wakeEn := 0, wakeSrc := 0
    alarmAt := none, cause := 0, group := 0, railRestarts := [], railRestartDue := false, startStop := false
    rstScope := 0, rstDie := 0, i2cAddr := 0x5C, i2cPtr := 0 }

def Spring.reset : Spring :=
  { shadow := 0, stage := 0, sealedDies := [], selftestOk := false, cryptoErr := false, bootErr := 0
    slot := none, fallback := false, overlay := false, debugGrant := false, sealViol := false
    smr := List.replicate 8 0, attestKey := none, saveKey := none, challenge := none
    sealedDebug := 0, grantedDebug := 0, attesting := none, selftesting := none, blowing := none
    rollbackDue := false, forcedSlot := none, forcedByNerris := false, abandoned := [], generation := 0
    stagedBytes := 0 }

/-- PRESUMED, log 43. -/
def Mbx.reset : Mbx :=
  { inb := [], outb := [], err := 0, irqMask := 0x400, dblNerris := 0, dblHost := 0
    msixMask := 0xFFFFFFFF, msixPba := 0, pciSpeed := 0, pciWidth := 0, msixEn := false, msixFmask := false
    hotResets := 0, flrs := 0, bar2 := 0, pciTraining := false }

def Mgmt.off : Mgmt :=
  { port := none, ipv := 4, udpPort := 44310, addr := 0, prefixLen := 0, gateway := 0 }

def Ncp.reset : Ncp :=
  { dests := [], outstanding := [], discarding := [], suspended := false, mgmt := Mgmt.off, sessions := []
    records := [], stagedRecs := [], copies := [], rateChange := none, resetDue := none
    eventLog := [], lastSent := [] }

def Weir.reset : Weir :=
  { queues := [], inService := [], lastAt := [], promoted := [], arrivals := 0, buffers := [] }

def Ptp.reset : Ptp :=
  { sec := 0, ns := 0, sub := 0, incr := 0x666666666, dither := 0, running := false, profile := 0, domain := 0
    clock := 0, twoStep := false, p2p := false, slaveOnly := false, mask := 0, prio1 := 128, prio2 := 128
    servo := 0, gm := false, pstate := 0, gmId := 0, offset := 0, okRun := 0, badRun := 0, seqs := []
    sent := [], sync := none, syncDiff := 0, peer := [], pathDelay := 0, gmKey := [], slavePort := 0, announceAt := 0 }

def Mclk.reset : Mclk :=
  { ref := 3, tdmPort := 0, mclkOut := false, st := 3, delta := 0, phase := 0, slewing := false, reanchor := false }

def Red.reset : Red :=
  { active := 0, hubUp := true, standbyState := 1, standbyCause := 0, window := 10, check := none, proving := none
    dumpHold := false, declared := none, declaredAt := 0, gapStart := 0, wardens := [], mirrors := []
    journalSeq := 0, lastJournal := 0, dirty := [], dumpCopied := false }

/-- DESIGN CHOICE, logs 6, 7. -/
def Hw.reset : Hw :=
  { fuses := 0, flash := [], mem := [], regs := [], counters := [], links := []
    ponds := { banks := [], errs := [], repairs := [], repaired := [], testing := [], bad := [] }
    dram := { units := 0, st := 0, order := 3, banks := [], limited := [] }
    bmxErr := { target := 0, master := 0, kind := 0, write := false, valid := false, addr := 0 }, opens := [] }

/-- DESIGN CHOICE, log 6. -/
def Sys.reset : Sys :=
  { ao := Ao.reset, spring := Spring.reset
    boot := { step := .off, cause := .cold, wakeReport := none, ready := false, safe := false }
    slotWrite := none, lockstep := { fenced := none, duplex := false, fences := [] }
    fatal := { dumping := none, restartDue := false, restarts := [], announce := false, halted := false }
    red := Red.reset, temps := [], warned := [], jtag := { instr := .reset, boundary := [] } }

/-- DESIGN CHOICE, log 6. -/
def Msg.reset : Msg :=
  { mbx := Mbx.reset, locks := { owners := [], errs := [] }, ncp := Ncp.reset, commit := none, weir := Weir.reset }

/-- DESIGN CHOICE, log 6. -/
def Timeline.reset : Timeline :=
  { rendering := false, index := 0, tickSec := 0, tickNs := 0, rate := 1, mclk512 := false, ptp := Ptp.reset, mclk := Mclk.reset, muted := false }

/-- DESIGN CHOICE, log 6. -/
def Rend.reset : Rend :=
  { tiles := [], slices := [], objs := [], beds := [], bedStage := [], zones := [], zoneStage := []
    geo := GeoBank.factory, geoStage := GeoBank.factory }

/-- DESIGN CHOICE, log 6. -/
def Chain.reset : Chain :=
  { sets := [], stage := [], states := [], models := [], modelStage := [], inserts := [], insertStage := [] }

/-- DESIGN CHOICE, log 6. -/
def Routing.reset : Routing :=
  { routes := [], dsts := [], stage := [], tdm := [], tdmStage := [], aes := [], aesStage := [], src := []
    srcStage := [], ports := [], srcState := [], wclkOut := false, wclkRef := false, wclkRate := 1, rings := []
    inputs := [], feeds := [], prevFeeds := [], direct := [] }

/-- DESIGN CHOICE, log 6. -/
def Net.reset : Net := { ports := [], macs := [], nextId := 0, rx := [], tx := [] }

/-- DESIGN CHOICE, log 6. -/
def Outs.reset : Outs :=
  { dacs := [], senses := [], auxs := [], amps := [], boosts := [], outlets := [], dacClr := false }

/-- The block right after VDD_AO has risen, which triggers a cold reset (R554, R566): every enable low, the hold of R555 running, the cold start waiting for its end, every register at its Reset value. DESIGN CHOICE, logs 6, 7. -/
def State.reset : State :=
  { member := .evr8, now := 0, free := 0, hw := Hw.reset, sys := Sys.reset, msg := Msg.reset
    time := Timeline.reset, rend := Rend.reset, chain := Chain.reset, cores := [], route := Routing.reset
    net := Net.reset, outs := Outs.reset, journal := none, pending := [], wire := []
    bus := { error := false, status := 0, data := [] } }

end Sys2Proof.Machine
end

