-- ==== Sys2Proof/Machine/Defaults.lean ====
section
/-! DEFINITION. What each entry of the state's maps holds where nothing is listed: its reset value (R18, R567 and the register tables). -/

namespace Sys2Proof.Machine

/-- An inbound mailbox at reset; ALLOW by its number (R113). -/
def mbxIn0 (n : Nat) : MbxIn :=
  { words := [], st := .empty, owner := 0, ack := false, aborted := false
    allow := if n = 0 then 1 else if n = 1 then 2 else 4
    abortMark := none, dropMark := false, lastAccess := 0 }

/-- An outbound mailbox at reset (R116). -/
def mbxOut0 (n : Nat) : MbxOut :=
  { words := [], full := false, dest := 0, allow := if n = 0 then 1 else if n = 1 then 2 else 4 }

/-- A destination at reset: version 1.0, every class for a host sender and none for the rest, no doorbell (R140, R146). -/
def dest0 (k : Nat) : Dest :=
  { version := 0x10, evMask := if k = 0x0001 ∨ k = 0x0010 then 0x3FFFFF else 0, dbMask := 0, nextEv := 1, queue := [] }

def lockErr0 (_ : Nat) : LockErr := { index := 0, sender := 0, valid := false }

/-- A Kyoler link before training. -/
def link0 (_ : Nat) : Link :=
  { state := 0, major := 0, minor := 0, lanes := 0, retraining := false, retrains := [], flitDir := 0, flitNo := 0
    flitFails := 0, replays := 0 }

/-- The owner that a pond bank has at reset (R503): fixed on a Tarn's history and chain banks, the dump banks of a Shore, the journal banks of the EVR-8. -/
def bankOwner0 (m : Member) (die bank : Nat) : Nat :=
  if die < 2 then (if 48 ≤ bank ∧ bank < 64 then 0x04 else 0)
  else if bank < 192 then 0x10 + bank / 48
  else if bank < 224 then 0x20
  else if m = .evr8 ∧ (die = 2 ∨ die = 4) ∧ 240 ≤ bank then 0x60
  else 0

def bank0 (m : Member) (k : Nat) : PondBank :=
  { owner := bankOwner0 m (k / 256) (k % 256), pwr := 0, testInt := false, queued := false, failed := false, errors := 0 }

def pndErr0 (_ : Nat) : PndErr := { bank := 0, owner := 0, valid := false }
def pndRepair0 (_ : Nat) : PndRepair := { applied := 0, refused := 0, fieldErr := false }
def dramBank0 (_ : Nat) : DramBank := { openRow := none, pred := 0 }
def weirQueue0 (_ : Nat) : WeirQueue := { items := [], ready := [], bp := false }
def warden0 (_ : Nat) : Warden :=
  { suspect := false, declared := false, votes := 0, hbAge := 0, lastHb := 0, failovers := 0 }
def mirror0 (_ : Nat) : Mirror := { half := 0, pos := 0 }

/-- The record of a freshly allocated object of a mode (R174). -/
def objRec0 (mode : Nat) : ObjRec :=
  { mode := mode, gain := 0, mute := false, x := 0, y := 65536, z := 0, size := 0, air := false, doppler := true
    distDelay := false, slew := 64, base := 0, group := 0xFFFFFFFF, refDist := 0, k := 8 }

def target0 (_ : Nat) : Target := { delay := 0, gain := 0, pole := 0, flags := 0 }

/-- A pair created at zero gain at the delay of its first targets (R182, R210, R244). -/
def pair0 (t : Target) : Pair :=
  { gainB := 0, gainStep := 0, delayB := (t.delay : Int) * 256, delayMove := 0, target := t, pole := t.pole, air := 0 }

def slice0 (_ : Nat) : Slice :=
  { h128set := none, boundary := 0, period := 32, windows := [], pairs := [], migrating := none, sums := []
    prevSums := [], geoLast := 0, laneLast := 0 }

/-- The values of `chain.cfg` before any commit (R290). -/
def chanCfg0 : ChanCfg :=
  { invert := false, mainOff := false, sosBypass := false, firBypass := false, protBypass := false, sends := []
    trim := 0, delay := 0, model := 0xFFFF }

/-- The section that passes its input unchanged (R268). -/
def section0 (_ : Nat) : Section := { b0 := 0x10000000, b1 := 0, b2 := 0, a1 := 0, a2 := 0 }

def protCfg0 : ProtCfg :=
  { excursion := false, thermal := false, peak := false, look := 0, threshold := 0, release := 100, margin := 900 }

def chan0 (_ : Nat) : ChanSet := { cfg := chanCfg0, sosCount := 0, sos := [], fir := [], prot := protCfg0 }

def sosState0 (_ : Nat) : SosState := { x1 := 0, x2 := 0, y1 := 0, y2 := 0, e := 0 }

/-- One, in the fixed point of the real-valued laws. -/
def fxOne : Int := 2 ^ 64

def prot0 : ProtState :=
  { inputs := [], needP := [], needE := [], gp := fxOne, ge := fxOne, gt := fxOne, corner := 0, hp := [], disp := []
    seed := 2, coil := 0, magnet := 0, power := 0, powerN := 0, muted := false, mutePos := 64, xPeak := 0, xLast := 0, xSince := 0, worst := [] }

def chanState0 (_ : Nat) : ChanState :=
  { sos := [], hist := [], line := [], prot := prot0, lastIn := 0, lineOut := 0, feed := 0, swapped := none, misses := [] }

/-- DESIGN CHOICE, log 6. -/
def xslot0 (_ : Nat) : XSlot :=
  { xin := 0, xout := 0, point := 0, bound := false, tag := 0, ready := false, done := false, id := 0, prev := 0, fresh := false }

/-- A Ripple core never loaded (R297, R298, R329). DESIGN CHOICE, log 6. -/
def core0 (_ : Nat) : Core :=
  { d := [], a := [], m := [], b := [], l := [], acc := [], pinned := 0, pc := 0, stack := [], flags := 0, saved := 0
    sticky := 0, ie := false, ctrl := 0, ipc := 0, far := 0xF000, rep := none, waiting := none, tickPending := false
    cycles := 0, busy := 0, busyLast := 0, peak := 0, ovr := 0, conflict := 0, st := .unloaded, cause := 0, code := 0
    trapPc := 0, hazard := [], windows := [], slots := [] }

def dst0 (_ : Nat) : Dst :=
  { route := none, old := none, fading := false, fadeN := 0, fadeAt := 0, pending := none, last := 0 }

def port0 (_ : Nat) : PortState :=
  { st := 0, mask := 0, maskBuf := none, maskLate := false, frameLen := 0, losses := 0, rate := 0, cls := 0, errRun := 0
    held := [], queue := [], skip := 0, hist := [], fade := 0, fadeUp := false, hold := 0, frames := 0, block := 192
    capA := [], capB := [], csA := [], csB := [], nonAudio := 0, validity := false, vNow := false, crccErr := false
    bsyncErr := false }

def src0 (_ : Nat) : SrcCfg := { enable := false, set := 0 }
def srcState0 (_ : Nat) : SrcState := { locked := false, fade := 0, old := none, cross := 64 }

/-- A network port in mode 0, with the defaults of R158 and R378. -/
def netPort0 (_ : Nat) : NetPort :=
  { mode := 0, maxFrame := 0, partition := 256, flags := 0, pfcMask := 0, link := false, partner := 0xFF, linkDowns := 0
    pvid := 1, prioMap := [0, 1, 2, 3, 4, 5, 6, 7], patterns := [], hash := [], hostQ := [], txQ := [], xoff := false
    pauseEnd := none, pfcEnd := [], hostNext := [], lastErr := [], tsqNext := 0, tsqOvf := false, tsq := []
    tsqPopped := (0, 0, 0, 0), tsqValid := false }

/-- A line DAC channel at reset (R434, R438, R451). DESIGN CHOICE, log 6. -/
def dac0 (_ : Nat) : Dac :=
  { enable := false, clear := 0, step := 0, rate := 384000, pos := 0, code := 0, acc := 0, limiting := false, hist := [], moving := none }

/-- A sense channel at reset: M = 64, N = 3, factory set (R443). DESIGN CHOICE, log 6. -/
def sense0 (_ : Nat) : Sense :=
  { log2M := 6, order := 3, loaded := false, bank := 0, coef0 := [], coef1 := [], pending := false, vfs := 0, ifs := 0
    histV := [], histI := [], restart := 0, restartDue := false, v := 0, i := 0, ovlV := false, ovlI := false
    valid := false, conceal := false }

/-- An auxiliary input at reset: scanned with M = 64 and N = 3, limits off (R447, R448). -/
def aux0 (_ : Nat) : Aux :=
  { m := 64, n := 3, enable := true, low := -2147483648, high := 2147483647, raw := 0, limit := false, valid := false, inside := 0 }

/-- A power channel at reset (R463, R470, R478). DESIGN CHOICE, log 6. -/
def amp0 (_ : Nat) : Amp :=
  { mode := 0, phase := 0, retryMs := 500, cycleLim := 0, hardLim := 0, st := .off, fade := 0, retries := 0, cause := 0
    check := false, retryDue := false, expired := false, recent := false, heat := false, syncLock := false, freqErr := false
    clip := false, idle := 0, pilotOn := false, pilotHz := 1000, pilotLvl := -12800, pilotMs := 1000, openLim := 100000
    shortLim := 500, drift := 200, pilotPhase := 0, refMeas := [], inOpen := false, inShort := false, inDrift := false, zmag := 0
    zph := 0, pilotBad := false, dcSum := 0, dcN := 0, dcTotal := 0, line := [], w := 0, resizing := false, code := 0, hist := []
    ladder := 0 }

/-- A boost controller at reset, off, with the guard's defaults (R472 to R476). -/
def boost0 (_ : Nat) : Boost :=
  { lookUs := 500, margin := 2000, slew := 1, floor := 0, ceiling := 0, target := 0, outOfReg := false, ocStop := false
    vout := 0, floorDue := false, dcMv := 2000, dcMs := 100, beta := 0, r25 := 0, rpu := 0, shutT := 1600, hystT := 240
    temp := -32768, hot := false }

def outlet0 (_ : Nat) : Outlet :=
  { syncExt := false, syncHz := 400000, refHz := 0, refLost := false, noFeed := 0, loss := false, hub := false, rate := false
    kept := [], index := 0 }

def tile0 (_ : Nat) : Tile :=
  { index := 0, ticking := false, missing := 0, markerAt := 0, holdover := false, holdMute := false, mutePos := 64
    delivered := false, inbox := [], lastInputs := [], armed := none, stage := 0, geo := GeoBank.factory, chGeo := GeoBank.factory
    ownSums := [], ownIndex := 0, arrived := [], busSends := [], busFrom := [], busIndex := 0, miss := 0, misalign := false
    redIndex := 0, chnIndex := 0, chnOverrun := false, dgmLate := 0, geoOverrun := 0, marked := [], inReset := false }

end Sys2Proof.Machine
end

