-- ==== Sys2Proof/Machine/Map.lean ====
section
/-! DEFINITION. Finite maps (`AMap`, keys rising), byte strings (R149: little-endian fields at byte offsets) and the cyclic redundancy checks the spec names. -/

namespace Sys2Proof.Machine

/-- The value listed under `k`, if any. -/
def mapFind {α : Type} : AMap α → Nat → Option α
  | [], _ => none
  | (j, a) :: rest, k => if j = k then some a else mapFind rest k

/-- The value under `k`, or the default `d k` where none is listed. -/
def mapGet {α : Type} (d : Nat → α) (m : AMap α) (k : Nat) : α :=
  (mapFind m k).getD (d k)

/-- `m` with `a` under `k`; the keys stay in rising order. -/
def mapSet {α : Type} : AMap α → Nat → α → AMap α
  | [], k, a => [(k, a)]
  | (j, b) :: rest, k, a =>
    if k < j then (k, a) :: (j, b) :: rest
    else if k = j then (k, a) :: rest
    else (j, b) :: mapSet rest k a

/-- `m` with nothing under `k`. -/
def mapErase {α : Type} : AMap α → Nat → AMap α
  | [], _ => []
  | (j, b) :: rest, k => if j = k then mapErase rest k else (j, b) :: mapErase rest k

/-- The entry `k` rewritten by `f`, starting from its default where none is listed. -/
def mapMod {α : Type} (d : Nat → α) (m : AMap α) (k : Nat) (f : α → α) : AMap α :=
  mapSet m k (f (mapGet d m k))

/-- Whether a value is listed under `k`. -/
def mapHas {α : Type} (m : AMap α) (k : Nat) : Bool := (mapFind m k).isSome

/-- The least key below `n` under which nothing is listed. -/
def mapFree {α : Type} (m : AMap α) (n : Nat) : Option Nat :=
  (List.range n).find? fun k => !mapHas m k

/-- The element at place `k` of a list, or `d` past its end. -/
def nth {α : Type} (d : α) (l : List α) (k : Nat) : α := l.getD k d

/-- Place `k` of a list rewritten by `f`. -/
def nthMod {α : Type} : List α → Nat → (α → α) → List α
  | [], _, _ => []
  | a :: l, 0, f => f a :: l
  | a :: l, k + 1, f => a :: nthMod l k f

/-- The byte at offset `k` of a payload; 0 past its end (R149 checks the length first). -/
def byteAt (bs : List Byte) (k : Nat) : Nat := (bs.getD k 0).toNat

/-- The unsigned little-endian field of `n` bytes at offset `off` (R149). -/
def fieldLE (bs : List Byte) (off : Nat) : Nat → Nat
  | 0 => 0
  | n + 1 => byteAt bs off + 256 * fieldLE bs (off + 1) n

/-- The same value read as two's complement of `bits` bits. -/
def signed (bits v : Nat) : Int :=
  let w := v % 2 ^ bits
  if w < 2 ^ (bits - 1) then (w : Int) else (w : Int) - (2 ^ bits : Nat)

/-- The signed little-endian field of `n` bytes at offset `off`. -/
def fieldS (bs : List Byte) (off n : Nat) : Int := signed (8 * n) (fieldLE bs off n)

/-- `n` bytes of `v`, least significant first. -/
def bytesLE : Nat → Nat → List Byte
  | 0, _ => []
  | n + 1, v => BitVec.ofNat 8 v :: bytesLE n (v / 256)

/-- `n` bytes of the two's complement of `v`, least significant first. -/
def bytesS (n : Nat) (v : Int) : List Byte := bytesLE n (v % (2 ^ (8 * n) : Nat)).toNat

/-- `n` bytes of `v`, most significant first (network order). -/
def bytesBE (n v : Nat) : List Byte := (bytesLE n v).reverse

/-- The unsigned big-endian field of `n` bytes at offset `off`. -/
def fieldBE (bs : List Byte) (off n : Nat) : Nat :=
  ((bs.drop off).take n).foldl (fun a b => a * 256 + b.toNat) 0

/-- The `n` bytes from offset `off`, zeros past the end. -/
def slice (bs : List Byte) (off n : Nat) : List Byte :=
  (List.range n).map fun i => bs.getD (off + i) 0

/-- The bit `k` of a number. -/
def bit (v k : Nat) : Bool := v.testBit k

/-- The bits `[hi:lo]` of a number. -/
def bits (v hi lo : Nat) : Nat := v / 2 ^ lo % 2 ^ (hi + 1 - lo)

/-- A flag as a bit. -/
def flag (b : Bool) : Nat := if b then 1 else 0

/-- A flag at bit place `k`. -/
def flagAt (b : Bool) (k : Nat) : Nat := if b then 2 ^ k else 0

/-- A mask of the numbers in a list. -/
def maskOf (l : List Nat) : Nat := l.foldl (fun a k => a ||| 2 ^ k) 0

/-- `v` limited to `lo .. hi`. -/
def clampNat (lo hi v : Nat) : Nat := max lo (min hi v)

/-- `v` limited to `lo .. hi`. -/
def clampInt (lo hi v : Int) : Int := max lo (min hi v)

/-- Saturation to a two's-complement word of `n` bits. -/
def satInt (n : Nat) (v : Int) : Int := clampInt (-(2 ^ (n - 1) : Nat)) ((2 ^ (n - 1) : Nat) - 1) v

/-- One byte into a reflected CRC of 32 bits with polynomial 0xEDB88320 (IEEE 802.3). -/
def crc32Step (c : Word) (b : Byte) : Word :=
  (List.range 8).foldl (fun r _ => if r.getLsbD 0 then (r >>> 1) ^^^ 0xEDB88320#32 else r >>> 1)
    (c ^^^ b.setWidth 32)

/-- The CRC-32 of IEEE 802.3 (R73, R150, R537). -/
def crc32 (bs : List Byte) : Word := ~~~(bs.foldl crc32Step 0xFFFFFFFF#32)

/-- One bit into a CRC-16 with polynomial 0x1021 (R511). -/
def crc16Bit (c : BitVec 16) (b : Bool) : BitVec 16 :=
  if c.getLsbD 15 != b then (c <<< 1) ^^^ 0x1021#16 else c <<< 1

/-- The CRC-16 of R511 over bits, highest first, from 0xFFFF. DEDUCED, log 88. -/
def crc16 (bs : List Bool) : BitVec 16 := bs.foldl crc16Bit 0xFFFF#16

/-- One bit into a CRC-5 with polynomial 0x05 (R511). -/
def crc5Bit (c : BitVec 5) (b : Bool) : BitVec 5 :=
  if c.getLsbD 4 != b then (c <<< 1) ^^^ 0x05#5 else c <<< 1

/-- The CRC-5 of R511 over bits, highest first, from 0. DEDUCED, log 88. -/
def crc5 (bs : List Bool) : BitVec 5 := bs.foldl crc5Bit 0#5

end Sys2Proof.Machine
end

