-- ==== Sys2Proof/Machine/Ops.lean ====
section
/-! DEFINITION. Operations shared by every family: member tables, power and presence of dies, memory, counters, free values, interrupt vectors and what the block gives out. -/

namespace Sys2Proof.Machine

/-! ### Member tables (R6, R27, R28, R38) -/

/-- Number of Tarns. -/
def Member.tarns : Member → Nat
  | .evr2 => 1
  | .evr4 => 2
  | .evr8 => 4

/-- Number of Outlets. -/
def Member.outlets : Member → Nat
  | .evr2 => 0
  | .evr4 => 1
  | .evr8 => 2

/-- The member number that `sys.hello` reports. -/
def Member.number : Member → Nat
  | .evr2 => 2
  | .evr4 => 4
  | .evr8 => 8

/-- IDs of the dies present. -/
def Member.dies : Member → List Nat
  | .evr2 => [0, 2]
  | .evr4 => [0, 2, 3, 6]
  | .evr8 => [0, 1, 2, 3, 4, 5, 6, 7]

def Member.tarnDies : Member → List Nat
  | .evr2 => [2]
  | .evr4 => [2, 3]
  | .evr8 => [2, 3, 4, 5]

def Member.outletDies : Member → List Nat
  | .evr2 => []
  | .evr4 => [6]
  | .evr8 => [6, 7]

def Member.has (m : Member) (die : Nat) : Bool := m.dies.contains die
def Member.slices (m : Member) : Nat := 4 * m.tarns
def Member.cores (m : Member) : Nat := 16 * m.tarns
def Member.speakers (m : Member) : Nat := 128 * m.tarns
def Member.tdmPorts (m : Member) : Nat := 4 * m.tarns
/-- Power channels, and line DAC channels. -/
def Member.channels (m : Member) : Nat := 16 * m.outlets
def Member.boosts (m : Member) : Nat := 4 * m.outlets

/-- The links of R28 in the table's order. -/
def Member.links : Member → List (Nat × Nat)
  | .evr2 => [(0, 2)]
  | .evr4 => [(0, 2), (0, 3), (2, 3), (2, 6)]
  | .evr8 => [(0, 2), (0, 3), (0, 4), (0, 5), (1, 2), (1, 3), (1, 4), (1, 5), (2, 3), (2, 4), (2, 5), (3, 4),
      (3, 5), (4, 5), (2, 6), (4, 7)]

def isShore (die : Nat) : Bool := decide (die < 2)
def isTarn (die : Nat) : Bool := decide (2 ≤ die) && decide (die < 6)
def isOutlet (die : Nat) : Bool := decide (6 ≤ die) && decide (die < 8)

/-- The home tile of a speaker or bass bus (R38). -/
def homeTile (m : Member) (id : Nat) : Nat := 2 + id % m.tarns
/-- The parent Tarn of an Outlet (R36). -/
def parentTarn (outlet : Nat) : Nat := if outlet = 6 then 2 else 4
def sliceDie (slice : Nat) : Nat := 2 + slice / 4
def coreDie (core : Nat) : Nat := 2 + core / 16
def channelDie (ch : Nat) : Nat := 6 + ch / 16

/-- Fr in Hz for a rate code of R149. -/
def rateHz : Nat → Nat
  | 0 => 44100
  | 1 => 48000
  | 2 => 88200
  | 3 => 96000
  | 4 => 176400
  | 5 => 192000
  | _ => 0

/-- Cycles of the timer clock in a second, a millisecond and a microsecond (rounded up). -/
def cyclesPerSecond : Nat := 156250000
def msCycles (ms : Nat) : Nat := ms * 156250
def usCycles (us : Nat) : Nat := (us * 625 + 3) / 4

/-! ### Power, presence and service of dies -/

/-- The rail groups that feed a die (R554). -/
def dieGroups (die : Nat) : List Nat :=
  if die = 0 then [0] else if die = 1 then [1] else if die < 6 then [2] else [3, 5]

/-- A group is enabled and in range. -/
def railUp (s : State) (group : Nat) : Bool :=
  s.sys.ao.enables.getLsbD group && s.sys.ao.inRange.getLsbD group

/-- A die is present and powered. -/
def powered (s : State) (die : Nat) : Bool :=
  s.member.has die && (dieGroups die).all (railUp s)

/-- The active Shore's die. -/
def activeShore (s : State) : Nat := s.sys.red.active

/-- The link number of a pair of dies. -/
def linkOf (m : Member) (a b : Nat) : Option Nat :=
  m.links.findIdx? fun l => l == (a, b) || l == (b, a)

def getLink (s : State) (n : Nat) : Link := mapGet link0 s.hw.links n
def setLink (s : State) (n : Nat) (l : Link) : State := { s with hw.links := mapSet s.hw.links n l }

/-- Whether the link of two dies is up (R42). -/
def linkUpBetween (s : State) (a b : Nat) : Bool :=
  match linkOf s.member a b with
  | none => false
  | some n => (getLink s n).state == 1

/-- Whether a path of up links leads from one die to another, through at most two Tarns (R36). -/
def reaches (s : State) (a b : Nat) : Bool :=
  a == b || linkUpBetween s a b
    || s.member.tarnDies.any fun t => linkUpBetween s a t
        && (linkUpBetween s t b || s.member.tarnDies.any fun u => linkUpBetween s t u && linkUpBetween s u b)

/-- Nerris runs: the Shore has been sealed and started it, the control cluster is not in retention or off (R558), and no fatal error or gap stands. -/
def nerrisUp (s : State) : Bool :=
  (match s.sys.boot.step with
    | .dram | .ponds | .apply | .network | .render | .ready => true
    | _ => false)
    && s.sys.ao.power != .sleep && s.sys.ao.power != .deepStandby && s.sys.fatal.dumping.isNone && !s.sys.fatal.restartDue && !s.sys.fatal.halted && s.sys.red.hubUp

/-- The part has reached `sys.ready` (R61). -/
def partReady (s : State) : Bool := s.sys.boot.step == .ready

/-- A timeline runs. -/
def rendering (s : State) : Bool := s.time.rendering

/-- The dies in service of R54: the active Shore, every present Tarn and Outlet. -/
def serviceDies (s : State) : List Nat := activeShore s :: (s.member.tarnDies ++ s.member.outletDies)

/-! ### Free values -/

/-- The next free value and the state that has drawn it. DESIGN CHOICE, log 10. -/
def drawFree (s : State) : BitVec 1024 × State := (Config.freeBits s.free, { s with free := s.free + 1 })

/-! ### What the block gives out -/

def emit (e : Emission) (s : State) : State := { s with wire := e :: s.wire }
def emitAll (es : List Emission) (s : State) : State := { s with wire := es.reverse ++ s.wire }

/-- A boundary-scan instruction that drives or releases the pins is in force (R594, R595). -/
def pinsDriven (s : State) : Bool :=
  match s.sys.jtag.instr with
  | .extest => true
  | .extestPulse => true
  | .extestTrain => true
  | .clamp => true
  | .highz => true
  | _ => false

/-- What a pin gives out, unless boundary scan has disconnected its drive. -/
def emitPins (es : List Emission) (s : State) : State := if pinsDriven s then s else emitAll es s

/-- The answer on a bus, QSPI, I²C or JTAG transaction. -/
def answer (err : Bool) (status : Nat) (data : List Word) (s : State) : State :=
  { s with bus := { error := err, status := status, data := data } }
def busOk (data : List Word) (s : State) : State := answer false 0 data s
/-- A bus error; reads return 0 (R12, R500). -/
def busErr (s : State) : State := answer true 4 [0] s

/-! ### Counters (R197 and the other counter tables) -/

/-- DESIGN CHOICE, log 19. -/
def counter (s : State) (id : Nat) : Nat := mapGet (fun _ => 0) s.hw.counters id
def setCounter (id v : Nat) (s : State) : State := { s with hw.counters := mapSet s.hw.counters id v }
def countBy (id n : Nat) (s : State) : State := setCounter id (counter s id + n) s
/-- DESIGN CHOICE, log 19; DEDUCED, log 109. -/
def count (id : Nat) (s : State) : State := countBy id 1 s
/-- A peak level. -/
def countPeak (id v : Nat) (s : State) : State := setCounter id (max (counter s id) v) s
/-- The counters whose IDs pass a test return to 0. -/
def clearCounters (p : Nat → Bool) (s : State) : State :=
  { s with hw.counters := s.hw.counters.filter fun e => !p e.1 }

/-! ### Memory: ponds, code ponds, DRAM (R43) -/

/-- Start of DRAM in a Shore, of the ponds in a die, of the Spring ROM and of the code ponds in a Tarn. -/
def dramBase : Nat := 0x8_0000_0000
def pondBase : Nat := 0x0_1000_0000
def codeBase : Nat := 0x0_2000_0000

def dieAddr (die off : Nat) : Nat := die * 2 ^ 36 + off
/-- Address of byte `off` of a pond bank. -/
def pondAddr (die bank off : Nat) : Nat := dieAddr die (pondBase + bank * 0x10000 + off)
/-- Address of instruction word `i` of a global core's code pond. -/
def codeAddr (core i : Nat) : Nat := dieAddr (coreDie core) (codeBase + (core % 16) * 0x10000 + 4 * i)

/-- What a byte that nothing has written reads as: 0xFF in a code pond (R328), 0 elsewhere (R60). DESIGN CHOICE, log 8. -/
def memDefault (a : Nat) : Byte :=
  if isTarn (a / 2 ^ 36) && decide (codeBase ≤ a % 2 ^ 36) && decide (a % 2 ^ 36 < codeBase + 0x100000) then 0xFF else 0

/-- One byte of memory. DESIGN CHOICE, log 8. -/
def memByte (m : List Host.Cell) (a : Nat) : Byte := mapGet memDefault m a

/-- Memory with one byte written; the canonical form is kept. -/
def memPut (m : List Host.Cell) (a : Nat) (v : Byte) : List Host.Cell :=
  if v = memDefault a then mapErase m a else mapSet m a v

/-- Memory with bytes written from an address. -/
def memPuts (m : List Host.Cell) : Nat → List Byte → List Host.Cell
  | _, [] => m
  | a, b :: bs => memPuts (memPut m a b) (a + 1) bs

/-- `n` bytes from an address. -/
def memGets (m : List Host.Cell) (a n : Nat) : List Byte := (List.range n).map fun i => memByte m (a + i)

/-- Every byte of `lo .. hi - 1` at what it reads as when nothing has been written. -/
def memClear (m : List Host.Cell) (lo hi : Nat) : List Host.Cell := m.filter fun c => decide (c.1 < lo) || decide (hi ≤ c.1)

def readByte (s : State) (a : Nat) : Byte := memByte s.hw.mem a
/-- DESIGN CHOICE, log 8. -/
def readBytes (s : State) (a n : Nat) : List Byte := memGets s.hw.mem a n
def writeBytes (a : Nat) (bs : List Byte) (s : State) : State := { s with hw.mem := memPuts s.hw.mem a bs }
def clearMem (lo hi : Nat) (s : State) : State := { s with hw.mem := memClear s.hw.mem lo hi }
/-- A 32-bit word, little-endian (R12). -/
def readWord (s : State) (a : Nat) : Word := BitVec.ofNat 32 (fieldLE (readBytes s a 4) 0 4)
def writeWord (a : Nat) (v : Word) (s : State) : State := writeBytes a (bytesLE 4 v.toNat) s

/-- The canonical form of memory: addresses strictly rising and no entry equal to what an unlisted address reads as. -/
def Memory.wf : List Host.Cell → Bool
  | [] => true
  | [c] => c.2 != memDefault c.1
  | c :: d :: rest => c.2 != memDefault c.1 && decide (c.1 < d.1) && Memory.wf (d :: rest)

/-- A pond bank filled with zeros. -/
def zeroBank (die bank : Nat) (s : State) : State := clearMem (pondAddr die bank 0) (pondAddr die (bank + 1) 0) s
/-- Every pond bank of a die filled with zeros (R60). -/
def zeroPonds (die : Nat) (s : State) : State := clearMem (pondAddr die 0 0) (pondAddr die 256 0) s
/-- A core's code pond as after reset (R328). -/
def clearCode (core : Nat) (s : State) : State := clearMem (codeAddr core 0) (codeAddr core 16384) s

/-- Fitted DRAM that decodes, in bytes: the parity shadow of R515 excluded. DEDUCED, log 89. -/
def dramSize (s : State) : Nat := s.hw.dram.units * 0x1000_0000 / 32 * 31
/-- Internal address of an offset in DRAM of the active Shore. -/
def dramAddr (s : State) (off : Nat) : Nat := dieAddr (activeShore s) (dramBase + off)

/-- Places that Nerris gives its areas in DRAM (R162 leaves them to Nerris): 64 MiB of its own, then Basin to the end, with the dump area in Basin's last whole 16 MiB (R546). DESIGN CHOICE. -/
def dumpSize : Nat := 0x100_0000
/-- DESIGN CHOICE, log 20. -/
def basinOffset : Nat := 0x400_0000
/-- DESIGN CHOICE, log 20. -/
def basinStart (s : State) : Nat := dramAddr s basinOffset
def basinSize (s : State) : Nat := dramSize s - basinOffset
/-- Basin offset of the dump area: a multiple of 1 MiB. DESIGN CHOICE, log 20. -/
def dumpOffset (s : State) : Nat := (basinSize s - dumpSize) / 0x10_0000 * 0x10_0000
def dumpStart (s : State) : Nat := basinStart s + dumpOffset s
/-- Size of the window that BAR2 maps (R44). -/
def bar2Size : Nat := 0x1000_0000

/-! ### Flash (R67): two slots, erased bytes read 0xFF -/

/-- DESIGN CHOICE, log 8. -/
def flashByte (s : State) (a : Nat) : Byte := mapGet (fun _ => 0xFF) s.hw.flash a
def flashBytes (s : State) (a n : Nat) : List Byte := (List.range n).map fun i => flashByte s (a + i)
def flashPut (f : List Host.Cell) (a : Nat) (v : Byte) : List Host.Cell := if v = 0xFF then mapErase f a else mapSet f a v
def flashWrite (a : Nat) (bs : List Byte) (s : State) : State :=
  { s with hw.flash := (bs.zipIdx).foldl (fun f b => flashPut f (a + b.2) b.1) s.hw.flash }
def flashErase (lo hi : Nat) (s : State) : State :=
  { s with hw.flash := s.hw.flash.filter fun c => decide (c.1 < lo) || decide (hi ≤ c.1) }

/-! ### Stored register fields -/

/-- The stored value of a register, or its reset value. -/
def regOr (s : State) (reset : Nat) (a : Nat) : Nat := (mapGet (fun _ => BitVec.ofNat 32 reset) s.hw.regs a).toNat
/-- A stored register set. -/
def regPut (a v : Nat) (s : State) : State := { s with hw.regs := mapSet s.hw.regs a (BitVec.ofNat 32 v) }
/-- Stored registers of addresses that pass a test return to reset. -/
def regClear (p : Nat → Bool) (s : State) : State := { s with hw.regs := s.hw.regs.filter fun e => !p e.1 }

/-! ### Interrupt causes (R117, R126) -/

def getIn (s : State) (n : Nat) : MbxIn := mapGet mbxIn0 s.msg.mbx.inb n
def getOut (s : State) (n : Nat) : MbxOut := mapGet mbxOut0 s.msg.mbx.outb n
def getLockErr (s : State) (die : Nat) : LockErr := mapGet lockErr0 s.msg.locks.errs die

/-- MBX_IRQ_STATUS of the active Shore. -/
def irqStatus (s : State) : BitVec 12 :=
  let out := (List.range 4).filter fun n => (getOut s n).full && ((getOut s n).dest == 1 || (getOut s n).dest == 0x10)
  let inp := (List.range 4).filter fun n => (getIn s n).ack || (getIn s n).aborted
  BitVec.ofNat 12 (maskOf out + 16 * maskOf inp + flagAt (s.msg.mbx.err != 0) 8
    + flagAt (getLockErr s (activeShore s)).valid 9 + flagAt (s.sys.spring.stage == 6 || s.sys.spring.stage == 7) 10
    + flagAt (s.msg.mbx.dblHost != 0) 11)

/-- INT_N is asserted, by the Shore or by the always-on domain (R118, R63). -/
def intAsserted (s : State) : Bool := (irqStatus s &&& s.msg.mbx.irqMask) != 0 || s.sys.ao.aoIntN

/-- Whether the cause of an MSI-X vector is set. -/
def msixCause (s : State) (v : Nat) : Bool :=
  if v < 4 then (getOut s v).full && (getOut s v).dest == 1
  else if v < 8 then (getIn s (v - 4)).ack || (getIn s (v - 4)).aborted
  else if v = 8 then s.msg.mbx.err != 0 || (getLockErr s (activeShore s)).valid
  else if v = 9 then s.sys.spring.stage == 6 || s.sys.spring.stage == 7
  else s.msg.mbx.dblHost.getLsbD (v - 10)

/-- What vector `v` does when its cause goes from `was` to what it now is. PRESUMED, log 43. -/
def msixStep (was : Bool) (v : Nat) (s : State) : State :=
  let on := msixCause s v
  if on && !was then
    if s.msg.mbx.msixMask.getLsbD v || s.msg.mbx.msixFmask then
      { s with msg.mbx.msixPba := s.msg.mbx.msixPba ||| BitVec.ofNat 32 (2 ^ v) }
    else emit (.msix v) s
  else if !on then { s with msg.mbx.msixPba := s.msg.mbx.msixPba &&& ~~~(BitVec.ofNat 32 (2 ^ v)) }
  else s

/-- A change of a cause seen by every vector (R126). -/
def withVectors (f : State → State) (s : State) : State :=
  (List.range 32).foldl (fun t v => msixStep (msixCause s v) v t) (f s)

/-! ### Once-per-second limits -/

/-- Whether an event of this kind may be sent again after one second, and the state that notes it. DESIGN CHOICE, log 19. -/
def oncePerSecond (key : Nat) (s : State) : Option State :=
  match mapFind s.msg.ncp.lastSent key with
  | some t => if s.now < t + cyclesPerSecond then none
      else some { s with msg.ncp.lastSent := mapSet s.msg.ncp.lastSent key s.now }
  | none => some { s with msg.ncp.lastSent := mapSet s.msg.ncp.lastSent key s.now }

/-! ### Time -/

/-- The PTP clock moved on by `n` timer cycles of its increment in 2⁻³² ns (R397, R398), the low 8 bits kept as the dither accumulator. -/
def ptpAdvance (n : Nat) (p : Ptp) : Ptp :=
  if !p.running then p
  else
    let t := ((p.ns * 2 ^ 24 + p.sub) * 256 + p.dither) + n * p.incr
    let ns := t / 2 ^ 32
    { p with sec := (p.sec + ns / 1000000000) % 2 ^ 64, ns := ns % 1000000000, sub := t / 256 % 2 ^ 24, dither := t % 256 }

/-- Time passes: `n` cycles of the timer clock. DESIGN CHOICE, log 3. -/
def advanceTime (n : Nat) (s : State) : State :=
  { s with now := s.now + n, time.ptp := ptpAdvance n s.time.ptp }

/-! ### Wake sources (R561) -/

/-- Whether wake source `n` acts in a power state. -/
def wakeActs (n : Nat) : PowerState → Bool
  | .run => false
  | .idle => true
  | .listen => true
  | .sleep => n != 3
  | .deepStandby => n == 0 || n == 1 || n == 4

/-- A wake source has acted: it is noted when its bit is set and acts in this state, and the part starts its return (R563). -/
def wakeBy (n : Nat) (s : State) : State :=
  if s.sys.ao.wakeEn.getLsbD n && wakeActs n s.sys.ao.power then
    { s with sys.ao.wakeSrc := (if s.sys.ao.changing then s.sys.ao.wakeSrc else 0) ||| BitVec.ofNat 5 (2 ^ n), sys.ao.changing := true }
  else s

end Sys2Proof.Machine
end

