-- ==== Sys2Proof/Machine/Nerris.lean ====
section
/-! DEFINITION. How Nerris serves a request: the checks that come before a message's own rules, the response, events, and the configuration records that a setting leaves. -/

namespace Sys2Proof.Machine

/-! ### Status codes (R132) -/

def codeOk : Nat := 0
def codeBusy : Nat := 1
def codeBadOpcode : Nat := 2
def codeBadVersion : Nat := 3
def codeBadArg : Nat := 4
def codeClamped : Nat := 5
def codeNoResource : Nat := 6
def codeDenied : Nat := 7
def codeAborted : Nat := 8
def codeTimeout : Nat := 9
def codeLate : Nat := 10
def codeFault : Nat := 11

/-- FIELD when no field applies (R131). DESIGN CHOICE, log 14. -/
def noField : Nat := 0x3FF

/-- What serving a request comes to: the status, the response layout, the payload as used where the layout does not carry every limited value (R132), whether the response comes later, and the state. -/
structure Reply where
  code     : Nat
  reason   : Nat
  field    : Nat
  body     : List Byte
  echo     : List Byte
  deferred : Bool
  state    : State
  deriving DecidableEq, Repr

def replyOk (body : List Byte) (s : State) : Reply :=
  { code := codeOk, reason := 0, field := noField, body := body, echo := [], deferred := false, state := s }
/-- A refusal, which changes nothing (R132). -/
def refuse (code reason field : Nat) (s : State) : Reply :=
  { code := code, reason := reason, field := field, body := [], echo := [], deferred := false, state := s }
/-- DESIGN CHOICE, log 14. -/
def badArg (field : Nat) (s : State) : Reply := refuse codeBadArg 0 field s
/-- Done with values limited: the first limited field, the layout, and the payload as used where the layout does not carry it. DEDUCED, log 15. -/
def replyClamped (field : Nat) (body echo : List Byte) (s : State) : Reply :=
  { code := codeClamped, reason := 0, field := field, body := body, echo := echo, deferred := false, state := s }
/-- OK, or CLAMPED when a field was limited. DEDUCED, log 15. -/
def replyUsed (limited : Option Nat) (body echo : List Byte) (s : State) : Reply :=
  match limited with
  | none => replyOk body s
  | some f => replyClamped f body echo s
/-- The payload as used, which follows the layout where a limited value is not among those that the layout carries (R132). DEDUCED, log 15. -/
def echoUnless (carried : List Nat) (fields : List (Nat × Bool)) (echo : List Byte) : List Byte :=
  if fields.all fun f => f.2 || carried.contains f.1 then [] else echo
/-- The response comes at a later event. -/
def replyLater (s : State) : Reply :=
  { code := codeOk, reason := 0, field := noField, body := [], echo := [], deferred := true, state := s }

/-- The first of some checks that fails decides: field and whether it holds. -/
def firstBad : List (Nat × Bool) → Option Nat
  | [] => none
  | (f, okay) :: rest => if okay then firstBad rest else some f

/-! ### Destinations (R139 to R146) -/

/-- The key of a request's destination: the sender, or the UDP session. -/
def destKey (rq : Request) : Nat := if rq.sender = 0x20 then 0x200000 + rq.session else rq.sender
def getDest (s : State) (k : Nat) : Dest := mapGet dest0 s.msg.ncp.dests k
def setDest (k : Nat) (d : Dest) (s : State) : State := { s with msg.ncp.dests := mapSet s.msg.ncp.dests k d }
def negotiated (s : State) (rq : Request) : Nat := (getDest s (destKey rq)).version

/-- The version that introduced an opcode (R148, R570). -/
def opVersion (op : Nat) : Nat :=
  match op / 256 with
  | 0 => if op = 0x0081 then 0x32 else 0x10
  | 7 => 0x20
  | 8 => 0x20
  | 9 => 0x21
  | 10 => 0x31
  | 12 => 0x30
  | 13 => 0x31
  | 14 => if op = 0x0E00 ∨ op = 0x0E01 ∨ op = 0x0E02 ∨ op = 0x0E81 then 0x10 else 0x31
  | 15 => 0x32
  | _ => 0x10

/-- Whether a sender may send a message (R152); a Ripple core's `rpl.stop` names itself. -/
def mayRequest (sender op : Nat) (payload : List Byte) : Bool :=
  if sender = 0x0001 ∨ sender = 0x0010 ∨ sender = 0x8000 then true
  else if sender = 0x0020 then !(op == 0x0004 || op == 0x0005 || op == 0x0C01)
  else if 0x100 ≤ sender ∧ sender < 0x140 then
    match op / 256 with
    | 0 => op == 0x0000 || op == 0x0002 || op == 0x0006
    | 2 => true
    | 5 => true
    | 10 => op == 0x0A06 || (op == 0x0A02 && byteAt payload 0 == sender - 0x100)
    | 11 => decide (0x0B02 ≤ op)
    | 12 => op == 0x0C00
    | 14 => op == 0x0E03
    | _ => false
  else false

/-! ### Sending -/

/-- The 16 header bytes of R129. -/
def header (op flags ver seq len sender flow status : Nat) : List Byte :=
  bytesLE 2 op ++ bytesLE 1 flags ++ bytesLE 1 ver ++ bytesLE 2 seq ++ bytesLE 2 len ++ bytesLE 2 sender
    ++ bytesLE 2 flow ++ bytesLE 4 status

/-- Whether a request is answered to somebody, and its outstanding entry removed (R134). -/
def dropOutstanding (dest seq : Nat) (s : State) : State :=
  { s with msg.ncp.outstanding := s.msg.ncp.outstanding.eraseP fun o => o.dest == dest && o.seq == seq }

/-- A message queued for a destination. -/
def enqueue (k : Nat) (m : OutMsg) (s : State) : State :=
  let d := getDest s k
  setDest k { d with queue := d.queue ++ [m] } s

/-- The response to a request: version of R147, FIELD from 3.2 (R131), nothing for an OK request with NORESP (R130), discarded after a reset of its sender (R137). -/
def respondAt (ver : Nat) (rq : Request) (op : Nat) (r : Reply) (s : State) : State :=
  let k := destKey rq
  let done := r.code == codeOk || r.code == codeClamped
  let body := if r.code = codeClamped ∧ 0x32 ≤ ver then r.body ++ r.echo else r.body
  let field := if 0x32 ≤ ver then r.field * 65536 else 0
  let status := r.code + r.reason * 256 + field
  let bytes := header op 1 ver rq.seq body.length 0x8000 rq.flow status ++ body
  if s.msg.ncp.discarding.contains (k, rq.seq) then
    { s with msg.ncp.discarding := s.msg.ncp.discarding.erase (k, rq.seq) }
  else if done && r.code == codeOk && rq.flags.testBit 2 then dropOutstanding k rq.seq s
  else enqueue k { event := false, seq := rq.seq, opcode := op, bytes := bytes } s

/-- A response at the request's version, or a refusal at the lower of it and the negotiated one (R147). -/
def respond (rq : Request) (op : Nat) (r : Reply) (s : State) : State :=
  let ver := if r.code = codeOk ∨ r.code = codeClamped then rq.version else min rq.version (negotiated s rq)
  respondAt ver rq op r s

/-- The event destinations: both host senders always, and every session or Ripple core that has a state (R140). -/
def eventDests (s : State) : List Nat :=
  0x0001 :: 0x0010 :: (s.msg.ncp.dests.filterMap fun e => if e.1 = 0x0001 ∨ e.1 = 0x0010 then none else some e.1)

/-- The next event number (R139). -/
def succEvent (n : Nat) : Nat := if n = 0xFFFFFFFF then 1 else n + 1

/-- DBL_HOST bit `c` set by Nerris (R120, R140). -/
def ringHost (c : Nat) (s : State) : State :=
  withVectors (fun t => { t with msg.mbx.dblHost := t.msg.mbx.dblHost ||| BitVec.ofNat 22 (2 ^ c) }) s

/-- The payload of an event: the prefix of R138 and its own fields. -/
def eventBytes (s : State) (n cls die : Nat) (fields : List Byte) : List Byte :=
  bytesLE 4 n ++ bytesLE 1 cls ++ bytesLE 1 die ++ bytesLE 2 0 ++ bytesLE 8 s.time.index ++ fields

/-- An event offered to one destination (R138 to R141, R147). -/
def eventTo (cls die op flow : Nat) (fields : List Byte) (s : State) (k : Nat) : State :=
  let d := getDest s k
  if !d.evMask.testBit cls || decide (d.version < opVersion op) then s
  else
    let pay := eventBytes s d.nextEv cls die fields
    let m : OutMsg := { event := true, seq := d.nextEv, opcode := op
                        bytes := header op 2 d.version (d.nextEv % 65536) pay.length 0x8000 flow 0 ++ pay }
    let room := decide ((d.queue.filter (·.event)).length < 256)
    let d' := { d with nextEv := succEvent d.nextEv, queue := if room then d.queue ++ [m] else d.queue }
    let t := setDest k d' s
    let t := if room then { t with msg.ncp.eventLog := (m :: t.msg.ncp.eventLog).take 1024 } else t
    if (k = 0x0001 ∨ k = 0x0010) ∧ d.dbMask.testBit cls then ringHost cls t else t

/-- An event of a class from a die, or from the part (0xFF), about a flow; nothing while Nerris is down. -/
def event (cls die op flow : Nat) (fields : List Byte) (s : State) : State :=
  if nerrisUp s then (eventDests s).foldl (eventTo cls die op flow fields) s else s

/-- An event at most once a second for its key. DESIGN CHOICE, log 19. -/
def eventLimited (key cls die op flow : Nat) (fields : List Byte) (s : State) : State :=
  match oncePerSecond key s with
  | none => s
  | some t => event cls die op flow fields t

/-- `diag.mem` for a bank or memory of a die, at most once a second for each (R258): kind 0 replayed, 1 concealed, 2 test failed. -/
def memEvent (die bank kind word : Nat) (s : State) : State :=
  eventLimited (0x30000 + die * 256 + bank) 15 die 0x0E82 0xFFFF
    (bytesLE 1 die ++ bytesLE 1 bank ++ bytesLE 1 kind ++ bytesLE 1 0 ++ bytesLE 4 word) s

/-- The restart that would now follow a fatal error is the third within 600 s, or comes in safe mode, which lasts (R529). DEDUCED, log 92. -/
def thirdRestart (s : State) : Bool :=
  let recent := s.sys.fatal.restarts.filter fun t => decide (s.now < t + 600 * cyclesPerSecond)
  s.sys.boot.safe || decide (2 ≤ recent.length)

/-- Whether a fatal error brings a fail-over: an EVR-8 whose standby is in state 1 (R527), but for a link of a Tarn that failed or a Tarn that did not return, which restart the part (R35), and not while the Tarns are unpowered (R565). -/
def failsOver (s : State) (cause die : Nat) : Bool :=
  s.member == .evr8 && s.sys.red.standbyState == 1 && (s.sys.ao.power == .run || s.sys.ao.power == .idle) && !(cause == 4 && decide (2 ≤ die))

/-- The cause word of R526. DEDUCED, log 92. -/
def causeWord (s : State) (cause die : Nat) : Nat := cause + 256 * die + flagAt (thirdRestart s && !failsOver s cause die) 31

/-- A fatal error (R526, R527), counted (R550): markers, heartbeats and delivery stop and the dump is written. One during the dump ends it, and the dump stays incomplete. DEDUCED, log 92. -/
def fatal (cause die : Nat) (s : State) : State :=
  if s.sys.fatal.dumping.isSome then { s with sys.fatal.restartDue := true }
  else if nerrisUp s then count 0x6802 { s with sys.fatal.dumping := some (causeWord s cause die) }
  else s

/-! ### Configuration records (R65, R77) -/

/-- Whether two records set the same thing. -/
def Rec.same (a b : Rec) : Bool := a.opcode == b.opcode && a.flow == b.flow && a.key == b.key

/-- A record put in force: it replaces the one that set the same thing. -/
def putRec (r : Rec) (rs : List Rec) : List Rec := rs.filter (fun q => !q.same r) ++ [r]

/-- A setting message noted as layer 1, staged or in force; the journal takes what is in force (R536). -/
def noteSetting (staged : Bool) (r : Rec) (s : State) : State :=
  if staged then { s with msg.ncp.stagedRecs := putRec r s.msg.ncp.stagedRecs }
  else { s with msg.ncp.records := putRec r s.msg.ncp.records, sys.red.dirty := putRec r s.sys.red.dirty }

/-- Records that pass a test withdrawn: what they set no longer stands. -/
def forgetRecords (p : Rec → Bool) (s : State) : State :=
  { s with msg.ncp.records := s.msg.ncp.records.filter (fun r => !p r)
           sys.red.dirty := s.sys.red.dirty.filter (fun r => !p r) }

/-! ### Serving a request -/

/-- A message of the catalogue: its opcode, the sizes of its payload's fields in order at a version (R149), whether a request of it is staged, the key of the setting it makes (none for a message that sets nothing), and what it does. -/
structure NcpOp where
  opcode : Nat
  layout : Nat → List Nat
  staged : Request → Bool
  key    : Request → Option (List Byte)
  body   : Request → State → Reply

/-- The offset of the first field that a payload of `n` bytes does not hold whole. DEDUCED, logs 12, 13. -/
def firstMissing : List Nat → Nat → Nat → Option Nat
  | [], _, _ => none
  | size :: rest, off, n => if off + size ≤ n then firstMissing rest (off + size) n else some off

/-- Messages that Nerris answers before `sys.ready` (R61). -/
def earlyOp (op : Nat) : Bool := op == 0x0000 || op == 0x0003 || op == 0x0C00

/-- Messages refused outside RUN (R560). -/
def runOnly (op : Nat) (staged : Bool) : Bool :=
  staged || op == 0x0100 || op == 0x0104
    || (match op / 256 with
        | 2 => true
        | 3 => true
        | 4 => true
        | 9 => true
        | 10 => true
        | _ => false)

/-- Messages refused while the rate changes (R596). -/
def timelineOnly (op : Nat) (staged : Bool) : Bool :=
  staged || op == 0x0100 || op == 0x0104 || op / 256 == 2 || op / 256 == 5

/-- The refusal that comes before a message's own rules, if any (R61, R147, R152, R560, R596, R56, R544, R149). DEDUCED, logs 12, 13. -/
def gate (op : NcpOp) (rq : Request) (s : State) : Option Reply :=
  let staged := op.staged rq
  let intro := opVersion op.opcode
  if op.opcode ≠ 0 ∧ negotiated s rq < rq.version then some (refuse codeBadVersion (negotiated s rq) noField s)
  else if op.opcode ≠ 0 ∧ rq.version < intro then some (refuse codeBadVersion intro noField s)
  else if !mayRequest rq.sender op.opcode rq.payload then some (refuse codeDenied 0 noField s)
  else if !partReady s && !earlyOp op.opcode then some (refuse codeBusy 0 noField s)
  else if s.sys.ao.power ≠ .run ∧ runOnly op.opcode staged then some (refuse codeBusy 0x10 noField s)
  else if s.msg.ncp.rateChange.isSome && timelineOnly op.opcode staged then some (refuse codeBusy 0x11 noField s)
  else if s.msg.commit.isSome && staged then some (refuse codeBusy 0 noField s)
  else if s.sys.red.proving.isSome && !(op.opcode == 0x0D00 || op.opcode == 0x0000) then
    some (refuse codeBusy 0 noField s)
  else match firstMissing (op.layout rq.version) 0 rq.payload.length with
    | some f => some (badArg f s)
    | none => none

/-- A request's own work, and the record that a setting leaves. DEDUCED, log 15. -/
def performOp (op : NcpOp) (layer : Nat) (rq : Request) (s : State) : Reply :=
  let r := op.body rq s
  match op.key rq with
  | some k =>
    if (r.code = codeOk ∨ r.code = codeClamped) ∧ !r.deferred then
      { r with state := noteSetting (op.staged rq)
                 { layer := layer, opcode := op.opcode, flow := rq.flow, key := k, payload := rq.payload } r.state }
    else r
  | none => r

/-- Nerris serves a request and queues its response; nothing happens while Nerris is not running. DESIGN CHOICE, log 1. -/
def serve (op : NcpOp) (rq : Request) (s : State) : State :=
  if !nerrisUp s then s
  else match gate op rq s with
    | some r => respond rq op.opcode r s
    | none =>
      let r := performOp op 1 rq s
      if r.deferred then r.state else respond rq op.opcode r r.state

/-- No request of a message is staged; every one is. -/
def never (_ : Request) : Bool := false
def always (_ : Request) : Bool := true
/-- A message that sets nothing that lasts. -/
def noKey (_ : Request) : Option (List Byte) := none
/-- The key of a setting: the first `n` payload bytes beside the flow. -/
def keyBytes (n : Nat) (rq : Request) : Option (List Byte) := some (rq.payload.take n)

/-- A payload with the little-endian field of `n` bytes at `off` replaced: the payload as used (R132). -/
def withField (off n v : Nat) (p : List Byte) : List Byte := p.take off ++ bytesLE n v ++ p.drop (off + n)

end Sys2Proof.Machine
end

