-- ==== Sys2Proof/Machine/Objects.lean ====
section
/-! DEFINITION. Objects, beds and metadata (R172 to R197) and the history slots of a slice (R233 to R236, R251). -/

namespace Sys2Proof.Machine

/-! ### History slots (R234, R235) -/

def getSlice (s : State) (n : Nat) : Slice := mapGet slice0 s.rend.slices n
def setSlice (n : Nat) (x : Slice) (s : State) : State := { s with rend.slices := mapSet s.rend.slices n x }
def getTile (s : State) (die : Nat) : Tile := mapGet tile0 s.rend.tiles die
def setTile (die : Nat) (x : Tile) (s : State) : State := { s with rend.tiles := mapSet s.rend.tiles die x }
def getObj (s : State) (n : Nat) : Option Obj := mapFind s.rend.objs n
def setObj (n : Nat) (x : Obj) (s : State) : State := { s with rend.objs := mapSet s.rend.objs n x }

/-- Fr in hertz. -/
def frHz (s : State) : Nat := rateHz s.time.rate

/-- Whether a slice is in H128: as set, or at a rate's default (R180). -/
def sliceH128 (s : State) (sl : Nat) : Bool :=
  match (getSlice s sl).h128set with
  | some b => b
  | none => decide (frHz s ≤ 48000)

/-- Samples per slot, and slots (R234). -/
def historyLen (s : State) (sl : Nat) : Nat := if sliceH128 s sl then 8192 else 16384
def historySlots (s : State) (sl : Nat) : Nat := if sliceH128 s sl then 128 else 64

/-- The address of byte `k` of the group space of a lane group of a slice. -/
def groupByteAddr (sl g k : Nat) : Nat :=
  let w := k / 4
  pondAddr (sliceDie sl) (48 * (sl % 4) + 12 * g + w % 12) (w / 12 * 4 + k % 4)

/-- The group byte of an address in the banks of a lane group, if it lies there. -/
def groupByteOf (sl g a : Nat) : Option Nat :=
  let lo := pondAddr (sliceDie sl) (48 * (sl % 4) + 12 * g) 0
  if lo ≤ a ∧ a < lo + 12 * 0x10000 then
    let b := (a - lo) / 0x10000
    let off := (a - lo) % 0x10000
    some (4 * (off / 4 * 12 + b) + off % 4)
  else none

/-- The group byte at which history sample `i` of a slot begins. -/
def sampleByte (h slot i : Nat) : Nat := (slot / 4 * h + i % h) * 3

/-- History sample `i` of a slot: 24 bits, two's complement. -/
def readHistory (s : State) (sl slot i : Nat) : Int :=
  let k := sampleByte (historyLen s sl) slot i
  let b := fun j => (readByte s (groupByteAddr sl (slot % 4) (k + j))).toNat
  signed 24 (b 0 + 256 * b 1 + 65536 * b 2)

/-- History sample `i` of a slot written. -/
def writeHistory (sl slot i : Nat) (h : Int) (s : State) : State :=
  let k := sampleByte (historyLen s sl) slot i
  (((bytesS 3 h).zipIdx).foldl (fun m e => memPut m (groupByteAddr sl (slot % 4) (k + e.2)) e.1) s.hw.mem)
    |> fun m => { s with hw.mem := m }

/-- Whether an address lies in a slot. -/
def inSlot (h sl slot a : Nat) : Bool :=
  match groupByteOf sl (slot % 4) a with
  | some k => k / (h * 3) == slot / 4
  | none => false

/-- A slot that reads zero at every position. -/
def clearSlot (sl slot : Nat) (s : State) : State :=
  let h := historyLen s sl
  { s with hw.mem := s.hw.mem.filter fun c => !inSlot h sl slot c.1 }

/-- The contents of a slot moved to another, the first left zero (R251). DEDUCED, log 59. -/
def moveSlot (sl old new : Nat) (s : State) : State :=
  let h := historyLen s sl
  let cells := s.hw.mem.filter fun c => inSlot h sl old c.1
  let t := clearSlot sl old (clearSlot sl new s)
  let put := fun (m : List Host.Cell) (c : Host.Cell) =>
    match groupByteOf sl (old % 4) c.1 with
    | some k => memPut m (groupByteAddr sl (new % 4) (new / 4 * (h * 3) + k % (h * 3))) c.2
    | none => m
  { t with hw.mem := cells.foldl put t.hw.mem }

/-! ### Admission and placement (R179 to R181, R251) -/

/-- The objects of a slice: their IDs and entries. -/
def sliceObjs (s : State) (sl : Nat) : AMap Obj := s.rend.objs.filter fun e => e.2.slice == sl
def sliceCount (s : State) (sl : Nat) : Nat := (sliceObjs s sl).length
/-- S of R179: the larger of the active and staged counts. -/
def admissionS (s : State) : Nat := max s.rend.geo.table.recs.length s.rend.geoStage.table.recs.length
def pairBudget : Nat := 3200000000

/-- Why a slice does not admit one more object: 0 it does, 1 the budget, 2 the history (R181). -/
def refusesObject (s : State) (sl : Nat) : Nat :=
  let n := sliceCount s sl + 1
  if historySlots s sl < n then 2 else if pairBudget < n * admissionS s * frHz s then 1 else 0

/-- Whether every slice satisfies R179 with `count` speakers at a rate. -/
def slicesFit (s : State) (count hz : Nat) : Bool :=
  (List.range s.member.slices).all fun sl => decide (sliceCount s sl * count * hz ≤ pairBudget)

/-- Objects of a slice in a lane group, counted by the slot the lanes read. -/
def groupCount (s : State) (sl g : Nat) : Nat := ((sliceObjs s sl).filter fun e => e.2.slot % 4 == g).length
def slotUsed (s : State) (sl slot : Nat) : Bool :=
  (sliceObjs s sl).any fun e => e.2.slot == slot || e.2.newSlot == some slot
/-- The lowest free slot of a lane group. -/
def freeSlot (s : State) (sl g : Nat) : Nat :=
  (((List.range 32).map fun e => 4 * e + g).find? fun j => !slotUsed s sl j).getD g

/-- The lane group with the most or fewest objects, the lowest among equals. -/
def fullestGroup (s : State) (sl : Nat) : Nat :=
  [1, 2, 3].foldl (fun b g => if groupCount s sl b < groupCount s sl g then g else b) 0
def emptiestGroup (s : State) (sl : Nat) : Nat :=
  [1, 2, 3].foldl (fun b g => if groupCount s sl g < groupCount s sl b then g else b) 0

/-- A migration starts when the largest group holds two or more objects more than the smallest (R251). DEDUCED, log 59. -/
def startMigration (sl : Nat) (s : State) : State :=
  let x := getSlice s sl
  let big := fullestGroup s sl
  let small := emptiestGroup s sl
  if x.migrating.isSome ∨ groupCount s sl big < groupCount s sl small + 2 then s
  else
    let inBig := (sliceObjs s sl).filter fun e => e.2.slot % 4 == big
    match inBig.foldl (fun (b : Option (Nat × Obj)) e =>
        match b with
        | none => some e
        | some c => if c.2.slot < e.2.slot then some e else some c) none with
    | none => s
    | some (id, o) =>
      setSlice sl { x with migrating := some (id, s.time.index) } (setObj id { o with newSlot := some (freeSlot s sl small) } s)

/-- SLOT_MIGRATION_DONE: the copy is complete; the lanes take the new slot and the next migration starts (R251). DEDUCED, log 59. -/
def execSlotMigrationDone (slice : Nat) (s : State) : Host.Outcome State Fault Refusal :=
  .next (
    let x := getSlice s slice
    match x.migrating with
    | none => s
    | some (id, _) =>
      match getObj s id with
      | none => setSlice slice { x with migrating := none } s
      | some o =>
        match o.newSlot with
        | none => setSlice slice { x with migrating := none } s
        | some new =>
          let t := moveSlot slice o.slot new s
          let t := setObj id { o with slot := new, newSlot := none } (setSlice slice { x with migrating := none } t)
          startMigration slice (count (0x0840 + 8 * slice + 6) t))

/-- Every object of a slice placed afresh in ascending ID (R252). -/
def replaceSlots (sl : Nat) (s : State) : State :=
  let objs := sliceObjs s sl
  let bare := { s with rend.objs := s.rend.objs.filter fun e => !(e.2.slice == sl) }
  let bare := setSlice sl { getSlice bare sl with migrating := none } bare
  objs.foldl (fun t e => setObj e.1 { e.2 with slot := freeSlot t sl (emptiestGroup t sl), newSlot := none } t) bare

/-! ### Boundaries and deadlines (R187, R193) -/

/-- The update period at an index (R193). -/
def GeoBank.periodAt (g : GeoBank) (i : Nat) : Nat := if i < g.since then g.before else g.period

/-- The bank that index `i` will be served from: the staged one from the commit sample of an armed commit. -/
def planBank (s : State) (i : Nat) : GeoBank :=
  match s.msg.commit with
  | some c => if c.armSent && decide (c.c ≤ i) then s.rend.geoStage else s.rend.geo
  | none => s.rend.geo

def periodAt (s : State) (i : Nat) : Nat := (planBank s i).periodAt i
/-- The first boundary at or after an index. -/
def boundaryFrom (s : State) (i : Nat) : Nat :=
  let u := periodAt s i
  (i + u - 1) / u * u

/-- The first boundary from `b` on whose deadline an acceptance at `a` meets. DEDUCED, log 55. -/
def meetDeadline (s : State) (a : Nat) : Nat → Nat → Nat
  | 0, b => b
  | n + 1, b => if a + periodAt s b + 16 ≤ b then b else meetDeadline s a n (boundaryFrom s (b + 1))

/-- DEDUCED, log 55. -/
def firstDeadline (s : State) (a : Nat) : Nat := meetDeadline s a 64 (boundaryFrom s a)

/-- The boundary of an update accepted at `a` and, when it is late, the samples past its deadline. -/
def updateBoundary (s : State) (a t : Nat) (now : Bool) : Nat × Option Nat :=
  if now then (firstDeadline s a, none)
  else
    let b := boundaryFrom s t
    if a + periodAt s b + 16 ≤ b then (b, none) else (firstDeadline s a, some (a + periodAt s b + 16 - b))

/-! ### Updates (R187 to R189) -/

/-- An update that sets no field. -/
def Update.empty : Update :=
  { at_ := 0, due := 0, now_ := false, eoms := false, boundary := 0, mode := none, gain := none, mute := none, pos := none, size := none
    options := none, base := none, group := none, refDist := none, k := none, slew := none }

/-- The fields of an update put into a record, the mode apart. -/
def Update.into (u : Update) (r : ObjRec) : ObjRec :=
  let (x, y, z) := u.pos.getD (r.x, r.y, r.z)
  let (air, doppler, dist) := u.options.getD (r.air, r.doppler, r.distDelay)
  { r with
    gain := u.gain.getD r.gain, mute := u.mute.getD r.mute, x := x, y := y, z := z, size := u.size.getD r.size
    air := air, doppler := doppler, distDelay := dist, slew := u.slew.getD r.slew, base := u.base.getD r.base
    group := u.group.getD r.group, refDist := u.refDist.getD r.refDist, k := u.k.getD r.k }

/-- `v` after `u`: the later value of each field wins (R189). DEDUCED, log 55. -/
def Update.merge (u v : Update) : Update :=
  { u with
    mode := v.mode <|> u.mode, gain := v.gain <|> u.gain, mute := v.mute <|> u.mute, pos := v.pos <|> u.pos
    size := v.size <|> u.size, options := v.options <|> u.options, base := v.base <|> u.base, group := v.group <|> u.group
    refDist := v.refDist <|> u.refDist, k := v.k <|> u.k, slew := v.slew <|> u.slew }

/-- Fields of R174 that both updates set; the three options count one each, the position one. -/
def Update.overlap (u v : Update) : Nat :=
  let both := fun (a b : Bool) => flag (a && b)
  both u.mode.isSome v.mode.isSome + both u.gain.isSome v.gain.isSome + both u.mute.isSome v.mute.isSome
    + both u.pos.isSome v.pos.isSome + both u.size.isSome v.size.isSome + 3 * both u.options.isSome v.options.isSome
    + both u.base.isSome v.base.isSome + both u.group.isSome v.group.isSome + both u.refDist.isSome v.refDist.isSome
    + both u.k.isSome v.k.isSome + both u.slew.isSome v.slew.isSome

/-- An accepted update queued behind the earlier ones; within one sample EOMS comes after NCP. DEDUCED, log 55. -/
def queueUpdate (u : Update) : List Update → List Update
  | [] => [u]
  | v :: rest => if !u.eoms && v.eoms && v.at_ == u.at_ then u :: v :: rest else v :: queueUpdate u rest

/-- An object that requests may name: allocated and not releasing (R183). -/
def activeObj (s : State) (id : Nat) : Option Obj :=
  match getObj s id with
  | some o => if o.freeing.isSome then none else some o
  | none => none

/-- Late metadata counted, and reported at most once a second for an object (R192). -/
def noteLate (id source past boundary : Nat) (s : State) : State :=
  match getObj s id with
  | none => s
  | some o =>
    let t := count (0x0500 + 8 * o.slice + 1) (setObj id { o with late := o.late + 1 } s)
    eventLimited (0x10000 + id) 6 (sliceDie o.slice) 0x0280 id
      (bytesLE 2 id ++ bytesLE 1 source ++ bytesLE 1 0 ++ bytesLE 4 (min past 0xFFFFFFFF) ++ bytesLE 8 boundary) t

/-- Slice counter of a clamp kind: 0 delay beyond history, 1 negative delay, 2 Doppler speed, 3 pending discard. -/
def clampCounter (sl kind : Nat) : Nat := 0x0500 + 8 * sl + 2 + kind

/-- Clamps of a kind counted, and reported at most once a second for an object and kind (R192). -/
def noteClamp (id kind n : Nat) (s : State) : State :=
  match getObj s id with
  | none => s
  | some o =>
    if n = 0 then s
    else
      let run := mapGet (fun _ => 0) o.clampRun kind + n
      let o := { o with clamped := o.clamped + (if kind < 2 then n else 0) }
      let t := countBy (clampCounter o.slice kind) n s
      match oncePerSecond (0x20000 + 4 * id + kind) t with
      | none => setObj id { o with clampRun := mapSet o.clampRun kind run } t
      | some t =>
        let t := setObj id { o with clampRun := mapErase o.clampRun kind } t
        event 7 (sliceDie o.slice) 0x0281 id
          (bytesLE 2 id ++ bytesLE 1 kind ++ bytesLE 1 0 ++ bytesLE 4 (min run 0xFFFFFFFF)) t

/-- An object's record as `obj.cfg` would set it at once. -/
def objCfgPayload (r : ObjRec) : List Byte :=
  bytesLE 8 0 ++ bytesLE 1 1 ++ bytesLE 1 r.mode ++ bytesS 2 r.gain ++ bytesLE 1 (flag r.mute)
    ++ bytesLE 1 (flag r.air + 2 * flag r.doppler + 4 * flag r.distDelay) ++ bytesLE 2 r.size ++ bytesLE 4 r.base
    ++ bytesLE 4 r.group ++ bytesLE 4 r.refDist ++ bytesLE 1 r.k ++ bytesLE 1 0 ++ bytesLE 2 r.slew
    ++ bytesS 4 r.x ++ bytesS 4 r.y ++ bytesS 4 r.z

/-- An object's record as last applied goes to the journal (R536). -/
def noteObject (id : Nat) (s : State) : State :=
  match getObj s id with
  | none => s
  | some o =>
    let r : Rec := { layer := 1, opcode := 0x0202, flow := id, key := [], payload := objCfgPayload o.record }
    { s with sys.red.dirty := putRec r s.sys.red.dirty }

/-- An update accepted for an object: before rendering it takes effect at once (R597). Gives the boundary, whether it is late, and the state. DEDUCED, log 55. -/
def acceptUpdate (source : Nat) (id : Nat) (u : Update) (t : Nat) (now : Bool) (s : State) : Nat × Bool × State :=
  match getObj s id with
  | none => (0, false, s)
  | some o =>
    if !rendering s then
      let r := u.into o.record
      (0, false, noteObject id (setObj id { o with record := { r with mode := u.mode.getD r.mode } } s))
    else
      let a := s.time.index
      let (b, late) := updateBoundary s a t now
      let u := { u with at_ := a, due := t, now_ := now, eoms := source == 1, boundary := b }
      let s1 := setObj id { o with pend := queueUpdate u o.pend } s
      match late with
      | none => (b, false, s1)
      | some past => (b, true, noteLate id source past b s1)

/-- Pending updates take their boundaries from the grid now planned (R193). -/
def regrid (s : State) : State :=
  let move := fun (u : Update) => { u with boundary := (updateBoundary s u.at_ u.due u.now_).1 }
  { s with rend.objs := s.rend.objs.map fun e => (e.1, { e.2 with pend := e.2.pend.map move }) }

/-! ### Freezing the records of a boundary (R189, R228) -/

/-- An object's entry at boundary `b`: the updates due are merged, a mode change starts or completes, and the record as the engine sees it, muted while the old pairs or a released object ramp out. -/
def freezeObj (b : Nat) (o : Obj) : Obj × ObjRec × Nat :=
  let (fresh, o) :=
    match o.modeChange with
    | some (at_, m) => if at_ < b then (true, { o with record := { o.record with mode := m }, bornAt := b, modeChange := none }) else (false, o)
    | none => (decide (o.bornAt = b), o)
  match o.freeing with
  | some f =>
    if f ≤ b then ({ o with pend := [] }, { o.record with mute := true }, 0)
    else (o, o.record, 0)
  | none =>
    let due := o.pend.filter fun u => decide (u.boundary ≤ b)
    let rest := o.pend.filter fun u => !decide (u.boundary ≤ b)
    let (u, lost) := due.foldl (fun (acc : Update × Nat) v => (acc.1.merge v, acc.2 + acc.1.overlap v)) (Update.empty, 0)
    let r := u.into o.record
    let o := { o with pend := rest, record := r }
    match u.mode with
    | none =>
      let fading := o.modeChange.isSome
      (o, if fading then { r with mute := true } else r, lost)
    | some m =>
      if fresh then ({ o with record := { r with mode := m } }, { r with mode := m }, lost)
      else if o.modeChange.isSome then
        ({ o with modeChange := o.modeChange.map fun c => (c.1, m) }, { r with mute := true }, lost)
      else if m = r.mode then (o, r, lost)
      else ({ o with modeChange := some (b, m) }, { r with mute := true }, lost)

/-- The records of a slice frozen for boundary `b`. -/
def freezeSlice (sl b : Nat) (s : State) : State :=
  let (t, recs) := (sliceObjs s sl).foldl (fun (acc : State × AMap ObjRec) e =>
    if b < e.2.bornAt then acc
    else
      let (o, r, lost) := freezeObj b e.2
      let changed := decide (o.record ≠ e.2.record)
      let t := countBy (0x0500 + 8 * sl + 6) lost (setObj e.1 o acc.1)
      (if changed then noteObject e.1 t else t, mapSet acc.2 e.1 r)) (s, [])
  let x := getSlice t sl
  setSlice sl { x with windows := x.windows ++ [{ boundary := b, records := recs, computed := false, targets := [] }] } t

/-- GEOMETRY_FREEZE: once for each boundary of the slice's grid, in order. DEDUCED, log 56. -/
def execGeometryFreeze (slice boundary : Nat) (s : State) : Host.Outcome State Fault Refusal :=
  .next (
    let x := getSlice s slice
    if slice < s.member.slices ∧ powered s (sliceDie slice) ∧ boundary % periodAt s boundary = 0 ∧ x.boundary < boundary
        ∧ x.windows.all (fun w => decide (w.boundary < boundary)) then
      freezeSlice slice boundary s
    else s)

/-! ### Allocation and release -/

/-- A new object on a slice. DEDUCED, log 54. -/
def newObj (s : State) (sl mode : Nat) : Obj :=
  { slice := sl, slot := freeSlot s sl (emptiestGroup s sl), newSlot := none, record := objRec0 mode, pend := []
    bornAt := if rendering s then firstDeadline s s.time.index else 0
    modeChange := none, freeing := none, late := 0, clamped := 0, clampRun := [], panDir := (0, 65536, 0) }

/-- An object released: its history is cleared, its pairs, maps and OBJ_PRE insert go, and the slice's groups are balanced (R178, R183, R251). -/
def releaseObj (id : Nat) (s : State) : State :=
  match getObj s id with
  | none => s
  | some o =>
    let t := clearSlot o.slice o.slot s
    let t := match o.newSlot with
      | some j => clearSlot o.slice j t
      | none => t
    let x := getSlice t o.slice
    let x := { x with
      pairs := mapErase x.pairs id
      migrating := match x.migrating with
        | some (m, at_) => if m = id then none else some (m, at_)
        | none => none }
    let t := { (setSlice o.slice x t) with
      rend.objs := mapErase t.rend.objs id
      rend.beds := mapErase t.rend.beds id
      rend.bedStage := mapErase t.rend.bedStage id
      rend.zones := mapErase t.rend.zones id
      rend.zoneStage := mapErase t.rend.zoneStage id
      chain.inserts := mapErase t.chain.inserts id
      chain.insertStage := mapErase t.chain.insertStage id }
    startMigration o.slice t

/-- Bindings of the exchange slots of an insert: point and ID (R323). -/
def unbindSlots (point id : Nat) (s : State) : State :=
  let keep := fun (x : Nat × XSlot) => !(x.2.bound && x.2.point == point && x.2.id == id)
  { s with cores := s.cores.map fun e => (e.1, { e.2 with slots := e.2.slots.filter keep }) }

/-- OBJECT_RELEASE: the end of the fade-out period. -/
def execObjectRelease (obj : Nat) (s : State) : Host.Outcome State Fault Refusal :=
  .next (match getObj s obj with
    | none => s
    | some o => if o.freeing.isSome then releaseObj obj (unbindSlots 0 obj s) else s)

/-- The pair rate of `n` objects in 10³ pairs/s. -/
def pairRate (s : State) (n : Nat) : Nat := n * admissionS s * frHz s / 1000

/-- The slice that an automatic request takes: fewest objects, lowest index (R181). -/
def chooseSlice (s : State) : Option Nat :=
  ((List.range s.member.slices).filter fun sl => refusesObject s sl == 0).foldl (fun (b : Option Nat) sl =>
    match b with
    | none => some sl
    | some c => if sliceCount s sl < sliceCount s c then some sl else some c) none

def objAllocBody (rq : Request) (s : State) : Reply :=
  let id := rq.flow
  let sl := byteAt rq.payload 0
  let mode := byteAt rq.payload 1
  let take := fun (sl : Nat) =>
    let t := setObj id (newObj s sl mode) s
    replyOk (bytesLE 1 sl ++ bytesLE 1 (flag (sliceH128 s sl)) ++ bytesLE 2 0 ++ bytesLE 4 (pairRate s (sliceCount s sl + 1)))
      (noteObject id t)
  if 2048 ≤ id then badArg noField s
  else match getObj s id with
    | some o => if o.freeing.isSome then refuse codeBusy 0 noField s else refuse codeBadArg 1 noField s
    | none =>
      if 3 < mode then badArg 1 s
      else if sl = 0xFF then
        match chooseSlice s with
        | some c => take c
        | none => refuse codeNoResource 3 noField s
      else if s.member.slices ≤ sl then badArg 0 s
      else if refusesObject s sl ≠ 0 then refuse codeNoResource (refusesObject s sl) noField s
      else take sl

/-- `obj.alloc`. -/
def objAllocOp : NcpOp :=
  { opcode := 0x0200, layout := fun _ => [1, 1, 2], staged := never, key := keyBytes 0, body := objAllocBody }

def execObjAlloc (rq : Request) (s : State) : Host.Outcome State Fault Refusal := .next (serve objAllocOp rq s)

def objFreeBody (rq : Request) (s : State) : Reply :=
  match activeObj s rq.flow with
  | none => badArg noField s
  | some o =>
    let forget := forgetRecords fun r => r.opcode / 256 == 2 && r.flow == rq.flow
    if rendering s then
      let b := firstDeadline s s.time.index
      replyOk (bytesLE 8 b) (forget (setObj rq.flow { o with freeing := some b } s))
    else replyOk (bytesLE 8 0) (forget (releaseObj rq.flow (unbindSlots 0 rq.flow s)))

/-- `obj.free`. -/
def objFreeOp : NcpOp := { opcode := 0x0201, layout := fun _ => [], staged := never, key := keyBytes 0, body := objFreeBody }

def execObjFree (rq : Request) (s : State) : Host.Outcome State Fault Refusal := .next (serve objFreeOp rq s)

/-! ### Timed messages (R194) -/

/-- The refusal of a timed update before it is queued (R188): FIELD at T, or the pending limit. -/
def timedRefusal (o : Obj) (tField t : Nat) (now : Bool) (s : State) : Option Reply :=
  if !rendering s then none
  else if !now && decide (s.time.index + 2 ^ 31 < t) then some (badArg tField s)
  else if 8 ≤ o.pend.length then some (refuse codeNoResource 0 noField s)
  else none

/-- The boundary and late flag of a timed answer, padded to 16 bytes. -/
def timedAnswer (b : Nat) (late : Bool) : List Byte := bytesLE 8 b ++ bytesLE 1 (flag late) ++ List.replicate 7 0

def objCfgBody (rq : Request) (s : State) : Reply :=
  let p := rq.payload
  let t := fieldLE p 0 8
  let now := bit (byteAt p 8) 0
  let mode := byteAt p 9
  let gain := min 6144 (fieldS p 10 2)
  let mute := min 1 (byteAt p 12)
  let opts := byteAt p 13
  let base := min 4194303 (fieldLE p 16 4)
  let k := min 16 (byteAt p 28)
  let slew := clampNat 1 4096 (fieldLE p 30 2)
  match activeObj s rq.flow with
  | none => badArg noField s
  | some o =>
    if 3 < mode then badArg 9 s
    else match timedRefusal o 0 t now s with
      | some r => r
      | none =>
        let u : Update := { Update.empty with
          mode := some mode, gain := some gain, mute := some (mute == 1)
          pos := some (fieldS p 32 4, fieldS p 36 4, fieldS p 40 4), size := some (fieldLE p 14 2)
          options := some (bit opts 0, bit opts 1, bit opts 2), base := some base, group := some (fieldLE p 20 4)
          refDist := some (fieldLE p 24 4), k := some k, slew := some slew }
        let (b, late, s1) := acceptUpdate 0 rq.flow u t now s
        let used := withField 30 2 slew (withField 28 1 k (withField 16 4 base (withField 12 1 mute
          (p.take 10 ++ bytesS 2 gain ++ (p.take 44).drop 12))))
        let lim := firstBad [(10, gain == fieldS p 10 2), (12, mute == byteAt p 12), (16, base == fieldLE p 16 4),
          (28, k == byteAt p 28), (30, slew == fieldLE p 30 2)]
        replyUsed lim (timedAnswer b late ++ used) [] s1

/-- `obj.cfg`. -/
def objCfgOp : NcpOp :=
  { opcode := 0x0202, layout := fun _ => [8, 1, 1, 2, 1, 1, 2, 4, 4, 4, 1, 1, 2, 4, 4, 4], staged := never, key := noKey
    body := objCfgBody }

def execObjCfg (rq : Request) (s : State) : Host.Outcome State Fault Refusal := .next (serve objCfgOp rq s)

def objPosBody (rq : Request) (s : State) : Reply :=
  let p := rq.payload
  let t := fieldLE p 0 8
  let now := bit (byteAt p 20) 0
  match activeObj s rq.flow with
  | none => badArg noField s
  | some o =>
    match timedRefusal o 0 t now s with
    | some r => r
    | none =>
      let u := { Update.empty with pos := some (fieldS p 8 4, fieldS p 12 4, fieldS p 16 4) }
      let (b, late, s1) := acceptUpdate 0 rq.flow u t now s
      replyOk (bytesLE 8 b ++ bytesLE 1 (flag late)) s1

/-- `obj.pos`. -/
def objPosOp : NcpOp :=
  { opcode := 0x0203, layout := fun _ => [8, 4, 4, 4, 1, 3], staged := never, key := noKey, body := objPosBody }

def execObjPos (rq : Request) (s : State) : Host.Outcome State Fault Refusal := .next (serve objPosOp rq s)

/-- The entries of a batch: object and position. -/
def batchEntries (p : List Byte) : List (Nat × (Int × Int × Int)) :=
  (List.range (fieldLE p 10 2)).map fun i =>
    let o := 16 + 16 * i
    (fieldLE p o 2, (fieldS p (o + 4) 4, fieldS p (o + 8) 4, fieldS p (o + 12) 4))

/-- The later entry of each object of a batch, and the slice of each entry overwritten (R189). -/
def batchMerge : List (Nat × (Int × Int × Int)) → List (Nat × (Int × Int × Int)) × List Nat
  | [] => ([], [])
  | e :: rest =>
    let (kept, lost) := batchMerge rest
    if kept.any (fun k => k.1 == e.1) then (kept, e.1 :: lost) else (e :: kept, lost)

def objPosBatchBody (rq : Request) (s : State) : Reply :=
  let p := rq.payload
  let t := fieldLE p 0 8
  let now := bit (byteAt p 8) 0
  let n := fieldLE p 10 2
  let es := batchEntries p
  if n < 1 ∨ 62 < n then badArg 10 s
  else if p.length < 16 + 16 * n then badArg (16 + (p.length - 16) / 16 * 16) s
  else match (es.zipIdx).find? (fun e => (activeObj s e.1.1).isNone) with
    | some (_, i) => badArg (16 + 16 * i) s
    | none =>
      let (kept, lost) := batchMerge es
      if rendering s && !now && decide (s.time.index + 2 ^ 31 < t) then badArg 0 s
      else if rendering s && kept.any (fun e => match getObj s e.1 with
          | some o => decide (8 ≤ o.pend.length)
          | none => false) then refuse codeNoResource 0 noField s
      else
        let s1 := lost.foldl (fun a id => match getObj a id with
          | some o => count (0x0500 + 8 * o.slice + 6) a
          | none => a) s
        let (b, late, s2) := kept.foldl (fun (acc : Nat × Bool × State) e =>
          let (b, l, a) := acceptUpdate 0 e.1 { Update.empty with pos := some e.2 } t now acc.2.2
          (b, acc.2.1 || l, a)) (0, false, s1)
        replyOk (bytesLE 8 b ++ bytesLE 1 (flag late)) s2

/-- `obj.pos.batch` (R195). -/
def objPosBatchOp : NcpOp :=
  { opcode := 0x0204, layout := fun _ => [8, 1, 1, 2, 4], staged := never, key := noKey, body := objPosBatchBody }

def execObjPosBatch (rq : Request) (s : State) : Host.Outcome State Fault Refusal := .next (serve objPosBatchOp rq s)

def objGainBody (rq : Request) (s : State) : Reply :=
  let p := rq.payload
  let t := fieldLE p 0 8
  let now := bit (byteAt p 8) 0
  let mute := min 1 (byteAt p 9)
  let gain := min 6144 (fieldS p 10 2)
  match activeObj s rq.flow with
  | none => badArg noField s
  | some o =>
    match timedRefusal o 0 t now s with
    | some r => r
    | none =>
      let (b, late, s1) := acceptUpdate 0 rq.flow { Update.empty with gain := some gain, mute := some (mute == 1) } t now s
      let used := p.take 9 ++ bytesLE 1 mute ++ bytesS 2 gain ++ (p.take 16).drop 12
      let lim := firstBad [(9, mute == byteAt p 9), (10, gain == fieldS p 10 2)]
      replyUsed lim (timedAnswer b late ++ used) [] s1

/-- `obj.gain`. -/
def objGainOp : NcpOp :=
  { opcode := 0x0205, layout := fun _ => [8, 1, 1, 2, 4], staged := never, key := noKey, body := objGainBody }

def execObjGain (rq : Request) (s : State) : Host.Outcome State Fault Refusal := .next (serve objGainOp rq s)

def objGetBody (rq : Request) (s : State) : Reply :=
  if 2048 ≤ rq.flow then badArg noField s
  else match getObj s rq.flow with
    | none => replyOk (List.replicate 51 0) s
    | some o =>
      replyOk (bytesLE 1 (if o.freeing.isSome then 2 else 1) ++ bytesLE 1 o.slice ++ bytesLE 1 o.pend.length ++ bytesLE 1 0
        ++ bytesLE 4 (min o.late 0xFFFFFFFF) ++ bytesLE 4 (min o.clamped 0xFFFFFFFF) ++ bytesLE 4 0
        ++ (objCfgPayload o.record).drop 9) s

/-- `obj.get`. -/
def objGetOp : NcpOp := { opcode := 0x0206, layout := fun _ => [], staged := never, key := noKey, body := objGetBody }

def execObjGet (rq : Request) (s : State) : Host.Outcome State Fault Refusal := .next (serve objGetOp rq s)

/-! ### Slices -/

def objSliceCfgBody (rq : Request) (s : State) : Reply :=
  let sl := byteAt rq.payload 0
  let h := byteAt rq.payload 1
  if s.member.slices ≤ sl then badArg 0 s
  else if 1 < h then badArg 1 s
  else if sliceCount s sl ≠ 0 then refuse codeBadArg 2 0 s
  else replyOk [] (setSlice sl { getSlice s sl with h128set := some (h == 1) } s)

/-- `obj.slice.cfg` (R180). -/
def objSliceCfgOp : NcpOp :=
  { opcode := 0x0207, layout := fun _ => [1, 1], staged := never, key := keyBytes 1, body := objSliceCfgBody }

def execObjSliceCfg (rq : Request) (s : State) : Host.Outcome State Fault Refusal := .next (serve objSliceCfgOp rq s)

def objSliceStatusBody (rq : Request) (s : State) : Reply :=
  let sl := byteAt rq.payload 0
  if s.member.slices ≤ sl then badArg 0 s
  else
    let n := sliceCount s sl
    let c := fun k => min (counter s (0x0500 + 8 * sl + k)) 0xFFFFFFFF
    replyOk (bytesLE 1 n ++ bytesLE 1 (flag (sliceH128 s sl)) ++ bytesLE 2 0 ++ bytesLE 4 (pairRate s n)
      ++ bytesLE 4 ((pairBudget - n * admissionS s * frHz s) / 1000) ++ bytesLE 4 (c 0) ++ bytesLE 4 (c 1)
      ++ bytesLE 4 (min (counter s (0x0500 + 8 * sl + 2) + counter s (0x0500 + 8 * sl + 3)) 0xFFFFFFFF)) s

/-- `obj.slice.status`. -/
def objSliceStatusOp : NcpOp :=
  { opcode := 0x0208, layout := fun _ => [1], staged := never, key := noKey, body := objSliceStatusBody }

def execObjSliceStatus (rq : Request) (s : State) : Host.Outcome State Fault Refusal := .next (serve objSliceStatusOp rq s)

/-! ### Staged settings -/

/-- Entries of a bed map or of zone weights: speaker and gain. -/
def gainEntries (p : List Byte) (n : Nat) : List (Nat × Int) :=
  (List.range n).map fun i => (fieldLE p (4 + 4 * i) 2, fieldS p (6 + 4 * i) 2)

/-- The field of the first entry that is missing from the payload or names a speaker that is not in the staged table (R196). -/
def gainEntryRefusal (s : State) (p : List Byte) (n : Nat) : Option Nat :=
  if p.length < 4 + 4 * n then some (4 + (p.length - 4) / 4 * 4)
  else ((gainEntries p n).zipIdx.find? fun e => decide (s.rend.geoStage.table.recs.length ≤ e.1.1)).map fun e => 4 + 4 * e.2

def objBedMapBody (rq : Request) (s : State) : Reply :=
  let n := byteAt rq.payload 0
  match activeObj s rq.flow with
  | none => badArg noField s
  | some _ =>
    if 16 < n then badArg 0 s
    else match gainEntryRefusal s rq.payload n with
      | some f => badArg f s
      | none => replyOk [] { s with rend.bedStage := mapSet s.rend.bedStage rq.flow (gainEntries rq.payload n) }

/-- `obj.bed.map` (R175). -/
def objBedMapOp : NcpOp :=
  { opcode := 0x0209, layout := fun _ => [1, 3], staged := always, key := keyBytes 0, body := objBedMapBody }

def execObjBedMap (rq : Request) (s : State) : Host.Outcome State Fault Refusal := .next (serve objBedMapOp rq s)

def objZoneWeightsBody (rq : Request) (s : State) : Reply :=
  let n := fieldLE rq.payload 0 2
  match activeObj s rq.flow with
  | none => badArg noField s
  | some _ =>
    if 251 < n then badArg 0 s
    else match gainEntryRefusal s rq.payload n with
      | some f => badArg f s
      | none => replyOk [] { s with rend.zoneStage := mapSet s.rend.zoneStage rq.flow (gainEntries rq.payload n) }

/-- `obj.zone.weights` (R196). -/
def objZoneWeightsOp : NcpOp :=
  { opcode := 0x020A, layout := fun _ => [2, 2], staged := always, key := keyBytes 0, body := objZoneWeightsBody }

def execObjZoneWeights (rq : Request) (s : State) : Host.Outcome State Fault Refusal := .next (serve objZoneWeightsOp rq s)

def objUpdateCfgBody (rq : Request) (s : State) : Reply :=
  let u := byteAt rq.payload 0
  if u = 8 ∨ u = 16 ∨ u = 32 ∨ u = 64 then replyOk [] { s with rend.geoStage.period := u } else badArg 0 s

/-- `obj.update.cfg` (R193). -/
def objUpdateCfgOp : NcpOp :=
  { opcode := 0x020B, layout := fun _ => [1], staged := always, key := keyBytes 0, body := objUpdateCfgBody }

def execObjUpdateCfg (rq : Request) (s : State) : Host.Outcome State Fault Refusal := .next (serve objUpdateCfgOp rq s)

def objEomsCfgBody (rq : Request) (s : State) : Reply :=
  let p := rq.payload
  let h := fieldLE p 0 2
  let base := fieldLE p 2 2
  let n := fieldLE p 4 2
  let f := byteAt p 6
  match mapFind s.net.rx h with
  | none => badArg 0 s
  | some st =>
    if st.kind ≠ 2 then badArg 0 s
    else if 2048 ≤ base then badArg 2 s
    else if n < 1 ∨ 2048 < n then badArg 4 s
    else replyOk [] { s with net.rx := mapSet s.net.rx h { st with eomsOn := bit f 0, eomsRel := bit f 1, eomsBase := base, eomsCount := n } }

/-- `obj.eoms.cfg` (R198). -/
def objEomsCfgOp : NcpOp :=
  { opcode := 0x020C, layout := fun _ => [2, 2, 2, 1, 1], staged := never, key := keyBytes 2, body := objEomsCfgBody }

def execObjEomsCfg (rq : Request) (s : State) : Host.Outcome State Fault Refusal := .next (serve objEomsCfgOp rq s)

end Sys2Proof.Machine
end

