-- ==== Sys2Proof/Machine/Journal.lean ====
section
/-! DEFINITION. The checkpoint journal of the EVR-8 (R536 to R538): its entries, batches and base records in the two mirrors. -/

namespace Sys2Proof.Machine

/-- Where half `half` of a mirror begins: banks 240 to 255 of its Tarn. -/
def mirrorAddr (die half : Nat) : Nat := pondAddr die 240 0 + half * 0x80000
def mirrorTarns : List Nat := [2, 4]
def getMirror (s : State) (die : Nat) : Mirror := mapGet mirror0 s.sys.red.mirrors die

/-- Settings that are not journalled: interpolator, SOS, FIR and sense sets. -/
def bulkOp (op : Nat) : Bool := op == 0x0401 || op == 0x0402 || op == 0x0908 || op == 0x0B01

/-- An entry: class, key, length and data. The class is the opcode of the NCP form and the key the flow. DEDUCED, log 97. -/
def journalEntry (op flow : Nat) (data : List Byte) : List Byte := bytesLE 2 op ++ bytesLE 2 flow ++ bytesLE 4 data.length ++ data

/-- A record in force as an entry; of a Ripple program only its digest, length and core. -/
def recEntry (r : Rec) : List Byte :=
  if bulkOp r.opcode then []
  else if r.opcode = 0x0A00 then
    let image := r.payload.drop 20
    journalEntry r.opcode r.flow (r.payload.take 4 ++ bytesLE 4 image.length ++ bytesBE 48 (Config.sha384 image).toNat)
  else journalEntry r.opcode r.flow r.payload

/-- The time record: index, PTP time of its tick, Δ, increment and reference. -/
def timeEntry (s : State) : List Byte :=
  journalEntry 0xFF02 0xFFFF (bytesLE 8 s.time.index ++ bytesLE 8 s.time.tickSec ++ bytesLE 4 s.time.tickNs
    ++ bytesS 8 s.time.mclk.delta ++ bytesLE 8 s.time.ptp.incr ++ bytesLE 1 s.time.mclk.ref)

/-- An armed commit, with C and its die mask. -/
def commitEntry (s : State) : List Byte := match s.msg.commit with
  | some c => if c.armSent then journalEntry 0xFF01 0xFFFF (bytesLE 8 c.c ++ bytesLE 1 (maskOf c.dies)) else []
  | none => []

/-- The slot booted and its generation. -/
def slotEntry (s : State) : List Byte :=
  journalEntry 0xFF00 0xFFFF (bytesLE 1 (s.sys.spring.slot.getD 0xFF) ++ bytesLE 4 s.sys.spring.generation)

/-- A record of a kind over entries, with its CRC. DEDUCED, log 97. -/
def journalRecord (s : State) (kind : Nat) (entries : List Byte) : List Byte :=
  let body := bytesLE 4 kind ++ bytesLE 4 (28 + entries.length) ++ bytesLE 8 s.sys.red.journalSeq ++ bytesLE 8 s.time.index ++ entries
  body ++ bytesLE 4 (crc32 body).toNat

/-- A base record: everything in force. -/
def baseRecord (s : State) : List Byte :=
  let objs := s.rend.objs.flatMap fun e => journalEntry 0x0202 e.1 (objCfgPayload e.2.record)
  journalRecord s 1 (s.msg.ncp.records.flatMap recEntry ++ objs ++ slotEntry s ++ commitEntry s ++ timeEntry s)

/-- A batch: what has changed since the one before, and the time. DEDUCED, log 97. -/
def batchRecord (s : State) : List Byte := journalRecord s 2 (s.sys.red.dirty.flatMap recEntry ++ commitEntry s ++ timeEntry s)

/-- A batch written to one mirror, or a base record into the other half when it would not fit; a mirror that holds nothing starts with a base. -/
def writeMirror (s : State) (die : Nat) : State :=
  if !powered s die ∨ !reaches s (activeShore s) die then s
  else
    let m := getMirror s die
    let batch := batchRecord s
    let base := baseRecord s
    let put := fun (half pos : Nat) (bs : List Byte) =>
      writeBytes (mirrorAddr die half + pos) bs
        { s with sys.red.mirrors := mapSet s.sys.red.mirrors die { half := half, pos := pos + bs.length } }
    if m.pos = 0 then put m.half 0 base
    else if m.pos + batch.length ≤ 0x80000 then put m.half m.pos batch
    else put (1 - m.half) 0 base

/-- The settings as the journal has them after a batch. DEDUCED, log 97. -/
def snapshot (s : State) : Snapshot :=
  { records := s.msg.ncp.records, objs := s.rend.objs.map fun (e : Nat × Obj) => (e.1, e.2.record), route := s.route, net := s.net
    mgmt := s.msg.ncp.mgmt, ptp := s.time.ptp, mclk := s.time.mclk, window := s.sys.red.window, slot := s.sys.spring.slot
    generation := s.sys.spring.generation, commit := s.msg.commit, staged := s.msg.ncp.stagedRecs, index := s.time.index
    tickSec := s.time.tickSec, tickNs := s.time.tickNs }

/-- A batch of the active Shore, first to Tarn 2 and then to Tarn 4. -/
def writeJournal (s : State) : State :=
  if s.member ≠ .evr8 then s
  else
    let s := { s with sys.red.journalSeq := s.sys.red.journalSeq + 1, journal := some (snapshot s) }
    let s := mirrorTarns.foldl writeMirror s
    count 0x6804 { s with sys.red.dirty := [], sys.red.lastJournal := s.time.index }

/-- JOURNAL_BATCH: every 10 ms (R537). -/
def execJournalBatch (s : State) : Host.Outcome State Fault Refusal :=
  .next (if nerrisUp s ∧ partReady s then writeJournal s else s)

/-- Sequence of the base record at the start of a half, when its CRC is valid (R538). -/
def baseAt (s : State) (die half : Nat) : Option Nat :=
  let a := mirrorAddr die half
  let h := readBytes s a 24
  let n := fieldLE h 4 4
  if !powered s die ∨ fieldLE h 0 4 ≠ 1 ∨ n < 28 ∨ 0x80000 < n then none
  else if (crc32 (readBytes s a (n - 4))).toNat = fieldLE (readBytes s (a + n - 4) 4) 0 4 then some (fieldLE h 8 8) else none

/-- Some mirror holds a valid base. -/
def journalValid (s : State) : Bool := mirrorTarns.any fun d => (baseAt s d 0).isSome || (baseAt s d 1).isSome

end Sys2Proof.Machine
end

