-- ==== Sys2Proof/Machine/Flags.lean ====
section
/-! DEFINITION. Results and flags of the Ripple instructions (R303 to R306, R309). -/

namespace Sys2Proof.Machine

/-- A result with what it does to the flags: Z and N of the result when `zn`, C and V where they change, and whether SV sets. -/
structure AluResult where
  value : Word
  c     : Option Bool
  v     : Option Bool
  sv    : Bool
  deriving DecidableEq, Repr

/-- FLAGS with Z and N of a result and the C and V that change: [0] Z, [1] N, [2] C, [3] V (R298). -/
def flagsOf (r : AluResult) (f : BitVec 4) : BitVec 4 :=
  BitVec.ofNat 4 (flagAt (r.value == 0) 0 + flagAt r.value.msb 1 + flagAt (r.c.getD (f.getLsbD 2)) 2
    + flagAt (r.v.getD (f.getLsbD 3)) 3)

/-- ADD: carry out and signed overflow. -/
def aluAdd (x y : Word) : AluResult :=
  { value := x + y, c := some (decide (2 ^ 32 ≤ x.toNat + y.toNat)), v := some ((x + y).toInt != x.toInt + y.toInt), sv := false }
/-- SUB and CMP: C is 1 when there is no borrow. -/
def aluSub (x y : Word) : AluResult :=
  { value := x - y, c := some (decide (y.toNat ≤ x.toNat)), v := some ((x - y).toInt != x.toInt - y.toInt), sv := false }
/-- An exact result saturated: V is 1 when it was, and SV sets. -/
def aluSat (r : Int) : AluResult :=
  let t := satInt 32 r
  { value := BitVec.ofInt 32 t, c := none, v := some (t != r), sv := t != r }
def aluAdds (x y : Word) : AluResult := aluSat (x.toInt + y.toInt)
def aluSubs (x y : Word) : AluResult := aluSat (x.toInt - y.toInt)
/-- AND, OR, XOR, MIN, MAX, MUL: C and V unchanged. -/
def aluPlain (r : Word) : AluResult := { value := r, c := none, v := none, sv := false }
def aluAnd (x y : Word) : AluResult := aluPlain (x &&& y)
def aluOr (x y : Word) : AluResult := aluPlain (x ||| y)
def aluXor (x y : Word) : AluResult := aluPlain (x ^^^ y)
def aluMin (x y : Word) : AluResult := aluPlain (if x.toInt ≤ y.toInt then x else y)
def aluMax (x y : Word) : AluResult := aluPlain (if x.toInt ≤ y.toInt then y else x)
/-- MUL: bits [31:0] of the signed product. -/
def aluMul (x y : Word) : AluResult := aluPlain (x * y)
/-- The shift count: bits [5:0] of the second operand. -/
def shiftCount (y : Word) : Nat := y.toNat % 64
/-- SHL: C is the last bit shifted out, 0 for a shift of 0. -/
def aluShl (x y : Word) : AluResult :=
  let n := shiftCount y
  { value := if n < 32 then x <<< n else 0, c := some (decide (0 < n) && decide (n ≤ 32) && x.getLsbD (32 - n)), v := none, sv := false }
def aluShr (x y : Word) : AluResult :=
  let n := shiftCount y
  { value := if n < 32 then x >>> n else 0, c := some (decide (0 < n) && x.getLsbD (n - 1)), v := none, sv := false }
/-- SAR: the sign fills every bit from a count of 32 on. -/
def aluSar (x y : Word) : AluResult :=
  let n := shiftCount y
  { value := x.sshiftRight n, c := some (decide (0 < n) && (if n ≤ 32 then x.getLsbD (n - 1) else x.msb)), v := none, sv := false }
/-- ABS and NEG: −2³¹ gives 2³¹ − 1, with V and SV. -/
def aluAbs (x : Word) : AluResult := aluSat (if x.toInt < 0 then -x.toInt else x.toInt)
def aluNeg (x : Word) : AluResult := aluSat (-x.toInt)

/-- A condition code of BR (R308) on FLAGS and STICKY. -/
def condition (cc : Nat) (f : BitVec 4) (sticky : BitVec 8) : Bool :=
  let z := f.getLsbD 0
  let n := f.getLsbD 1
  let c := f.getLsbD 2
  let v := f.getLsbD 3
  match cc with
  | 0 => true
  | 1 => z
  | 2 => !z
  | 3 => n
  | 4 => !n
  | 5 => c
  | 6 => !c
  | 7 => v
  | 8 => !v
  | 9 => !z && n == v
  | 10 => n == v
  | 11 => n != v
  | 12 => z || n != v
  | 13 => sticky.getLsbD 0
  | 14 => sticky.getLsbD 1 || sticky.getLsbD 2 || sticky.getLsbD 3 || sticky.getLsbD 4
  | _ => false

/-- The exact result of a MAC, MSU or ADDA, kept in 72 bits or pinned (R304): the value and whether it pins. -/
def accFit (r : Int) : BitVec 72 × Bool :=
  if r < -(2 ^ 71) then (BitVec.ofInt 72 (-(2 ^ 71)), true)
  else if 2 ^ 71 ≤ r then (BitVec.ofInt 72 (2 ^ 71 - 1), true)
  else (BitVec.ofInt 72 r, false)

/-- EXT: the accumulator over 2^sh, ties towards +∞, saturated to a word (R305). -/
def accExt (a : BitVec 72) (sh : Nat) : AluResult :=
  aluSat (if sh = 0 then a.toInt else (a.toInt + 2 ^ (sh - 1)) / 2 ^ sh)

/-- MOVA: a part of the accumulator (R305). -/
def accPart (a : BitVec 72) (part : Nat) : Word :=
  match part with
  | 0 => a.extractLsb' 0 32
  | 1 => a.extractLsb' 32 32
  | _ => (a.extractLsb' 64 8).signExtend 32

end Sys2Proof.Machine
end

