-- ==== Sys2Proof/Machine/Operands.lean ====
section
/-! DEFINITION. Operands of the Ripple instructions: registers (R297, R298), immediates (R309), post-modification (R301), the data space (R299), and the issue of an instruction with its repeats, stalls and traps (R313, R314, R319). -/

namespace Sys2Proof.Machine

def getCore (s : State) (n : Nat) : Core := mapGet core0 s.cores n
def setCore (n : Nat) (c : Core) (s : State) : State := { s with cores := mapSet s.cores n c }

/-- A data register. -/
def Core.dreg (c : Core) (r : Nat) : Word := mapGet (fun _ => 0) c.d r
def Core.setD (c : Core) (r : Nat) (v : Word) : Core := { c with d := mapSet c.d r v }
def Core.areg (c : Core) (r : Nat) : Word := mapGet (fun _ => 0) c.a r
def Core.mreg (c : Core) (r : Nat) : Word := mapGet (fun _ => 0) c.m r
def Core.breg (c : Core) (r : Nat) : Word := mapGet (fun _ => 0) c.b r
def Core.lreg (c : Core) (r : Nat) : Word := mapGet (fun _ => 0) c.l r
def Core.accv (c : Core) (r : Nat) : BitVec 72 := mapGet (fun _ => 0) c.acc r

/-- A register by the 5-bit number of MOVX (R297). -/
def Core.xreg (c : Core) (xr : Nat) : Word :=
  if xr < 8 then c.areg xr else if xr < 16 then c.mreg (xr - 8) else if xr < 24 then c.breg (xr - 16) else c.lreg (xr - 24)

/-- The same written; bits [1:0] of B and L and [31:24] of L ignore writes. -/
def Core.setX (c : Core) (xr : Nat) (v : Word) : Core :=
  if xr < 8 then { c with a := mapSet c.a xr v }
  else if xr < 16 then { c with m := mapSet c.m (xr - 8) v }
  else if xr < 24 then { c with b := mapSet c.b (xr - 16) (v &&& 0xFFFFFFFC#32) }
  else { c with l := mapSet c.l (xr - 24) (v &&& 0x00FFFFFC#32) }

/-- The 16-bit immediate of an ALU instruction: zero-extended for AND, OR and XOR, sign-extended otherwise (R309). -/
def immZero (i : BitVec 16) : Word := i.setWidth 32
def immSign (i : BitVec 16) : Word := i.signExtend 32

/-- An address register after an offset: linear, or circular in Ln bytes from Bn (R301). -/
def Core.stepA (c : Core) (n : Nat) (o : Int) : Core :=
  let an := c.areg n
  let ln := (c.lreg n).toNat
  let bn := (c.breg n).toNat
  let v := if ln = 0 then BitVec.ofInt 32 ((an.toNat : Int) + o)
    else BitVec.ofInt 32 ((bn : Int) + ((an.toNat : Int) + o - bn) % (ln : Int))
  { c with a := mapSet c.a n v }

/-- The offset of a post-modification, in bytes. -/
def Core.offset (c : Core) : PostMod → Int
  | .modifier m => (c.mreg m).toInt
  | .imm v => 4 * v.toInt

/-- Where a data address leads (R299). -/
inductive CoreTarget where
  | window (slot off : Nat)
  | block (off : Nat)
  | tarnReg (off : Nat)
  | far (addr : Nat)
  | misaligned
  | unmapped
  deriving DecidableEq, Repr

/-- The mapping of a core's data space. -/
def Core.target (c : Core) (addr : Word) : CoreTarget :=
  let a := addr.toNat
  if a % 4 ≠ 0 then .misaligned
  else if a < 0x80000 then
    if mapHas c.windows (a / 0x10000) then .window (a / 0x10000) (a % 0x10000) else .unmapped
  else if 0x100000 ≤ a ∧ a < 0x101000 then .block (a - 0x100000)
  else if 0x400000 ≤ a ∧ a < 0x500000 then .tarnReg a
  else if 0x80000000 ≤ a ∧ a < 0x81000000 then .far (c.far.toNat * 2 ^ 24 + a % 2 ^ 24)
  else .unmapped

/-- STICKY bits set by hardware: SV 0, PIN 1 to 4, BERR 5, PERR 6, STALE 7 (R298). -/
def Core.stick (c : Core) (k : Nat) : Core := { c with sticky := c.sticky ||| BitVec.ofNat 8 (2 ^ k) }

/-! ### Stalls (R313) -/

/-- What the instruction before wrote, by kind: 0 a load into D, 1 MUL, EXT or MOVA into D, 2 MOVX into a register by number, 3 an accumulator, 4 FLAGS by MOVC. -/
abbrev Written := Nat × Nat

/-- What an instruction uses: D as a multiplier operand, D otherwise, an address register with its base and length, an offset register, an accumulator read by EXT or MOVA, FLAGS by a conditional branch. -/
inductive Use where
  | mulD (r : Nat)
  | otherD (r : Nat)
  | addr (n : Nat)
  | offset (m : Nat)
  | accRead (a : Nat)
  | cond
  deriving DecidableEq, Repr

/-- Whether a use of what the instruction before wrote stalls one cycle. -/
def stalls (w : Written) : Use → Bool
  | .mulD r => w.1 == 1 && w.2 == r
  | .otherD r => (w.1 == 0 || w.1 == 1) && w.2 == r
  | .addr n => w.1 == 2 && w.2 % 8 == n && w.2 / 8 != 1
  | .offset m => w.1 == 2 && w.2 == 8 + m
  | .accRead a => w.1 == 3 && w.2 == a
  | .cond => w.1 == 4

/-- Cycles of an instruction: 1, a stall, and its own penalty. -/
def Core.spend (c : Core) (uses : List Use) (extra : Nat) (writes : List Written) : Core :=
  let stall := if uses.any fun u => c.hazard.any fun w => stalls w u then 1 else 0
  let n := 1 + stall + extra
  { c with cycles := min 0xFFFFFFFF (c.cycles + n), busy := min 0xFFFFFFFF (c.busy + n), hazard := writes }

/-! ### Issue, repeats and traps -/

/-- A core that issues instructions: present, powered, running and not in WAIT. DEDUCED, log 9. -/
def issues (s : State) (n : Nat) : Bool :=
  decide (n < s.member.cores) && powered s (coreDie n) && (getCore s n).st == .running && (getCore s n).waiting.isNone

/-- The word after the instruction, modulo 16,384; within a repeat, the same word until its last iteration (R314, R328). DEDUCED, log 32. -/
def Core.advance (c : Core) : Core :=
  match c.rep with
  | some (k + 2) => { c with rep := some (k + 1) }
  | _ => { c with rep := none, pc := (c.pc + 1) % 16384 }

/-- A trap: the core stops, its cause, code and word index are recorded, and Nerris sends `rpl.trap` in class 17 (R319). -/
def trapCore (n cause code : Nat) (s : State) : State :=
  let c := getCore s n
  let t := setCore n { c with st := .trapped, cause := cause, code := code, trapPc := c.pc, rep := none, waiting := none } s
  event 17 (coreDie n) 0x0A80 n (bytesLE 1 n ++ bytesLE 1 cause ++ bytesLE 2 0 ++ bytesLE 4 c.pc) t

/-- An instruction that has written its results into `c` ends: its cycles are spent and the word index moves on. DEDUCED, log 9. -/
def completes (n : Nat) (uses : List Use) (extra : Nat) (writes : List Written) (c : Core) (s : State) : State :=
  setCore n (c.spend uses extra writes).advance s

/-- An instruction of a class that a repeat may hold: it acts on a core that issues. DEDUCED, log 9. -/
def issue (n : Nat) (s : State) (f : Core → State → State) : State :=
  if issues s n then f (getCore s n) s else s

/-- An instruction of class 0x0: within a repeat it is illegal and traps with cause 1 (R314). -/
def issueControl (n : Nat) (s : State) (f : Core → State → State) : State :=
  if issues s n then
    if (getCore s n).rep.isSome then trapCore n 1 0 s else f (getCore s n) s
  else s

/-- An ALU instruction that writes Dd. -/
def aluInto (n dd : Nat) (uses : List Use) (writes : List Written) (r : AluResult) (c : Core) (s : State) : State :=
  let c1 := { c.setD dd r.value with flags := flagsOf r c.flags }
  completes n uses 0 writes (if r.sv then c1.stick 0 else c1) s

/-- CMP and CMPI: flags only. -/
def aluCompare (n : Nat) (uses : List Use) (r : AluResult) (c : Core) (s : State) : State :=
  completes n uses 0 [] { c with flags := flagsOf r c.flags } s

/-- A two-register ALU instruction. -/
def aluReg (f : Word → Word → AluResult) (n : Nat) (dd ds1 ds2 : Fin 16) (s : State) : State :=
  issue n s fun c t => aluInto n dd [.otherD ds1, .otherD ds2] [] (f (c.dreg ds1) (c.dreg ds2)) c t

/-- A register-immediate ALU instruction. -/
def aluImm (f : Word → Word → AluResult) (n : Nat) (dd ds1 : Fin 16) (imm : Word) (s : State) : State :=
  issue n s fun c t => aluInto n dd [.otherD ds1] [] (f (c.dreg ds1) imm) c t

/-- An ALU instruction of one register. -/
def aluOne (f : Word → AluResult) (n : Nat) (dd ds1 : Fin 16) (s : State) : State :=
  issue n s fun c t => aluInto n dd [.otherD ds1] [] (f (c.dreg ds1)) c t

/-- A branch to a word, with its cycles. -/
def jump (n : Nat) (uses : List Use) (extra pc : Nat) (c : Core) (s : State) : State :=
  setCore n { c.spend uses extra [] with pc := pc % 16384 } s

end Sys2Proof.Machine
end

