-- ==== Sys2Proof/Machine/Weir.lean ====
section
/-! DEFINITION. The Weir (R487 to R494): its queues and flows, dispatch, age promotion, and `diag.weir.cfg`. -/

namespace Sys2Proof.Machine

/-- Address of WEIR_QCFGq and of WEIR_AGE on the active Shore. -/
def weirCfgAddr (s : State) (q : Nat) : Nat := dieAddr (activeShore s) (0x200000 + 4 * q)
def weirAgeAddr (s : State) : Nat := dieAddr (activeShore s) 0x200104

/-- Default priority, limit and reserve of a queue (R487, R491). -/
def weirPrio0 (q : Nat) : Nat :=
  if q < 8 then q else if q < 13 then 4 else if q = 13 then 6 else if q < 16 then 7 else 3
def weirLimit0 (q : Nat) : Nat := if q < 8 then 2048 else 256
def weirReserve0 (q : Nat) : Nat := if q < 8 ∨ q = 14 then 64 else 16
def weirCfg0 (q : Nat) : Nat := weirPrio0 q + weirLimit0 q * 16 + weirReserve0 q * 2 ^ 19

def weirCfg (s : State) (q : Nat) : Nat := regOr s (weirCfg0 q) (weirCfgAddr s q)
def weirPrio (s : State) (q : Nat) : Nat := bits (weirCfg s q) 2 0
def weirLimit (s : State) (q : Nat) : Nat := bits (weirCfg s q) 18 4
def weirReserve (s : State) (q : Nat) : Nat := bits (weirCfg s q) 29 19
/-- The age limit of R490 in µs. -/
def weirAge (s : State) : Nat := regOr s 2000 (weirAgeAddr s) % 16384

def getQueue (s : State) (q : Nat) : WeirQueue := mapGet weirQueue0 s.msg.weir.queues q
def setQueue (q : Nat) (x : WeirQueue) (s : State) : State :=
  { s with msg.weir.queues := mapSet s.msg.weir.queues q x }

def weirDepth (s : State) (q : Nat) : Nat := (getQueue s q).items.length
/-- Descriptors free in the pool. -/
def weirFree (s : State) : Nat :=
  16384 - ((List.range 32).map (weirDepth s)).sum - s.msg.weir.inService.length

/-- Whether a queue may take a descriptor: below its limit, with the unused reserve of every other queue kept (R491). -/
def weirMayTake (s : State) (q : Nat) : Bool :=
  decide (weirDepth s q < weirLimit s q)
    && decide ((((List.range 32).filter (· ≠ q)).map fun p => weirReserve s p - weirDepth s p).sum < weirFree s)

/-- Whether a descriptor index is in use. -/
def weirUsed (s : State) (i : Nat) : Bool :=
  s.msg.weir.inService.any (fun e => e.1 == i)
    || (List.range 32).any fun q => (getQueue s q).items.any fun it => it.index == i

/-- A flow joins its queue's ready flows unless it is there or in service (R489). -/
def weirReady (q flow : Nat) (s : State) : State :=
  let x := getQueue s q
  if x.ready.any (fun r => r.1 == flow) || s.msg.weir.inService.any (fun e => e.2.1 == flow) then s
  else setQueue q { x with ready := x.ready ++ [(flow, s.now)] } s

/-- An item offered to a queue: enqueued, or its source is back-pressured (R487, R491). -/
def weirOffer (q flow kind len src data : Nat) (s : State) : State × Bool :=
  let x := getQueue s q
  if weirMayTake s q then
    let i := ((List.range 16384).find? fun i => !weirUsed s i).getD 0
    let it : WeirItem := { index := i, flow := flow, kind := kind, len := len, src := src, data := data, at_ := s.msg.weir.arrivals,
                            flags := 0, sec := 0, ns := 0, frac := 0 }
    let s := setQueue q { x with items := x.items ++ [it], bp := false } s
    let s := { s with msg.weir.arrivals := s.msg.weir.arrivals + 1 }
    let s := countPeak (0x6002 + 4 * q) (weirDepth s q) (count (0x6000 + 4 * q) s)
    (weirReady q flow s, true)
  else
    let s := if x.bp then s else count (0x6001 + 4 * q) (setQueue q { x with bp := true } s)
    let s := if weirFree s = 0 then count 0x6080 s else s
    let s := if q = 13 then count 0x6081 s else if q = 14 then count 0x6082 s else s
    (s, false)

def weirPush (q flow kind len src data : Nat) (s : State) : State := (weirOffer q flow kind len src data s).1

/-- The flow of a request's ordering key (R136, R488); the flows of the keys that R488 leaves to Nerris are those of its senders. -/
def requestFlow (sender op flow : Nat) : Nat :=
  if op / 256 = 2 ∧ flow < 2048 then flow
  else if (op / 256 = 3 ∨ op / 256 = 4) ∧ flow < 512 then 2240 + flow
  else if op / 256 = 4 ∧ flow < 544 then 2240 + flow
  else if sender = 0x0001 then 2790
  else if sender = 0x0010 then 2791
  else 2792 + sender % 256

/-- The queues that have a ready flow. -/
def weirWaiting (s : State) : List Nat := (List.range 32).filter fun q => !(getQueue s q).ready.isEmpty

/-- The queue that the next dispatch serves (R489, R490): levels 7 and 6, then promoted queues, then the levels below; round robin within a level. DEDUCED, log 90. -/
def weirNext (s : State) : Option Nat :=
  let waiting := weirWaiting s
  let level := fun p => waiting.filter fun q => weirPrio s q == p
  let robin := fun p =>
    let l := level p
    let last := mapGet (fun _ => 32) s.msg.weir.lastAt p
    match l.find? (fun q => decide (last < q)) with
    | some q => some q
    | none => l.head?
  match robin 7 with
  | some q => some q
  | none =>
    match robin 6 with
    | some q => some q
    | none =>
      match s.msg.weir.promoted.find? (fun q => waiting.contains q) with
      | some q => some q
      | none => [5, 4, 3, 2, 1, 0].findSome? robin

/-- WEIR_DISPATCH: the oldest ready flow of the queue chosen gives its oldest item to its server and stays in service. DEDUCED, log 90. -/
def execWeirDispatch (s : State) : Host.Outcome State Fault Refusal :=
  .next (match weirNext s with
    | none => s
    | some q =>
      let x := getQueue s q
      match x.ready with
      | [] => s
      | (flow, _) :: rest =>
        match x.items.find? (fun it => it.flow == flow) with
        | none => setQueue q { x with ready := rest } s
        | some it =>
          let s := setQueue q { x with ready := rest, items := x.items.erase it, bp := false } s
          { s with
            msg.weir.inService := s.msg.weir.inService ++ [(it.index, flow, q)]
            msg.weir.lastAt := mapSet s.msg.weir.lastAt (weirPrio s q) q
            msg.weir.promoted := s.msg.weir.promoted.erase q })

/-- The queue that holds the oldest item of a flow. -/
def weirOldest (s : State) (flow : Nat) : Option Nat :=
  let all := (List.range 32).flatMap fun q => ((getQueue s q).items.filter (fun it => it.flow == flow)).map fun it => (it.at_, q)
  (all.foldl (fun (best : Option (Nat × Nat)) e =>
    match best with
    | none => some e
    | some b => if e.1 < b.1 then some e else some b) none).map (·.2)

/-- An item leaves service: its descriptor and receive buffer are free, and its flow is ready again if it holds an item (R489, R492). -/
def weirFinish (index : Nat) (s : State) : State :=
  match s.msg.weir.inService.find? (fun e => e.1 == index) with
  | none => s
  | some e =>
    let s := { s with msg.weir.inService := s.msg.weir.inService.erase e, msg.weir.buffers := mapErase s.msg.weir.buffers index }
    match weirOldest s e.2.1 with
    | none => s
    | some q => weirReady q e.2.1 s

/-- WEIR_DONE: written by the item's server, Nerris or a hardware server; another master's write is discarded (R493). -/
def execWeirDone (m : Master) (index : Nat) (s : State) : Host.Outcome State Fault Refusal :=
  .next (match m with
    | .controlCluster => busOk [] (weirFinish (index % 16384) s)
    | .weirDma => weirFinish (index % 16384) s
    | _ => busErr s)

/-- WEIR_AGE_PROMOTION: the queue's oldest ready flow has waited beyond the age limit; 0 disables it (R490). DEDUCED, log 90. -/
def execWeirAgePromotion (queue : Nat) (s : State) : Host.Outcome State Fault Refusal :=
  .next (if weirAge s ≠ 0 ∧ queue < 32 ∧ !(getQueue s queue).ready.isEmpty ∧ !s.msg.weir.promoted.contains queue then
    count (0x6003 + 4 * queue) { s with msg.weir.promoted := s.msg.weir.promoted ++ [queue] }
  else s)

/-- `diag.weir.cfg`: limits 1 to 16,384, reserves 0 to 2047, the age limit 0 or 100 to 10,000 µs; queues 14 and 15 keep priority 7. DEDUCED, log 90. -/
def weirCfgOp : NcpOp :=
  { opcode := 0x0E06, layout := fun _ => [1, 1, 2, 2, 2], staged := never, key := keyBytes 1
    body := fun rq s =>
      let p := rq.payload
      let q := byteAt p 0
      let prio0 := byteAt p 1
      let limit0 := fieldLE p 2 2
      let reserve0 := fieldLE p 4 2
      let age0 := fieldLE p 6 2
      if 32 ≤ q then badArg 0 s
      else
        let prio := if q = 14 ∨ q = 15 then 7 else min 7 prio0
        let limit := clampNat 1 16384 limit0
        let reserve := min 2047 reserve0
        let age := if age0 = 0 then 0 else clampNat 100 10000 age0
        let total := (((List.range 32).filter (· ≠ q)).map (weirReserve s)).sum + reserve
        if 16384 < total then badArg 4 s
        else
          let used := bytesLE 1 q ++ bytesLE 1 prio ++ bytesLE 2 limit ++ bytesLE 2 reserve ++ bytesLE 2 age
          let t := regPut (weirAgeAddr s) age (regPut (weirCfgAddr s q) (prio + limit * 16 + reserve * 2 ^ 19) s)
          let lim := firstBad [(1, prio == prio0), (2, limit == limit0), (4, reserve == reserve0), (6, age == age0)]
          replyUsed lim used [] t }

def execDiagWeirCfg (rq : Request) (s : State) : Host.Outcome State Fault Refusal := .next (serve weirCfgOp rq s)

end Sys2Proof.Machine
end

