-- ==== Sys2Proof/WellFormed.lean ====
section
/-! DEFINITION. Which commands name something that exists: dies, cores, ports, channels and access sizes in their ranges. An ill-formed command is no command of the block; `exec` is total on it all the same. -/

namespace Sys2Proof

/-- The access sizes of R12 and R40: 1, 2 or 4 bytes. DEDUCED, log 4. -/
def accessSize (size : Nat) : Bool := size == 1 || size == 2 || size == 4

/-- A master that exists: 64 Ripple cores (R297), wardens on dies 2 to 5 (R532). -/
def Master.wf : Master → Bool
  | .ripple c => decide (c < 64)
  | .warden d => decide (2 ≤ d) && decide (d < 6)
  | _ => true

/-- A request that a transport can carry: 16-bit sender, 16-bit sequence, 16-bit flow, 8-bit version and flags, a payload of at most 1008 bytes (R105, R129), a session of R168. -/
def Request.wf (rq : Request) : Bool :=
  decide (rq.sender < 65536) && decide (rq.seq < 65536) && decide (rq.flow < 65536)
    && decide (rq.version < 256) && decide (rq.flags < 256) && decide (rq.session < 4)
    && decide (rq.payload.length ≤ 1008)

/-- Whether every operand of a command lies in the range of what it names. -/
def Instr.wf : Instr → Bool
  | .nop core => decide (core < 64)
  | .repImm core _ => decide (core < 64)
  | .repReg core _ => decide (core < 64)
  | .br core _ _ => decide (core < 64)
  | .call core _ => decide (core < 64)
  | .ret core => decide (core < 64)
  | .reti core => decide (core < 64)
  | .dbnz core _ _ => decide (core < 64)
  | .wait core _ => decide (core < 64)
  | .ei core => decide (core < 64)
  | .di core => decide (core < 64)
  | .clrs core _ => decide (core < 64)
  | .trap core _ => decide (core < 64)
  | .halt core => decide (core < 64)
  | .add core _ _ _ => decide (core < 64)
  | .sub core _ _ _ => decide (core < 64)
  | .adds core _ _ _ => decide (core < 64)
  | .subs core _ _ _ => decide (core < 64)
  | .and core _ _ _ => decide (core < 64)
  | .or core _ _ _ => decide (core < 64)
  | .xor core _ _ _ => decide (core < 64)
  | .shl core _ _ _ => decide (core < 64)
  | .shr core _ _ _ => decide (core < 64)
  | .sar core _ _ _ => decide (core < 64)
  | .min core _ _ _ => decide (core < 64)
  | .max core _ _ _ => decide (core < 64)
  | .abs core _ _ => decide (core < 64)
  | .neg core _ _ => decide (core < 64)
  | .cmp core _ _ => decide (core < 64)
  | .mul core _ _ _ => decide (core < 64)
  | .addi core _ _ _ => decide (core < 64)
  | .subi core _ _ _ => decide (core < 64)
  | .addsi core _ _ _ => decide (core < 64)
  | .subsi core _ _ _ => decide (core < 64)
  | .andi core _ _ _ => decide (core < 64)
  | .ori core _ _ _ => decide (core < 64)
  | .xori core _ _ _ => decide (core < 64)
  | .shli core _ _ _ => decide (core < 64)
  | .shri core _ _ _ => decide (core < 64)
  | .sari core _ _ _ => decide (core < 64)
  | .mini core _ _ _ => decide (core < 64)
  | .maxi core _ _ _ => decide (core < 64)
  | .absi core _ _ _ => decide (core < 64)
  | .negi core _ _ _ => decide (core < 64)
  | .cmpi core _ _ => decide (core < 64)
  | .muli core _ _ _ => decide (core < 64)
  | .ld core _ _ _ => decide (core < 64)
  | .st core _ _ _ => decide (core < 64)
  | .mac core _ _ _ _ _ => decide (core < 64)
  | .msu core _ _ _ _ _ => decide (core < 64)
  | .mpy core _ _ _ _ _ => decide (core < 64)
  | .macu core _ _ _ _ _ => decide (core < 64)
  | .clra core _ => decide (core < 64)
  | .lda core _ _ _ => decide (core < 64)
  | .ext core _ _ _ => decide (core < 64)
  | .mova core _ _ _ => decide (core < 64)
  | .adda core _ _ => decide (core < 64)
  | .mov core _ _ => decide (core < 64)
  | .movxTo core _ _ => decide (core < 64)
  | .movxFrom core _ _ => decide (core < 64)
  | .movcTo core _ _ => decide (core < 64)
  | .movcFrom core _ _ => decide (core < 64)
  | .ldi core _ _ => decide (core < 64)
  | .ldih core _ _ => decide (core < 64)
  | .registerWrite m addr size _ => m.wf && decide (addr < 2 ^ 40) && accessSize size
  | .w1sActionDone addr bit _ => decide (addr < 2 ^ 40) && decide (bit < 32)
  | .vddAoRise _ => true
  | .resetNAssert _ => true
  | .resetNRelease => true
  | .enableHoldEnd => true
  | .railInRange group => decide (group < 6)
  | .sequencerStep => true
  | .railTimeout group => decide (group < 6)
  | .railFault group => decide (group < 6)
  | .railFaultRestart => true
  | .thermalTrip die => decide (die < 8)
  | .dieTemperatureCrossing die _ => decide (die < 8)
  | .pllLock _ _ => true
  | .kyolerTrainingDone link _ _ _ _ _ => decide (link < 17)
  | .imageVerified => true
  | .dramTrainingDone _ _ => true
  | .pondInitDone => true
  | .imageApply => true
  | .networkStart => true
  | .renderStart => true
  | .rollbackFuseBlow => true
  | .kyolerFlitParityError link _ flit => decide (link < 17) && decide (flit < 256)
  | .kyolerRetrain link => decide (link < 17)
  | .kyolerRetrainDone link _ => decide (link < 17)
  | .masterTick _ _ => true
  | .tarnTick die => (decide (2 ≤ die) && decide (die < 6))
  | .tickMarkerRx die _ => decide (die < 8)
  | .holdoverEntry die => decide (die < 8)
  | .stageDeadline die _ _ _ _ => decide (die < 8)
  | .partialSumArrival home src _ _ _ => (decide (2 ≤ home) && decide (home < 6)) && (decide (2 ≤ src) && decide (src < 6))
  | .directSampleHandoff _ _ => true
  | .cfgCommit rq => rq.wf
  | .commitPrepare die => decide (die < 8)
  | .commitReadyReply die => decide (die < 8)
  | .commitArmDeadline => true
  | .commitArm die => decide (die < 8)
  | .commitSwapReport die => decide (die < 8)
  | .cfgDiscard rq => rq.wf
  | .cfgSave rq => rq.wf
  | .cfgImageInstall rq => rq.wf
  | .slotWriteDone _ => true
  | .slotWriteTimeout => true
  | .cfgRate rq => rq.wf
  | .rateRestart => true
  | .cfgStaged rq => rq.wf
  | .sysHello rq => rq.wf
  | .sysStatus rq => rq.wf
  | .sysImage rq => rq.wf
  | .sysReset rq => rq.wf
  | .sysRecover rq => rq.wf
  | .sysEventMask rq => rq.wf
  | .sysPing rq => rq.wf
  | .responseDelivery _ => true
  | .ncpUdpDatagram port _ _ _ _ => decide (port < 4)
  | .udpSessionTimeout session => decide (session < 4)
  | .mbxInDataWrite m n off size _ => m.wf && decide (n < 4) && decide (off + size ≤ 1024) && accessSize size
  | .mbxInCommitRead m n size => m.wf && decide (n < 4) && accessSize size
  | .mbxStaleRelease n => decide (n < 4)
  | .mbxInPop n => decide (n < 4)
  | .mbxOutPop m n size => m.wf && decide (n < 4) && accessSize size
  | .pcieReset _ => true
  | .msixVectorUnmask v => decide (v < 32)
  | .dblOutDrained m => m.wf
  | .dblHostSuspend m => m.wf
  | .dblHostResume m => m.wf
  | .dblRplRing core bit => decide (core < 64) && decide (bit < 16)
  | .dblNerrisAck m _ => m.wf
  | .dblHostClear m _ => m.wf
  | .lockRead m die n size => m.wf && decide (die < 8) && decide (n < 64) && accessSize size
  | .lockWrite m die n _ => m.wf && decide (die < 8) && decide (n < 64)
  | .lockForce m die _ => m.wf && decide (die < 8)
  | .qspiWriteWords addr data _ => decide (addr < 2 ^ 40) && decide (data.length < 257)
  | .qspiReadWords addr count => decide (addr < 2 ^ 40) && decide (count < 257)
  | .i2cWrite address pointer _ => decide (address < 128) && decide (pointer < 256)
  | .i2cWakeWrite address _ => decide (address < 128)
  | .springResponderMessage rq => rq.wf
  | .secAttest rq => rq.wf
  | .secProvision rq => rq.wf
  | .secLifecycle rq => rq.wf
  | .secKeyRevoke rq => rq.wf
  | .secDebugChallenge rq => rq.wf
  | .secDebugUnlock rq => rq.wf
  | .secDebugEpoch rq => rq.wf
  | .secSelftest rq => rq.wf
  | .entropyHealthFail _ => true
  | .routeSet rq => rq.wf
  | .routeClear rq => rq.wf
  | .routeGet rq => rq.wf
  | .routeList rq => rq.wf
  | .routeBasinCfg rq => rq.wf
  | .routeCrossfadeEnd dst => decide (dst < 65536)
  | .portTdmCfg rq => rq.wf
  | .portTdmMask rq => rq.wf
  | .portAesCfg rq => rq.wf
  | .portWclkCfg rq => rq.wf
  | .portSrcCfg rq => rq.wf
  | .portStatus rq => rq.wf
  | .tdmInputFrame port _ _ _ => decide (port < 16)
  | .aes3InputFrame port _ => decide (port < 2)
  | .clockLoss _ _ _ => true
  | .clockReturn _ _ _ _ _ => true
  | .rateClassChange _ _ _ _ => true
  | .srcLock _ => true
  | .srcUnlock _ => true
  | .ringFetch ring => decide (ring < 16)
  | .ringCaptureBlock ring => decide (ring < 16)
  | .netPortCfg rq => rq.wf
  | .netPortStatus rq => rq.wf
  | .netFilterSet rq => rq.wf
  | .netVlanCfg rq => rq.wf
  | .netMgmtCfg rq => rq.wf
  | .netCountersRead rq => rq.wf
  | .linkUp port _ => decide (port < 4)
  | .linkDown port => decide (port < 4)
  | .netFrameRx port _ => decide (port < 4)
  | .pauseFrameRx port _ => decide (port < 4)
  | .pfcFrameRx port _ _ => decide (port < 4)
  | .pauseTimerExpiry port _ => decide (port < 4)
  | .pauseRefresh port => decide (port < 4)
  | .addressAgeOut _ => true
  | .hostFrameTx port => decide (port < 4)
  | .hostTxStale port _ => decide (port < 4)
  | .frameErrorReport port => decide (port < 4)
  | .rxDmaComplete port => decide (port < 4)
  | .weirDispatch => true
  | .weirDone m _ => m.wf
  | .weirAgePromotion queue => decide (queue < 32)
  | .timePtpCfg rq => rq.wf
  | .timeAdjust rq => rq.wf
  | .timeStatus rq => rq.wf
  | .timeMclkCfg rq => rq.wf
  | .ptpMessageRx port _ => decide (port < 4)
  | .announceTimeout => true
  | .ptpTsqSeqRead m port size => m.wf && decide (port < 4) && accessSize size
  | .mclkLock => true
  | .mclkUnlock => true
  | .mclkHoldover => true
  | .streamRxAdd rq => rq.wf
  | .streamTxAdd rq => rq.wf
  | .streamRemove rq => rq.wf
  | .streamStatus rq => rq.wf
  | .streamOpts rq => rq.wf
  | .streamPacketRx handle _ => decide (handle < 4096)
  | .streamPacketMissing _ => true
  | .arpRefresh _ _ => true
  | .eomsPacket _ _ => true
  | .objAlloc rq => rq.wf
  | .objFree rq => rq.wf
  | .objectRelease obj => decide (obj < 2048)
  | .objCfg rq => rq.wf
  | .objPos rq => rq.wf
  | .objPosBatch rq => rq.wf
  | .objGain rq => rq.wf
  | .objGet rq => rq.wf
  | .objSliceCfg rq => rq.wf
  | .objSliceStatus rq => rq.wf
  | .objBedMap rq => rq.wf
  | .objZoneWeights rq => rq.wf
  | .objUpdateCfg rq => rq.wf
  | .objEomsCfg rq => rq.wf
  | .geometryFreeze slice _ => decide (slice < 16)
  | .geometryWindowEnd slice _ => decide (slice < 16)
  | .updateBoundary slice _ => decide (slice < 16)
  | .slotMigrationDone slice => decide (slice < 16)
  | .spkTableLoad rq => rq.wf
  | .spkSet rq => rq.wf
  | .spkGet rq => rq.wf
  | .spkEnvCfg rq => rq.wf
  | .spkMeshGet rq => rq.wf
  | .spkPairGet rq => rq.wf
  | .chainCfg rq => rq.wf
  | .chainSosStage rq => rq.wf
  | .chainFirStage rq => rq.wf
  | .chainProtCfg rq => rq.wf
  | .chainModel rq => rq.wf
  | .chainGet rq => rq.wf
  | .chainStatus rq => rq.wf
  | .chainBudget rq => rq.wf
  | .pondParityError _ => true
  | .pondTestRegion die bank _ _ => decide (die < 8) && decide (bank < 256)
  | .pndBankOwnerWrite m die bank _ => m.wf && decide (die < 8) && decide (bank < 256)
  | .pndBankPowerWrite m die bank _ => m.wf && decide (die < 8) && decide (bank < 256)
  | .decodeErrorWatchdog m => m.wf
  | .busTimeout addr => decide (addr < 2 ^ 40)
  | .dramParityError addr m _ => decide (addr < 2 ^ 40) && m.wf
  | .rowhammerThrottle channel bank _ m addr => decide (channel < 4) && decide (bank < 32) && m.wf && decide (addr < 2 ^ 40)
  | .refreshWindowEnd => true
  | .dramRowIdleClose channel bank => decide (channel < 4) && decide (bank < 32)
  | .diagWeirCfg rq => rq.wf
  | .diagDumpInfo rq => rq.wf
  | .diagDumpRead rq => rq.wf
  | .diagDumpClear rq => rq.wf
  | .diagCountersRead rq => rq.wf
  | .diagTmux rq => rq.wf
  | .diagPondStatus rq => rq.wf
  | .memRead rq => rq.wf
  | .memWrite rq => rq.wf
  | .memBasinInfo rq => rq.wf
  | .memBasinMap rq => rq.wf
  | .memBasinWrite rq => rq.wf
  | .memBasinRead rq => rq.wf
  | .basinReferenceCopy rq => rq.wf
  | .rplLoad rq => rq.wf
  | .rplStart rq => rq.wf
  | .rplStop rq => rq.wf
  | .rplReset rq => rq.wf
  | .rplGrant rq => rq.wf
  | .rplInsert rq => rq.wf
  | .rplMeasure rq => rq.wf
  | .rplXdoneWrite m core _ => m.wf && decide (core < 64)
  | .rippleTick core => decide (core < 64)
  | .interruptEntry core => decide (core < 64)
  | .waitEnd core _ => decide (core < 64)
  | .illegalInstruction core _ => decide (core < 64)
  | .outletTick die => decide (die < 8)
  | .outDacCfg rq => rq.wf
  | .outDacStatus rq => rq.wf
  | .dacClrRise _ => true
  | .dacClrFall => true
  | .feedLoss die => decide (die < 8)
  | .outSenseCfg rq => rq.wf
  | .outSenseCoef rq => rq.wf
  | .outSenseRead rq => rq.wf
  | .senseDecimatorOutput ch _ _ => decide (ch < 32)
  | .outAuxCfg rq => rq.wf
  | .outAuxRead rq => rq.wf
  | .auxConversion die input _ => decide (die < 8) && decide (input < 16)
  | .ampCfg rq => rq.wf
  | .ampClear rq => rq.wf
  | .ampBoostCfg rq => rq.wf
  | .ampPilotCfg rq => rq.wf
  | .ampStatus rq => rq.wf
  | .ampGuardCfg rq => rq.wf
  | .ampSyncCfg rq => rq.wf
  | .channelStart ch => decide (ch < 32)
  | .startHoldEnd ch _ _ => decide (ch < 32)
  | .channelStopComplete ch => decide (ch < 32)
  | .cycleTrip ch _ => decide (ch < 32)
  | .hardShort ch => decide (ch < 32)
  | .clipEpisode ch => decide (ch < 32)
  | .retryTimer ch => decide (ch < 32)
  | .retryCheckEnd ch _ => decide (ch < 32)
  | .retryCountReset ch => decide (ch < 32)
  | .syncRefLost die => decide (die < 8)
  | .syncRefReturn die _ => decide (die < 8)
  | .dcWindowEnd ch => decide (ch < 32)
  | .pilotIntervalEnd ch _ _ _ _ => decide (ch < 32)
  | .boostOutOfReg ctl => decide (ctl < 8)
  | .boostOvercurrent ctl => decide (ctl < 8)
  | .boostOcRestart ctl => decide (ctl < 8)
  | .boostAtFloor ctl => decide (ctl < 8)
  | .lockstepDisagree core _ => decide (core < 3)
  | .lockstepResync => true
  | .fatalError _ die => decide (die < 8)
  | .dumpWritten _ => true
  | .fatalRestart => true
  | .redStatus rq => rq.wf
  | .redCfg rq => rq.wf
  | .redProve rq => rq.wf
  | .proveTimelineEnd _ => true
  | .redReadmit rq => rq.wf
  | .standbyCheck => true
  | .standbyCheckEnd _ => true
  | .heartbeatSend => true
  | .wardenSuspect die _ => decide (die < 8)
  | .wardenVoteRx die src _ => decide (die < 8) && (decide (2 ≤ src) && decide (src < 6))
  | .fatalDeclarationRx die => decide (die < 8)
  | .dumpHoldEnd _ => true
  | .journalBatch => true
  | .standbyTakeover => true
  | .takeoverTimeout => true
  | .pwrState rq => rq.wf
  | .pwrStatus rq => rq.wf
  | .pwrAlarm rq => rq.wf
  | .alarmExpiry => true
  | .wakeNLow _ => true
  | .wakeReturn _ => true
  | .warmReset => true
  | .coldReset => true
  | .dieReset die => decide (die < 8)
  | .dieResetTimeout die => decide (die < 8)
  | .jtagBypass => true
  | .jtagIdcode => true
  | .jtagSamplePreload _ => true
  | .jtagExtest => true
  | .jtagExtestPulse => true
  | .jtagExtestTrain => true
  | .jtagClamp => true
  | .jtagHighz => true
  | .jtagCoreDebug => true
  | .jtagTestLogicReset => true
  | .powerLoss => true
  | .ptpMessageInterval port _ => decide (port < 4)
  | .pcieLinkUp _ _ => true
  | .attestationSigned => true
  | .selftestComplete _ => true
  | .fusesBlown => true

end Sys2Proof
end

