-- ==== Sys2Proof/Machine/Mailbox.lean ====
section
/-! DEFINITION. Mailboxes, doorbells, lock registers and the MSI-X vectors (R105 to R127). -/

namespace Sys2Proof.Machine

/-- The sender ID that the bus matrix attaches to a master's accesses (R106). -/
def senderId : Master → Option Nat
  | .pcie => some 0x0001
  | .qspi => some 0x0010
  | .networkMgmt => some 0x0020
  | .ripple c => some (0x0100 + c)
  | .controlCluster => some 0x8000
  | _ => none

/-- The active Shore is powered and runs: its register blocks answer (R41, R42). -/
def shoreUp (s : State) : Bool := powered s (activeShore s) && s.sys.red.hubUp

/-- Whether a sender's class is in an ALLOW field: [0] PCIe, [1] QSPI, [2] Ripple (R113). -/
def allowed (a : BitVec 3) (sender : Nat) : Bool :=
  if sender = 0x0001 then a.getLsbD 0
  else if sender = 0x0010 then a.getLsbD 1
  else if 0x100 ≤ sender ∧ sender < 0x140 then a.getLsbD 2
  else false

/-- A change of the mailbox block, seen by the vectors. -/
def setIn (n : Nat) (b : MbxIn) (s : State) : State :=
  withVectors (fun t => { t with msg.mbx.inb := mapSet t.msg.mbx.inb n b }) s
def setOut (n : Nat) (b : MbxOut) (s : State) : State :=
  withVectors (fun t => { t with msg.mbx.outb := mapSet t.msg.mbx.outb n b }) s
/-- MBX_ERR bits set. -/
def mbxErr (mask : Nat) (s : State) : State :=
  withVectors (fun t => { t with msg.mbx.err := t.msg.mbx.err ||| BitVec.ofNat 16 mask }) s

/-- A firewall refusal counted for a Shore target (R500, R518). DEDUCED, log 42. -/
def countRefusal (target : Nat) (s : State) : State := count (0x6100 + 4 * target) s

/-- A byte or half-word access that a register refuses: no effect; a bus error, or for PCIe nothing but a read of 0 (R12). DEDUCED, log 42. -/
def subWordRefused (m : Master) (s : State) : State := if m = .pcie then busOk [0] s else busErr s
/-- A byte or half-word read of a register whose read has a side effect: refused and counted (R12). -/
def sideReadRefused (m : Master) (die target : Nat) (s : State) : State :=
  subWordRefused m (if isShore die then countRefusal target s else s)

/-! ### Inbound mailboxes -/

/-- A write to MBX_INn_DATA refused in one of the cases of R109. -/
def mbxRefuseWrite (m : Master) (n case : Nat) (s : State) : State :=
  match m with
  | .pcie =>
    let s := mbxErr (if case = 1 then 2 ^ (4 + n) else 2 ^ n) s
    busOk [] (setIn n { getIn s n with dropMark := true } s)
  | .qspi => answer true (if case = 1 then 3 else if case = 2 then 2 else 1) [] s
  | _ => busErr s

/-- A 32-bit write to word `k` of MBX_INn_DATA (R107, R109). -/
def mbxWriteWord (m : Master) (n k : Nat) (v : Word) (s : State) : State :=
  match senderId m with
  | none => busErr s
  | some id =>
    let b := getIn s n
    if !allowed b.allow id then mbxRefuseWrite m n 1 s
    else if b.abortMark = some id then mbxRefuseWrite m n 2 s
    else match b.st with
      | .full => mbxRefuseWrite m n 3 s
      | .filling =>
        if b.owner = id then busOk [] (setIn n { b with words := mapSet b.words k v, lastAccess := s.now } s)
        else mbxRefuseWrite m n 3 s
      | .empty =>
        busOk [] (setIn n { b with words := mapSet b.words k v, st := .filling, owner := id, ack := false, lastAccess := s.now } s)

/-- MBX_IN_DATA_WRITE: the first write claims, and only the claimant writes (R107, R109). -/
def execMbxInDataWrite (m : Master) (n off size : Nat) (v : Word) (s : State) : Host.Outcome State Fault Refusal :=
  if !accessSize size then .fault .illFormedCommand
  else .next (if !shoreUp s ∨ 4 ≤ n ∨ 1024 ≤ off then busErr s
    else if size ≠ 4 ∨ off % 4 ≠ 0 then subWordRefused m s
    else mbxWriteWord m n (off / 4) v s)

/-- A word of a mailbox window. -/
def winWord (w : AMap Word) (k : Nat) : Nat := (mapGet (fun _ => (0 : Word)) w k).toNat

/-- The bytes of a message in a window: header and payload. -/
def winBytes (w : AMap Word) (n : Nat) : List Byte :=
  ((List.range 256).flatMap fun k => bytesLE 4 (winWord w k)).take n

/-- A commit into a mailbox while the part sleeps raises a wake request; in SLEEP it takes the part to LISTEN (R113, R562). DESIGN CHOICE, log 45. -/
def wakeOnCommit (s : State) : State :=
  match s.sys.ao.power with
  | .run => s
  | .sleep => emit .wakeRequest { s with sys.ao.power := .listen, hw.dram.st := 1, time.ptp.running := true }
  | _ => emit .wakeRequest s

/-- The value of a commit read: RESULT, and OWNER at the time of the read. -/
def commitValue (result owner : Nat) : Word := BitVec.ofNat 32 (result + owner * 65536)

/-- A 32-bit read of MBX_INn_COMMIT (R108). -/
def mbxCommit (m : Master) (n : Nat) (s : State) : State :=
  match senderId m with
  | none => busErr s
  | some id =>
    let b := getIn s n
    let pcieMark := m == .pcie && b.dropMark
    if b.abortMark = some id then
      busOk [commitValue 2 b.owner] (setIn n { b with abortMark := none, dropMark := if m = .pcie then false else b.dropMark } s)
    else if pcieMark then busOk [commitValue 1 b.owner] (setIn n { b with dropMark := false } s)
    else if b.st = .filling ∧ b.owner = id then
      if 1008 < winWord b.words 1 / 65536 then
        busOk [commitValue 3 b.owner] (mbxErr (2 ^ (8 + n)) (setIn n { b with st := .empty, owner := 0, lastAccess := s.now } s))
      else
        let w2 := winWord b.words 2
        let b' := { b with words := mapSet b.words 2 (BitVec.ofNat 32 (w2 / 65536 * 65536 + b.owner)), st := .full, lastAccess := s.now }
        let flow := requestFlow b.owner (winWord b.words 0 % 65536) (w2 / 65536)
        let s := weirPush (8 + n) flow 1 0 (0x10 + n) n (setIn n b' s)
        busOk [commitValue 0 b.owner] (wakeOnCommit s)
    else busOk [commitValue (if b.st = .empty then 3 else 1) b.owner] s

/-- MBX_IN_COMMIT_READ. -/
def execMbxInCommitRead (m : Master) (n size : Nat) (s : State) : Host.Outcome State Fault Refusal :=
  if !accessSize size then .fault .illFormedCommand
  else .next (if !shoreUp s ∨ 4 ≤ n then busErr s
    else if size ≠ 4 then sideReadRefused m (activeShore s) 0 s
    else mbxCommit m n s)

/-- A FILLING mailbox returned to EMPTY with STALE and ABORTED (R110). DEDUCED, log 44. -/
def mbxStale (n : Nat) (s : State) : State :=
  let b := getIn s n
  if b.st = .filling then mbxErr (2 ^ (12 + n)) (setIn n { b with st := .empty, owner := 0, aborted := true } s) else s

/-- MBX_STALE_RELEASE: no access by the claimant for 1 ms. -/
def execMbxStaleRelease (n : Nat) (s : State) : Host.Outcome State Fault Refusal :=
  .next (if shoreUp s ∧ n < 4 then mbxStale n s else s)

/-- The opcodes of the catalogue's requests (R132: any other is BAD_OPCODE). -/
def knownOp (op : Nat) : Bool :=
  let k := op % 256
  match op / 256 with
  | 0 => k == 0 || (decide (2 ≤ k) && decide (k ≤ 7) && k != 5) 
  | 1 => decide (k ≤ 5)
  | 2 => decide (k ≤ 0x0C)
  | 3 => decide (k ≤ 0x05)
  | 4 => decide (k ≤ 0x07)
  | 5 => decide (k ≤ 0x04)
  | 6 => decide (k ≤ 0x05)
  | 7 => decide (k ≤ 0x05)
  | 8 => decide (k ≤ 3) || (decide (0x10 ≤ k) && decide (k ≤ 0x14))
  | 9 => decide (k ≤ 0x0D)
  | 10 => decide (k ≤ 6)
  | 11 => decide (k ≤ 5)
  | 12 => decide (k ≤ 7)
  | 13 => decide (k ≤ 3)
  | 14 => decide (k ≤ 6)
  | 15 => decide (k ≤ 2)
  | _ => false

/-- Requests outstanding for a destination, and the limit of R134. -/
def outstandingOf (s : State) (k : Nat) : Nat := (s.msg.ncp.outstanding.filter fun o => o.dest == k).length
def outstandingLimit (k : Nat) : Nat := if 0x100 ≤ k ∧ k < 0x140 then 4 else 16

/-- Nerris checks a message it has taken: opcode, version, permission and outstanding limit (R134, R147, R152). An accepted request is outstanding until it is answered. -/
def acceptRequest (op : Nat) (rq : Request) (s : State) : State :=
  let k := destKey rq
  let ver := negotiated s rq
  if !knownOp op then respond rq op (refuse codeBadOpcode 0 noField s) s
  else if op ≠ 0 ∧ ver < rq.version then respond rq op (refuse codeBadVersion ver noField s) s
  else if op ≠ 0 ∧ rq.version < opVersion op then respond rq op (refuse codeBadVersion (opVersion op) noField s) s
  else if !mayRequest rq.sender op rq.payload then respond rq op (refuse codeDenied 0 noField s) s
  else if outstandingLimit k ≤ outstandingOf s k then respond rq op (refuse codeBusy 0 noField s) s
  else { s with msg.ncp.outstanding := s.msg.ncp.outstanding ++ [{ dest := k, seq := rq.seq, opcode := op }] }

/-- The request in a message of header and payload bytes. -/
def requestOf (sender session : Nat) (bs : List Byte) : Request :=
  { sender := sender, seq := fieldLE bs 4 2, flow := fieldLE bs 10 2, version := byteAt bs 3, flags := byteAt bs 2
    session := session, payload := slice bs 16 (fieldLE bs 6 2) }

/-- MBX_IN_POP: ACK sets, the mailbox empties, and the request is checked (R111, R147). DESIGN CHOICE, log 1. -/
def execMbxInPop (n : Nat) (s : State) : Host.Outcome State Fault Refusal :=
  .next (
    let b := getIn s n
    if nerrisUp s ∧ shoreUp s ∧ n < 4 ∧ b.st = .full then
      let bs := winBytes b.words 1024
      let t := setIn n { b with st := .empty, owner := 0, ack := true } s
      acceptRequest (fieldLE bs 0 2) (requestOf b.owner 0 bs) t
    else s)

/-! ### Outbound mailboxes -/

/-- A 32-bit read of MBX_OUTn_POP (R114, R115). -/
def mbxPop (m : Master) (n : Nat) (s : State) : State :=
  match senderId m with
  | none => busErr s
  | some id =>
    let b := getOut s n
    if b.full ∧ b.dest = id then
      busOk [BitVec.ofNat 32 (winWord b.words 0)] (setOut n { b with words := [], full := false, dest := 0 } s)
    else if m = .pcie then busOk [0] s
    else if m = .qspi then answer true 3 [0] s
    else busErr s

/-- MBX_OUT_POP. -/
def execMbxOutPop (m : Master) (n size : Nat) (s : State) : Host.Outcome State Fault Refusal :=
  if !accessSize size then .fault .illFormedCommand
  else .next (if !shoreUp s ∨ 4 ≤ n then busErr s
    else if size ≠ 4 then sideReadRefused m (activeShore s) 0 s
    else mbxPop m n s)

/-- The words of a message, four bytes each. -/
def wordsOf (bs : List Byte) : AMap Word :=
  (List.range ((bs.length + 3) / 4)).map fun k => (k, BitVec.ofNat 32 (fieldLE (slice bs (4 * k) 4) 0 4))

/-- A sensed fuse field, blown in either copy (R87): `n` bits from bit `lo`. DESIGN CHOICE, log 21. -/
def fuseField (s : State) (lo n : Nat) : Nat :=
  let f := s.sys.spring.shadow
  if 1024 ≤ lo ∧ lo + n ≤ 4096 then ((f.extractLsb' lo n) ||| (f.extractLsb' (lo + 3072) n)).toNat
  else (f.extractLsb' lo n).toNat

/-- The owner management MAC key (R87). -/
def macKey (s : State) : BitVec 384 := BitVec.ofNat 384 (fuseField s 2480 384)

/-- The HMAC of NCP over UDP: nonce, counter and message under the management key (R169). -/
def udpMac (s : State) (nonce : BitVec 128) (ctr : Nat) (msg : List Byte) : BitVec 384 :=
  Config.hmac384 (macKey s) (bytesLE 16 nonce.toNat ++ bytesLE 8 ctr ++ msg)

/-- A message sent to a UDP session, signed except for the responses of R170. -/
def sendDatagram (k : Nat) (m : OutMsg) (s : State) : State :=
  match mapFind s.msg.ncp.sessions k with
  | none => s
  | some se =>
    let plain := !m.event && (m.opcode == 0x0000 || m.opcode == 0x0C00 || byteAt m.bytes 12 == codeDenied)
    if plain then emit (.datagram se.addr se.port m.bytes) s
    else
      let msg := m.bytes.take 2 ++ bytesLE 1 (byteAt m.bytes 2 ||| 8) ++ m.bytes.drop 3
      let mac := udpMac s se.nonce se.nextOut msg
      let s := { s with msg.ncp.sessions := mapSet s.msg.ncp.sessions k { se with nextOut := se.nextOut + 1 } }
      emit (.datagram se.addr se.port (msg ++ bytesLE 8 se.nextOut ++ bytesBE 48 mac.toNat)) s

/-- The minimal responder of the Spring ROM answers: from the self-tests until Nerris starts, in recovery and after a stop (R62, R63, R84). -/
def responderUp (s : State) : Bool :=
  shoreUp s && (match s.sys.boot.step with
    | .links => true
    | .image => true
    | .recovery => true
    | .stopped => true
    | _ => false)

/-- What was queued before entry into SLEEP or DEEP STANDBY still leaves, since the response comes before entry (R559). -/
def sentBefore (s : State) : Bool := partReady s && (s.sys.ao.power == .sleep || s.sys.ao.power == .deepStandby)

/-- RESPONSE_DELIVERY: the oldest message for a destination leaves through the lowest-numbered outbound mailbox that admits it, once that one is empty, or as a datagram; held while the host is suspended (R114, R141, R142). DEDUCED, log 44. -/
def execResponseDelivery (dest : Nat) (s : State) : Host.Outcome State Fault Refusal :=
  .next (
    let d := getDest s dest
    match d.queue with
    | [] => s
    | m :: rest =>
      if !(nerrisUp s || responderUp s || sentBefore s) || !shoreUp s then s
      else if s.msg.ncp.suspended && (dest == 0x0001 || dest == 0x0010) then s
      else
        let sent := fun (t : State) =>
          let t := setDest dest { getDest t dest with queue := rest } t
          if m.event then t else dropOutstanding dest m.seq t
        if 0x200000 ≤ dest then sent (sendDatagram (dest - 0x200000) m s)
        else match (List.range 4).find? (fun n => allowed (getOut s n).allow dest) with
          | none => s
          | some n =>
            let b := getOut s n
            if b.full then s
            else sent (setOut n { b with words := wordsOf m.bytes, full := true, dest := dest } s))

/-! ### Resets of a sender (R110, R116, R123, R137) -/

/-- The locks that a test on the owner selects are freed. DEDUCED, log 44. -/
def freeLocks (p : Nat → Nat → Bool) (s : State) : State :=
  { s with msg.locks.owners := s.msg.locks.owners.filter fun e => !p e.1 e.2 }

/-- Claims, marks, outbound messages and locks of a sender released. DEDUCED, log 44. -/
def releaseClaims (id : Nat) (s : State) : State :=
  let s := (List.range 4).foldl (fun t n =>
    let t := if (getIn t n).st = .filling ∧ (getIn t n).owner = id then mbxStale n t else t
    let b := getIn t n
    let b := { b with abortMark := if b.abortMark = some id then none else b.abortMark
                      dropMark := if id = 0x0001 then false else b.dropMark }
    let t := setIn n b t
    let o := getOut t n
    if o.full ∧ o.dest = id then setOut n { o with words := [], full := false, dest := 0 } t else t) s
  freeLocks (fun _ o => o == id) s

/-- A destination forgotten after a reset of its sender: what is queued is discarded, responses to come are discarded, version and masks return to their defaults; the event numbers go on (R137). -/
def forgetDest (k : Nat) (s : State) : State :=
  let d := getDest s k
  let waiting := (s.msg.ncp.outstanding.filter fun o => o.dest == k && !d.queue.any fun m => !m.event && m.seq == o.seq)
  let s := setDest k { dest0 k with nextEv := d.nextEv } s
  { s with msg.ncp.discarding := s.msg.ncp.discarding ++ waiting.map fun o => (k, o.seq)
           msg.ncp.outstanding := s.msg.ncp.outstanding.filter fun o => o.dest != k }

/-- The reset of a sender (R110, R116, R123, R137): its claims and locks go, and Nerris forgets it as a destination where it knew it. DEDUCED, log 44. -/
def resetSender (id : Nat) (s : State) : State :=
  let s := releaseClaims id s
  if mapHas s.msg.ncp.dests id || s.msg.ncp.outstanding.any (fun o => o.dest == id) then forgetDest id s else s

/-- PCIE_RESET: a hot reset or a function-level reset, counted (R110, R116, R137, R599). DESIGN CHOICE, log 45. -/
def execPcieReset (flr : Bool) (s : State) : Host.Outcome State Fault Refusal :=
  .next (if !shoreUp s then s
    else
      let s := forgetDest 0x0001 (releaseClaims 0x0001 s)
      if flr then { s with msg.mbx.flrs := min 65535 (s.msg.mbx.flrs + 1) }
      else { s with msg.mbx.hotResets := min 65535 (s.msg.mbx.hotResets + 1) })

/-- PCIE_LINK_UP: training, begun at the 40 ms event, completes (R60, R599). DESIGN CHOICE, log 45. -/
def execPcieLinkUp (speed width : Nat) (s : State) : Host.Outcome State Fault Refusal :=
  .next (if shoreUp s ∧ s.msg.mbx.pciTraining ∧ !pinsDriven s ∧ 1 ≤ speed ∧ speed ≤ 4 ∧ 1 ≤ width ∧ width ≤ 2 then
    { s with msg.mbx.pciSpeed := speed, msg.mbx.pciWidth := width, msg.mbx.pciTraining := false }
  else s)

/-- A vector unmasked: a pending one whose cause is still set fires, and its pending bit clears (R126). PRESUMED, log 43. -/
def unmaskVector (v : Nat) (s : State) : State :=
  let b : Word := BitVec.ofNat 32 (2 ^ v)
  let t := { s with msg.mbx.msixMask := s.msg.mbx.msixMask &&& ~~~b }
  if t.msg.mbx.msixPba.getLsbD v && !t.msg.mbx.msixFmask then
    let u := { t with msg.mbx.msixPba := t.msg.mbx.msixPba &&& ~~~b }
    if msixCause t v then emit (.msix v) u else u
  else t

/-- MSIX_VECTOR_UNMASK. -/
def execMsixVectorUnmask (v : Nat) (s : State) : Host.Outcome State Fault Refusal :=
  .next (if !shoreUp s ∨ 32 ≤ v then s else unmaskVector v s)

/-! ### Doorbells (R120) -/

/-- Bits of DBL_NERRIS rung: each bit newly set is an item of queue 12; a bit already set absorbs the ring. -/
def ringNerris (mask : Nat) (s : State) : State :=
  (List.range 32).foldl (fun t b =>
    if mask.testBit b && !t.msg.mbx.dblNerris.getLsbD b then
      weirPush 12 2793 1 b 0 b { t with msg.mbx.dblNerris := t.msg.mbx.dblNerris ||| BitVec.ofNat 32 (2 ^ b) }
    else t) s

/-- DBL_OUT_DRAINED. -/
def execDblOutDrained (m : Master) (s : State) : Host.Outcome State Fault Refusal :=
  .next (if (senderId m).isSome && shoreUp s then busOk [] (ringNerris 1 s) else busErr s)

/-- DBL_HOST_SUSPEND: responses and events for both host senders are held (R141). -/
def execDblHostSuspend (m : Master) (s : State) : Host.Outcome State Fault Refusal :=
  .next (if (senderId m).isSome && shoreUp s then busOk [] { ringNerris 2 s with msg.ncp.suspended := true } else busErr s)

/-- DBL_HOST_RESUME. -/
def execDblHostResume (m : Master) (s : State) : Host.Outcome State Fault Refusal :=
  .next (if (senderId m).isSome && shoreUp s then busOk [] { ringNerris 4 s with msg.ncp.suspended := false } else busErr s)

/-- DBL_RPL_RING: one of the 16 RPL bits, [31:16] of DBL_NERRIS. -/
def execDblRplRing (core bit : Nat) (s : State) : Host.Outcome State Fault Refusal :=
  .next (if shoreUp s ∧ core < s.member.cores ∧ powered s (coreDie core) ∧ bit < 16 then busOk [] (ringNerris (2 ^ (16 + bit)) s) else busErr s)

/-- DBL_NERRIS_ACK: written by sender 0x8000 only. -/
def execDblNerrisAck (m : Master) (mask : Word) (s : State) : Host.Outcome State Fault Refusal :=
  .next (if shoreUp s ∧ senderId m = some 0x8000 then
    busOk [] { s with msg.mbx.dblNerris := s.msg.mbx.dblNerris &&& ~~~mask }
  else busErr s)

/-- Bits of DBL_HOST cleared. -/
def clearHostBits (mask : Word) (s : State) : State :=
  withVectors (fun t => { t with msg.mbx.dblHost := t.msg.mbx.dblHost &&& ~~~(mask.setWidth 22) }) s

/-- DBL_HOST_CLEAR: the host or a Ripple program clears bits by writing 1. -/
def execDblHostClear (m : Master) (mask : Word) (s : State) : Host.Outcome State Fault Refusal :=
  .next (if (senderId m).isSome && shoreUp s then busOk [] (clearHostBits mask s) else busErr s)

/-! ### Lock registers (R121 to R123) -/

/-- Lock registers of a die: 64 on a Shore, 32 on a Tarn. -/
def lockCount (die : Nat) : Nat := if isShore die then 64 else if isTarn die then 32 else 0
def lockOwner (s : State) (die n : Nat) : Nat := mapGet (fun _ => 0) s.msg.locks.owners (die * 64 + n)

/-- Whether a master reaches the register blocks of a die: PCIe and QSPI only those of the active Shore (R44). -/
def reachesRegs (s : State) (m : Master) (die : Nat) : Bool :=
  powered s die && (if isShore die then die == activeShore s && shoreUp s
    else match m with
      | .pcie => false
      | .qspi => false
      | .ripple c => reaches s (coreDie c) die
      | .warden d => d == die
      | _ => shoreUp s && reaches s (activeShore s) die)

/-- LOCK_ERR records the first refused write since VALID was cleared (R123). -/
def lockFail (die n sender : Nat) (s : State) : State :=
  withVectors (fun t =>
    if (getLockErr t die).valid then t
    else { t with msg.locks.errs := mapSet t.msg.locks.errs die { index := n, sender := sender % 32768, valid := true } }) s

/-- A 32-bit read of LOCK_n: acquires a free lock and returns 0, else BUSY and the owner's ID (R121). -/
def lockAcquire (m : Master) (die n : Nat) (s : State) : State :=
  match senderId m with
  | none => busErr s
  | some id =>
    let o := lockOwner s die n
    if o = 0 then busOk [0] { s with msg.locks.owners := mapSet s.msg.locks.owners (die * 64 + n) id }
    else busOk [BitVec.ofNat 32 (0x80000000 + o)] s

/-- A write of LOCK_n: the owner's ID by the owner frees it; any other write sets LOCK_ERR. -/
def lockRelease (m : Master) (die n : Nat) (v : Word) (s : State) : State :=
  match senderId m with
  | none => busErr s
  | some id =>
    if lockOwner s die n = id ∧ v.toNat % 65536 = id then
      busOk [] { s with msg.locks.owners := mapErase s.msg.locks.owners (die * 64 + n) }
    else busOk [] (lockFail die n id s)

/-- A write of LOCK_FORCE: Nerris frees the lock; another sender's write sets LOCK_ERR. -/
def lockForced (m : Master) (die : Nat) (v : Word) (s : State) : State :=
  let n := v.toNat % 64
  match senderId m with
  | none => busErr s
  | some id =>
    if id = 0x8000 then busOk [] { s with msg.locks.owners := mapErase s.msg.locks.owners (die * 64 + n) }
    else busOk [] (lockFail die n id s)

/-- LOCK_READ. -/
def execLockRead (m : Master) (die n size : Nat) (s : State) : Host.Outcome State Fault Refusal :=
  if !accessSize size then .fault .illFormedCommand
  else .next (if !reachesRegs s m die then busErr s
    else if lockCount die ≤ n then busOk [0] s
    else if size ≠ 4 then sideReadRefused m die 0 s
    else lockAcquire m die n s)

/-- LOCK_WRITE. -/
def execLockWrite (m : Master) (die n : Nat) (v : Word) (s : State) : Host.Outcome State Fault Refusal :=
  .next (if !reachesRegs s m die then busErr s
    else if lockCount die ≤ n then busOk [] s
    else lockRelease m die n v s)

/-- LOCK_FORCE. -/
def execLockForce (m : Master) (die : Nat) (v : Word) (s : State) : Host.Outcome State Fault Refusal :=
  .next (if !reachesRegs s m die ∨ lockCount die = 0 then busErr s else lockForced m die v s)

/-! ### NCP over UDP (R167 to R171) -/

/-- Counter `n` of network port `p` (R394). -/
def netId (p n : Nat) : Nat := 0x4000 + 0x40 * p + n

/-- `diag.counter` for an ID. -/
def counterEvent (cls id : Nat) (s : State) : State :=
  event cls (activeShore s) 0x0E80 0xFFFF (bytesLE 2 id ++ bytesLE 6 0 ++ bytesLE 8 (counter s id)) s

/-- A port counter raised; crossing a multiple of 2³¹ is reported (R395). -/
def netCountBy (p n v : Nat) (s : State) : State :=
  let id := netId p n
  let was := counter s id
  let s := countBy id v s
  if was / 2 ^ 31 = (was + v) / 2 ^ 31 then s else counterEvent 14 id s
/-- DEDUCED, log 109. -/
def netCount (p n : Nat) (s : State) : State := netCountBy p n 1 s

/-- A datagram discarded, or one that fails authentication, counted at its port (R167, R169). -/
def udpDiscard (port : Nat) (s : State) : State := netCount port 36 s
def udpAuthFailed (port : Nat) (s : State) : State := netCount port 37 s

/-- The session of a source. DEDUCED, log 46. -/
def sessionOf (s : State) (addr : BitVec 128) (port : Nat) : Option Nat :=
  (s.msg.ncp.sessions.find? fun e => e.2.addr == addr && e.2.port == port).map (·.1)

/-- An unsigned response straight to an address, for a message that no session holds. DEDUCED, log 46. -/
def udpReply (addr : BitVec 128) (port op ver code : Nat) (bs : List Byte) (s : State) : State :=
  let field := if 0x32 ≤ ver then noField * 65536 else 0
  emit (.datagram addr port (header op 1 ver (fieldLE bs 4 2) 0 0x8000 (fieldLE bs 10 2) (code + field))) s

/-- A session opened for a new source, with its nonce drawn; its destination starts at version 1.0 with no event class (R139, R140, R168). DEDUCED, log 46. -/
def openSession (k : Nat) (addr : BitVec 128) (port : Nat) (s : State) : State :=
  let (v, s) := drawFree s
  let se : Session := { addr := addr, port := port, nonce := v.setWidth 128, lastIn := 0, nextOut := 1, lastValid := s.now }
  setDest (0x200000 + k) (dest0 (0x200000 + k)) { s with msg.ncp.sessions := mapSet s.msg.ncp.sessions k se }

/-- NCP_UDP_DATAGRAM: length-checked, authenticated and accepted, or discarded and counted. The control cluster's services serve it as a request of sender 0x0020. DEDUCED, log 46. -/
def execNcpUdpDatagram (port : Nat) (srcAddr : BitVec 128) (srcPort : Nat) (fragment : Bool) (bytes : List Byte) (s : State) :
    Host.Outcome State Fault Refusal :=
  .next (
    let signed := bit (byteAt bytes 2) 3
    let len := 16 + fieldLE bytes 6 2
    let op := fieldLE bytes 0 2
    if !nerrisUp s ∨ s.msg.ncp.mgmt.port ≠ some port then s
    else if fragment ∨ 1080 < bytes.length ∨ bytes.length < 16 ∨ bytes.length ≠ len + (if signed then 56 else 0) then udpDiscard port s
    else match sessionOf s srcAddr srcPort with
      | none =>
        if op = 0x0000 then
          match mapFree s.msg.ncp.sessions 4 with
          | none => udpReply srcAddr srcPort op (min 0x10 (byteAt bytes 3)) codeNoResource bytes s
          | some k => acceptRequest op (requestOf 0x20 k bytes) (openSession k srcAddr srcPort s)
        else if signed then udpAuthFailed port s
        else udpReply srcAddr srcPort op (min 0x10 (byteAt bytes 3)) codeDenied bytes s
      | some k =>
        let se := mapGet (fun _ => ({ addr := 0, port := 0, nonce := 0, lastIn := 0, nextOut := 1, lastValid := 0 } : Session)) s.msg.ncp.sessions k
        let rq := requestOf 0x20 k bytes
        let valid := fun (t : State) (c : Nat) => { t with msg.ncp.sessions := mapSet t.msg.ncp.sessions k { se with lastIn := c, lastValid := t.now } }
        if op = 0x0000 ∨ op = 0x0C00 then acceptRequest op rq (valid s se.lastIn)
        else if !signed ∨ s.sys.spring.cryptoErr then respond rq op (refuse codeDenied 0 noField s) s
        else
          let ctr := fieldLE bytes len 8
          let mac := fieldBE bytes (len + 8) 48
          if (udpMac s se.nonce ctr (bytes.take len)).toNat = mac ∧ se.lastIn < ctr then acceptRequest op rq (valid s ctr)
          else udpAuthFailed port s)

/-- A session ends: its queue and its state go. -/
def endSession (k : Nat) (s : State) : State :=
  { s with msg.ncp.sessions := mapErase s.msg.ncp.sessions k
           msg.ncp.dests := mapErase s.msg.ncp.dests (0x200000 + k)
           msg.ncp.outstanding := s.msg.ncp.outstanding.filter fun o => o.dest != 0x200000 + k }

/-- UDP_SESSION_TIMEOUT: 300 s without a valid message (R168). -/
def execUdpSessionTimeout (session : Nat) (s : State) : Host.Outcome State Fault Refusal :=
  .next (if nerrisUp s ∧ mapHas s.msg.ncp.sessions session then endSession session s else s)

end Sys2Proof.Machine
end

