-- ==== Sys2Proof/Machine/NetFrame.lean ====
section
/-! DEFINITION. Ethernet frames as byte strings from the destination address on: their fields, their classification (R373 to R376, R414), the correction of PTP event messages (R407) and the checksums. -/

namespace Sys2Proof.Machine

/-! ### Fields -/

def dstMac (f : List Byte) : Nat := fieldBE f 0 6
def srcMac (f : List Byte) : Nat := fieldBE f 6 6
def macGroup (a : Nat) : Bool := a.testBit 40
def macBroadcast : Nat := 0xFFFFFFFFFFFF
def isTagged (f : List Byte) : Bool := fieldBE f 12 2 == 0x8100
/-- Offset of the EtherType that counts: after one 802.1Q tag (R375, R376). -/
def typeAt (f : List Byte) : Nat := if isTagged f then 16 else 12
def etherType (f : List Byte) : Nat := fieldBE f (typeAt f) 2
def framePcp (f : List Byte) : Option Nat := if isTagged f then some (byteAt f 14 / 32) else none
def frameVid (f : List Byte) : Nat := if isTagged f then fieldBE f 14 2 % 4096 else 0
def isReserved (f : List Byte) : Bool := decide (0x0180C2000000 ≤ dstMac f) && decide (dstMac f ≤ 0x0180C200000F)
def isMacControl (f : List Byte) : Bool := dstMac f == 0x0180C2000001 && etherType f == 0x8808
/-- Length in bytes with the FCS (R377). -/
def frameLength (f : List Byte) : Nat := f.length + 4

/-- Place of the UDP header of an unfragmented IPv4 or IPv6 frame. -/
def udpAt (f : List Byte) : Option Nat :=
  let ip := typeAt f + 2
  if etherType f = 0x0800 ∧ byteAt f (ip + 9) = 17 ∧ fieldBE f (ip + 6) 2 % 0x4000 = 0 then some (ip + byteAt f ip % 16 * 4)
  else if etherType f = 0x86DD ∧ byteAt f (ip + 6) = 17 then some (ip + 40)
  else none

/-- Source and destination IP address as 128 bits, IPv4 in the first four bytes (R158). -/
def ipSource (f : List Byte) : Nat :=
  let ip := typeAt f + 2
  if etherType f = 0x0800 then fieldBE f (ip + 12) 4 * 2 ^ 96 else fieldBE f (ip + 8) 16
def ipDest (f : List Byte) : Nat :=
  let ip := typeAt f + 2
  if etherType f = 0x0800 then fieldBE f (ip + 16) 4 * 2 ^ 96 else fieldBE f (ip + 24) 16
def udpDest (f : List Byte) : Option Nat := (udpAt f).map fun u => fieldBE f (u + 2) 2

/-! ### PTP messages in frames (R405, R407) -/

/-- Place of the PTP header: EtherType 0x88F7, or UDP to port 319 or 320. -/
def ptpAt (f : List Byte) : Option Nat :=
  if etherType f = 0x88F7 then some (typeAt f + 2)
  else match udpAt f with
    | some u => if fieldBE f (u + 2) 2 = 319 ∨ fieldBE f (u + 2) 2 = 320 then some (u + 8) else none
    | none => none

def ptpType (f : List Byte) : Option Nat := (ptpAt f).map fun h => byteAt f h % 16
def ptpDomain (f : List Byte) : Option Nat := (ptpAt f).map fun h => byteAt f (h + 4)
/-- Sync, Delay_Req, Pdelay_Req and Pdelay_Resp, over Ethernet or UDP port 319. -/
def isPtpEvent (f : List Byte) : Bool :=
  (match ptpType f with
    | some k => decide (k < 4)
    | none => false) && (etherType f == 0x88F7 || udpDest f == some 319)

/-- Bytes put in place of those at an offset. -/
def patch (off : Nat) (bs f : List Byte) : List Byte := f.take off ++ bs ++ f.drop (off + bs.length)

/-- The ones' complement sum of 16-bit words. -/
def sum16 (bs : List Byte) : Nat :=
  ((List.range ((bs.length + 1) / 2)).map fun i => byteAt bs (2 * i) * 256 + byteAt bs (2 * i + 1)).sum % 0xFFFF
/-- The Internet checksum of a byte string. -/
def inetSum (bs : List Byte) : Nat := 0xFFFF - sum16 bs

/-- A checksum after a field has changed from `old` to `new` bytes. -/
def updateSum (ck : Nat) (old new : List Byte) : Nat :=
  0xFFFF - (0xFFFF - ck + (0xFFFF - sum16 old) + sum16 new) % 0xFFFF

/-- A PTP event message with an amount in scaled nanoseconds added to its correction field and its UDP checksum kept right (R407). -/
def correctPtp (add : Int) (f : List Byte) : List Byte :=
  match ptpAt f with
  | none => f
  | some h =>
    let old := slice f (h + 8) 8
    let new := (bytesS 8 (signed 64 (fieldBE f (h + 8) 8) + add)).reverse
    let g := patch (h + 8) new f
    match udpAt f with
    | none => g
    | some u =>
      let ck := fieldBE f (u + 6) 2
      if ck = 0 then g
      else
        let c := updateSum ck old new
        patch (u + 6) (bytesBE 2 (if c = 0 then 0xFFFF else c)) g

/-! ### Group filter (R379, R380) -/

/-- The bytes of a frame that a mask selects. -/
def selected (mask f : List Byte) : List Byte :=
  ((List.range 1024).filter fun b => (byteAt mask (b / 8)).testBit (b % 8)).map fun b => f.getD b 0
def highestBit (mask : List Byte) : Nat :=
  ((List.range 1024).filter fun b => (byteAt mask (b / 8)).testBit (b % 8)).foldl max 0
/-- A frame matches a pattern: long enough, and the CRC-32 of the selected bytes equal to the check value. -/
def matchesPattern (f : List Byte) (p : List Byte × Word) : Bool :=
  decide (highestBit p.1 < f.length) && crc32 (selected p.1 f) == p.2
/-- The hash of an address: the 9 most significant bits of the CRC-32 of its bytes. -/
def macHash (a : Nat) : Nat := (crc32 (bytesBE 6 a)).toNat / 2 ^ 23

/-- The group MAC address of an IP address. -/
def groupMac (ipv addr : Nat) : Nat :=
  if ipv = 6 then 0x333300000000 + addr % 2 ^ 32 else 0x01005E000000 + addr / 2 ^ 96 % 2 ^ 23
def ipIsGroup (ipv addr : Nat) : Bool := if ipv = 6 then addr / 2 ^ 120 == 0xFF else addr / 2 ^ 124 == 0xE

/-! ### Frames that the part forms -/

/-- Ethernet header with a tag when the VLAN ID is 1 to 4094 (R424). -/
def etherHead (dst src vlan pcp typ : Nat) : List Byte :=
  bytesBE 6 dst ++ bytesBE 6 src
    ++ (if 1 ≤ vlan ∧ vlan ≤ 4094 then bytesBE 2 0x8100 ++ bytesBE 2 (pcp * 8192 + vlan) else []) ++ bytesBE 2 typ

/-- A UDP datagram in IPv4 or IPv6; the identification is the value given. The UDP checksum is 0 over IPv4 and computed over IPv6. PRESUMED, log 75. -/
def udpPacket (ipv src dst sport dport dscp ttl ident : Nat) (pay : List Byte) : List Byte :=
  let ulen := 8 + pay.length
  let udp := fun (ck : Nat) => bytesBE 2 sport ++ bytesBE 2 dport ++ bytesBE 2 ulen ++ bytesBE 2 ck ++ pay
  if ipv = 6 then
    let addrs := bytesBE 16 src ++ bytesBE 16 dst
    let ck := inetSum (addrs ++ bytesBE 4 ulen ++ bytesBE 4 17 ++ udp 0)
    bytesBE 4 (6 * 2 ^ 28 + dscp * 2 ^ 22) ++ bytesBE 2 ulen ++ bytesBE 1 17 ++ bytesBE 1 ttl ++ addrs
      ++ udp (if ck = 0 then 0xFFFF else ck)
  else
    let head := fun (ck : Nat) => bytesBE 1 0x45 ++ bytesBE 1 (dscp * 4) ++ bytesBE 2 (20 + ulen) ++ bytesBE 2 ident ++ bytesBE 2 0
      ++ bytesBE 1 ttl ++ bytesBE 1 17 ++ bytesBE 2 ck ++ bytesBE 4 (src / 2 ^ 96) ++ bytesBE 4 (dst / 2 ^ 96)
    head (inetSum (head 0)) ++ udp 0

end Sys2Proof.Machine
end

