-- ==== Sys2Proof/Machine/Dram.lean ====
section
/-! DEFINITION. The DRAM controller: address orders, page prediction, row limits and the parity shadow (R512 to R517, R521). -/

namespace Sys2Proof.Machine

/-- Registers of the DRAM controller of the active Shore: DRC_CFG at +0, DRC_STATUS at +4, DRC_RH at +8. -/
def drcReg (s : State) (off : Nat) : Nat := dieAddr (activeShore s) (0x230000 + off)

/-- The channel address of a DRAM offset: bit 8 removed. -/
def channelAddr (d : Nat) : Nat := d / 512 * 256 + d % 256

/-- Bits of the channel address. -/
def channelBits (s : State) : Nat := Nat.log2 (s.hw.dram.units * 0x800_0000)

/-- Channel, bank and row of a DRAM offset under the order in force (R512). DEDUCED, log 89. -/
def dramPlace (s : State) (d : Nat) : Nat × Nat × Nat :=
  let a := channelAddr d
  let n := channelBits s
  let (bank, row) := match s.hw.dram.order with
    | 0 => (a / 2048 % 16, a / 32768)
    | 1 => (a / 2 ^ (n - 4) % 16, a % 2 ^ (n - 4) / 2048)
    | 2 => (a / 32 % 16, a / 32768)
    | _ => ((a / 2048 % 16) ^^^ (a / 32768 % 16), a / 32768)
  (d / 256 % 2, bank, row)

def dramCounter (channel k : Nat) : Nat := 0x6400 + 8 * channel + k
def dramKey (channel bank : Nat) : Nat := channel * 16 + bank
def getDramBank (s : State) (k : Nat) : DramBank := mapGet dramBank0 s.hw.dram.banks k

/-- One access to a bank: a hit on the open row raises its counter and a miss lowers it; the row stays open while the counter is 2 or 3 and prediction is on (R513). DEDUCED, log 89. -/
def touchRow (s : State) (d : Nat) : State :=
  let (ch, bank, row) := dramPlace s d
  let k := dramKey ch bank
  let b := getDramBank s k
  let hit := b.openRow == some row
  let pred := if hit then min 3 (b.pred + 1) else b.pred - 1
  let keep := decide (2 ≤ pred) && (regOr s 7 (drcReg s 0)).testBit 2
  let s := { s with hw.dram.banks := mapSet s.hw.dram.banks k { openRow := if keep then some row else none, pred := pred } }
  count (dramCounter ch (if hit then 2 else 3)) s

/-- An access of `n` bytes at an internal address of DRAM, in pieces of 256 bytes. DEDUCED, log 89. -/
def touchDram (addr n : Nat) (s : State) : State :=
  let d := addr % 2 ^ 36 - dramBase
  if n = 0 then s else (List.range ((d % 256 + n + 255) / 256)).foldl (fun s j => touchRow s (d / 256 * 256 + 256 * j)) s

/-- A word whose reads fail. DEDUCED, log 36. -/
def dramBad (s : State) (addr : Nat) : Bool := s.hw.ponds.bad.contains (addr / 4 * 4)

/-- A write takes the failing parity of its words away. DEDUCED, log 36. -/
def mendWords (addr n : Nat) (s : State) : State :=
  if s.hw.ponds.bad.isEmpty then s
  else { s with hw.ponds.bad := s.hw.ponds.bad.filter fun a => !(decide (a < addr + n) && decide (addr < a + 4)) }

def dramWrite (addr : Nat) (bs : List Byte) (s : State) : State := mendWords addr bs.length (touchDram addr bs.length (writeBytes addr bs s))

/-- The number of a master on the Shore's matrix (R495). -/
def masterNumber : Master → Nat
  | .ingressRouter => 0
  | .egressRouter => 1
  | .basinRing => 2
  | .ripple _ => 3
  | .warden _ => 3
  | .weirDma => 4
  | .networkMgmt => 4
  | .controlCluster => 5
  | .spring => 6
  | .pcie => 7
  | .qspi => 8
  | .xspi => 9
  | .debug => 10
  | .testEngine => 11

/-- `diag.dram`, at most once a second for each kind and channel (R517). -/
def dramEvent (kind channel : Nat) (m : Master) (addr : Nat) (s : State) : State :=
  eventLimited (0x73000 + kind * 2 + channel) 16 (activeShore s) 0x0E83 0xFFFF
    (bytesLE 1 kind ++ bytesLE 1 channel ++ bytesLE 1 (masterNumber m) ++ bytesLE 5 0 ++ bytesLE 8 addr) s

/-- An offset of DRAM that decodes. -/
def dramOffset (s : State) (addr : Nat) : Option Nat :=
  let d := addr % 2 ^ 36 - dramBase
  if dramBase ≤ addr % 2 ^ 36 ∧ d < dramSize s then some d else none

/-- DRAM_PARITY_ERROR: a good second read is a replay; a second mismatch makes the word's read fail, and Nerris' own data is fatal (R515). -/
def execDramParityError (addr : Nat) (m : Master) (second : Bool) (s : State) : Host.Outcome State Fault Refusal :=
  .next (match dramOffset s addr with
    | none => s
    | some d =>
      if !powered s (activeShore s) ∨ s.hw.dram.st ≠ 1 then s
      else
        let ch := d / 256 % 2
        let a := dramAddr s d
        let s := dramEvent (flag second) ch m a (count (dramCounter ch (flag second)) s)
        if !second then s
        else if m = .controlCluster then fatal 3 (activeShore s) s
        else { s with hw.ponds.bad := a / 4 * 4 :: s.hw.ponds.bad })

/-- ROWHAMMER_THROTTLE: a master's activate count of a row has reached the threshold; the row is limited for the rest of the window and its bank refreshed (R514). -/
def execRowhammerThrottle (channel bank row : Nat) (m : Master) (addr : Nat) (s : State) : Host.Outcome State Fault Refusal :=
  .next (
    let key := (channel, bank, row, masterNumber m)
    if 2 ≤ channel ∨ 16 ≤ bank ∨ s.hw.dram.st ≠ 1 ∨ !powered s (activeShore s) then s
    else
      let s' := count (dramCounter channel 4) s
      if s.hw.dram.limited.contains key then s'
      else
        let s := { s' with hw.dram.limited := key :: s'.hw.dram.limited }
        dramEvent 2 channel m addr (emit (.refresh channel bank) (count (dramCounter channel 5) s)))

/-- REFRESH_WINDOW_END: the counts and limits of the window end. -/
def execRefreshWindowEnd (s : State) : Host.Outcome State Fault Refusal := .next { s with hw.dram.limited := [] }

/-- DRAM_ROW_IDLE_CLOSE: an open row without an access for 1 µs is closed. -/
def execDramRowIdleClose (channel bank : Nat) (s : State) : Host.Outcome State Fault Refusal :=
  .next (if 2 ≤ channel ∨ 16 ≤ bank then s
    else
      let k := dramKey channel bank
      { s with hw.dram.banks := mapSet s.hw.dram.banks k { getDramBank s k with openRow := none } })

end Sys2Proof.Machine
end

