-- ==== Sys2Proof/Machine/Basin.lean ====
section
/-! DEFINITION. Basin: references and their copies (R150) and the `mem.basin` messages (R162). -/

namespace Sys2Proof.Machine

/-- A Basin reference in a payload: offset, length and CRC, which versions below 3.0 do not carry (R148, R150). -/
def refOffset (p : List Byte) (at_ : Nat) : Nat := fieldLE p at_ 8
def refLength (p : List Byte) (at_ : Nat) : Nat := fieldLE p (at_ + 8) 4
def refCrc (p : List Byte) (at_ : Nat) : Nat := fieldLE p (at_ + 12) 4
/-- Bytes of a reference at a version. -/
def refSize (ver : Nat) : Nat := if ver < 0x30 then 12 else 16

/-- A range of Basin. -/
def inBasin (s : State) (off len : Nat) : Bool := decide (off + len ≤ basinSize s)

/-- What a copy of a reference gives: the reason and the field of a refusal, or the bytes. The CRC is the reference's field at 12, the length its field at 8. DESIGN CHOICE, log 14. -/
def takeReference (ver at_ : Nat) (p : List Byte) (s : State) : Except (Nat × Nat) (List Byte) :=
  let off := refOffset p at_
  let len := refLength p at_
  if 0x200_0000 < len then .error (0, at_ + 8)
  else if !inBasin s off len then .error (0, at_)
  else
    let data := readBytes s (basinStart s + off) len
    if ver < 0x30 ∨ (crc32 data).toNat = refCrc p at_ then .ok data else .error (1, at_ + 12)

/-- The bytes of a request's reference at offset `at_` of its payload: from the copy that Nerris took, from the replayed record, or copied now; or the refusal. -/
def fetchReference (rq : Request) (at_ : Nat) (s : State) : Except Reply (List Byte × State) :=
  if rq.sender = 0x8000 then .ok (rq.payload.drop (at_ + refSize rq.version), s)
  else
    match s.msg.ncp.copies.find? fun c => c.dest == destKey rq && c.seq == rq.seq with
    | some c =>
      let t := { s with msg.ncp.copies := s.msg.ncp.copies.erase c }
      if c.ok then .ok (c.data, t) else .error (refuse codeBadArg 1 (at_ + 12) t)
    | none =>
      match takeReference rq.version at_ rq.payload s with
      | .ok d => .ok (d, s)
      | .error r => .error (refuse codeBadArg r.1 r.2 s)

/-- The place of the Basin reference in a request of a length: the messages that name one put it at offset 0, 4 or 8; the copy is taken for the message that the request's outstanding entry names. -/
def referencePlace (op : Nat) : Option Nat :=
  match op with
  | 0x0103 => some 0
  | 0x0300 => some 8
  | 0x0402 => some 4
  | 0x0A00 => some 4
  | _ => none

/-- BASIN_REFERENCE_COPY: the range is copied out of Basin and the CRC of the copy checked; only the copy is ever used (R150). -/
def execBasinReferenceCopy (rq : Request) (s : State) : Host.Outcome State Fault Refusal :=
  .next (
    if !nerrisUp s then s
    else match s.msg.ncp.outstanding.find? fun o => o.dest == destKey rq && o.seq == rq.seq with
      | none => s
      | some o =>
        match referencePlace o.opcode with
        | none => s
        | some at_ =>
          let c : BasinCopy := match takeReference rq.version at_ rq.payload s with
            | .ok d => { dest := destKey rq, seq := rq.seq, ok := true, data := d }
            | .error r => { dest := destKey rq, seq := rq.seq, ok := r.1 != 1, data := [] }
          if !inBasin s (refOffset rq.payload at_) (refLength rq.payload at_) ∨ 0x200_0000 < refLength rq.payload at_ then s
          else { s with msg.ncp.copies := s.msg.ncp.copies ++ [c] })

/-- An address with die field 0xE. -/
def hubAddr (a : Nat) : Nat := 0xE * 2 ^ 36 + a % 2 ^ 36

def memBasinInfoBody (_ : Request) (s : State) : Reply :=
  replyOk (bytesLE 8 (hubAddr (basinStart s)) ++ bytesLE 8 (basinSize s) ++ bytesLE 8 (hubAddr (dumpStart s))
    ++ bytesLE 8 (s.msg.mbx.bar2 * 0x10_0000)) s

/-- `mem.basin.info`. -/
def memBasinInfoOp : NcpOp :=
  { opcode := 0x0B02, layout := fun _ => [], staged := never, key := noKey, body := memBasinInfoBody }

def execMemBasinInfo (rq : Request) (s : State) : Host.Outcome State Fault Refusal := .next (serve memBasinInfoOp rq s)

def memBasinMapBody (rq : Request) (s : State) : Reply :=
  let off := fieldLE rq.payload 0 8
  if off % 0x10_0000 ≠ 0 ∨ basinSize s < off + bar2Size then badArg 0 s
  else replyOk [] { s with msg.mbx.bar2 := off / 0x10_0000 }

/-- `mem.basin.map`: a multiple of 1 MiB, the window within Basin. -/
def memBasinMapOp : NcpOp :=
  { opcode := 0x0B03, layout := fun _ => [8], staged := never, key := keyBytes 0, body := memBasinMapBody }

def execMemBasinMap (rq : Request) (s : State) : Host.Outcome State Fault Refusal := .next (serve memBasinMapOp rq s)

def memBasinWriteBody (rq : Request) (s : State) : Reply :=
  let off := fieldLE rq.payload 0 8
  let len := fieldLE rq.payload 8 2
  if len < 1 ∨ 992 < len then badArg 8 s
  else if rq.payload.length < 16 + len then badArg 16 s
  else if !inBasin s off len then badArg 0 s
  else replyOk [] (dramWrite (basinStart s + off) (slice rq.payload 16 len) s)

/-- `mem.basin.write`. -/
def memBasinWriteOp : NcpOp :=
  { opcode := 0x0B04, layout := fun _ => [8, 2, 6], staged := never, key := noKey, body := memBasinWriteBody }

def execMemBasinWrite (rq : Request) (s : State) : Host.Outcome State Fault Refusal := .next (serve memBasinWriteOp rq s)

def memBasinReadBody (rq : Request) (s : State) : Reply :=
  let off := fieldLE rq.payload 0 8
  let len := fieldLE rq.payload 8 2
  if len < 1 ∨ 1000 < len then badArg 8 s
  else if !inBasin s off len then badArg 0 s
  else replyOk (readBytes s (basinStart s + off) len) (touchDram (basinStart s + off) len s)

/-- `mem.basin.read`. -/
def memBasinReadOp : NcpOp :=
  { opcode := 0x0B05, layout := fun _ => [8, 2], staged := never, key := noKey, body := memBasinReadBody }

def execMemBasinRead (rq : Request) (s : State) : Host.Outcome State Fault Refusal := .next (serve memBasinReadOp rq s)

/-- A setting whose request named a Basin reference, noted with its bytes after the layout. DEDUCED, log 25. -/
def noteWithBytes (staged : Bool) (op at_ : Nat) (key : List Byte) (rq : Request) (data : List Byte) (s : State) : State :=
  let pay := rq.payload.take (at_ + refSize rq.version)
  let pay := if rq.version < 0x30 then pay ++ bytesLE 4 (crc32 data).toNat else pay
  noteSetting staged { layer := 1, opcode := op, flow := rq.flow, key := key, payload := pay ++ data } s

end Sys2Proof.Machine
end

