-- ==== Sys2Proof/Machine/Real.lean ====
section
/-! DEFINITION. The real-valued laws of the geometry engine, the mesh and the protection, in fixed point: an `Int` in units of 2⁻⁶⁴ (R209 to R227, R277 to R284). The laws state exact real values that a last step rounds; this arithmetic stays within 2⁻⁵⁰ of them. -/

namespace Sys2Proof.Machine

def fxPi : Int := 57952155664616982739
def fxLn2 : Int := 12786308645202655660
def fxLn10 : Int := 42475197918399869020

/-- An integer as a fixed-point value. DESIGN CHOICE, log 17. -/
def fxOf (n : Int) : Int := n * fxOne
/-- The fraction `n / d`. -/
def fxFrac (n d : Int) : Int := n * fxOne / d
def fxMul (a b : Int) : Int := (a * b + 2 ^ 63) / 2 ^ 64
/-- Division; 0 where the divisor is 0, which no caller asks for. -/
def fxDiv (a b : Int) : Int := if b = 0 then 0 else a * fxOne / b
/-- The nearest integer, ties upward. DESIGN CHOICE, log 17. -/
def fxRound (a : Int) : Int := (2 * a + fxOne) / (2 * fxOne)
/-- The nearest multiple of `1 / n` as an integer count, ties upward. -/
def fxRoundTo (n : Int) (a : Int) : Int := fxRound (a * n)

/-- Integer square root, rounded down: bits `k - 1 .. 0` of the root decided above `r`. -/
def sqrtBits (n : Nat) : Nat → Nat → Nat
  | 0, r => r
  | k + 1, r => if (r + 2 ^ k) * (r + 2 ^ k) ≤ n then sqrtBits n k (r + 2 ^ k) else sqrtBits n k r

def natSqrt (n : Nat) : Nat := sqrtBits n (Nat.log2 n / 2 + 1) 0
/-- DESIGN CHOICE, log 17. -/
def fxSqrt (a : Int) : Int := natSqrt (a.toNat * 2 ^ 64)

/-- `t + t·x/j + t·x²/(j(j+1)) + …`, `n` terms. -/
def expTerms (x : Int) : Nat → Nat → Int → Int
  | 0, _, _ => 0
  | n + 1, j, t => t + expTerms x n (j + 1) (fxMul t x / (j : Int))

/-- eˣ. DESIGN CHOICE, log 17. -/
def fxExp (x : Int) : Int :=
  let k := fxRound (fxDiv x fxLn2)
  let r := expTerms (x - k * fxLn2) 28 1 fxOne
  if k ≥ 0 then r * 2 ^ k.toNat else r / 2 ^ (-k).toNat

/-- `y + y³/3 + y⁵/5 + …` by its terms, or with alternating signs when `s = -1`. -/
def oddTerms (y2 s : Int) : Nat → Nat → Int → Int
  | 0, _, _ => 0
  | n + 1, j, t => t / (j : Int) + oddTerms y2 s n (j + 2) (s * fxMul t y2)

/-- The natural logarithm of a positive value. DESIGN CHOICE, log 17. -/
def fxLn (x : Int) : Int :=
  let k : Int := (Nat.log2 x.toNat : Int) - 64
  let m := if k ≥ 0 then x / 2 ^ k.toNat else x * 2 ^ (-k).toNat
  let y := fxDiv (m - fxOne) (m + fxOne)
  k * fxLn2 + 2 * oddTerms (fxMul y y) 1 28 1 y

/-- `j`-th and later terms of a sine or cosine series. -/
def trigTerms (x2 : Int) : Nat → Nat → Int → Int
  | 0, _, _ => 0
  | n + 1, j, t => t + trigTerms x2 n (j + 2) (-(fxMul t x2) / ((j * (j + 1) : Nat) : Int))

/-- An angle in radians brought to −π .. π. -/
def fxWrap (x : Int) : Int := x - fxRound (fxDiv x (2 * fxPi)) * (2 * fxPi)

/-- DESIGN CHOICE, log 17. -/
def fxSin (x : Int) : Int :=
  let y := fxWrap x
  trigTerms (fxMul y y) 24 2 y

def fxCos (x : Int) : Int :=
  let y := fxWrap x
  trigTerms (fxMul y y) 24 1 fxOne

/-- The arctangent: two halvings of the angle, then the series. DESIGN CHOICE, log 17. -/
def fxAtan (x : Int) : Int :=
  let h := fun a => fxDiv a (fxOne + fxSqrt (fxOne + fxMul a a))
  let y := h (h x)
  4 * oddTerms (fxMul y y) (-1) 40 1 y

/-- The angle of the point (x, y), −π .. π; 0 at the origin. -/
def fxAtan2 (y x : Int) : Int :=
  if x = 0 then (if y > 0 then fxPi / 2 else if y < 0 then -(fxPi / 2) else 0)
  else if x > 0 then fxAtan (fxDiv y x)
  else if y ≥ 0 then fxAtan (fxDiv y x) + fxPi
  else fxAtan (fxDiv y x) - fxPi

/-- The angle in 0 .. π whose cosine is `c`, limited to −1 .. 1. -/
def fxAcos (c : Int) : Int :=
  let d := clampInt (-fxOne) fxOne c
  fxAtan2 (fxSqrt (fxOne - fxMul d d)) d

/-- An angle in radians as degrees, and back. -/
def fxDegrees (x : Int) : Int := fxDiv (x * 180) fxPi
def fxRadians (x : Int) : Int := fxMul x fxPi / 180

/-- The amplitude ratio of a level in decibels: 10^(x/20). -/
def fxDb (x : Int) : Int := fxExp (fxMul x fxLn10 / 20)
/-- The level in decibels of a positive amplitude ratio. -/
def fxToDb (x : Int) : Int := fxDiv (20 * fxLn x) fxLn10
/-- A gain field in 1/256 dB, −32768 meaning off (R149), as an amplitude ratio. -/
def fxGain (g : Int) : Int := if g = -32768 then 0 else fxDb (fxFrac g 256)
/-- A positive base to a real power. -/
def fxPow (b e : Int) : Int := if b ≤ 0 then 0 else fxExp (fxMul e (fxLn b))
def fxTan (x : Int) : Int := fxDiv (fxSin x) (fxCos x)

end Sys2Proof.Machine
end

