-- ==== Sys2Proof/Machine/ChainCfg.lean ====
section
/-! DEFINITION. The settings of the speaker chain: demand and budgets (R270 to R275, R286), and the chain messages (R290, R291, R481). -/

namespace Sys2Proof.Machine

/-! ### Channels (R263) -/

/-- Whether a channel index names a speaker or a bus of the member. -/
def isChannel (m : Member) (c : Nat) : Bool := decide (c < m.speakers) || (decide (512 ≤ c) && decide (c < 544))
def isBus (c : Nat) : Bool := decide (512 ≤ c)
/-- The channels homed on a Tarn: speakers of the member, then buses. -/
def homedChannels (m : Member) (die : Nat) : List Nat :=
  (List.range m.speakers ++ (List.range 32).map (· + 512)).filter fun c => homeTile m c == die

/-- The active or staged settings of a channel, and its speaker's record in the active or staged table. -/
def chanSet (s : State) (staged : Bool) (c : Nat) : ChanSet := mapGet chan0 (if staged then s.chain.stage else s.chain.sets) c
def setStage (c : Nat) (x : ChanSet) (s : State) : State := { s with chain.stage := mapSet s.chain.stage c x }
def spkRec? (t : SpkTable) (c : Nat) : Option SpkRec := t.recs[c]?
def tableOf (s : State) (staged : Bool) : SpkTable := if staged then s.rend.geoStage.table else s.rend.geo.table

/-- Whether a channel runs under a table: every bus, and the speakers below S. -/
def runsUnder (t : SpkTable) (c : Nat) : Bool := isBus c || decide (c < t.recs.length)

/-- Trim, delay and model of a channel: a speaker's record's, a bus's own (R275, R276, R282). -/
def trimOf (t : SpkTable) (x : ChanSet) (c : Nat) : Int :=
  if isBus c then x.cfg.trim else match spkRec? t c with
    | some r => r.gain
    | none => 0
def delayOf (t : SpkTable) (x : ChanSet) (c : Nat) : Nat :=
  if isBus c then x.cfg.delay else match spkRec? t c with
    | some r => r.delay
    | none => 0
def modelOf (t : SpkTable) (x : ChanSet) (c : Nat) : Nat :=
  if isBus c then x.cfg.model else match spkRec? t c with
    | some r => r.model
    | none => 0xFFFF

/-! ### Demand and budgets (R286) -/

def firDemand (t : SpkTable) (x : ChanSet) (c : Nat) : Nat := if runsUnder t c then (x.fir.length + 15) / 16 * 16 else 0
def sosDemand (t : SpkTable) (x : ChanSet) (c : Nat) : Nat := if runsUnder t c then x.sosCount else 0
def granuleDemand (t : SpkTable) (x : ChanSet) (c : Nat) : Nat := if runsUnder t c then (delayOf t x c + 255) / 256 else 0

/-- The larger of the active and staged demand, summed over the channels homed on a tile, with the staged settings given. -/
def tileDemand (d : SpkTable → ChanSet → Nat → Nat) (s : State) (table : SpkTable) (stage : AMap ChanSet) (die : Nat) : Nat :=
  ((homedChannels s.member die).map fun c =>
    max (d s.rend.geo.table (chanSet s false c) c) (d table (mapGet chan0 stage c) c)).sum

def tileGranules (s : State) (table : SpkTable) (stage : AMap ChanSet) (die : Nat) : Nat := tileDemand granuleDemand s table stage die
/-- Whether every tile holds the delays of a table and a staged set (R275). DEDUCED, log 63. -/
def granulesFit (s : State) (table : SpkTable) (stage : AMap ChanSet) : Bool :=
  s.member.tarnDies.all fun d => decide (tileGranules s table stage d ≤ 2048)

/-- 10⁶ MAC/s and 10³ section-samples/s of a tile. DEDUCED, log 63. -/
def tileFir (s : State) (stage : AMap ChanSet) (die : Nat) : Nat := tileDemand firDemand s s.rend.geoStage.table stage die * frHz s
/-- DEDUCED, log 63. -/
def tileSos (s : State) (stage : AMap ChanSet) (die : Nat) : Nat := tileDemand sosDemand s s.rend.geoStage.table stage die * frHz s
def firLimit : Nat := 14400000000
def sosLimit : Nat := 720000000
/-- The longest FIR at a rate (R272). -/
def firMax (hz : Nat) : Nat := if hz ≤ 48000 then 2048 else if hz ≤ 96000 then 1024 else 512

/-! ### chain.cfg -/

/-- The `chain.cfg` layout of settings. -/
def chanCfgBytes (x : ChanCfg) (trim : Int) (delay model : Nat) : List Byte :=
  let b := fun k => (x.sends[k]?).getD (0, 0)
  bytesLE 1 (flag x.invert + 2 * flag x.mainOff + 4 * flag x.sosBypass + 8 * flag x.firBypass + 16 * flag x.protBypass)
    ++ bytesLE 1 x.sends.length ++ bytesLE 1 (b 0).1 ++ bytesLE 1 (b 1).1 ++ bytesS 2 (b 0).2 ++ bytesS 2 (b 1).2
    ++ bytesS 2 trim ++ bytesLE 2 delay ++ bytesLE 2 model ++ bytesLE 2 0

def chainCfgBody (rq : Request) (s : State) : Reply :=
  let p := rq.payload
  let c := rq.flow
  let f := byteAt p 0
  let n := byteAt p 1
  let g0 := min 3072 (fieldS p 4 2)
  let g1 := min 3072 (fieldS p 6 2)
  let trim := min 3072 (fieldS p 8 2)
  let delay := min 8191 (fieldLE p 10 2)
  let model := fieldLE p 12 2
  if !isChannel s.member c then badArg noField s
  else if 2 < n then badArg 1 s
  else if isBus c && bit f 1 then refuse codeBadArg 2 0 s
  else if isBus c && decide (0 < n) then refuse codeBadArg 2 1 s
  else if 1 ≤ n ∧ 32 ≤ byteAt p 2 then badArg 2 s
  else if n = 2 ∧ (32 ≤ byteAt p 3 ∨ byteAt p 2 = byteAt p 3) then badArg 3 s
  else if isBus c && decide (512 ≤ model) && model != 0xFFFF then badArg 12 s
  else
    let x : ChanCfg :=
      { invert := bit f 0, mainOff := bit f 1, sosBypass := bit f 2, firBypass := bit f 3, protBypass := bit f 4
        sends := [(byteAt p 2, g0), (byteAt p 3, g1)].take n
        trim := if isBus c then trim else 0, delay := if isBus c then delay else 0
        model := if isBus c then model else 0xFFFF }
    let stage := mapSet s.chain.stage c { chanSet s true c with cfg := x }
    if !granulesFit s s.rend.geoStage.table stage then refuse codeNoResource 7 (if isBus c then 10 else noField) s
    else
      let lim := firstBad [(4, decide (n < 1) || g0 == fieldS p 4 2), (6, decide (n < 2) || g1 == fieldS p 6 2),
        (8, !isBus c || trim == fieldS p 8 2), (10, !isBus c || delay == fieldLE p 10 2)]
      let used := p.take 4 ++ bytesS 2 (if 1 ≤ n then g0 else fieldS p 4 2) ++ bytesS 2 (if 2 ≤ n then g1 else fieldS p 6 2)
        ++ bytesS 2 (if isBus c then trim else fieldS p 8 2) ++ bytesLE 2 (if isBus c then delay else fieldLE p 10 2)
        ++ bytesLE 2 model ++ bytesLE 2 0
      replyUsed lim used [] { s with chain.stage := stage }

/-- `chain.cfg`. -/
def chainCfgOp : NcpOp :=
  { opcode := 0x0400, layout := fun _ => [1, 1, 1, 1, 2, 2, 2, 2, 2, 2], staged := always, key := keyBytes 0, body := chainCfgBody }

def execChainCfg (rq : Request) (s : State) : Host.Outcome State Fault Refusal := .next (serve chainCfgOp rq s)

/-! ### chain.sos.stage -/

/-- Section `i` of the payload. -/
def sectionAt (p : List Byte) (i : Nat) : Section :=
  let o := 4 + 20 * i
  { b0 := fieldS p o 4, b1 := fieldS p (o + 4) 4, b2 := fieldS p (o + 8) 4, a1 := fieldS p (o + 12) 4, a2 := fieldS p (o + 16) 4 }

/-- Poles strictly inside the unit circle: |a2| < 1 and |a1| < 1 + a2 (R269). -/
def Section.stable (x : Section) : Bool :=
  decide (x.a2.natAbs < 2 ^ 28) && decide ((x.a1.natAbs : Int) < 2 ^ 28 + x.a2)

/-- The largest section count up to `n` that a tile admits for a channel (R273). DEDUCED, log 63. -/
def sosFit (s : State) (c : Nat) (x : ChanSet) : Nat → Nat
  | 0 => 0
  | n + 1 =>
    if tileSos s (mapSet s.chain.stage c { x with sosCount := n + 1 }) (homeTile s.member c) ≤ sosLimit then n + 1 else sosFit s c x n

def chainSosStageBody (rq : Request) (s : State) : Reply :=
  let p := rq.payload
  let c := rq.flow
  let n := byteAt p 0
  let first := byteAt p 1
  let w := byteAt p 2
  if !isChannel s.member c then badArg noField s
  else if 24 < n then badArg 0 s
  else if 24 < first + w then badArg 1 s
  else if p.length < 4 + 20 * w then badArg (4 + (p.length - 4) / 4 * 4) s
  else match (List.range w).find? fun i => !(sectionAt p i).stable with
    | some i => refuse codeBadArg 1 (4 + 20 * i + 12) s
    | none =>
      let x := chanSet s true c
      let x := { x with sos := (List.range w).foldl (fun m i => mapSet m (first + i) (sectionAt p i)) x.sos }
      let used := sosFit s c x n
      let t := setStage c { x with sosCount := used } s
      replyUsed (if used = n then none else some 0) (bytesLE 1 used) [] t

/-- `chain.sos.stage`; a record of it is kept for each run of sections written. -/
def chainSosStageOp : NcpOp :=
  { opcode := 0x0401, layout := fun _ => [1, 1, 1, 1], staged := always, key := fun rq => some ((rq.payload.take 3).drop 1)
    body := chainSosStageBody }

def execChainSosStage (rq : Request) (s : State) : Host.Outcome State Fault Refusal := .next (serve chainSosStageOp rq s)

/-! ### chain.fir.stage -/

/-- A FIR coefficient: signed Q2.22 in [23:0] (R271). -/
def firCoef (d : List Byte) (i : Nat) : Int := signed 24 (fieldLE d (4 * i) 4)

/-- The index of the coefficient of largest magnitude, the lowest among equals (R274). -/
def peakTap (cs : List Int) : Nat :=
  (cs.zipIdx.foldl (fun (b : Nat × Nat) e => if b.1 < e.1.natAbs then (e.1.natAbs, e.2) else b) (0, 0)).2

/-- The largest FIR length that a tile admits: the length asked for, or a multiple of 16 below it. DEDUCED, log 63. -/
def firFit (s : State) (c : Nat) (x : ChanSet) (cs : List Int) : Nat → Nat
  | 0 => 0
  | k + 1 =>
    if tileFir s (mapSet s.chain.stage c { x with fir := cs.take (16 * (k + 1)) }) (homeTile s.member c) ≤ firLimit then 16 * (k + 1)
    else firFit s c x cs k

def chainFirStageBody (rq : Request) (s : State) : Reply :=
  let p := rq.payload
  let c := rq.flow
  let len := fieldLE p 0 2
  if !isChannel s.member c then badArg noField s
  else if refLength p 4 ≠ 4 * len then badArg 12 s
  else match fetchReference rq 4 s with
    | .error r => r
    | .ok (d, s) =>
      let n := min len (firMax (frHz s))
      let cs := (List.range n).map (firCoef d)
      let x := chanSet s true c
      let whole := decide (tileFir s (mapSet s.chain.stage c { x with fir := cs }) (homeTile s.member c) ≤ firLimit)
      let used := if whole then cs else cs.take (firFit s c x cs ((n + 15) / 16))
      let t := noteWithBytes true 0x0402 4 [] rq d (setStage c { x with fir := used } s)
      replyUsed (if used.length = len then none else some 0) (bytesLE 2 used.length ++ bytesLE 2 (peakTap used)) [] t

/-- `chain.fir.stage`. -/
def chainFirStageOp : NcpOp :=
  { opcode := 0x0402, layout := fun v => [2, 2, 8, 4] ++ (if v < 0x30 then [] else [4]), staged := always, key := noKey
    body := chainFirStageBody }

def execChainFirStage (rq : Request) (s : State) : Host.Outcome State Fault Refusal := .next (serve chainFirStageOp rq s)

/-! ### chain.prot.cfg -/

def protBytes (x : ProtCfg) : List Byte :=
  bytesLE 1 (flag x.excursion + 2 * flag x.thermal + 4 * flag x.peak) ++ bytesLE 1 x.look ++ bytesS 2 x.threshold
    ++ bytesLE 2 x.release ++ bytesLE 2 x.margin ++ bytesLE 4 0

/-- DEDUCED, log 64. -/
def chainProtCfgBody (rq : Request) (s : State) : Reply :=
  let p := rq.payload
  let c := rq.flow
  let en := byteAt p 0
  let look := min 64 (byteAt p 1)
  let thr := clampInt (-12288) 6144 (fieldS p 2 2)
  let rel := clampNat 1 5000 (fieldLE p 4 2)
  let margin := clampNat 500 1000 (fieldLE p 6 2)
  if !isChannel s.member c then badArg noField s
  else
    let x : ProtCfg := { excursion := bit en 0, thermal := bit en 1, peak := bit en 2, look := look, threshold := thr, release := rel, margin := margin }
    let lim := firstBad [(1, look == byteAt p 1), (2, thr == fieldS p 2 2), (4, rel == fieldLE p 4 2), (6, margin == fieldLE p 6 2)]
    replyUsed lim (protBytes x) [] (setStage c { chanSet s true c with prot := x } s)

/-- `chain.prot.cfg` (R277, R279). -/
def chainProtCfgOp : NcpOp :=
  { opcode := 0x0403, layout := fun _ => [1, 1, 2, 2, 2, 4], staged := always, key := keyBytes 0, body := chainProtCfgBody }

def execChainProtCfg (rq : Request) (s : State) : Host.Outcome State Fault Refusal := .next (serve chainProtCfgOp rq s)

/-! ### chain.model (R481) -/

/-- The model in a payload. -/
def modelAt (p : List Byte) : Model :=
  { re := fieldLE p 4 4, bl := fieldLE p 8 4, mms := fieldLE p 12 4, cms := fieldLE p 16 4, rms := fieldLE p 20 4
    xmax := fieldLE p 24 4, vpk := fieldLE p 28 4, coilR := fieldLE p 32 2, coilT := fieldLE p 34 2, magR := fieldLE p 36 2
    magT := fieldLE p 38 2, tmax := fieldS p 40 2, ambient := fieldS p 42 2, alpha := fieldLE p 44 2 }

/-- fs = 1 / (2π √(Mms·Cms)) in hertz, fixed point; Mms in mg and Cms in µm/N. -/
def Model.fs (x : Model) : Int := fxDiv (fxOf 1000000) (2 * fxMul fxPi (fxSqrt (fxOf (x.mms * x.cms : Nat))))

/-- Qts = 2π fs Mms / (Rms + Bl² / Re), which is Qms·Qes / (Qms + Qes), at Re(Tambient). -/
def Model.qts (x : Model) : Int :=
  fxDiv (fxMul (2 * fxMul fxPi x.fs) (fxFrac x.mms 1000)) (fxOf x.rms + fxFrac (x.bl * x.bl : Nat) x.re)

def chainModelBody (rq : Request) (s : State) : Reply :=
  let p := rq.payload
  let i := fieldLE p 0 2
  let m := modelAt p
  if 512 ≤ i then badArg 0 s
  else match firstBad [(4, m.re != 0), (8, m.bl != 0), (12, m.mms != 0), (16, m.cms != 0), (24, m.xmax != 0)] with
    | some f => refuse codeBadArg 3 f s
    | none =>
      if fxOf (frHz s) < 8 * m.fs then refuse codeBadArg 4 noField s
      else
        let fs := min 65535 (fxRoundTo 10 m.fs).toNat
        let q := min 65535 (fxRoundTo 1000 m.qts).toNat
        replyOk (bytesLE 2 fs ++ bytesLE 2 q) { s with chain.modelStage := mapSet s.chain.modelStage i m }

/-- `chain.model`. -/
def chainModelOp : NcpOp :=
  { opcode := 0x0404, layout := fun _ => [2, 2, 4, 4, 4, 4, 4, 4, 4, 2, 2, 2, 2, 2, 2, 2, 2], staged := always, key := keyBytes 2
    body := chainModelBody }

def execChainModel (rq : Request) (s : State) : Host.Outcome State Fault Refusal := .next (serve chainModelOp rq s)

/-! ### chain.get, chain.status, chain.budget -/

/-- Whether a channel's model is one that has been committed (R282). -/
def modelInForce (s : State) (t : SpkTable) (x : ChanSet) (c : Nat) : Option Model := mapFind s.chain.models (modelOf t x c)

def chainGetBody (rq : Request) (s : State) : Reply :=
  let c := rq.flow
  let b := byteAt rq.payload 0
  if !isChannel s.member c then badArg noField s
  else if 1 < b then badArg 0 s
  else
    let x := chanSet s (b == 1) c
    let t := tableOf s (b == 1)
    replyOk (chanCfgBytes x.cfg (trimOf t x c) (delayOf t x c) (modelOf t x c) ++ bytesLE 1 x.sosCount ++ bytesLE 1 0
      ++ bytesLE 2 x.fir.length ++ bytesLE 2 (peakTap x.fir) ++ bytesLE 2 ((delayOf t x c + 255) / 256) ++ protBytes x.prot
      ++ bytesLE 1 (flag (modelInForce s t x c).isSome) ++ bytesLE 3 0) s

/-- `chain.get`. -/
def chainGetOp : NcpOp := { opcode := 0x0405, layout := fun _ => [1], staged := never, key := noKey, body := chainGetBody }

def execChainGet (rq : Request) (s : State) : Host.Outcome State Fault Refusal := .next (serve chainGetOp rq s)

/-- A gain in 1/256 dB, −32768 for zero. -/
def gain256 (g : Int) : Int := if g ≤ 0 then -32768 else clampInt (-32767) 32767 (fxRoundTo 256 (fxToDb g))

/-- Inserts set at a point of a speaker: point 1 SPK_SUM, 2 SPK_OUT; OBJ_PRE is point 0. -/
def insertKey (point id : Nat) : Nat := point * 4096 + id
def insertsOf (s : State) (c : Nat) : Nat :=
  flag (mapHas s.chain.inserts (insertKey 1 c)) + flag (mapHas s.chain.inserts (insertKey 2 c))

def getChan (s : State) (c : Nat) : ChanState := mapGet chanState0 s.chain.states c
def setChan (c : Nat) (x : ChanState) (s : State) : State := { s with chain.states := mapSet s.chain.states c x }

/-- The coil and magnet estimates of a channel in °C: those running, those that they will start from (R281, R283), and values that the spec does not state where the channel has no model. DEDUCED, log 65. -/
def estimates (s : State) (c : Nat) : Int × Int :=
  let q := (getChan s c).prot
  match modelInForce s (tableOf s false) (chanSet s false c) c with
  | none => (fxFrac (Config.unstated 290 (2 * c)) 16, fxFrac (Config.unstated 290 (2 * c + 1)) 16)
  | some m =>
    let start := if q.seed = 2 then fxFrac m.tmax 16 - fxOf 20 else fxFrac m.ambient 16
    if q.seed = 0 then (q.coil, q.magnet) else (start, start)

/-- An estimate in 1/16 °C as a message carries it. -/
def estimateBytes (v : Int) : List Byte := bytesS 2 (clampInt (-32768) 32767 (fxRoundTo 16 v))

def chainStatusBody (rq : Request) (s : State) : Reply :=
  let c := rq.flow
  if !isChannel s.member c then badArg noField s
  else
    let x := chanSet s false c
    let t := tableOf s false
    let q := (getChan s c).prot
    let ins := if isBus c then 0 else insertsOf s c
    replyOk (bytesS 2 (gain256 q.ge) ++ bytesS 2 (gain256 q.gt) ++ bytesS 2 (gain256 q.gp)
      ++ bytesLE 2 (fxRound q.corner).toNat ++ estimateBytes (estimates s c).1 ++ estimateBytes (estimates s c).2
      ++ bytesLE 4 (fxRoundTo 1000000 q.xLast).toNat ++ bytesLE 4 (ins + delayOf t x c + x.prot.look + peakTap x.fir)) s

/-- `chain.status`. -/
def chainStatusOp : NcpOp := { opcode := 0x0406, layout := fun _ => [], staged := never, key := noKey, body := chainStatusBody }

def execChainStatus (rq : Request) (s : State) : Host.Outcome State Fault Refusal := .next (serve chainStatusOp rq s)

def chainBudgetBody (rq : Request) (s : State) : Reply :=
  let d := byteAt rq.payload 0
  if !s.member.tarnDies.contains d then badArg 0 s
  else
    replyOk (bytesLE 4 (tileFir s s.chain.stage d / 1000000) ++ bytesLE 4 14400 ++ bytesLE 4 (tileSos s s.chain.stage d / 1000)
      ++ bytesLE 4 720000 ++ bytesLE 2 (tileGranules s s.rend.geoStage.table s.chain.stage d) ++ bytesLE 2 2048) s

/-- `chain.budget`. -/
def chainBudgetOp : NcpOp := { opcode := 0x0407, layout := fun _ => [1], staged := never, key := noKey, body := chainBudgetBody }

def execChainBudget (rq : Request) (s : State) : Host.Outcome State Fault Refusal := .next (serve chainBudgetOp rq s)

end Sys2Proof.Machine
end

