-- ==== Sys2Proof/Machine/Mesh.lean ====
section
/-! DEFINITION. Vectors, and the panning mesh: its vertices, hull, cells and gains (R218 to R221). -/

namespace Sys2Proof.Machine

/-- A vector of three integers: a Q16.16 position, or a unit vector in units of 2⁻⁶⁴. -/
abbrev Vec := Int × Int × Int

def vSub (a b : Vec) : Vec := (a.1 - b.1, a.2.1 - b.2.1, a.2.2 - b.2.2)
def vAdd (a b : Vec) : Vec := (a.1 + b.1, a.2.1 + b.2.1, a.2.2 + b.2.2)
def vNeg (a : Vec) : Vec := (-a.1, -a.2.1, -a.2.2)
def vDot (a b : Vec) : Int := a.1 * b.1 + a.2.1 * b.2.1 + a.2.2 * b.2.2
def vCross (a b : Vec) : Vec :=
  (a.2.1 * b.2.2 - a.2.2 * b.2.1, a.2.2 * b.1 - a.1 * b.2.2, a.1 * b.2.1 - a.2.1 * b.1)
def vDet (a b c : Vec) : Int := vDot a (vCross b c)
/-- A vector of fixed-point values times a fixed-point value. -/
def vScale (k : Int) (a : Vec) : Vec := (fxMul k a.1, fxMul k a.2.1, fxMul k a.2.2)

/-- The unit vector of a nonzero vector, in units of 2⁻⁶⁴. -/
def vUnit (a : Vec) : Vec :=
  let n : Int := natSqrt ((vDot a a).toNat * 2 ^ 128)
  if n = 0 then (0, 0, 0) else (a.1 * 2 ^ 128 / n, a.2.1 * 2 ^ 128 / n, a.2.2 * 2 ^ 128 / n)

/-- The length of an integer vector in its own unit, as a fixed-point value. -/
def vLength (a : Vec) : Int := natSqrt ((vDot a a).toNat * 2 ^ 128)

/-- A mesh vertex: its ID, its position as given (which decides exactly on which side of a plane through the origin it lies) and its direction. -/
structure Vertex where
  id  : Nat
  raw : Vec
  dir : Vec
  deriving DecidableEq, Repr

/-- A hull face, its corners in the sense that has the hull's inside below it. -/
abbrev Face := Vertex × Vertex × Vertex

def vertexOf (id : Nat) (p : Vec) : Vertex := { id := id, raw := p, dir := vUnit p }
/-- The virtual vertices of R219. -/
def nadir : Vertex := vertexOf 0xFFFE (0, 0, -65536)
def zenith : Vertex := vertexOf 0xFFFF (0, 0, 65536)

/-- The side of a face's plane on which a vertex lies: positive outside. -/
def faceSide (f : Face) (p : Vertex) : Int :=
  vDet (vSub f.2.1.dir f.1.dir) (vSub f.2.2.dir f.1.dir) (vSub p.dir f.1.dir)

def faceEdges (f : Face) : List (Vertex × Vertex) := [(f.1, f.2.1), (f.2.1, f.2.2), (f.2.2, f.1)]

/-- A hull with one vertex more. -/
def hullAdd (fs : List Face) (p : Vertex) : List Face :=
  let seen := fs.filter fun f => decide (0 < faceSide f p)
  let edges := seen.flatMap faceEdges
  let rim := edges.filter fun e => !edges.contains (e.2, e.1)
  fs.filter (fun f => !decide (0 < faceSide f p)) ++ rim.map fun e => (e.1, e.2, p)

/-- The hull of four vertices that span a volume. DEDUCED, log 57. -/
def hullSeed (a b c d : Vertex) : List Face :=
  if 0 < faceSide (a, b, c) d then [(a, c, b), (c, a, d), (b, c, d), (a, b, d)]
  else [(a, b, c), (b, a, d), (c, b, d), (a, c, d)]

/-- The convex hull of vertices; none where they lie in one plane. -/
def hullOf (vs : List Vertex) : List Face :=
  match vs with
  | a :: b :: rest =>
    match rest.find? fun c => vCross (vSub b.dir a.dir) (vSub c.dir a.dir) != (0, 0, 0) with
    | none => []
    | some c =>
      match rest.find? fun d => faceSide (a, b, c) d != 0 with
      | none => []
      | some d => (rest.filter fun v => v != c && v != d).foldl hullAdd (hullSeed a b c d)
  | _ => []

/-- The origin lies strictly inside a hull (R219). -/
def originInside (fs : List Face) : Bool :=
  !fs.isEmpty && fs.all fun f => decide (0 < vDet f.1.raw f.2.1.raw f.2.2.raw)

/-- Vertices in the order in which the hull takes them: it decides how corners that lie in one plane are split into triangles, which the spec leaves open. -/
def rankInsert (v : Vertex) : List Vertex → List Vertex
  | [] => [v]
  | w :: rest => if Config.unstated 219 v.id < Config.unstated 219 w.id then v :: w :: rest else w :: rankInsert v rest

/-! ### Cells (R220) -/

/-- The point at which an arc crosses a plane through the origin, from its end distances. -/
def arcCut (a b : Vec) (da db : Int) : Vec :=
  vUnit (a.1 * db - b.1 * da, a.2.1 * db - b.2.1 * da, a.2.2 * db - b.2.2 * da)

/-- Below this distance (2⁻⁴⁰) a corner touches a boundary and does not cross it. -/
def touching : Int := 2 ^ 24

/-- The part of a spherical polygon on the positive side of a plane through the origin. -/
def clipBy (n : Vec) (poly : List Vec) : List Vec :=
  let side := fun (v : Vec) => fxMul n.1 v.1 + fxMul n.2.1 v.2.1 + fxMul n.2.2 v.2.2
  let out := fun (x : Int) => decide (x < touching)
  (poly.zip (poly.drop 1 ++ poly.take 1)).flatMap fun (a, b) =>
    let da := side a
    let db := side b
    let keep := if out da then [] else [a]
    if out da != out db then
      let cut := if out da then arcCut a b (-da.natAbs) db.natAbs else arcCut b a (-db.natAbs) da.natAbs
      keep ++ [cut]
    else keep

/-- The greatest height z reached on an arc between unit vectors, and the least. -/
def arcTop (a b : Vec) : Int :=
  let n := vUnit (vCross a b)
  let t : Vec := vSub (0, 0, fxOne) (vScale n.2.2 n)
  let peak := vUnit t
  if decide (0 ≤ vDot (vCross n a) peak) && decide (0 ≤ vDot (vCross b n) peak) then max peak.2.2 (max a.2.2 b.2.2)
  else max a.2.2 b.2.2
def arcLow (a b : Vec) : Int := -(arcTop (vNeg a) (vNeg b))

/-- Whether a direction lies in a face's spherical triangle. -/
def faceHolds (f : Face) (p : Vec) : Bool :=
  decide (0 ≤ vDet p f.2.1.dir f.2.2.dir) && decide (0 ≤ vDet f.1.dir p f.2.2.dir) && decide (0 ≤ vDet f.1.dir f.2.1.dir p)

def cellDegrees (k : Nat) : Int := fxFrac (28125 * k : Nat) 10000

/-- The elevations that a face reaches in one of the 128 azimuth wedges, as the least and greatest height, if it enters the wedge. -/
def wedgeSpan (f : Face) (az : Nat) : Option (Int × Int) :=
  let lo := fxRadians (cellDegrees az - fxOf 180)
  let hi := fxRadians (cellDegrees (az + 1) - fxOf 180)
  let poly := clipBy (fxCos hi, fxSin hi, 0) (clipBy (-(fxCos lo), -(fxSin lo), 0) [f.1.dir, f.2.1.dir, f.2.2.dir])
  match poly with
  | [] => none
  | [_] => none
  | [_, _] => none
  | v :: rest =>
    let arcs := (v :: rest).zip (rest ++ [v])
    let top := arcs.foldl (fun m e => max m (arcTop e.1 e.2)) v.2.2
    let low := arcs.foldl (fun m e => min m (arcLow e.1 e.2)) v.2.2
    some (if faceHolds f (0, 0, -fxOne) then -fxOne else low, if faceHolds f (0, 0, fxOne) then fxOne else top)

/-- The cells that a face overlaps. DEDUCED, log 57. -/
def faceCells (f : Face) : List Nat :=
  (List.range 128).flatMap fun az =>
    match wedgeSpan f az with
    | none => []
    | some (low, top) =>
      ((List.range 64).filter fun el =>
        decide (fxSin (fxRadians (cellDegrees el - fxOf 90)) + touching < top)
          && decide (low + touching < fxSin (fxRadians (cellDegrees (el + 1) - fxOf 90)))).map
        fun el => el * 128 + az

/-- The cell lists of faces, in face order. DEDUCED, log 57. -/
def cellLists (fs : List Face) : AMap (List Nat) :=
  fs.zipIdx.foldl (fun m e => (faceCells e.1).foldl (fun m c => mapMod (fun _ => []) m c (· ++ [e.2])) m) []

/-- cos 0.5°. -/
def coincidence : Int := fxCos (fxPi / 360)

/-- Vertices kept in rising ID and those within 0.5° of one kept (R219). -/
def keepVertices (vs : List Vertex) : List Vertex × List Nat :=
  vs.foldl (fun acc v =>
    if acc.1.any fun w => decide (coincidence * fxOne ≤ vDot v.dir w.dir) then (acc.1, acc.2 ++ [v.id]) else (acc.1 ++ [v], acc.2))
    ([], [])

/-- The mesh of a set of vertices, without triangles where both virtual vertices do not bring the origin inside, or fewer than three real ones are left; none where it exceeds the limits of R219 or R220. DEDUCED, log 57. -/
def meshOf (vs : List Vertex) : Option Mesh :=
  let (kept, lost) := keepVertices vs
  let base := kept.foldr rankInsert []
  let tries := [(hullOf base, 0), (hullOf (base ++ [nadir]), 1), (hullOf (base ++ [nadir, zenith]), 3)]
  match if kept.length < 3 then none else tries.find? (fun h => originInside h.1) with
  | none => some { Mesh.none with coincident := lost, virtual := if kept.length < 3 then 0 else 3 }
  | some (fs, virt) =>
    let cells := cellLists fs
    let used := (cells.map fun e => e.2.length).sum
    if 1020 < fs.length ∨ 32768 < used ∨ cells.any (fun e => decide (16 < e.2.length)) then none
    else some
      { triangles := fs.map fun f => (f.1.id, f.2.1.id, f.2.2.id), virtual := virt, noPan := false
        coincident := lost, cells := cells, entries := used }

/-- Two meshes pan alike. DEDUCED, log 57. -/
def Mesh.sameAs (a b : Mesh) : Bool := a.triangles == b.triangles && a.virtual == b.virtual && a.noPan == b.noPan

/-! ### Directions (R218, R220) -/

/-- The cell of a direction, a unit vector. -/
def cellOf (p : Vec) : Nat :=
  let az := fxDegrees (fxAtan2 (-p.1) p.2.1)
  let el := fxDegrees (fxAtan2 p.2.2 (natSqrt ((p.1 * p.1 + p.2.1 * p.2.1).toNat)))
  let i := ((az + fxOf 180 + touching) * 10000 / (28125 * fxOne)).toNat % 128
  let j := min 63 ((el + fxOf 90 + touching) * 10000 / (28125 * fxOne)).toNat
  j * 128 + i

/-- The vertex of an ID in a table of positions. -/
def meshVertex (pos : Nat → Vec) (id : Nat) : Vec :=
  if id = 0xFFFE then nadir.dir else if id = 0xFFFF then zenith.dir else vUnit (pos id)

/-- The barycentric gains of a direction in a triangle: p · L⁻¹ (R221). -/
def baryGains (pos : Nat → Vec) (t : Nat × Nat × Nat) (p : Vec) : Int × Int × Int :=
  let a := meshVertex pos t.1
  let b := meshVertex pos t.2.1
  let c := meshVertex pos t.2.2
  let d := vDet a b c
  let ratio := fun (n : Int) => if d = 0 then 0 else n * fxOne / d
  (ratio (vDet p b c), ratio (vDet a p c), ratio (vDet a b p))

/-- The least of three gains. -/
def leastOf (g : Int × Int × Int) : Int := min g.1 (min g.2.1 g.2.2)

/-- Gains of a direction by vertex, triangles tested, and whether it fell back (R221). -/
def panDirection (m : Mesh) (pos : Nat → Vec) (p : Vec) : List (Nat × Int) × Nat × Bool :=
  let listed := mapGet (fun _ => []) m.cells (cellOf p)
  let tried := listed.map fun i =>
    let t := m.triangles.getD i (0, 0, 0)
    (t, baryGains pos t p)
  let out := fun (e : (Nat × Nat × Nat) × (Int × Int × Int)) =>
    [(e.1.1, max 0 e.2.1), (e.1.2.1, max 0 e.2.2.1), (e.1.2.2, max 0 e.2.2.2)]
  match tried.findIdx? fun e => decide (-(2 ^ 48) ≤ leastOf e.2) with
  | some i => (match tried[i]? with
      | some e => (out e, i + 1, false)
      | none => ([], 0, true))
  | none =>
    match tried with
    | [] => ([], 0, true)
    | e :: rest =>
      (out (rest.foldl (fun b x => if leastOf b.2 < leastOf x.2 then x else b) e), tried.length, true)

end Sys2Proof.Machine
end

