-- ==== Sys2Proof/Machine/Geometry.lean ====
section
/-! DEFINITION. The geometry engine (R203 to R232): what each pair computes, the windows and boundaries of a slice, and the `spk` messages. -/

namespace Sys2Proof.Machine

/-! ### What a record takes part in (R206) -/

def SpkRec.pos (r : SpkRec) : Vec := (r.x, r.y, r.z)
def typeFull : Nat := 0
def typeArray : Nat := 2
/-- Two group masks meet. -/
def masksMeet (a b : Nat) : Bool := a &&& b != 0

/-- ⌊n/d + ½⌋: rounding to nearest, ties upwards, for a positive divisor. -/
def roundDiv (n d : Int) : Int := (2 * n + d) / (2 * d)

/-! ### The laws -/

/-- A distance in 2⁻¹⁶ m, to the nearest (R213). -/
def distance16 (d : Vec) : Nat :=
  let n := (vDot d d).toNat
  let k := natSqrt n
  if k * k + k < n then k + 1 else k

/-- Samples of 1/256 for a distance in 2⁻¹⁶ m times `scale`, at c in 0.1 m/s (R213, R224). -/
def travel (c hz : Nat) (dist scale : Int) : Int := roundDiv (dist * 10 * hz) (256 * c * scale)

/-- (1 m / max(r, 0.5 m))^(k/8) (R214). -/
def distanceLaw (r k : Nat) : Int :=
  if k = 0 then fxOne else fxPow (fxFrac 65536 (max r 32768 : Nat)) (fxFrac k 8)

/-- The cosine of the aperture angle; free where object and speaker coincide and no direction exists (R215). -/
def apertureCos (r : SpkRec) (id spk : Nat) (d : Vec) : Int :=
  let aim : Vec := if (r.ax, r.ay, r.az) = (0, 0, 0) then vNeg r.pos else (r.ax, r.ay, r.az)
  if d = (0, 0, 0) then clampInt (-fxOne) fxOne (Config.unstated 215 (id * 512 + spk))
  else vDot (vUnit d) (vUnit aim) / fxOne

/-- The aperture weight (R215). -/
def aperture (t : SpkTable) (size : Nat) (cosine : Int) : Int :=
  let widen := fxFrac (size * 90 : Nat) 65536
  let f := min (fxOf 180) (fxFrac t.thetaF 100 + widen)
  let c := min (fxOf 180) (fxFrac t.thetaC 100 + widen)
  let theta := fxDegrees (fxAcos cosine)
  if theta ≤ f then fxOne
  else if c ≤ theta then 0
  else fxOne / 2 + fxCos (fxMul fxPi (fxDiv (theta - f) (c - f))) / 2

/-- The taper of a speaker (R216). -/
def taperOf (t : SpkTable) (r : SpkRec) : Int :=
  if r.typ ≠ typeArray then fxOne
  else
    let mates := t.recs.filter fun q => q.typ == typeArray && q.array == r.array
    let e := (mates.filter fun q => decide (q.elem < r.elem)).length
    let m := min e (mates.length - 1 - e)
    if m < t.taper then fxOne / 2 - fxCos (fxPi * (m + 1) / (t.taper + 1)) / 2 else fxOne

/-- The entry of the air table for A in 0.001 dB/m and a distance in 2⁻¹⁶ m times `scale` (R227). -/
def airEntry (a : Nat) (dist scale : Int) : Nat := min 384 (roundDiv (16 * a * dist) (1000 * 65536 * scale)).toNat

/-- The pole of an entry at Fr: unity gain at 0 Hz and −n/16 dB at 10 kHz (R227), unsigned Q0.16. -/
def airPole (hz n : Nat) : Nat :=
  if n = 0 then 0
  else
    let m := fxExp (-(fxFrac n 160 * fxLn10 / fxOne))
    let c := fxCos (fxFrac (20000 : Nat) hz * fxPi / fxOne)
    let u := fxOne - fxMul m c
    let v := fxOne - m
    min 65535 (fxRoundTo 65536 (fxDiv (u - fxSqrt (fxMul u u - fxMul v v)) v)).toNat

/-- The value of an object's mode for a speaker: delay in 1/256 sample, gain, air entry, near-field floor (R211 step 1). -/
structure ModeValue where
  delay : Int
  gain  : Int
  air   : Nat
  near  : Bool
  deriving DecidableEq, Repr

/-- WAVE (R213 to R217). -/
def waveValue (hz : Nat) (g : GeoBank) (id : Nat) (o : ObjRec) (spk : Nat) (r : SpkRec) : ModeValue :=
  let d := vSub r.pos (o.x, o.y, o.z)
  let dist := distance16 d
  { delay := travel g.c hz ((dist : Int) - o.refDist) 1
    gain := if r.typ = typeFull ∨ r.typ = typeArray then
        fxMul (fxMul (distanceLaw dist o.k) (aperture g.table o.size (apertureCos r id spk d))) (taperOf g.table r)
      else 0
    air := if o.air then airEntry g.airA dist 1 else 0
    near := decide (dist < 32768) }

/-- The directions of a PAN object with their weights (R223). -/
def panDirections (p : Vec) (size : Nat) : List (Vec × Int) :=
  if size = 0 then [(p, fxOne)]
  else
    let beta := fxRadians (fxFrac (size * 90 : Nat) 65536)
    let axis : Vec := if fxCos (fxPi / 18000) < (p.2.2.natAbs : Int) then (fxOne, 0, 0) else (0, 0, fxOne)
    let t := vUnit (vSub axis (vScale (vDot axis p / fxOne) p))
    let w := vUnit (vCross p t)
    let rho := min fxOne (fxFrac size 0x4000)
    (p, fxOne) :: (List.range 6).map fun (j : Nat) =>
      let a := fxPi * (j : Int) / 3
      let side := vAdd (vScale (fxCos a) t) (vScale (fxSin a) w)
      (vAdd (vScale (fxCos beta) p) (vScale (fxSin beta) side), rho)

/-- The PAN gains of a direction by speaker, triangles tested and fallbacks (R221 to R223). -/
def panGains (t : SpkTable) (group size : Nat) (dir : Vec) : AMap Int × Nat × Nat :=
  if t.mesh.noPan then ([], 0, 1)
  else
    let pos := fun id => match t.recs[id]? with
      | some r => r.pos
      | none => (0, 0, 65536)
    let runs := (panDirections (vUnit dir) size).map fun e => (panDirection t.mesh pos (vUnit e.1), e.2)
    let sums : AMap Int := runs.foldl (fun m e => e.1.1.foldl (fun m g => mapMod (fun _ => 0) m g.1 (· + fxMul e.2 g.2)) m) []
    let kept := sums.filter fun e => match t.recs[e.1]? with
      | some r => masksMeet r.group group
      | none => false
    let tests := (runs.map fun e => e.1.2.1).sum
    let missed := (runs.filter fun e => e.1.2.2).length
    let power := fxSqrt ((kept.map fun e => fxMul e.2 e.2).sum)
    if power = 0 then ([], tests, missed + 1) else (kept.map fun e => (e.1, fxDiv e.2 power), tests, missed)

/-- The weights of a ZONE object by speaker, normalised in power (R225). -/
def zoneGains (t : SpkTable) (group size : Nat) (ws : List (Nat × Int)) : AMap Int :=
  let weight := fun spk => match ws.reverse.find? fun e => e.1 == spk with
    | none => fxOne
    | some e => if e.2 = -32768 then 0 else fxDb (fxFrac (e.2 * (65536 - size)) (256 * 65536))
  let set := (t.recs.zipIdx.filter fun e => masksMeet e.1.group group).map fun e => (e.2, weight e.2)
  let power := fxSqrt ((set.map fun e => fxMul e.2 e.2).sum)
  if power = 0 then [] else set.map fun e => (e.1, fxDiv e.2 power)

/-- The gain of a speaker in a BED map (R226). -/
def bedGain (es : List (Nat × Int)) (spk : Nat) : Int := ((es.filter fun e => e.1 == spk).map fun e => fxGain e.2).sum

/-- What the engine computes for one object: its targets, what it counted, its cycles (R229). -/
structure ObjTargets where
  targets   : AMap Target
  beyond    : Nat
  negative  : Nat
  near      : Nat
  saturated : Nat
  fallbacks : Nat
  cycles    : Nat
  deriving DecidableEq, Repr

/-- Steps 2 to 7 of R211 for one pair; `top` is the greatest delay. DESIGN CHOICE, log 17. -/
def pairTarget (hz : Nat) (top : Nat) (o : ObjRec) (v : ModeValue) (reaches : Bool) : Target × Bool × Bool × Bool :=
  let d := v.delay + o.base
  let delay := clampInt 0 top d
  let g := if reaches && !o.mute then fxMul v.gain (fxGain o.gain) else 0
  let q := fxRoundTo (2 ^ 20) g
  let sat := decide (0xFFFFFF < q)
  let low := decide (d < 0)
  let high := decide ((top : Int) < d)
  ({ delay := delay.toNat, gain := (clampInt 0 0xFFFFFF q).toNat, pole := airPole hz v.air
     flags := flag (low || high) + 2 * flag v.near + 4 * flag sat }, low, high, sat)

/-- Every target of an object for a boundary. -/
def objectTargets (hz top : Nat) (g : GeoBank) (id : Nat) (o : ObjRec) (panDir : Vec) (bed zone : List (Nat × Int)) : ObjTargets :=
  let n := g.table.recs.length
  let size := vLength (o.x, o.y, o.z)
  let common : ModeValue :=
    if o.mode = 1 ∧ o.distDelay then
      { delay := travel g.c hz size fxOne, gain := 0, air := if o.air then airEntry g.airA size fxOne else 0, near := false }
    else { delay := 0, gain := 0, air := 0, near := false }
  let dir := if (o.x, o.y, o.z) = (0, 0, 0) then panDir else (o.x, o.y, o.z)
  let (pan, tests, missed) := if o.mode = 1 then panGains g.table o.group o.size dir else ([], 0, 0)
  let zoned := if o.mode = 2 then zoneGains g.table o.group o.size zone else []
  let value := fun (e : SpkRec × Nat) =>
    if o.mode = 0 then (waveValue hz g id o e.2 e.1, masksMeet e.1.group o.group)
    else if o.mode = 1 then ({ common with gain := mapGet (fun _ => 0) pan e.2 }, true)
    else if o.mode = 2 then ({ common with gain := mapGet (fun _ => 0) zoned e.2 }, true)
    else ({ common with gain := bedGain bed e.2 }, true)
  let out := g.table.recs.zipIdx.map fun e =>
    let (v, reach) := value e
    (e.2, v.near, pairTarget hz top o v reach)
  let countOf := fun (p : Nat × Bool × (Target × Bool × Bool × Bool) → Bool) => (out.filter p).length
  { targets := out.map fun e => (e.1, e.2.2.1)
    beyond := countOf fun e => e.2.2.2.2.1
    negative := countOf fun e => e.2.2.2.1
    near := countOf fun e => e.2.1
    saturated := countOf fun e => e.2.2.2.2.2
    fallbacks := missed
    cycles := if o.mode = 2 then n + 32 else (n + 1) / 2 + 32 + tests }

/-! ### Windows (R228 to R230) -/

/-- Registers of the geometry engine of a slice (R232). -/
def geoReg (sl off : Nat) : Nat := dieAddr (sliceDie sl) (0x400000 + (sl % 4) * 0x1000 + off)

/-- A peak register of R232, R260 or R293 raised. -/
def regPeak (a v : Nat) (s : State) : State := regPut a (max (regOr s 0 a) v) s

/-- The geometry bank, beds and zones from which boundary `b` of a slice is computed (R209). -/
def windowBank (s : State) (sl b : Nat) : GeoBank × AMap (List (Nat × Int)) × AMap (List (Nat × Int)) :=
  let t := getTile s (sliceDie sl)
  let staged := match t.armed with
    | some c => decide (c ≤ b)
    | none => false
  if staged then (s.rend.geoStage, s.rend.bedStage, s.rend.zoneStage) else (t.geo, s.rend.beds, s.rend.zones)

/-- The targets of one object of a window, its clamps and other counts noted. -/
def windowObject (sl : Nat) (g : GeoBank) (beds zones : AMap (List (Nat × Int))) (acc : State × AMap (AMap Target) × Nat) (e : Nat × ObjRec) :
    State × AMap (AMap Target) × Nat :=
  let (s, m, cycles) := acc
  match getObj s e.1 with
  | none => acc
  | some o =>
    let none_ := fun _ => ([] : List (Nat × Int))
    let r := objectTargets (frHz s) ((historyLen s sl - 16) * 256) g e.1 e.2 o.panDir (mapGet none_ beds e.1) (mapGet none_ zones e.1)
    let p := (e.2.x, e.2.y, e.2.z)
    let s := if e.2.mode = 1 ∧ p ≠ (0, 0, 0) then setObj e.1 { o with panDir := p } s else s
    let c := 0x0800 + 4 * sl
    let s := countBy c r.saturated (countBy (c + 1) r.near (countBy (c + 2) r.fallbacks s))
    (noteClamp e.1 0 r.beyond (noteClamp e.1 1 r.negative s), mapSet m e.1 r.targets, cycles + r.cycles)

/-- The window of boundary `b` computed, if it is frozen and not yet computed. DEDUCED, log 56. -/
def computeWindow (sl b : Nat) (s : State) : State :=
  match (getSlice s sl).windows.find? fun w => w.boundary == b && !w.computed with
  | none => s
  | some w =>
    let (g, beds, zones) := windowBank s sl b
    let (t, m, cycles) := w.records.foldl (windowObject sl g beds zones) (s, [], 0)
    let x := getSlice t sl
    let done := { w with computed := true, targets := m }
    let cycles := min cycles 0xFFFFF
    regPeak (geoReg sl 8) cycles
      (setSlice sl { x with windows := x.windows.map fun v => if v.boundary = b then done else v, geoLast := cycles } t)

/-- The windows whose time has come at index `k`: b − U − 2 ≤ k. DEDUCED, log 56. -/
def computeDue (sl k : Nat) (s : State) : State :=
  ((getSlice s sl).windows.filter fun w => !w.computed && decide (w.boundary ≤ k + periodAt s w.boundary + 2)).foldl
    (fun t w => computeWindow sl w.boundary t) s

/-- GEOMETRY_WINDOW_END: the window that ends is the oldest one not yet loaded; its unfinished pairs keep their previous targets (R230). DEDUCED, log 56. -/
def execGeometryWindowEnd (slice : Nat) (unfinished : List Nat) (s : State) : Host.Outcome State Fault Refusal :=
  .next (match (getSlice s slice).windows with
    | [] => s
    | w :: _ =>
      if unfinished.isEmpty ∨ !powered s (sliceDie slice) then s
      else
        let s := computeWindow slice w.boundary s
        let x := getSlice s slice
        let cut := fun (v : Window) =>
          if v.boundary ≠ w.boundary then v
          else { v with targets := v.targets.map fun e => (e.1, e.2.filter fun t => !unfinished.contains (e.1 * 512 + t.1)) }
        let t := getTile s (sliceDie slice)
        let s := setTile (sliceDie slice) { t with geoOverrun := t.geoOverrun ||| BitVec.ofNat 4 (2 ^ (slice % 4)) }
          (setSlice slice { x with windows := x.windows.map cut } s)
        memEvent (sliceDie slice) ((Config.unstated 230 slice).toNat % 256) 2 0 (count (0x0800 + 4 * slice + 3) s))

/-! ### Loading a boundary (R182, R190, R191, R210, R246) -/

/-- A pair at a boundary: its ramp from what it has reached to a target, and whether its travel was limited. DEDUCED, log 54. -/
def Pair.load (p : Pair) (ran u limit : Nat) (t : Target) : Pair × Bool :=
  let gain := p.gainB + p.gainStep * ran
  let delay := p.delayB + p.delayMove
  let want := (t.delay : Int) * 256 - delay
  let most : Int := limit * u
  let move := clampInt (-most) most want
  ({ p with gainB := gain, gainStep := ((t.gain : Int) * 64 - gain) / u, delayB := delay, delayMove := move, target := t, pole := t.pole },
   move != want)

/-- The pairs of one object at a boundary: a pair that is new, or of an object that starts there, starts from zero gain at its first delay. -/
def loadPairs (ran u : Nat) (fresh : Bool) (r : ObjRec) (old : AMap Pair) (ts : AMap Target) (count : Nat) : AMap Pair × Nat :=
  let limit := if r.doppler then 32768 else r.slew
  (List.range count).foldl (fun (acc : AMap Pair × Nat) k =>
    match mapFind ts k, mapFind old k with
    | some t, none => (acc.1 ++ [(k, (Pair.load (pair0 t) 0 u limit t).1)], acc.2)
    | some t, some p =>
      if fresh then (acc.1 ++ [(k, (Pair.load (pair0 t) 0 u limit t).1)], acc.2)
      else
        let (q, cut) := p.load ran u limit t
        (acc.1 ++ [(k, q)], acc.2 + flag (cut && r.doppler))
    | none, some p => (acc.1 ++ [(k, (p.load ran u limit p.target).1)], acc.2)
    | none, none => acc) ([], 0)

/-- A boundary of a slice loaded by its lanes. DEDUCED, log 54. -/
def loadBoundary (sl b : Nat) (s : State) : State :=
  let s := computeWindow sl b s
  let x := getSlice s sl
  match x.windows.find? fun w => w.boundary == b with
  | none => s
  | some w =>
    let u := periodAt s b
    let ran := min x.period (b - x.boundary)
    let size := (windowBank s sl b).1.table.recs.length
    let (pairs, s) := w.records.foldl (fun (acc : AMap (AMap Pair) × State) e =>
      match getObj acc.2 e.1 with
      | none => acc
      | some o =>
        let old := mapGet (fun _ => ([] : AMap Pair)) x.pairs e.1
        let (ps, cut) := loadPairs ran u (o.bornAt == b) e.2 old (mapGet (fun _ => ([] : AMap Target)) w.targets e.1) size
        (mapSet acc.1 e.1 ps, noteClamp e.1 2 cut acc.2)) (x.pairs, s)
    setSlice sl { getSlice s sl with
      pairs := pairs, boundary := b, period := u, windows := x.windows.filter fun v => decide (b < v.boundary) } s

/-- UPDATE_BOUNDARY: once for each boundary, in order. -/
def execUpdateBoundary (slice boundary : Nat) (s : State) : Host.Outcome State Fault Refusal :=
  .next (if slice < s.member.slices ∧ powered s (sliceDie slice) ∧ (getSlice s slice).boundary < boundary then loadBoundary slice boundary s
    else s)

/-! ### Speaker messages (R203 to R208) -/

/-- A record in its 64-byte layout (R204). -/
def spkRecAt (d : List Byte) (o : Nat) : SpkRec :=
  { x := fieldS d o 4, y := fieldS d (o + 4) 4, z := fieldS d (o + 8) 4, ax := fieldS d (o + 12) 2, ay := fieldS d (o + 14) 2
    az := fieldS d (o + 16) 2, typ := byteAt d (o + 18), array := byteAt d (o + 19), elem := fieldLE d (o + 20) 2
    group := fieldLE d (o + 24) 4, gain := fieldS d (o + 28) 2, delay := fieldLE d (o + 30) 2, model := fieldLE d (o + 32) 2 }

def spkRecBytes (r : SpkRec) : List Byte :=
  bytesS 4 r.x ++ bytesS 4 r.y ++ bytesS 4 r.z ++ bytesS 2 r.ax ++ bytesS 2 r.ay ++ bytesS 2 r.az ++ bytesLE 1 r.typ ++ bytesLE 1 r.array
    ++ bytesLE 2 r.elem ++ bytesLE 2 0 ++ bytesLE 4 r.group ++ bytesS 2 r.gain ++ bytesLE 2 r.delay ++ bytesLE 2 r.model
    ++ List.replicate 30 0

/-- Trims limited (R205). DEDUCED, log 58. -/
def SpkRec.limited (r : SpkRec) : SpkRec := { r with gain := min 3072 r.gain, delay := min 8191 r.delay }

/-- Closer than 0.1 m to the origin. DEDUCED, log 58. -/
def SpkRec.tooClose (r : SpkRec) : Bool := decide (100 * vDot r.pos r.pos < 65536 * 65536)
/-- Type, array ID and element index within R204. DEDUCED, log 58. -/
def SpkRec.typed (r : SpkRec) : Bool :=
  if r.typ = typeArray then decide (r.array < 32) && decide (r.elem < 512) else decide (r.typ < 2) && r.array == 0xFF
/-- Whether two ARRAY records of a table claim one element. -/
def doubleElement (rs : List SpkRec) : Bool :=
  let es := (rs.filter fun r => r.typ == typeArray).map fun r => r.array * 65536 + r.elem
  es.any fun e => decide (1 < (es.filter fun f => f == e).length)

/-- The vertices that a table offers its mesh (R206, R219). -/
def meshVertices (rs : List SpkRec) (arrays : Bool) : List Vertex :=
  (rs.zipIdx.filter fun e => e.1.typ == typeFull || (arrays && e.1.typ == typeArray)).map fun e => vertexOf e.2 e.1.pos

/-- A table checked in the order of R205 and built with its mesh, or the refusal; `at_` is the FIELD of its records. DEDUCED, log 58. -/
def buildTable (rs : List SpkRec) (arrays : Bool) (taper tf tc at_ : Nat) (s : State) : Except Reply SpkTable :=
  if rs.any SpkRec.tooClose then .error (refuse codeBadArg 3 at_ s)
  else if doubleElement rs then .error (refuse codeBadArg 4 at_ s)
  else if !rs.all SpkRec.typed then .error (refuse codeBadArg 5 at_ s)
  else if rs.any (fun r => decide (512 ≤ r.model) && r.model != 0xFFFF) then .error (badArg at_ s)
  else if !slicesFit s rs.length (frHz s) then .error (refuse codeNoResource 1 noField s)
  else match meshOf (meshVertices rs arrays) with
    | none => .error (refuse codeNoResource 4 noField s)
    | some mesh =>
      if tc < tf then .error (refuse codeBadArg 6 6 s)
      else
        let t : SpkTable := { recs := rs.map SpkRec.limited, arrayInMesh := arrays, taper := taper, thetaF := tf, thetaC := tc, mesh := mesh }
        if granulesFit s t s.chain.stage then .ok t else .error (refuse codeNoResource 7 noField s)

/-- Real vertices of a mesh. -/
def realVertices (m : Mesh) : Nat :=
  ((m.triangles.flatMap fun t => [t.1, t.2.1, t.2.2]).foldl (fun (l : List Nat) v => if l.contains v ∨ 0xFFFE ≤ v then l else v :: l) []).length

def meshReply (m : Mesh) : List Byte :=
  bytesLE 2 (realVertices m) ++ bytesLE 1 m.virtual ++ bytesLE 1 (flag m.noPan) ++ bytesLE 2 m.triangles.length
    ++ bytesLE 2 m.coincident.length ++ bytesLE 2 (min m.entries 0xFFFF)

def spkTableLoadBody (rq : Request) (s : State) : Reply :=
  let p := rq.payload
  let n := fieldLE p 0 2
  if s.member.speakers < n then refuse codeBadArg 1 0 s
  else if 32 < byteAt p 3 then badArg 3 s
  else if 18000 < fieldLE p 4 2 then badArg 4 s
  else if 18000 < fieldLE p 6 2 then badArg 6 s
  else if refLength p 8 ≠ 64 * n then refuse codeBadArg 2 16 s
  else match fetchReference rq 8 s with
    | .error r => r
    | .ok (d, s) =>
      let rs := (List.range n).map fun i => spkRecAt d (64 * i)
      match buildTable rs (bit (byteAt p 2) 0) (byteAt p 3) (fieldLE p 4 2) (fieldLE p 6 2) 8 s with
      | .error r => r
      | .ok t =>
        let s := { s with rend.geoStage.table := t, msg.ncp.stagedRecs := s.msg.ncp.stagedRecs.filter fun r => r.opcode != 0x0301 }
        let lim := if rs.any (fun r => r.limited != r) then some 8 else none
        replyUsed lim (meshReply t.mesh) (p.take (8 + refSize rq.version)) (noteWithBytes true 0x0300 8 [] rq d s)

/-- `spk.table.load`. -/
def spkTableLoadOp : NcpOp :=
  { opcode := 0x0300, layout := fun v => [2, 1, 1, 2, 2, 8, 4] ++ (if v < 0x30 then [] else [4]), staged := always, key := noKey
    body := spkTableLoadBody }

def execSpkTableLoad (rq : Request) (s : State) : Host.Outcome State Fault Refusal := .next (serve spkTableLoadOp rq s)

def spkSetBody (rq : Request) (s : State) : Reply :=
  let t := s.rend.geoStage.table
  let r := spkRecAt rq.payload 0
  if t.recs.length ≤ rq.flow then badArg noField s
  else match buildTable (t.recs.set rq.flow r) t.arrayInMesh t.taper t.thetaF t.thetaC 0 s with
    | .error e => e
    | .ok t =>
      replyUsed (firstBad [(28, r.limited.gain == r.gain), (30, r.limited.delay == r.delay)]) (meshReply t.mesh) (spkRecBytes r.limited)
        { s with rend.geoStage.table := t }

/-- `spk.set`. -/
def spkSetOp : NcpOp :=
  { opcode := 0x0301, layout := fun _ => [4, 4, 4, 2, 2, 2, 1, 1, 2, 2, 4, 2, 2, 2, 30], staged := always, key := keyBytes 0
    body := spkSetBody }

def execSpkSet (rq : Request) (s : State) : Host.Outcome State Fault Refusal := .next (serve spkSetOp rq s)

/-- Whether a speaker is a corner of a mesh. -/
def inMesh (m : Mesh) (spk : Nat) : Bool := m.triangles.any fun t => t.1 == spk || t.2.1 == spk || t.2.2 == spk

def spkGetBody (rq : Request) (s : State) : Reply :=
  let b := byteAt rq.payload 0
  let t := tableOf s (b == 1)
  if 1 < b then badArg 0 s
  else match t.recs[rq.flow]? with
    | none => badArg noField s
    | some r => replyOk (spkRecBytes r ++ bytesLE 1 (homeTile s.member rq.flow) ++ bytesLE 1 (flag (inMesh t.mesh rq.flow)) ++ bytesLE 2 0) s

/-- `spk.get`; the speaker ID stands in FLOW. -/
def spkGetOp : NcpOp := { opcode := 0x0302, layout := fun _ => [1], staged := never, key := noKey, body := spkGetBody }

def execSpkGet (rq : Request) (s : State) : Host.Outcome State Fault Refusal := .next (serve spkGetOp rq s)

def spkEnvCfgBody (rq : Request) (s : State) : Reply :=
  let c0 := fieldLE rq.payload 0 2
  let a0 := fieldLE rq.payload 2 2
  let c := clampNat 3000 3800 c0
  let a := min 500 a0
  replyUsed (firstBad [(0, c == c0), (2, a == a0)]) (bytesLE 2 c ++ bytesLE 2 a) [] { s with rend.geoStage.c := c, rend.geoStage.airA := a }

/-- `spk.env.cfg` (R207). -/
def spkEnvCfgOp : NcpOp :=
  { opcode := 0x0303, layout := fun _ => [2, 2], staged := always, key := keyBytes 0, body := spkEnvCfgBody }

def execSpkEnvCfg (rq : Request) (s : State) : Host.Outcome State Fault Refusal := .next (serve spkEnvCfgOp rq s)

def spkMeshGetBody (rq : Request) (s : State) : Reply :=
  let b := byteAt rq.payload 0
  let ts := ((tableOf s (b == 1)).mesh.triangles.drop (fieldLE rq.payload 2 2)).take 125
  if 1 < b then badArg 0 s
  else replyOk (bytesLE 2 ts.length ++ List.replicate 6 0
    ++ ts.flatMap fun t => bytesLE 2 t.1 ++ bytesLE 2 t.2.1 ++ bytesLE 2 t.2.2 ++ bytesLE 2 0) s

/-- `spk.mesh.get`. -/
def spkMeshGetOp : NcpOp := { opcode := 0x0304, layout := fun _ => [1, 1, 2], staged := never, key := noKey, body := spkMeshGetBody }

def execSpkMeshGet (rq : Request) (s : State) : Host.Outcome State Fault Refusal := .next (serve spkMeshGetOp rq s)

def spkPairGetBody (rq : Request) (s : State) : Reply :=
  let id := fieldLE rq.payload 0 2
  match activeObj s id with
  | none => badArg 0 s
  | some o =>
    if s.rend.geo.table.recs.length ≤ rq.flow then badArg noField s
    else
      let x := getSlice s o.slice
      let t := match mapFind (mapGet (fun _ => ([] : AMap Pair)) x.pairs id) rq.flow with
        | some p => p.target
        | none => target0 0
      replyOk (bytesLE 4 t.delay ++ bytesLE 4 t.gain ++ bytesLE 2 t.pole ++ bytesLE 1 t.flags ++ bytesLE 1 0 ++ bytesLE 8 x.boundary) s

/-- `spk.pair.get`. -/
def spkPairGetOp : NcpOp := { opcode := 0x0305, layout := fun _ => [2], staged := never, key := noKey, body := spkPairGetBody }

def execSpkPairGet (rq : Request) (s : State) : Host.Outcome State Fault Refusal := .next (serve spkPairGetOp rq s)

/-- `spk.mesh`, sent at a commit that changes the mesh. DEDUCED, log 57. -/
def meshEvent (s : State) : State :=
  let m := s.rend.geo.table.mesh
  event 18 0xFF 0x0380 0xFFFF (bytesLE 1 (flag m.noPan) ++ bytesLE 1 m.virtual ++ bytesLE 2 m.triangles.length) s

end Sys2Proof.Machine
end

