-- ==== Sys2Proof/Machine/Matrix.lean ====
section
/-! DEFINITION. The delay-gain matrix and the reduction (R233 to R262), and the exchange of an insert with its core (R265, R323, R324). -/

namespace Sys2Proof.Machine

/-! ### Coefficients (R240, R241) -/

/-- sin(πx) / (πx) for a fixed-point x. -/
def fxSinc (x : Int) : Int := if x = 0 then fxOne else fxDiv (fxSin (fxMul fxPi x)) (fxMul fxPi x)

/-- raw[t] of phase φ. -/
def icoefRaw (phase t : Nat) : Int :=
  let x := fxOf ((t : Int) - 3) - fxFrac (256 - phase : Nat) 256
  let c := fxCos (fxMul fxPi x / 9)
  fxMul (fxSinc x) (fxMul c c)

/-- Tap `t` of phase φ of the factory set. -/
def icoefFactory (phase t : Nat) : Int :=
  if phase = 0 then (if t = 3 then 0x40000 else 0)
  else
    let total := ((List.range 8).map (icoefRaw phase)).sum
    let c := fun t => fxRoundTo (2 ^ 18) (fxDiv (icoefRaw phase t) total)
    let left := 0x40000 - ((List.range 8).map c).sum
    c t + if t = (if phase ≤ 128 then 3 else 4) then left else 0

/-- Tap `t` of phase φ of a bank's set. DEDUCED, log 61. -/
def icoefAt (g : GeoBank) (phase t : Nat) : Int :=
  match mapFind g.icoef (8 * phase + t) with
  | some w => signed 20 w.toNat
  | none => icoefFactory phase t

/-- A set is valid (R240). DEDUCED, log 61. -/
def icoefValid (g : GeoBank) : Bool :=
  ((List.range 8).all fun t => icoefAt g 0 t == if t = 3 then 0x40000 else 0)
    && (List.range 256).all fun p => decide (((List.range 8).map fun t => (icoefAt g p t).natAbs).sum ≤ 0x80000)

/-! ### Reading a pair (R239, R243 to R247) -/

/-- Marks of words whose replay failed: history words by their bank; coefficient and pair-store copies by bank numbers 0xFF and 0xFE (R258). DEDUCED, log 60. -/
def markedWord (t : Tile) (bank word : Nat) : Bool := t.marked.contains (bank, word)

/-- Whether a history sample lies wholly in sound words. -/
def soundSample (t : Tile) (h sl slot i : Nat) : Bool :=
  let k := sampleByte h slot i
  let bad := fun w => markedWord t (48 * (sl % 4) + 12 * (slot % 4) + w % 12) (w / 12)
  t.marked.isEmpty || (!bad (k / 4) && !bad ((k + 2) / 4))

/-- History sample `i` as a lane reads it, concealed where a word has failed (R258). -/
def laneSample (s : State) (t : Tile) (sl slot : Nat) (i : Int) : Int :=
  let h := historyLen s sl
  let at_ := fun (i : Int) => (i % (h : Int)).toNat
  if soundSample t h sl slot (at_ i) then readHistory s sl slot (at_ i)
  else if soundSample t h sl slot (at_ (i - 1)) then readHistory s sl slot (at_ (i - 1))
  else 0

/-- The whole delay and phase that a lane uses for a delay in 1/256 sample (R239); a failed coefficient word makes every delay whole (R258). -/
def windowOf (d : Nat) (whole : Bool) : Nat × Nat :=
  let n := d / 256
  let phi := d % 256
  if phi ≠ 0 ∧ (n < 3 ∨ whole) then (if 128 ≤ phi then n + 1 else n, 0) else (n, phi)

/-- The interpolated value of a pair (R243). -/
def interpolate (s : State) (t : Tile) (sl slot f d : Nat) : Int :=
  let mark := fun (p : Nat) => (List.range 8).any fun k => markedWord t 0xFF ((sl % 4) * 2048 + 8 * p + k)
  let (n, phi) := windowOf d (!t.marked.isEmpty && mark (d % 256))
  let q : Int := (f : Int) - 3 - n - (if phi ≠ 0 then 1 else 0)
  if phi = 0 then 64 * laneSample s t sl slot q
  else roundDiv (((List.range 8).map fun k => icoefAt t.geo phi k * laneSample s t sl slot (q - 3 + k)).sum) 4096

/-- The gain of a pair after `j` of `u` steps of its ramp, in Q4.20. -/
def Pair.gainAt (p : Pair) (j : Nat) : Int := (p.gainB + p.gainStep * j + 32) / 64
/-- Its delay then, in 1/256 sample. -/
def Pair.delayAt (p : Pair) (j u : Nat) : Nat := (roundDiv (p.delayB * u + p.delayMove * j) (256 * u)).toNat

/-- A pair store word's number in the copy 0xFE: local slice, object and speaker. -/
def pairWord (sl obj spk : Nat) : Nat := ((sl % 4) * 2048 + obj) * 512 + spk

/-- One pair's product for feed `f`, and its pair store with the air state moved on. -/
def lanePair (s : State) (t : Tile) (sl obj slot f j u spk : Nat) (p : Pair) : Int × Pair :=
  let v := interpolate s t sl slot f (p.delayAt j u)
  if markedWord t 0xFE (pairWord sl obj spk) then (0, { p with air := v })
  else
    let y := if p.pole = 0 then v else v + roundDiv (p.pole * (p.air - v)) 65536
    (roundDiv (y * p.gainAt j) (2 ^ 20), { p with air := y })

/-- The matrix tick of a slice for feed `f` (R249): every pair of every object against the speakers of the table, summed by speaker. -/
def matrixSlice (sl f : Nat) (s : State) : State :=
  let t := getTile s (sliceDie sl)
  let x := getSlice s sl
  let n := t.geo.table.recs.length
  let u := max 1 x.period
  let j := min u (f + 1 - x.boundary)
  let (pairs, sums) := (sliceObjs s sl).foldl (fun (acc : AMap (AMap Pair) × AMap Int) e =>
    let ps := mapGet (fun _ => ([] : AMap Pair)) acc.1 e.1
    let (ps, sums) := ps.foldl (fun (a : AMap Pair × AMap Int) q =>
      if q.1 < n then
        let (r, p) := lanePair s t sl e.1 e.2.slot f j u q.1 q.2
        (mapSet a.1 q.1 p, mapMod (fun _ => 0) a.2 q.1 (· + r))
      else a) (ps, acc.2)
    (mapSet acc.1 e.1 ps, sums)) (x.pairs, (List.range n).map fun k => (k, 0))
  let busiest := groupCount s sl (fullestGroup s sl)
  let cycles := min 0xFFFF (busiest * n + Config.cyclesUsed sl f % 67 + 24 + 128)
  regPeak (dieAddr (sliceDie sl) (0x410000 + (sl % 4) * 0x1000 + 8)) cycles
    (setSlice sl { x with pairs := pairs, prevSums := x.sums, sums := sums, laneLast := cycles } s)

/-! ### Inserts (R265, R323, R324) -/

/-- The samples of an insert missed by its core, for the events of a channel (R265) and its counter; OBJ_PRE has no channel and is counted under a number of the model's own. DEDUCED, log 62. -/
def insertMiss (point id : Nat) (s : State) : State :=
  if point = 0 then count (0x10000 + id) s
  else
    let x := getChan s id
    let n := mapGet (fun _ => 0) x.misses point + 1
    let s := count (0x2C00 + id) (setChan id { x with misses := mapSet x.misses point n } s)
    match oncePerSecond (0x50000 + id) s with
    | none => s
    | some t =>
      let t := setChan id { x with misses := mapErase x.misses point } t
      event 17 (homeTile s.member id) 0x0482 id
        (bytesLE 2 id ++ bytesLE 1 point ++ bytesLE 1 0 ++ bytesLE 4 (min n 0xFFFFFFFF)) t

/-- An insert's exchange in the tick `k`: the take, then the hand-in. Gives its output; `before` is the point's input of the tick before. DEDUCED, log 62. -/
def exchange (point id k : Nat) (x before : Int) (s : State) : Int × State :=
  match mapFind s.chain.inserts (insertKey point id) with
  | none => (x, s)
  | some ins =>
    let c := getCore s ins.core
    let q := mapGet xslot0 c.slots ins.slot
    let y := if !q.fresh then before else if q.done then q.xout.toInt else q.prev
    let s := if q.fresh && !q.done then insertMiss point id s else s
    let q := { q with xin := BitVec.ofInt 32 x, tag := k % 256, done := false, ready := true, prev := x, fresh := true }
    (y, setCore ins.core { getCore s ins.core with slots := mapSet c.slots ins.slot q } s)

/-! ### Delivery (R233, R236, R51, R528) -/

/-- A word's marks cleared by a write of its bytes. DEDUCED, log 60. -/
def unmark (sl slot h i : Nat) (t : Tile) : Tile :=
  let k := sampleByte h slot i
  let hit := fun (m : Nat × Nat) (w : Nat) => m == (48 * (sl % 4) + 12 * (slot % 4) + w % 12, w / 12)
  { t with marked := t.marked.filter fun m => !(hit m (k / 4) || hit m ((k + 2) / 4)) }

/-- Input sample `i` of an object written into its slot, and into the new one of a migration. -/
def deliverSample (o : Obj) (i : Nat) (w : Int) (s : State) : State :=
  let raw := (w + 32) / 64
  let h := satInt 24 raw
  let n := historyLen s o.slice
  let die := sliceDie o.slice
  let s := if h = raw then s else count (0x0840 + 8 * o.slice) s
  let s := writeHistory o.slice o.slot (i % n) h s
  let s := match o.newSlot with
    | some j => writeHistory o.slice j (i % n) h s
    | none => s
  let t := getTile s die
  if t.marked.isEmpty then s else setTile die (unmark o.slice o.slot n (i % n) t) s

/-- Delivery of tick `k` on a Tarn: each object's input sample, through its OBJ_PRE insert; the sample before it where none came, or 0 in hold mute. -/
def deliverTile (die k : Nat) (s : State) : State :=
  let t := getTile s die
  let s := (s.rend.objs.filter fun e => sliceDie e.2.slice == die).foldl (fun s e =>
    let t := getTile s die
    let before := mapGet (fun _ => 0) t.lastInputs e.1
    let w := if t.delivered then mapGet (fun _ => 0) t.inbox e.1 else if t.holdMute then 0 else before
    let s := setTile die { t with lastInputs := mapSet t.lastInputs e.1 w } s
    let (y, s) := exchange 0 e.1 k w before s
    deliverSample e.2 k y s) s
  let u := getTile s die
  setTile die { u with inbox := [], delivered := false, marked := u.marked.filter fun m => decide (m.1 < 192),
                       holdMute := u.holdMute && !t.delivered } s

/-! ### Reduction (R255 to R257) -/

/-- The sum of maps of sums. -/
def addSums (a b : AMap Int) : AMap Int := b.foldl (fun m e => mapMod (fun _ => 0) m e.1 (· + e.2)) a

/-- The slices of a Tarn. -/
def tileSlices (die : Nat) : List Nat := (List.range 4).map fun k => 4 * (die - 2) + k

/-- A Tarn's own sums of feed `f`, formed at the start of the reduction tick and sent to the other home tiles. -/
def startReduction (die f : Nat) (s : State) : State :=
  let own := (tileSlices die).foldl (fun m sl => addSums m (getSlice s sl).sums) []
  let t := getTile s die
  let s := setTile die { t with ownSums := own, ownIndex := f, arrived := [] } s
  emitAll ((s.member.tarnDies.filter (· ≠ die)).filterMap fun h =>
    let part := own.filter fun e => homeTile s.member e.1 == h
    if part.isEmpty then none else some (.partialSum die h f part)) s

/-- The reduced samples of feed `f` on a home tile: missing partials counted, the sums added and saturated. -/
def finishReduction (die f : Nat) (s : State) : AMap Int × State :=
  let t := getTile s die
  if t.ownIndex ≠ f then ([], setTile die { t with miss := 0 } s)
  else
    let home := fun (m : AMap Int) => m.filter fun e => homeTile s.member e.1 == die
    let own := home t.ownSums
    let gone := (s.member.tarnDies.filter fun d => d != die && !own.isEmpty && !mapHas t.arrived d).map (· - 2)
    let s := gone.foldl (fun s j => count (0x08C0 + 8 * (die - 2) + j) s) s
    let total := t.arrived.foldl (fun m e => addSums m (home e.2)) own
    let s := setTile die { t with miss := BitVec.ofNat 4 (maskOf gone), redIndex := f } s
    total.foldl (fun (acc : AMap Int × State) e =>
      let w := satInt 32 e.2
      (acc.1 ++ [(e.1, w)], if w = e.2 then acc.2 else count (0x1000 + e.1) acc.2)) ([], s)

/-- PARTIAL_SUM_ARRIVAL: an index older than the one in reduction is discarded and counted; a newer one is a timeline error (R256). -/
def execPartialSumArrival (home src index first : Nat) (sums : List Int) (s : State) : Host.Outcome State Fault Refusal :=
  .next (
    let t := getTile s home
    if !s.member.tarnDies.contains home ∨ !s.member.tarnDies.contains src ∨ home = src ∨ !powered s home ∨ !t.ticking ∨ t.inReset then s
    else if index < t.ownIndex then
      count (0x08C0 + 8 * (home - 2) + 4) (setTile home { t with misalign := true } s)
    else if t.ownIndex < index then fatal 5 home s
    else
      let ids := (List.range s.member.speakers).filter fun i => decide (first ≤ i) && homeTile s.member i == home
      let part : AMap Int := ids.zip sums
      setTile home { t with arrived := mapMod (fun _ => []) t.arrived src fun m => addSums m part } s)

end Sys2Proof.Machine
end

