-- ==== Sys2Proof/Machine/ChainRun.lean ====
section
/-! DEFINITION. The speaker chain of one channel and one tick (R264 to R289): sends, SOS, FIR, delay, trim and polarity, protection. -/

namespace Sys2Proof.Machine

/-! ### Gains and changes at a swap (R285) -/

/-- A gain in 1/256 dB as unsigned Q4.20 (R212). -/
def gainQ (g : Int) : Int := clampInt 0 0xFFFFFF (fxRoundTo (2 ^ 20) (fxGain g))

/-- The change in progress on a channel: the settings before it, their delay and trim, and j of R285. -/
structure Change where
  old   : ChanSet
  delay : Nat
  trim  : Int
  j     : Nat
  deriving DecidableEq, Repr

/-- The change of a channel that still acts in feed `k`. -/
def changeAt (x : ChanState) (k : Nat) : Option Change :=
  match x.swapped with
  | some (c, old, d, g) => if k < c + 64 then some { old := old, delay := d, trim := g, j := k - c } else none
  | none => none

/-- 64 × a value on its way from old to new. -/
def ramp64 (ch : Option Change) (old : Change → Int) (new : Int) : Int :=
  match ch with
  | none => 64 * new
  | some c => old c * (63 - c.j : Nat) + new * (c.j + 1 : Nat)

/-- Two outputs crossed over 64 samples. -/
def cross64 (ch : Option Change) (old new : Int) : Int :=
  match ch with
  | none => new
  | some c => roundDiv (old * (63 - c.j : Nat) + new * (c.j + 1 : Nat)) 64

/-- A sample saturated to the render word, counted as a chain saturation of its channel. DEDUCED, log 109. -/
def chainSat (c : Nat) (v : Int) (s : State) : Int × State :=
  let w := satInt 32 v
  (w, if w = v then s else count (0x1800 + c) s)

/-! ### Sends (R266, R267) -/

/-- DEDUCED, log 62. -/
def sendGain (x : ChanSet) (b : Nat) : Int := match x.cfg.sends.find? fun e => e.1 == b with
  | some e => gainQ e.2
  | none => 0

/-- The sends of a speaker's sample: bus and value. -/
def sendsOf (x : ChanSet) (ch : Option Change) (v : Int) : List (Nat × Int) :=
  let old := match ch with
    | some c => c.old.cfg.sends.filter fun e => !x.cfg.sends.any fun d => d.1 == e.1
    | none => []
  (x.cfg.sends ++ old).map fun e =>
    (e.1, roundDiv (v * ramp64 ch (fun c => sendGain c.old e.1) (sendGain x e.1)) (64 * 2 ^ 20))

/-! ### Filters (R268, R271, R275, R276) -/

/-- One section: the state after a sample, and the output before saturation. -/
def sectionStep (q : Section) (z : SosState) (x : Int) : SosState × Int :=
  let acc := (q.b0 * x + q.b1 * z.x1 + q.b2 * z.x2) * 256 - q.a1 * z.y1 - q.a2 * z.y2 + z.e
  let y := roundDiv acc (2 ^ 28)
  ({ x1 := x, x2 := z.x1, y1 := y, y2 := z.y1, e := acc - y * 2 ^ 28 }, roundDiv y 256)

/-- The sections of a channel in index order. -/
def sosRun (c : Nat) (x : ChanSet) (v : Int) (zs : AMap SosState) (s : State) : Int × AMap SosState × State :=
  (List.range x.sosCount).foldl (fun (a : Int × AMap SosState × State) k =>
    let (z, y) := sectionStep (mapGet section0 x.sos k) (mapGet sosState0 a.2.1 k) a.1
    let (w, s) := chainSat c y a.2.2
    (w, mapSet a.2.1 k z, s)) (v, zs, s)

/-- The FIR over the inputs, newest first. -/
def firRun (c : Nat) (cs : List Int) (hist : List Int) (s : State) : Int × State :=
  if cs.isEmpty then (hist.headD 0, s) else chainSat c (roundDiv ((cs.zip hist).map fun e => e.1 * e.2).sum (2 ^ 22)) s

/-- Marks of a channel's memories: bank numbers of `diag.mem`, word channel × 4096 + n (R289). -/
def chanMark (s : State) (die bank c : Nat) : Bool := (getTile s die).marked.any fun m => m.1 == bank && m.2 / 4096 == c

/-! ### Protection (R277 to R284, R481, R482) -/

/-- The fraction of the way back to 1 in one sample at a release time in ms: 1 − e^(−1/(release · Fr)). -/
def releaseStep (ms hz : Nat) : Int := fxOne - fxExp (-(fxFrac 1000 (ms * hz : Nat)))

/-- The peak threshold in render words, fixed point. DEDUCED, log 64. -/
def peakLimit (p : ProtCfg) : Int := fxMul (fxOf (2 ^ 27)) (fxDb (fxFrac p.threshold 256))

/-- The gain law of R278: needs newest first, L. -/
def gainLaw (g step : Int) (needs : List Int) (l : Nat) : Int :=
  let up := g + fxMul (fxOne - g) step
  (List.range (l + 1)).foldl (fun m j =>
    let need := needs.getD (l - j) fxOne
    min m (need + (fxOne - need) * j / (l + 1))) up

/-- A need: 1, or limit / |value| below it. -/
def needOf (limit v : Int) : Int := if (v.natAbs : Int) ≤ limit then fxOne else fxDiv limit v.natAbs

/-- A second-order Butterworth high-pass at a corner in Hz: state x1, x2, y1, y2 (R280). -/
def highPass (corner : Int) (hz : Nat) (z : List Int) (x : Int) : Int × List Int :=
  if corner ≤ 0 then (x, [x, z.getD 0 0, x, z.getD 0 0])
  else
    let k := fxTan (fxMul fxPi corner / hz)
    let r2 := fxSqrt (2 * fxOne)
    let k2 := fxMul k k
    let b := fxDiv fxOne (fxOne + fxMul r2 k + k2)
    let y := fxMul b (x - 2 * z.getD 0 0 + z.getD 1 0) - fxMul (2 * fxMul (k2 - fxOne) b) (z.getD 2 0)
      - fxMul (fxMul (fxOne - fxMul r2 k + k2) b) (z.getD 3 0)
    (y, [x, z.getD 0 0, y, z.getD 2 0])

/-- Re at a coil temperature, in Ω. DEDUCED, log 66. -/
def Model.reAt (m : Model) (coil : Int) : Int :=
  let rise := coil - fxFrac m.ambient 16
  fxMul (fxFrac m.re 1000) (fxOne + fxMul (fxFrac m.alpha 1000000) rise)

/-- The displacement model of R481: bilinear, prewarped at fs; state v1, v2, x1, x2 in volts and metres. DEDUCED, log 66. -/
def Model.displace (m : Model) (hz : Nat) (coil : Int) (z : List Int) (v : Int) : Int × List Int :=
  let mass := fxFrac m.mms 1000000
  let bl := fxFrac m.bl 1000
  let re := m.reAt coil
  let w0 := 2 * fxMul fxPi m.fs
  let k := fxDiv w0 (fxTan (fxMul fxPi m.fs / hz))
  let mk := fxMul mass (fxMul k k)
  let rk := fxMul (fxFrac m.rms 1000 + fxDiv (fxMul bl bl) re) k
  let stiff := fxFrac 1000000 m.cms
  let g := fxDiv bl re
  let num := fxMul g (v + 2 * z.getD 0 0 + z.getD 1 0) - fxMul (2 * (stiff - mk)) (z.getD 2 0)
    - fxMul (mk - rk + stiff) (z.getD 3 0)
  let x := fxDiv num (mk + rk + stiff)
  (x, [v, z.getD 0 0, x, z.getD 2 0])

/-- The terminal voltage of a sample of the channel, in V. -/
def Model.volts (m : Model) (u : Int) : Int := u * fxOne / 2 ^ 27 * m.vpk / 1000

/-- One forward Euler step of both nodes over 64 samples (R482). A model whose thermal values are zero has no stated estimate. -/
def Model.heat (m : Model) (hz : Nat) (p coil magnet : Int) : Int × Int :=
  if m.coilR = 0 ∨ m.coilT = 0 ∨ m.magR = 0 ∨ m.magT = 0 then (Config.unstated 482 0, Config.unstated 482 1)
  else
    let rc := fxFrac m.coilR 100
    let rm := fxFrac m.magR 100
    let dt := fxFrac 64 hz
    let flow := fxDiv (coil - magnet) rc
    (coil + fxDiv (fxMul (fxMul (p - flow) dt) rc) (fxFrac m.coilT 100),
      magnet + fxDiv (fxMul (fxMul (flow - fxDiv (magnet - fxFrac m.ambient 16) rm) dt) rm) (fxOf m.magT))

/-- The corner of the dynamic high-pass for the next sample (R280). The spec bounds its rise and leaves open where it starts and where it is off. DEDUCED, log 66. -/
def cornerNext (m : Model) (hz n : Nat) (p : ProtCfg) (corner : Int) (over_ : Bool) : Int :=
  if over_ then
    let most := if corner = 0 then m.fs else fxMul corner (fxExp (fxMul fxLn2 (fxFrac 100 hz)))
    clampInt corner (min m.fs most) (Config.unstated 280 n)
  else
    let low := fxMul corner (fxOne - releaseStep p.release hz)
    if low ≤ Config.unstated 281 n then 0 else low

/-- 10^(−6/20) over one second, a sample's share. DEDUCED, log 65. -/
def thermalStep (hz : Nat) : Int := fxExp (-(6 * fxLn10 / 20 / hz))

/-- What protection does with an input sample: output before hold mute, with the bypassed output. -/
structure ProtOut where
  y    : Int
  dry  : Int
  ge   : Int
  gt   : Int
  gp   : Int
  mute : Bool
  st   : ProtState
  deriving DecidableEq, Repr

/-- The thermal estimates as they start (R281, R283). DEDUCED, log 65. -/
def protSeed (m : Option Model) (q : ProtState) : ProtState :=
  match m with
  | none => { q with seed := 1 }
  | some m =>
    if q.seed = 2 then { q with seed := 0, coil := fxFrac m.tmax 16 - fxOf 20, magnet := fxFrac m.tmax 16 - fxOf 20 }
    else if q.seed = 1 then { q with seed := 0, coil := fxFrac m.ambient 16, magnet := fxFrac m.ambient 16 }
    else q

/-- The thermal gain of the next sample: it falls by at most 6 dB a second while the estimate is above Tmax − 10 K, and recovers at that rate. -/
def thermalGain (m : Model) (hz n : Nat) (q : ProtState) : Int :=
  let limit := fxFrac m.tmax 16 - fxOf 10
  if limit < q.coil then clampInt (fxMul q.gt (thermalStep hz)) q.gt (Config.unstated 282 n)
  else min fxOne (fxDiv q.gt (thermalStep hz))

/-- Protection of one sample `u` (R277): needs and factors from the undelayed input, applied to the input L samples old. DEDUCED, log 64. -/
def protRun (m : Option Model) (p : ProtCfg) (hz n : Nat) (u : Int) (q : ProtState) : ProtOut :=
  let q := protSeed m q
  let l := p.look
  let step := releaseStep p.release hz
  let gt := match m with
    | some m => if p.thermal then thermalGain m hz n q else fxOne
    | none => fxOne
  let driven := fxMul (fxOf u) gt
  -- displacement and corner
  let (corner, hpIn, disp, needE, x) := match m with
    | some m =>
      if p.excursion then
        let (w, hp) := highPass q.corner hz (q.hp.take 4) driven
        let (x, disp) := m.displace hz q.coil q.disp (m.volts w / fxOne)
        let limit := fxFrac (p.margin * m.xmax : Nat) 1000000000
        let corner := cornerNext m hz n p q.corner (decide (limit < (x.natAbs : Int)))
        (corner, hp, disp, if q.corner = m.fs then needOf limit x else fxOne, (x.natAbs : Int))
      else (0, [], [], fxOne, 0)
    | none => (0, [], [], fxOne, 0)
  let needP := if p.peak then needOf (peakLimit p) driven else fxOne
  let inputs := (u :: q.inputs).take 65
  let needPs := (needP :: q.needP).take 65
  let needEs := (needE :: q.needE).take 65
  let ge := if p.excursion && m.isSome then gainLaw q.ge step needEs l else fxOne
  let gp := if p.peak then gainLaw q.gp step needPs l else fxOne
  let dry := inputs.getD l 0
  let (wet, hpOut) := highPass q.corner hz (q.hp.drop 4) (fxOf dry)
  let mutePos := if q.muted then q.mutePos - 1 else min 64 (q.mutePos + 1)
  let all := fxMul (fxMul (fxMul wet gt) ge) gp * mutePos / 64
  let y := fxRound all
  let top := if p.peak then (peakLimit p) / fxOne else 2 ^ 31 - 1
  let y := if p.peak then clampInt (-top) top y else satInt 32 y
  -- power and heat
  let power := match m with
    | some m => let v := m.volts y; q.power + fxDiv (fxMul v v) (m.reAt q.coil)
    | none => 0
  let (coil, magnet, power, powerN) := match m with
    | some m =>
      if q.powerN + 1 < 64 then (q.coil, q.magnet, power, q.powerN + 1)
      else let (c, g) := m.heat hz (power / 64) q.coil q.magnet; (c, g, 0, 0)
    | none => (q.coil, q.magnet, 0, 0)
  let muted := match m with
    | some m =>
      let tmax := fxFrac m.tmax 16
      p.thermal && (if q.muted then decide (tmax - fxOf 10 ≤ coil) else decide (tmax + fxOf 10 < coil))
    | none => false
  { y := y, dry := dry, ge := ge, gt := gt, gp := gp, mute := muted && !q.muted
    st := { q with
      inputs := inputs, needP := needPs, needE := needEs, gp := gp, ge := ge, gt := gt, corner := corner
      hp := if corner = 0 ∧ q.corner = 0 then [] else hpIn ++ hpOut, disp := disp, coil := coil, magnet := magnet, power := power
      powerN := powerN, muted := muted, mutePos := mutePos, xPeak := max q.xPeak x } }

/-! ### Reports (R284) -/

/-- Places in a channel's report map: the smallest factor of a kind, and the time its second began. -/
def worstKey (kind : Nat) : Nat := kind
def beganKey (kind : Nat) : Nat := 8 + kind

/-- A `chain.prot` event. -/
def protEvent (c kind : Nat) (g : Int) (s : State) : State :=
  event 10 (homeTile s.member (c % 512)) 0x0480 c
    (bytesLE 2 c ++ bytesLE 1 kind ++ bytesLE 1 0 ++ bytesS 2 (gain256 g) ++ estimateBytes (estimates s c).1) s

/-- A factor of one kind noted: its second begins with the first reduction and is reported at its end. -/
def noteFactor (c kind : Nat) (g : Int) (s : State) : State :=
  let x := getChan s c
  let w := x.prot.worst
  let put := fun (w : AMap Int) (s : State) => setChan c { x with prot := { x.prot with worst := w } } s
  match mapFind w (beganKey kind) with
  | none => if g < fxOne then put (mapSet (mapSet w (worstKey kind) g) (beganKey kind) s.now) s else s
  | some t =>
    let worst := min g (mapGet (fun _ => fxOne) w (worstKey kind))
    if (s.now : Int) < t + cyclesPerSecond then put (mapSet w (worstKey kind) worst) s
    else protEvent c kind worst (put (mapErase (mapErase w (worstKey kind)) (beganKey kind)) s)

/-- The largest excursion of a second moved on at its end. -/
def noteExcursion (c : Nat) (s : State) : State :=
  let x := getChan s c
  if s.now < x.prot.xSince + cyclesPerSecond then s
  else setChan c { x with prot := { x.prot with xLast := x.prot.xPeak, xSince := s.now, xPeak := 0 } } s

/-! ### A channel's tick -/

/-- Steps 3 to 8 of a channel for feed `k`, from the sample that enters step 3 (R264). Gives the feed before hold mute. -/
def chainTail (die c k : Nat) (t : SpkTable) (v : Int) (s : State) : Int × State :=
  let x := mapGet chan0 s.chain.sets c
  let q := getChan s c
  let ch := changeAt q k
  let old := match ch with
    | some d => d.old
    | none => x
  -- SOS
  let runs := !(x.cfg.sosBypass && old.cfg.sosBypass) && !chanMark s die 0xFD c
  let (f, sos, s) := if runs then sosRun c x v q.sos s else (v, q.sos, s)
  let v3 := cross64 ch (if old.cfg.sosBypass then v else f) (if x.cfg.sosBypass then v else f)
  -- FIR
  let hist := (v3 :: q.hist).take 2048
  let firOn := !(x.cfg.firBypass && old.cfg.firBypass) && !chanMark s die 0xFC c
  let (f, s) := if firOn then firRun c x.fir hist s else (v3, s)
  let v4 := cross64 ch (if old.cfg.firBypass then v3 else f) (if x.cfg.firBypass then v3 else f)
  -- delay
  let line := (v4 :: q.line).take 8192
  let tap := fun d => line.getD d 0
  let d := delayOf t x c
  let v5 := if chanMark s die 192 c then q.lineOut
    else cross64 ch (tap (match ch with
      | some e => e.delay
      | none => d)) (tap d)
  -- trim and polarity
  let sign := fun (y : ChanSet) => if y.cfg.invert then (-1 : Int) else 1
  let g := ramp64 ch (fun e => gainQ e.trim) (gainQ (trimOf t x c))
  let p := ramp64 ch (fun e => sign e.old) (sign x)
  let (v6, s) := chainSat c (roundDiv (v5 * g * p) (64 * 64 * 2 ^ 20)) s
  -- SPK_OUT insert and protection
  let (u, s) := if isBus c then (v6, s) else exchange 2 c k v6 (q.prot.inputs.headD 0) s
  let m := modelInForce s t x c
  let out := protRun m x.prot (frHz s) k u q.prot
  let y := cross64 ch (if old.cfg.protBypass then out.dry else out.y) (if x.cfg.protBypass then out.dry else out.y)
  let y := satInt 32 y
  let misses := (getChan s c).misses
  let s := setChan c { q with sos := sos, hist := hist, line := line, lineOut := v5, prot := out.st, misses := misses } s
  let acts := !(x.cfg.protBypass && old.cfg.protBypass)
  let tally := fun (kind id : Nat) (g : Int) (s : State) =>
    if acts then noteFactor c kind g (if g < fxOne then count (id + c) s else s) else s
  let s := tally 0 0x2000 out.ge (tally 1 0x2400 out.gt (tally 2 0x2800 out.gp s))
  let s := if out.mute && acts then protEvent c 3 0 s else s
  (y, noteExcursion c s)

/-- Endpoint codes of feeds (R331). -/
def feedCode (c : Nat) : Nat := if isBus c then 0x21000000 + (c - 512) else 0x20000000 + c

/-- A channel's feed of index `k`, under the hold mute of its tile, given to the routers and Outlets. -/
def giveFeed (die c : Nat) (y : Int) (s : State) : State :=
  let y := roundDiv (y * (getTile s die).mutePos) 64
  let was := mapGet (fun _ => 0) s.route.feeds (feedCode c)
  setChan c { getChan s c with feed := y }
    { s with route.feeds := mapSet s.route.feeds (feedCode c) y, route.prevFeeds := mapSet s.route.prevFeeds (feedCode c) was }

/-- Steps 1 and 2 of a speaker: its SPK_SUM insert and its sends (R264 to R267). -/
def chainHead (c k : Nat) (v : Int) (s : State) : Int × List (Nat × Int) × State :=
  let x := mapGet chan0 s.chain.sets c
  let q := getChan s c
  let (w, s) := exchange 1 c k v q.lastIn s
  let s := setChan c { getChan s c with lastIn := v } s
  (if x.cfg.mainOff then 0 else w, sendsOf x (changeAt q k) w, s)

/-- The sends of a tile for feed `k` handed to the home tiles of their buses. DEDUCED, log 62. -/
def giveSends (die k : Nat) (sends : List (Nat × Int)) (s : State) : State :=
  s.member.tarnDies.foldl (fun s h =>
    let t := getTile s h
    if k ≤ t.busIndex ∨ !(h == die || linkUpBetween s die h) then s
    else
      let mine := sends.filter fun e => homeTile s.member e.1 == h
      setTile h { t with
        busSends := mapMod (fun _ => []) t.busSends k fun m => addSums m mine, busFrom := t.busFrom ++ [(k, die)] } s) s

/-- The buses of a tile for feed `k`: the sends that have arrived are summed; a tile that owed one and has not sent counts as missing (R267). -/
def runBuses (die k : Nat) (s : State) : State :=
  let t := getTile s die
  let sums := mapGet (fun _ => ([] : AMap Int)) t.busSends k
  let owed := s.member.tarnDies.filter fun d => d != die && !t.busFrom.contains (k, d)
    && (homedChannels s.member d).any fun c => !isBus c && decide (c < t.chGeo.table.recs.length)
      && (chanSet s false c).cfg.sends.any fun e => homeTile s.member e.1 == die
  let s := owed.foldl (fun s d => count (0x08C0 + 8 * (die - 2) + (d - 2)) s) s
  let s := setTile die { t with
    busIndex := k, chnIndex := k, busSends := t.busSends.filter fun e => decide (k < e.1), busFrom := t.busFrom.filter fun e => decide (k < e.1) } s
  ((homedChannels s.member die).filter isBus).foldl (fun s c =>
    let v := mapGet (fun _ => 0) sums (c - 512)
    let w := satInt 32 v
    let s := if w = v then s else count (0x1200 + (c - 512)) s
    let (y, s) := chainTail die c k t.chGeo.table w s
    giveFeed die c y s) s

/-- The buses of every tile that has ticked `k` run once every tile in service has sent (R267, R288). -/
def runReadyBuses (k : Nat) (s : State) : State :=
  s.member.tarnDies.foldl (fun s h =>
    let t := getTile s h
    let all := s.member.tarnDies.all fun d => t.busFrom.contains (k, d)
    if all && t.index == k && decide (t.busIndex < k) then runBuses h k s else s) s

/-- Buses that still wait for a send when feed `k` is due run without it. -/
def forceBuses (k : Nat) (s : State) : State :=
  s.member.tarnDies.foldl (fun s h =>
    let t := getTile s h
    if t.ticking && !t.inReset && t.index == k && decide (t.busIndex < k) then runBuses h k s else s) s

/-- A speaker at or above S has no feed (R210, R332). -/
def dropAbsent (die n : Nat) (s : State) : State :=
  let keep := fun (e : Nat × Int) => !(decide (e.1 / 2 ^ 16 = 0x2000) && decide (n ≤ e.1 % 2 ^ 16) && homeTile s.member (e.1 % 2 ^ 16) == die)
  if s.route.feeds.all keep then s
  else { s with route.feeds := s.route.feeds.filter keep, route.prevFeeds := s.route.prevFeeds.filter keep }

/-- The chain tick of a tile for feed `k` (R288): the sends of its speakers, then its speakers in ascending ID, then its buses. -/
def chainTile (die k : Nat) (reduced : AMap Int) (s : State) : State :=
  let table := (getTile s die).chGeo.table
  let spks := (homedChannels s.member die).filter fun c => !isBus c && decide (c < table.recs.length)
  let (heads, sends, s) := spks.foldl (fun (a : AMap Int × List (Nat × Int) × State) c =>
    let (v, out, s) := chainHead c k (mapGet (fun _ => 0) reduced c) a.2.2
    (a.1 ++ [(c, v)], a.2.1 ++ out, s)) ([], [], s)
  let s := giveSends die k sends s
  let s := heads.foldl (fun s e =>
    let (y, s) := chainTail die e.1 k table e.2 s
    giveFeed die e.1 y s) (dropAbsent die table.recs.length s)
  let t := getTile s die
  let cycles := Config.cyclesUsed (1000 + die) k % 0x10000
  let s := regPeak (dieAddr die 0x460008) cycles (setTile die { t with chnIndex := k } s)
  runReadyBuses k s

end Sys2Proof.Machine
end

