-- ==== Sys2Proof/Machine/Tile.lean ====
section
/-! DEFINITION. The tick of a Tarn (R46 to R51): its swaps, the stages of the timeline in order, markers, holdover and the stage deadline. -/

namespace Sys2Proof.Machine

/-! ### Swaps of a Tarn (R53, R285, R323) -/

/-- The tile of an insert's point. -/
def insertDie (s : State) (key : Nat) : Option Nat :=
  if key < 4096 then (getObj s key).map fun o => sliceDie o.slice else some (homeTile s.member (key % 4096))

/-- An exchange slot unbound. -/
def freeXSlot (ins : Insert) (s : State) : State :=
  let c := getCore s ins.core
  setCore ins.core { c with slots := mapErase c.slots ins.slot } s

/-- A staged insert change of a key applied at its point's swap. -/
def applyInsert (key : Nat) (ch : Option Insert) (s : State) : State :=
  let s := match mapFind s.chain.inserts key with
    | some old => freeXSlot old s
    | none => s
  match ch with
  | none => { s with chain.inserts := mapErase s.chain.inserts key }
  | some ins =>
    let c := getCore s ins.core
    let q : XSlot := { xslot0 0 with point := key / 4096, bound := true, id := key % 4096 }
    setCore ins.core { c with slots := mapSet c.slots ins.slot q } { s with chain.inserts := mapSet s.chain.inserts key ins }

/-- The inserts of a tile's points swapped. -/
def swapInserts (die : Nat) (s : State) : State :=
  s.chain.insertStage.foldl (fun s e => if insertDie s e.1 == some die then applyInsert e.1 e.2 s else s) s

/-- A channel's settings swapped at commit sample `c` (R285). -/
def swapChannel (die at_ c : Nat) (s : State) : State :=
  let old := chanSet s false c
  let new := chanSet s true c
  let t0 := (getTile s die).chGeo.table
  let t1 := s.rend.geoStage.table
  let q := getChan s c
  let m0 := mapFind s.chain.models (modelOf t0 old c)
  let m1 := mapFind s.chain.modelStage (modelOf t1 new c)
  let same := old == new && delayOf t0 old c == delayOf t1 new c && trimOf t0 old c == trimOf t1 new c
  let p := if m0 == m1 then q.prot else { q.prot with disp := [], hp := [], corner := 0, ge := fxOne, needE := [] }
  let q := { q with
    prot := p
    swapped := if same then q.swapped else some (at_, old, delayOf t0 old c, trimOf t0 old c)
    sos := q.sos.filter fun e => decide (e.1 < old.sosCount) }
  let s := if same && m0 == m1 then s else setChan c q s
  if old = new then s else { s with chain.sets := mapSet s.chain.sets c new }

/-- The chain bank of a tile swapped at B(C): its channels, then tables and inserts. Models swap with the first tile that does. -/
def swapChain (die at_ : Nat) (s : State) : State :=
  let s := (homedChannels s.member die).foldl (fun s c => swapChannel die at_ c s) s
  let t := getTile s die
  swapInserts die { (setTile die { t with chGeo := s.rend.geoStage, armed := none, stage := 3 } s) with
    chain.models := s.chain.modelStage }

/-- Maps of the objects of a Tarn taken from the staged ones. -/
def takeMaps {α : Type} (mine : Nat → Bool) (old staged : AMap α) : AMap α :=
  (staged.filter fun e => mine e.1).foldl (fun m e => mapSet m e.1 e.2) (old.filter fun e => !mine e.1)

/-- The matrix bank of a tile swapped at B(C − 2), with the geometry, bed and zone tables it reads. -/
def swapMatrix (die : Nat) (s : State) : State :=
  let t := getTile s die
  let mine := fun id => match getObj s id with
    | some o => sliceDie o.slice == die
    | none => false
  { (setTile die { t with geo := s.rend.geoStage, stage := 1 } s) with
    rend.beds := takeMaps mine s.rend.beds s.rend.bedStage
    rend.zones := takeMaps mine s.rend.zones s.rend.zoneStage }

/-- The swaps due at tick `k` of an armed tile. -/
def tileSwaps (die k : Nat) (s : State) : State :=
  match (getTile s die).armed with
  | none => s
  | some c =>
    let s := if (getTile s die).stage = 0 ∧ c ≤ k + 2 then swapMatrix die s else s
    let s := if (getTile s die).stage = 1 ∧ c ≤ k + 1 then setTile die { getTile s die with stage := 2 } s else s
    if (getTile s die).stage = 2 ∧ c ≤ k then swapChain die c s else s

/-! ### The tick -/

/-- The mute ramp of a tile, one sample on (R528). DEDUCED, log 53. -/
def muteStep (t : Tile) : Tile := { t with mutePos := if t.holdMute then t.mutePos - 1 else min 64 (t.mutePos + 1) }

/-- The stages of tick `k` on a Tarn (R49): swaps, the end of the reduction of feed k and its chain, the start of the reduction of feed k + 1, the matrix for feed k + 2, delivery of input k, and the geometry due. -/
def tileStages (die k : Nat) (s : State) : State :=
  let s := tileSwaps die k s
  let (reduced, s) := finishReduction die k s
  let s := chainTile die k reduced s
  let s := startReduction die (k + 1) s
  let s := (tileSlices die).foldl (fun s sl => matrixSlice sl (k + 2) s) s
  let s := deliverTile die k s
  (tileSlices die).foldl (fun s sl => computeDue sl k s) s

/-- TARN_TICK. DEDUCED, log 52. -/
def execTarnTick (die : Nat) (s : State) : Host.Outcome State Fault Refusal :=
  .next (
    let t := getTile s die
    if !s.member.tarnDies.contains die ∨ !powered s die ∨ !t.ticking ∨ t.inReset then s
    else
      let s := forceBuses t.index s
      let t := getTile s die
      let late := decide (t.markerAt < t.index)
      let t := muteStep { t with index := t.index + 1, missing := if late then t.missing + 1 else 0 }
      tileStages die t.index (setTile die t s))

/-- A Tarn in holdover starts its hold mute (R528). -/
def enterHoldover (die : Nat) (s : State) : State :=
  setTile die { getTile s die with holdover := true, holdMute := true } s

/-- HOLDOVER_ENTRY: after 64 missing markers in a row, or when the wardens have declared a hub failure (R48). -/
def execHoldoverEntry (die : Nat) (s : State) : Host.Outcome State Fault Refusal :=
  .next (
    let t := getTile s die
    let declared := (mapGet warden0 s.sys.red.wardens die).declared || s.sys.red.declared.isSome
    if s.member.tarnDies.contains die ∧ powered s die ∧ t.ticking ∧ !t.holdover ∧ (64 ≤ t.missing ∨ declared) then enterHoldover die s
    else s)

/-! ### The stage deadline (R51, R254, R288) -/

/-- A late input of tick `k`: history keeps the sample before it. -/
def lateInput (k id : Nat) (s : State) : State :=
  match getObj s id with
  | none => s
  | some o =>
    let n := historyLen s o.slice
    let h := readHistory s o.slice o.slot ((k + n - 1) % n)
    let s := writeHistory o.slice o.slot (k % n) h s
    let s := match o.newSlot with
      | some j => writeHistory o.slice j (k % n) h s
      | none => s
    count (0x0500 + 8 * o.slice) s

/-- A slice that has not finished: its previous sums go out again. DEDUCED, log 53. -/
def lateSlice (sl : Nat) (s : State) : State :=
  let x := getSlice s sl
  let die := sliceDie sl
  let t := getTile s die
  count (0x0840 + 8 * sl + 5) (setTile die { t with dgmLate := t.dgmLate ||| BitVec.ofNat 4 (2 ^ (sl % 4)) }
    (setSlice sl { x with sums := x.prevSums } s))

/-- The feed that a channel gave last stands in place of its new one. DEDUCED, log 53. -/
def repeatFeed (c : Nat) (s : State) : State :=
  let old := mapGet (fun _ => 0) s.route.prevFeeds (feedCode c)
  { s with route.feeds := mapSet s.route.feeds (feedCode c) old }

/-- STAGE_DEADLINE: what is unfinished or late in the tick of a Tarn, 200 ns before its end. Feeds late at egress have no numbered counter; they are counted under a number of the model's own. -/
def execStageDeadline (die : Nat) (lateInputs lateSlices lateChannels lateFeeds : List Nat) (s : State) :
    Host.Outcome State Fault Refusal :=
  .next (
    let t := getTile s die
    if !s.member.tarnDies.contains die ∨ !powered s die ∨ !t.ticking ∨ t.inReset then s
    else
      let mine := fun id => match getObj s id with
        | some o => sliceDie o.slice == die
        | none => false
      let homed := fun c => isChannel s.member c && homeTile s.member c == die
      let s := (lateInputs.filter mine).foldl (fun s id => lateInput t.index id s) s
      let s := (lateSlices.filter fun sl => sliceDie sl == die).foldl (fun s sl => lateSlice sl s) s
      let s := (lateChannels.filter homed).foldl (fun s c =>
        count (0x3000 + 8 * (die - 2) + 4) (setTile die { getTile s die with chnOverrun := true } (repeatFeed c s))) s
      (lateFeeds.filter homed).foldl (fun s c => count 0x11000 (repeatFeed c s)) s)

end Sys2Proof.Machine
end

