-- ==== Sys2Proof/Machine/Routing.lean ====
section
/-! DEFINITION. Endpoints, routes and crossfades (R330 to R340, R598) and the `route` messages (R156, R361). -/

namespace Sys2Proof.Machine

/-! ### Endpoints (R330 to R332) -/

def epKind (e : Nat) : Nat := e / 2 ^ 24
def epIndex (e : Nat) : Nat := e / 2 ^ 16 % 256
def epChannel (e : Nat) : Nat := e % 2 ^ 16

/-- Whether a code names a source of the member (R331). -/
def isSource (m : Member) (e : Nat) : Bool :=
  match epKind e with
  | 0x10 => decide (epIndex e < m.tdmPorts) && decide (epChannel e < 32)
  | 0x11 => decide (epIndex e < 2) && decide (epChannel e < 2)
  | 0x12 => epIndex e == 0 && decide (epChannel e < 2048)
  | 0x13 => decide (epIndex e < 16) && decide (epChannel e < 64)
  | 0x20 => epIndex e == 0 && decide (epChannel e < m.speakers)
  | 0x21 => epIndex e == 0 && decide (epChannel e < 32)
  | _ => false

/-- Whether a code names a destination of the member. -/
def isDestination (m : Member) (e : Nat) : Bool :=
  match epKind e with
  | 0x30 => epIndex e == 0 && decide (epChannel e < 2048)
  | 0x40 => decide (epIndex e < m.tdmPorts) && decide (epChannel e < 32)
  | 0x41 => decide (epIndex e < 2) && decide (epChannel e < 2)
  | 0x42 => epIndex e == 0 && decide (epChannel e < 512)
  | 0x43 => decide (epIndex e < 16) && decide (epChannel e < 64)
  | 0x50 => epIndex e == 0 && decide (epChannel e < m.channels)
  | 0x51 => epIndex e == 0 && decide (epChannel e < m.channels)
  | _ => false

/-- An ingress source, against a feed (R331). -/
def isIngress (e : Nat) : Bool := decide (epKind e < 0x20)
/-- The render destination, which the ingress router serves (R336). -/
def isObjectInput (e : Nat) : Bool := epKind e == 0x30

/-! ### Routes and destinations -/

def getRoute (s : State) (h : Nat) : Option Route := mapFind s.route.routes h
def getDst (s : State) (e : Nat) : Dst := mapGet dst0 s.route.dsts e
def setDst (e : Nat) (d : Dst) (s : State) : State := { s with route.dsts := mapSet s.route.dsts e d }
def freeRoute (h : Nat) (s : State) : State := { s with route.routes := mapErase s.route.routes h }
def freeRouteOpt (h : Option Nat) (s : State) : State := match h with
  | some n => freeRoute n s
  | none => s

/-- The crossfade of a destination that has run to its end: the old handle is freed and any pending change starts (R337, R338). DEDUCED, log 71. -/
def startFade (e : Nat) (new : Option Nat) (n : Nat) (s : State) : State :=
  let d := getDst s e
  let s := count 0x3A00 s
  if n = 0 ∨ !rendering s then
    freeRouteOpt (if d.route = new then none else d.route)
      (setDst e { d with route := new, old := none, fading := false, fadeN := 0, fadeAt := 0 } s)
  else setDst e { d with route := new, old := d.route, fading := true, fadeN := n, fadeAt := 0 } s

/-- A change of a destination's route: at once, or pending behind a crossfade in progress, where it replaces the pending change before it (R338). DEDUCED, log 71. -/
def changeRoute (e : Nat) (new : Option Nat) (n : Nat) (s : State) : State :=
  let d := getDst s e
  if !d.fading then startFade e new n s
  else
    let s := match d.pending with
      | some (h, _) => count 0x3A01 (freeRouteOpt h s)
      | none => s
    setDst e { d with pending := some (new, n) } s

/-- DEDUCED, log 71. -/
def endFade (e : Nat) (s : State) : State :=
  let d := getDst s e
  if d.fading ∧ d.fadeN ≤ d.fadeAt then
    let s := setDst e { d with fading := false, old := none, fadeN := 0, fadeAt := 0, pending := none } (freeRouteOpt d.old s)
    match d.pending with
    | some (h, n) => startFade e h n s
    | none => s
  else s

/-- ROUTE_CROSSFADE_END. -/
def execRouteCrossfadeEnd (dst : Nat) (s : State) : Host.Outcome State Fault Refusal := .next (endFade dst s)

/-- Every crossfade that has run is ended. -/
def endFades (p : Nat → Bool) (s : State) : State :=
  (s.route.dsts.filter fun e => p e.1 && e.2.fading && decide (e.2.fadeN ≤ e.2.fadeAt)).foldl (fun s e => endFade e.1 s) s

/-- The key of a destination's route among the records. -/
def routeKey (e : Nat) : List Byte := bytesLE 4 e

/-- The records of a destination's route withdrawn. -/
def forgetRoute (e : Nat) (s : State) : State := forgetRecords (fun r => r.opcode == 0x0500 && r.key == routeKey e) s
/-- The staged records of a destination withdrawn. DEDUCED, log 49. -/
def forgetStagedRoute (e : Nat) (s : State) : State :=
  { s with msg.ncp.stagedRecs := s.msg.ncp.stagedRecs.filter fun r => !((r.opcode == 0x0500 || r.opcode == 0x0501) && r.key == routeKey e) }

/-- A staged change of a destination withdrawn; the handle of a route that exists only in the shadow bank is freed (R598). DEDUCED, log 49. -/
def unstage (e : Nat) (s : State) : State :=
  match mapFind s.route.stage e with
  | none => s
  | some x => freeRouteOpt x.handle { s with route.stage := mapErase s.route.stage e }

/-- The staged clear of a route withdrawn, the route being replaced or cleared without STAGED (R598). DEDUCED, log 49. -/
def withdrawClear (e : Nat) (s : State) : State :=
  match mapFind s.route.stage e with
  | some x => if x.clears.isSome then forgetStagedRoute e { s with route.stage := mapErase s.route.stage e } else s
  | none => s

/-- Staged changes of the destinations that pass a test start at their router's swap (R339). -/
def swapRoutes (p : Nat → Bool) (s : State) : State :=
  let mine := s.route.stage.filter fun e => p e.1
  let s := { s with route.stage := s.route.stage.filter fun e => !p e.1 }
  mine.foldl (fun s e =>
    match e.2.handle with
    | some h =>
      match getRoute s h with
      | some r => changeRoute e.1 (some h) e.2.fade { s with route.routes := mapSet s.route.routes h { r with staged := false } }
      | none => s
    | none =>
      if (getDst s e.1).route = e.2.clears ∧ e.2.clears.isSome then changeRoute e.1 none e.2.fade s else s) s

/-- The shadow bank of the routers emptied. -/
def discardRoutes (s : State) : State := s.route.stage.foldl (fun s e => unstage e.1 s) s

/-! ### Samples through a route (R334, R337) -/

/-- The latest sample of a source: an ingress sample for an object input or for an output, or a feed. -/
def ingressSample (s : State) (e : Nat) : Int := mapGet (fun _ => 0) s.route.inputs e
def egressSample (s : State) (e : Nat) : Int :=
  mapGet (fun _ => 0) (if isIngress e then s.route.direct else s.route.feeds) e

/-- The counter of the router that applies a route's gain. -/
def gainCounter (src : Nat) : Nat := if isIngress src then 0x3A02 else 0x3A03

/-- A route's sample after its gain, saturated and counted. -/
def routeSample (get : Nat → Int) (h : Option Nat) (s : State) : Int × State :=
  match h.bind (getRoute s) with
  | none => (0, s)
  | some r =>
    let v := roundDiv (get r.src * gainQ r.gain * (if r.invert then -1 else 1)) (2 ^ 20)
    let w := satInt 32 v
    (w, if w = v then s else count (gainCounter r.src) s)

/-- The next sample of a destination, its crossfade one sample on. -/
def dstSample (get : Nat → Int) (e : Nat) (s : State) : Int × State :=
  let d := getDst s e
  let (new, s) := routeSample get d.route s
  if d.fading ∧ d.fadeAt < d.fadeN then
    let (old, s) := routeSample get d.old s
    let v := roundDiv (old * (d.fadeN - 1 - d.fadeAt : Nat) + new * (d.fadeAt + 1 : Nat)) d.fadeN
    let w := satInt 32 v
    let s := if w = v then s else count (if isObjectInput e then 0x3A02 else 0x3A03) s
    (w, setDst e { d with fadeAt := d.fadeAt + 1, last := w } s)
  else (new, setDst e { d with last := new } s)

/-- The destinations of a router that carry or are leaving a route. -/
def liveDsts (s : State) (p : Nat → Bool) : List Nat :=
  (s.route.dsts.filter fun e => p e.1 && (e.2.route.isSome || e.2.fading || e.2.last != 0)).map (·.1)

/-- DIRECT_SAMPLE_HANDOFF: the samples of streams and rings stand in the ingress router already; those of a port come with the command. A source that no direct route uses hands over nothing. -/
def execDirectSampleHandoff (source : Nat) (sample : Int) (s : State) : Host.Outcome State Fault Refusal :=
  .next (
    let used := s.route.dsts.any fun d => !isObjectInput d.1 && (d.2.route :: d.2.old :: []).any fun h =>
      match h.bind (getRoute s) with
      | some r => r.src == source
      | none => false
    if !isSource s.member source ∨ !isIngress source ∨ !used ∨ !nerrisUp s ∨ !rendering s then s
    else
      let v := if epKind source < 0x12 then satInt 32 sample else ingressSample s source
      emit (.direct source v) { s with route.direct := mapSet s.route.direct source v })

/-! ### `route` messages (R156) -/

/-- The staged entry of a destination blocks an unstaged change while a commit runs: the change would write the shadow bank (R598). -/
def stageLocked (s : State) (e : Nat) : Bool := s.msg.commit.isSome && match mapFind s.route.stage e with
  | some x => x.clears.isSome
  | none => false

def routeSetBody (rq : Request) (s : State) : Reply :=
  let p := rq.payload
  let src := fieldLE p 0 4
  let dst := fieldLE p 4 4
  let gain := fieldS p 8 2
  let fade := fieldLE p 10 2
  let staged := (byteAt p 12).testBit 0
  if !isSource s.member src then badArg 0 s
  else if !isDestination s.member dst ∨ (!isIngress src && isObjectInput dst) then badArg 4 s
  else if !staged && stageLocked s dst then refuse codeBusy 0 noField s
  else match mapFree s.route.routes 4096 with
    | none => refuse codeNoResource 1 noField s
    | some h =>
      let g := min gain 3072
      let n := min fade 1024
      let r : Route := { src := src, dst := dst, gain := g, invert := (byteAt p 12).testBit 1, fade := n, staged := staged }
      let fields := [(8, decide (gain ≤ 3072)), (10, decide (fade ≤ 1024))]
      let s := { s with route.routes := mapSet s.route.routes h r }
      let s :=
        if staged then
          let s := forgetStagedRoute dst (unstage dst s)
          { s with route.stage := mapSet s.route.stage dst { handle := some h, clears := none, fade := n } }
        else changeRoute dst (some h) n (withdrawClear dst s)
      replyUsed (firstBad fields) (bytesLE 2 h ++ bytesLE 2 n) (echoUnless [10] fields (withField 10 2 n (withField 8 2 (g % 65536).toNat p))) s

/-- `route.set`. -/
def routeSetOp : NcpOp :=
  { opcode := 0x0500, layout := fun _ => [4, 4, 2, 2, 1, 3], staged := fun rq => (byteAt rq.payload 12).testBit 0
    key := fun rq => some (routeKey (fieldLE rq.payload 4 4)), body := routeSetBody }

def execRouteSet (rq : Request) (s : State) : Host.Outcome State Fault Refusal := .next (serve routeSetOp rq s)

/-- A clear of a route in the routers: of the route in force, of the pending one, or of the old one of a crossfade. -/
def clearRoute (h : Nat) (r : Route) (n : Nat) (s : State) : State :=
  let d := getDst s r.dst
  if d.old = some h ∧ d.fading then s
  else if d.route = some h then forgetRoute r.dst (changeRoute r.dst none n (withdrawClear r.dst s))
  else match d.pending with
    | some (some j, _) => if j = h then forgetRoute r.dst (changeRoute r.dst none n s) else s
    | _ => s

def routeClearBody (rq : Request) (s : State) : Reply :=
  let p := rq.payload
  let h := fieldLE p 0 2
  let fade := fieldLE p 2 2
  let staged := (byteAt p 4).testBit 0
  match getRoute s h with
  | none => badArg 0 s
  | some r =>
    let n := min fade 1024
    let limited := if 1024 < fade then some 2 else none
    let reply := replyUsed limited [] (withField 2 2 n p)
    if r.staged then
      if s.msg.commit.isSome then refuse codeBusy 0 noField s
      else reply (forgetStagedRoute r.dst (unstage r.dst s))
    else if staged then
      if (getDst s r.dst).old = some h ∧ (getDst s r.dst).fading then reply s
      else
        let s := forgetStagedRoute r.dst (unstage r.dst s)
        let s := { s with route.stage := mapSet s.route.stage r.dst { handle := none, clears := some h, fade := n } }
        reply (noteSetting true { layer := 1, opcode := 0x0501, flow := rq.flow, key := routeKey r.dst, payload := p } s)
    else if stageLocked s r.dst then refuse codeBusy 0 noField s
    else reply (clearRoute h r n s)

/-- `route.clear`. A staged clear takes effect on the destination's route at the swap and is noted under its destination. -/
def routeClearOp : NcpOp :=
  { opcode := 0x0501, layout := fun _ => [2, 2, 1], staged := fun rq => (byteAt rq.payload 4).testBit 0, key := noKey
    body := routeClearBody }

def execRouteClear (rq : Request) (s : State) : Host.Outcome State Fault Refusal := .next (serve routeClearOp rq s)

/-- State of a handle in use (R156, R598). -/
def routeState (s : State) (h : Nat) (r : Route) : Nat :=
  let d := getDst s r.dst
  if r.staged then 3
  else if d.fading ∧ (d.route = some h ∨ d.old = some h) then 2
  else if d.route = some h then 1
  else 3

def routeGetBody (rq : Request) (s : State) : Reply :=
  let h := fieldLE rq.payload 0 2
  match getRoute s h with
  | none => badArg 0 s
  | some r =>
    replyOk (bytesLE 4 r.src ++ bytesLE 4 r.dst ++ bytesS 2 r.gain ++ bytesLE 2 r.fade
      ++ bytesLE 1 (flagAt r.staged 0 + flagAt r.invert 1) ++ bytesLE 3 0 ++ bytesLE 1 (routeState s h r)) s

/-- `route.get`. -/
def routeGetOp : NcpOp := { opcode := 0x0502, layout := fun _ => [2], staged := never, key := noKey, body := routeGetBody }

def execRouteGet (rq : Request) (s : State) : Host.Outcome State Fault Refusal := .next (serve routeGetOp rq s)

def routeListBody (rq : Request) (s : State) : Reply :=
  let first := fieldLE rq.payload 0 2
  let hs := ((s.route.routes.map (·.1)).filter fun h => decide (first ≤ h)).take 500
  replyOk (bytesLE 2 hs.length ++ hs.flatMap (bytesLE 2)) s

/-- `route.list`. -/
def routeListOp : NcpOp := { opcode := 0x0503, layout := fun _ => [2], staged := never, key := noKey, body := routeListBody }

def execRouteList (rq : Request) (s : State) : Host.Outcome State Fault Refusal := .next (serve routeListOp rq s)

/-! ### Basin rings (R361 to R364) -/

def ringBytes (channels length : Nat) : Nat := 64 + length * channels * 4

/-- Channels of the configured rings of one direction, but for one ring. -/
def ringChannels (s : State) (capture : Bool) (but : Nat) : Nat :=
  ((s.route.rings.filter fun r => r.1 != but && r.2.capture == capture).map fun r => r.2.channels).sum

def ringOverlaps (s : State) (but off size : Nat) : Bool :=
  s.route.rings.any fun r => r.1 != but && decide (r.2.offset < off + size)
    && decide (off < r.2.offset + ringBytes r.2.channels r.2.length)

/-- Whether a ring would lie over the dump area (R546). -/
def dumpOverlaps (s : State) (off size : Nat) : Bool := decide (off < dumpOffset s + dumpSize) && decide (dumpOffset s < off + size)

def routeBasinCfgBody (rq : Request) (s : State) : Reply :=
  let p := rq.payload
  let ring := byteAt p 0
  let dir := byteAt p 1
  let ch := byteAt p 2
  let len := fieldLE p 4 4
  let off := fieldLE p 8 8
  let start := fieldLE p 16 8
  if 15 < ring then badArg 0 s
  else if ch = 0 then replyOk (bytesLE 8 start) { s with route.rings := mapErase s.route.rings ring }
  else
    let size := ringBytes ch len
    let total := ringChannels s (dir == 1) ring + ch
    match firstBad [(1, decide (dir < 2)), (2, decide (ch ≤ 64)), (4, decide (256 ≤ len) && decide (len ≤ 16777216)),
        (8, off % 4096 == 0 && inBasin s off size && !ringOverlaps s ring off size && !dumpOverlaps s off size)] with
    | some f => badArg f s
    | none =>
      if (if dir = 1 then 512 else 2048) < total then refuse codeNoResource 0 noField s
      else
        let least := if rendering s then s.time.index + 256 else 0
        let from_ := max start least
        let r : Ring := { capture := dir == 1, channels := ch, length := len, offset := off, start := from_
                          device := from_, fill := 0, block := [] }
        replyUsed (if start < from_ then some 16 else none) (bytesLE 8 from_) []
          { s with route.rings := mapSet s.route.rings ring r }

/-- `route.basin.cfg`. -/
def routeBasinCfgOp : NcpOp :=
  { opcode := 0x0504, layout := fun _ => [1, 1, 1, 1, 4, 8, 8], staged := never, key := keyBytes 1, body := routeBasinCfgBody }

def execRouteBasinCfg (rq : Request) (s : State) : Host.Outcome State Fault Refusal := .next (serve routeBasinCfgOp rq s)

/-- The first sample of the block that comes next at an index: blocks wholly past are skipped. -/
def Ring.next (r : Ring) (index : Nat) : Nat :=
  if r.device + 64 ≤ index ∧ r.start ≤ index then r.start + (index - r.start) / 64 * 64 else r.device

/-- Basin offset of sample `i` of channel `c`. -/
def Ring.place (r : Ring) (i c : Nat) : Nat := r.offset + 64 + ((i - r.start) % r.length * r.channels + c) * 4

/-- RING_FETCH: 64 samples of every channel with the fill index read at that moment; invalid ones are 0 and counted. DEDUCED, log 70. -/
def execRingFetch (ring : Nat) (s : State) : Host.Outcome State Fault Refusal :=
  .next (
    match mapFind s.route.rings ring with
    | none => s
    | some r =>
      let i0 := r.next s.time.index
      if r.capture ∨ !rendering s ∨ !nerrisUp s ∨ s.time.index + 128 < i0 then s
      else
        let s := (List.range 64).foldl (fun s j => touchDram (basinStart s + r.place (i0 + j) 0) (4 * r.channels) s) s
        let fill := fieldLE (readBytes s (basinStart s + r.offset) 8) 0 8
        let broken := fun (i : Nat) => (List.range r.channels).any fun c => dramBad s (basinStart s + r.place i c)
        let valid := fun (i : Nat) => decide (i < fill) && decide (fill ≤ i + r.length) && !broken i
        let block := (List.range 64).flatMap fun j => (List.range r.channels).map fun c =>
          let i := i0 + j
          (i * 64 + c, if valid i then signed 32 (fieldLE (readBytes s (basinStart s + r.place i c) 4) 0 4) else 0)
        let bad := ((List.range 64).filter fun j => !valid (i0 + j)).length
        let kept := r.block.filter fun e => decide (s.time.index ≤ e.1 / 64)
        let s := countBy (0x3A10 + ring) bad s
        let r' := { r with device := i0 + 64, fill := fill, block := kept ++ block }
        dramWrite (basinStart s + r.offset + 8) (bytesLE 8 (i0 + 64)) { s with route.rings := mapSet s.route.rings ring r' })

/-- RING_CAPTURE_BLOCK: a block of 64 that has been captured goes to DRAM and the device index rises past it. DEDUCED, log 70. -/
def execRingCaptureBlock (ring : Nat) (s : State) : Host.Outcome State Fault Refusal :=
  .next (
    match mapFind s.route.rings ring with
    | none => s
    | some r =>
      let first := match r.block with
        | [] => r.device
        | e :: _ => max r.device (r.start + (e.1 / 64 - r.start) / 64 * 64)
      if !r.capture ∨ !(r.block.any fun e => decide (first + 63 ≤ e.1 / 64)) then s
      else
        let s := (r.block.filter fun e => decide (first ≤ e.1 / 64) && decide (e.1 / 64 < first + 64)).foldl (fun s e =>
          dramWrite (basinStart s + r.place (e.1 / 64) (e.1 % 64)) (bytesS 4 e.2) s) s
        let r' := { r with device := first + 64, block := r.block.filter fun e => decide (first + 64 ≤ e.1 / 64) }
        dramWrite (basinStart s + r.offset + 8) (bytesLE 8 (first + 64)) { s with route.rings := mapSet s.route.rings ring r' })

/-- The samples of the playback rings for input `k` at the ingress router. DEDUCED, log 70. -/
def ringInputs (k : Nat) (s : State) : State :=
  s.route.rings.foldl (fun s e =>
    if e.2.capture then s
    else (List.range e.2.channels).foldl (fun s c =>
      let v := if k < e.2.start then 0 else mapGet (fun _ => 0) e.2.block (k * 64 + c)
      { s with route.inputs := mapSet s.route.inputs (0x13000000 + e.1 * 65536 + c) v }) s) s

/-- The samples of the capture rings for index `k` taken from the egress router. -/
def ringCaptures (k : Nat) (s : State) : State :=
  s.route.rings.foldl (fun s e =>
    let r := e.2
    if !r.capture ∨ k < r.start then s
    else
      let now := (List.range r.channels).map fun c => (k * 64 + c, (getDst s (0x43000000 + e.1 * 65536 + c)).last)
      { s with route.rings := mapSet s.route.rings e.1 { r with block := r.block ++ now } }) s

end Sys2Proof.Machine
end

