-- ==== Sys2Proof/Machine/Ports.lean ====
section
/-! DEFINITION. TDM and AES3 ports, word clock and rate converters (R341 to R360): port words, timing modes, frames, clock loss and return, and the `port` messages (R157). -/

namespace Sys2Proof.Machine

/-! ### Keys and settings -/

def tdmKey (dir port : Nat) : Nat := dir * 16 + port
def aesKey (dir port : Nat) : Nat := dir * 2 + port
def portKey (kind dir index : Nat) : Nat := kind * 64 + dir * 16 + index
/-- The converter of a port direction (R365). -/
def convOf (kind dir index : Nat) : Nat := if kind = 0 then tdmKey dir index else 32 + aesKey dir index

def getPort (s : State) (k : Nat) : PortState := mapGet port0 s.route.ports k
def setPort (k : Nat) (p : PortState) (s : State) : State := { s with route.ports := mapSet s.route.ports k p }
def getSrc (s : State) (i : Nat) : SrcCfg := mapGet src0 s.route.src i
def getSrcState (s : State) (i : Nat) : SrcState := mapGet srcState0 s.route.srcState i
def setSrcState (i : Nat) (x : SrcState) (s : State) : State := { s with route.srcState := mapSet s.route.srcState i x }

/-- The rate code of a port direction, when configured. -/
def portRate (s : State) (kind dir index : Nat) : Option Nat :=
  if kind = 0 then (mapFind s.route.tdm (tdmKey dir index)).map (·.rate)
  else if kind = 1 then (mapFind s.route.aes (aesKey dir index)).map (·.rate)
  else some s.route.wclkRate

def sameFamily (a b : Nat) : Bool := a % 2 == b % 2

/-- The TDM direction drives its own bit clock. -/
def isMaster (s : State) (dir index : Nat) : Bool :=
  match mapFind s.route.tdm (tdmKey dir index) with
  | some c => c.master
  | none => false

/-- The mode of R341: 0 SYNC, 1 SLAVED, 2 SRC, 3 OFF. -/
def portMode (s : State) (kind dir index : Nat) : Nat :=
  match portRate s kind dir index with
  | none => 3
  | some r =>
    let inside := sameFamily r s.time.rate
    let own := if kind = 0 then isMaster s dir index else dir == 1
    if own && !inside then 3
    else if (getSrc s (convOf kind dir index)).enable then 2
    else if r ≠ s.time.rate then 3
    else if own ∨ (kind = 0 ∧ dir = 0 ∧ s.time.mclk.ref = 2 ∧ s.time.mclk.tdmPort = index) then 0
    else 1

/-- A direction whose clock is watched (R349). -/
def isWatched (s : State) (kind index dir : Nat) : Bool :=
  if kind = 0 then decide (dir < 2) && mapHas s.route.tdm (tdmKey dir index) && !isMaster s dir index
  else if kind = 1 then dir == 0 && mapHas s.route.aes (aesKey 0 index)
  else kind == 2 && index == 0 && dir == 0

/-- A direction clocked from inside the part. -/
def ownClock (s : State) (kind dir index : Nat) : Bool := if kind = 0 then isMaster s dir index else kind == 1 && dir == 1

/-- The state that `port.status` and the STATE field report (R341, R366). -/
def portSt (s : State) (kind dir index : Nat) : Nat :=
  if kind = 2 then (getPort s (portKey 2 0 0)).st
  else match portRate s kind dir index with
    | none => 0
    | some _ =>
      if portMode s kind dir index = 3 then 1
      else if ownClock s kind dir index then (if rendering s then 2 else 1)
      else (getPort s (portKey kind dir index)).st

/-- The measured rate that `port.status` and the RATE registers report: 0 with no clock (R352). An AES3 output is not measured and has no stated value. -/
def portMeasured (s : State) (kind dir index : Nat) : Nat :=
  if kind = 1 ∧ dir = 1 then (Config.unstated 352 index % 2 ^ 32).toNat
  else if portSt s kind dir index = 0 then 0
  else if ownClock s kind dir index then
    match portRate s kind dir index with
    | some r => if portMode s kind dir index = 3 then 0 else rateHz r * 100
    | none => 0
  else (getPort s (portKey kind dir index)).rate

/-! ### Port words (R335) -/

/-- A port word of `w` bits into the device. -/
def wordIn (w : Nat) (v : Int) : Int := if w = 32 then roundDiv (satInt 32 v) 16 else satInt w v * 2 ^ (28 - w)
/-- A render word as a port word of `w` bits, and whether it saturated. -/
def wordOut (w : Nat) (v : Int) : Int × Bool :=
  let x := if w = 32 then v * 16 else roundDiv v (2 ^ (28 - w))
  (satInt w x, satInt w x != x)

/-! ### Clock loss and return (R349 to R352) -/

def lossCounter (kind dir index : Nat) : Nat :=
  if kind = 0 then (if dir = 0 then 0x3400 + 8 * index + 2 else 0x3480 + 8 * index + 1)
  else if kind = 1 then 0x3500 + 8 * index + 5
  else 0x3520

/-- `port.clock`. -/
def portClock (kind index dir v : Nat) (s : State) : State :=
  event 3 (activeShore s) 0x0680 0xFFFF (bytesLE 1 kind ++ bytesLE 1 index ++ bytesLE 1 dir ++ bytesLE 1 v) s

/-! ### The synthesiser's state (R411, R412) -/

/-- `time.lock` with a reference code and state (R406, R411, R412). -/
def timeLock (ref st : Nat) (s : State) : State := event 4 (activeShore s) 0x0880 0xFFFF (bytesLE 1 ref ++ bytesLE 1 st) s
def setMclk (m : Mclk) (s : State) : State := { s with time.mclk := m }

/-- A state of the synthesiser taken and reported; none with the local reference (R411). DEDUCED, log 80. -/
def mclkTo (st : Nat) (s : State) : State :=
  let m := s.time.mclk
  if !nerrisUp s ∨ m.ref = 3 ∨ m.st = st then s
  else
    let s := setMclk { m with st := st, slewing := if st = 1 then false else m.slewing } s
    timeLock m.ref st (if st = 0 then count 0x4282 s else if st = 2 then count 0x4281 s else s)

/-- The synthesiser goes to holdover when its reference disappears: the servo's (0), WCLK_IN (1) or the TDM input named (2) (R412). DEDUCED, log 80. -/
def refLost (ref port : Nat) (s : State) : State :=
  if s.time.mclk.ref = ref ∧ (ref = 2 → s.time.mclk.tdmPort = port) then mclkTo 2 s else s

/-- The reference that a watched clock is: WCLK_IN or a TDM input. -/
def clockRefLost (kind index dir : Nat) (s : State) : State :=
  if kind = 2 then refLost 1 0 s else if kind = 0 ∧ dir = 0 then refLost 2 index s else s

/-- The loss of a watched clock: the samples fade, the loss is counted and reported (R350). -/
def loseClock (kind index dir : Nat) (s : State) : State :=
  let k := portKey kind dir index
  let p := getPort s k
  if !isWatched s kind index dir ∨ p.st = 0 ∨ (p.st = 3 ∧ !p.fadeUp) then s
  else
    let st := if kind < 2 ∧ 0 < p.fade then 3 else 0
    let q := { p with st := st, fadeUp := false, errRun := 0, losses := p.losses + 1, frames := 0, queue := [], skip := 0, block := 192 }
    let i := convOf kind dir index
    let s := if kind < 2 then setSrcState i { getSrcState s i with locked := false } s else s
    clockRefLost kind index dir (portClock kind index dir 0 (count (lossCounter kind dir index) (setPort k q s)))

/-- CLOCK_LOSS. -/
def execClockLoss (kind index dir : Nat) (s : State) : Host.Outcome State Fault Refusal := .next (loseClock kind index dir s)

/-- A rate in 0.01 Hz within ±1000 ppm of a rate in Hz (R351). -/
def withinPpm (rate hz : Nat) : Bool := decide (hz * 99900 ≤ rate * 1000) && decide (rate * 1000 ≤ hz * 100100)

/-- Whether a measured clock matches a direction's settings. -/
def clockMatches (s : State) (kind dir index rate bits : Nat) : Bool :=
  match portRate s kind dir index with
  | none => false
  | some r => withinPpm rate (rateHz r) && (kind != 0 || match mapFind s.route.tdm (tdmKey dir index) with
      | some c => decide (c.slots * c.width ≤ bits)
      | none => false)

/-- A port whose clock matches enters running: it fades in, after its converter's lock when it has one. -/
def admitClock (kind dir index : Nat) (p : PortState) (s : State) : State :=
  let mode := portMode s kind dir index
  if kind = 2 then setPort (portKey 2 0 0) { p with st := 2 } s
  else if mode = 3 then setPort (portKey kind dir index) { p with st := 1 } s
  else if mode = 2 then
    let i := convOf kind dir index
    setSrcState i { getSrcState s i with fade := 0 } (setPort (portKey kind dir index) { p with st := 1, fade := 64, fadeUp := true } s)
  else setPort (portKey kind dir index) { p with st := 3, fadeUp := true } s

/-- CLOCK_RETURN: 16 frames have been measured. -/
def execClockReturn (kind index dir rate bits : Nat) (s : State) : Host.Outcome State Fault Refusal :=
  .next (
    let k := portKey kind dir index
    let p := getPort s k
    if !nerrisUp s ∨ !isWatched s kind index dir ∨ p.st = 2 ∨ (p.st = 3 ∧ p.fadeUp) ∨ (p.st = 1 ∧ p.fadeUp) then s
    else
      let p := { p with rate := rate, frameLen := if kind = 0 then bits % 2048 else 0, errRun := 0, frames := 0, queue := [], skip := 0 }
      if clockMatches s kind dir index rate bits then portClock kind index dir 1 (admitClock kind dir index p s)
      else portClock kind index dir 2 (setPort k { p with st := 1, fadeUp := false } s))

/-- The class of a rate in 0.01 Hz: its nominal rate in Hz, or 0 for unclassed (R352). -/
def rateClass (rate : Nat) : Nat :=
  ((32000 :: (List.range 6).map rateHz).find? fun hz => withinPpm rate hz).getD 0

/-- RATE_CLASS_CHANGE: the measurement over the gate; a clock that appears on WCLK_IN and is classed may wake the part (R561). -/
def execRateClassChange (kind index dir rate : Nat) (s : State) : Host.Outcome State Fault Refusal :=
  .next (
    let k := portKey kind dir index
    let p := getPort s k
    let known := (kind == 0 && decide (dir < 2) && mapHas s.route.tdm (tdmKey dir index)) || isWatched s kind index dir
    let c := rateClass rate
    if !nerrisUp s ∨ !known then s
    else
      let s := setPort k { p with rate := rate, cls := c } s
      if c = p.cls then s
      else
        let s := if kind = 2 ∧ p.cls = 0 then wakeBy 3 s else s
        event 3 (activeShore s) 0x0681 0xFFFF
          (bytesLE 1 kind ++ bytesLE 1 index ++ bytesLE 1 dir ++ bytesLE 1 0 ++ bytesLE 4 rate) s)

/-! ### Rate converters (R357, R358) -/

/-- The port direction of a converter, or none for a stream's. -/
def convPort (i : Nat) : Option (Nat × Nat × Nat) :=
  if i < 32 then some (0, i / 16, i % 16) else if i < 36 then some (1, (i - 32) / 2, i % 2) else none

/-- SRC_LOCK. DEDUCED, log 67. -/
def execSrcLock (conv : Nat) (s : State) : Host.Outcome State Fault Refusal :=
  .next (
    let x := getSrcState s conv
    if !(getSrc s conv).enable ∨ x.locked then s
    else match convPort conv with
      | some (kind, dir, index) =>
        let p := getPort s (portKey kind dir index)
        if p.st = 1 ∧ p.fadeUp then
          setPort (portKey kind dir index) { p with st := 3 } (setSrcState conv { x with locked := true } s)
        else s
      | none => setSrcState conv { x with locked := true } s)

/-- SRC_UNLOCK. -/
def execSrcUnlock (conv : Nat) (s : State) : Host.Outcome State Fault Refusal :=
  .next (
    let x := getSrcState s conv
    if !(getSrc s conv).enable ∨ !x.locked then s
    else
      let s := count (0x3540 + 4 * conv) (setSrcState conv { x with locked := false } s)
      match convPort conv with
      | some (kind, dir, index) =>
        if ownClock s kind dir index then s
        else setPort (portKey kind dir index) { getPort s (portKey kind dir index) with st := 1 } s
      | none => s)

/-- Every converter's fade and change of set, one sample on. DEDUCED, log 67. -/
def stepSrcs (s : State) : State :=
  let step := fun (x : SrcState) =>
    { x with fade := if x.locked then min 64 (x.fade + 1) else x.fade - 1, cross := min 64 (x.cross + 1) }
  { s with route.srcState := s.route.srcState.map fun e => (e.1, step e.2) }

/-- A sample through a converter's settings: the raw sample where it is off. DEDUCED, log 67. -/
def convSample (c : SrcCfg) (rin rout : Nat) (phase raw : Int) (hist : List Int) : Int :=
  if c.enable then Config.srcFilter c.set rin rout (phase :: hist) else raw

/-- A sample through converter `i`: both settings for 64 samples after a change, saturated and counted, under its fade (R357 to R359). DEDUCED, log 67. -/
def convRun (i rin rout : Nat) (phase raw : Int) (hist : List Int) (s : State) : Int × State :=
  let c := getSrc s i
  let x := getSrcState s i
  let new := convSample c rin rout phase raw hist
  let v := match x.old with
    | some o =>
      if x.cross < 64 then roundDiv (convSample o rin rout phase raw hist * (63 - x.cross : Nat) + new * (x.cross + 1 : Nat)) 64 else new
    | none => new
  let w := satInt 32 v
  let s := if w = v then s else count (0x3540 + 4 * i + 1) s
  (if c.enable then roundDiv (w * x.fade) 64 else w, s)

/-- Converters staged for the ones that pass a test take effect. -/
def swapSrcs (mine : Nat → Bool) (s : State) : State :=
  let new := s.route.srcStage.filter fun e => mine e.1
  let s := { s with route.srcStage := s.route.srcStage.filter fun e => !mine e.1 }
  new.foldl (fun s e =>
    let was := getSrc s e.1
    if was = e.2 then s
    else
      let x := getSrcState s e.1
      let own := match convPort e.1 with
        | some (kind, dir, index) => ownClock s kind dir index
        | none => false
      let fresh := !was.enable
      let y : SrcState := { locked := own || (x.locked && !fresh), fade := if own then 64 else if fresh then 0 else x.fade
                            old := some was, cross := 0 }
      setSrcState e.1 y { s with route.src := mapSet s.route.src e.1 e.2 }) s

/-! ### Frames that arrive (R342, R345, R353, R354) -/

/-- The slot mask of a direction loaded at a frame start (R346). DEDUCED, log 68. -/
def loadMask (p : PortState) : PortState :=
  match p.maskBuf with
  | some m => if p.maskLate then { p with maskLate := false } else { p with mask := m, maskBuf := none }
  | none => p

/-- A complete frame put where the next tick finds it: a SLAVED port keeps its hold, slipping when it leaves its bounds (R342). `ns` is the time from the frame's completion to the next tick. -/
def queueFrame (slipId : Nat) (slaved : Bool) (frHz ns : Nat) (frame : List Int) (p : PortState) (s : State) : PortState × State :=
  if !slaved then ({ p with queue := [frame], hist := (frame :: p.hist).take 66, frames := p.frames + 1 }, s)
  else
    let f : Int := (ns * frHz * 65536 / 1000000000 : Nat) % 65536
    if p.frames = 0 then
      let h := if f < 32768 then f + 65536 else f
      ({ p with hold := h, skip := if 65536 ≤ h then 1 else 0, frames := 1, held := if p.held.isEmpty then frame else p.held, queue := [frame] }, s)
    else
      let near := p.hold % 65536
      let base := p.hold - near
      let h := base + f + (if 32768 < f - near then -65536 else if f - near < -32768 then 65536 else 0)
      if h * 10 < 65536 then
        ({ p with hold := h + 65536, skip := p.skip + 1, queue := p.queue ++ [frame] }, count slipId s)
      else if 19 * 65536 ≤ h * 10 then ({ p with hold := h - 65536 }, count slipId s)
      else ({ p with hold := h, queue := p.queue ++ [frame] }, s)

/-- TDM_INPUT_FRAME: a frame start ends the frame before it, of `bits` bit clocks, with the words of its slots. -/
def execTdmInputFrame (port bits : Nat) (slots : List Int) (ns : Nat) (s : State) : Host.Outcome State Fault Refusal :=
  .next (
    match mapFind s.route.tdm (tdmKey 0 port) with
    | none => s
    | some c =>
      if !nerrisUp s then s
      else
        let k := portKey 0 0 port
        let p := getPort s k
        let mode := portMode s 0 0 port
        if bits < c.slots * c.width ∨ 2047 < bits then
          let p := { loadMask p with frameLen := bits % 2048, errRun := p.errRun + 1 }
          let s := count (0x3400 + 8 * port + 1) (setPort k p s)
          if 2 ≤ p.errRun then loseClock 0 port 0 s else s
        else
          let frame := (List.range c.slots).map fun (i : Nat) =>
            if p.mask.testBit i then wordIn c.width (slots.getD i 0) else 0
          let live := ownClock s 0 0 port || p.st == 2 || p.st == 3 || (p.st == 1 && p.fadeUp)
          let p := { p with frameLen := bits % 2048, errRun := 0 }
          let (p, s) := if mode = 3 ∨ !live then (p, s)
            else queueFrame (0x3400 + 8 * port + 3) (mode == 1) (rateHz s.time.rate) ns frame p s
          setPort k (loadMask p) s)

/-- The CRCC of professional channel status: x⁸ + x⁴ + x³ + x² + 1 from all ones, bytes least significant bit first (IEC 60958-4). PRESUMED, log 69. -/
def crccStep (c : BitVec 8) (b : Bool) : BitVec 8 := if c.getLsbD 0 != b then (c >>> 1) ^^^ 0xB8#8 else c >>> 1
/-- PRESUMED, log 69. -/
def crcc (bs : List Byte) : BitVec 8 :=
  bs.foldl (fun c b => (List.range 8).foldl (fun c i => crccStep c (b.getLsbD i)) c) 0xFF#8

/-- 24 bytes of channel status from 192 bits, first received first. -/
def statusBytes (bs : List Bool) : List Byte :=
  (List.range 24).map fun j => BitVec.ofNat 8 (maskOf ((List.range 8).filter fun i => bs.getD (8 * j + i) false))

/-- The end of a block of channel status: kept when good, counted when its CRCC fails. PRESUMED, log 69. -/
def takeStatus (port : Nat) (bits : List Bool) (old : List Byte) (s : State) : List Byte × Bool × State :=
  let bs := statusBytes bits
  if (byteAt bs 0).testBit 0 ∧ crcc (bs.take 23) ≠ nth 0 bs 23 then (old, true, count (0x3500 + 8 * port + 1) s) else (bs, false, s)

/-- The block-sync and channel-status work of one frame. PRESUMED, log 69. -/
def aesBlock (port : Nat) (f : AesFrame) (p : PortState) (s : State) : PortState × Bool × State :=
  let bad := if p.block = 192 then false else if p.block = 0 then !f.zPreamble else f.zPreamble
  if bad then
    ({ p with block := 192, bsyncErr := true, capA := [], capB := [] }, true, count (0x3500 + 8 * port + 2) s)
  else if p.block = 192 ∧ !f.zPreamble then (p, false, s)
  else
    let pos := if p.block = 192 then 0 else p.block
    let p := if pos = 0 then { p with capA := [], capB := [] } else p
    let p := { p with capA := p.capA ++ [f.statusL], capB := p.capB ++ [f.statusR] }
    let (p, s) := if pos = 1 then
        ({ p with nonAudio := BitVec.ofNat 2 (flagAt f.statusL 0 + flagAt f.statusR 1)
                  queue := p.queue.map fun q => [if f.statusL then 0 else q.getD 0 0, if f.statusR then 0 else q.getD 1 0] },
          countBy (0x3500 + 8 * port + 4) (flag f.statusL + flag f.statusR) s)
      else (p, s)
    if pos = 191 then
      let (a, ea, s) := takeStatus port p.capA p.csA s
      let (b, eb, s) := takeStatus port p.capB p.csB s
      ({ p with block := 0, csA := a, csB := b, crccErr := p.crccErr || ea || eb, validity := p.vNow || f.validL || f.validR, vNow := false }, false, s)
    else ({ p with block := pos + 1, vNow := p.vNow || f.validL || f.validR }, false, s)

/-- AES3_INPUT_FRAME. -/
def execAes3InputFrame (port : Nat) (f : AesFrame) (s : State) : Host.Outcome State Fault Refusal :=
  .next (
    if !nerrisUp s ∨ !mapHas s.route.aes (aesKey 0 port) then s
    else
      let k := portKey 1 0 port
      let mode := portMode s 1 0 port
      let (p, sync, s) := aesBlock port f (getPort s k) s
      let okL := f.biphaseOk && f.parityOkL
      let okR := f.biphaseOk && f.parityOkR
      let s := countBy (0x3500 + 8 * port) (flag (!okL) + flag (!okR)) s
      let s := countBy (0x3500 + 8 * port + 3) (flag f.validL + flag f.validR) s
      let last := p.queue.getLast?.getD p.held
      let pick := fun (good mute : Bool) (v : Int) (i : Nat) => if mute then 0 else if good then wordIn 24 v else last.getD i 0
      let frame := [pick okL (p.nonAudio.getLsbD 0) f.left 0, pick okR (p.nonAudio.getLsbD 1) f.right 1]
      let p := { p with errRun := if sync || !f.biphaseOk then p.errRun + 1 else 0 }
      let live := p.st == 2 || p.st == 3 || (p.st == 1 && p.fadeUp)
      let (q, s) := if mode = 3 ∨ !live then (p, s)
        else queueFrame (0x3500 + 8 * port + 6) (mode == 1) (rateHz s.time.rate) f.ns frame p s
      let s := setPort k q s
      if 2 ≤ p.errRun then loseClock 1 port 0 s else s)

/-! ### Ticks -/

/-- A direction's fade one sample on; its end brings running or no clock. -/
def stepFade (done : Bool) (p : PortState) : PortState :=
  let f := if p.fadeUp then min 64 (p.fade + 1) else p.fade - 1
  let st := if p.st = 3 ∧ p.fadeUp ∧ f = 64 ∧ done then 2 else if p.st = 3 ∧ !p.fadeUp ∧ f = 0 then 0 else p.st
  { p with fade := if p.st = 3 then f else p.fade, st := st }

/-- The frame that a direction delivers at a tick; a frame due and missing repeats the one before and is counted (R350). -/
def deliverFrame (missId : Nat) (p : PortState) (s : State) : PortState × State :=
  if 0 < p.skip then ({ p with skip := p.skip - 1 }, s)
  else match p.queue with
    | f :: rest => ({ p with held := f, queue := rest }, s)
    | [] => (p, if p.st = 2 ∨ p.st = 3 then count missId s else s)

/-- Input `k` of one port direction at the ingress router. -/
def portInput (kind index k channels code missId : Nat) (s : State) : State :=
  let key := portKey kind 0 index
  let mode := portMode s kind 0 index
  if mode = 3 then s
  else
    let own := ownClock s kind 0 index
    let i := convOf kind 0 index
    let p := getPort s key
    let p := if own then { p with st := 2, fade := 64, fadeUp := true } else stepFade (mode != 2 || (getSrcState s i).fade == 64) p
    let (p, s) := if mode = 2 then (p, s) else deliverFrame missId p s
    let s := setPort key p s
    let rate := (portRate s kind 0 index).getD 0
    let phase : Int := (k * rateHz rate % rateHz s.time.rate : Nat)
    let held := if mode = 2 then p.hist.headD [] else p.held
    let live := own || p.st == 2 || p.st == 3 || (p.st == 1 && p.fadeUp)
    (List.range channels).foldl (fun s c =>
      let (v, s) := convRun i rate s.time.rate phase (held.getD c 0) (p.hist.map fun f => f.getD c 0) s
      let v := if live then roundDiv (v * p.fade) 64 else 0
      { s with route.inputs := mapSet s.route.inputs (code + c) v }) s

/-- Input `k` of every port. -/
def portInputs (k : Nat) (s : State) : State :=
  let s := (s.route.tdm.filter fun e => decide (e.1 < 16)).foldl (fun s e =>
    portInput 0 e.1 k e.2.slots (0x10000000 + e.1 * 65536) (0x3400 + 8 * e.1) s) s
  (s.route.aes.filter fun e => decide (e.1 < 2)).foldl (fun s e =>
    portInput 1 e.1 k 2 (0x11000000 + e.1 * 65536) (0x3500 + 8 * e.1 + 7) s) s

/-- The port scaling of a direct sample, and 0 where its source delivers nothing (R332, R337, R350). -/
def directSample (s : State) (src : Nat) : Int :=
  let v := mapGet (fun _ => 0) s.route.direct src
  let port := epIndex src
  let scaled := fun (kind : Nat) =>
    if portMode s kind 0 port = 3 then 0
    else if ownClock s kind 0 port then v
    else
      let p := getPort s (portKey kind 0 port)
      if p.st = 0 ∨ (p.st = 1 ∧ !p.fadeUp) then 0 else roundDiv (v * p.fade) 64
  match epKind src with
  | 0x10 => if (getPort s (portKey 0 0 port)).mask.testBit (epChannel src) then scaled 0 else 0
  | 0x11 => if (getPort s (portKey 1 0 port)).nonAudio.getLsbD (epChannel src) then 0 else scaled 1
  | _ => if mapHas s.route.inputs src then v else 0

/-- The sample of a source as the egress router takes it. -/
def egressSource (s : State) (src : Nat) : Int := if isIngress src then directSample s src else mapGet (fun _ => 0) s.route.feeds src

/-- Frames at a rate that start in the period of sample `k`. -/
def framesIn (k rate fr : Nat) : List Nat :=
  (List.range (((k + 1) * rateHz rate) / rateHz fr - k * rateHz rate / rateHz fr))

/-- The output frames of a direction for index `k`: one for each frame of the port, a list of words by channel. -/
def portFrames (kind index k channels code w satId : Nat) (s : State) : List (List Int) × State :=
  let key := portKey kind 1 index
  let mode := portMode s kind 1 index
  let rate := (portRate s kind 1 index).getD 0
  let own := ownClock s kind 1 index
  let i := convOf kind 1 index
  let now := (List.range channels).map fun c => (getDst s (code + c)).last
  let p := getPort s key
  let p := if own then { p with st := 2, fade := 64, fadeUp := true } else stepFade (mode != 2 || (getSrcState s i).fade == 64) p
  let p := loadMask { p with hist := (now :: p.hist).take 66, held := now }
  let s := setPort key p s
  let live := own || p.st == 2 || p.st == 3 || (p.st == 1 && p.fadeUp)
  (framesIn k (if mode = 2 then rate else s.time.rate) s.time.rate).foldl (fun (a : List (List Int) × State) j =>
    let (ws, s) := (List.range channels).foldl (fun (b : List Int × State) c =>
      let phase : Int := ((k * rateHz rate % rateHz b.2.time.rate) + j : Nat)
      let (v, s) := convRun i b.2.time.rate rate phase (now.getD c 0) (p.hist.map fun f => f.getD c 0) b.2
      let v := if live then roundDiv (v * p.fade) 64 else 0
      let (x, sat) := wordOut w v
      (b.1 ++ [x], if sat && p.mask.testBit c then count satId s else s)) ([], a.2)
    (a.1 ++ [ws], s)) ([], s)

/-- The TDM outputs for index `k`: the words of enabled slots; a disabled slot drives 0 or nothing (R347). -/
def tdmOutputs (k : Nat) (s : State) : State :=
  (s.route.tdm.filter fun e => decide (16 ≤ e.1)).foldl (fun s e =>
    let port := e.1 - 16
    if portMode s 0 1 port = 3 then s
    else
      let (frames, s) := portFrames 0 port k e.2.slots (0x40000000 + port * 65536) e.2.width (0x3480 + 8 * port) s
      let p := getPort s (portKey 0 1 port)
      if !(ownClock s 0 1 port || p.st == 2 || p.st == 3) then s
      else emitPins (frames.flatMap fun ws => (ws.zipIdx.filter fun x => p.mask.testBit x.2 || !e.2.hiZ).map fun x =>
        .output (0x40000000 + port * 65536 + x.2) k (if p.mask.testBit x.2 then x.1 else 0)) s) s

/-- The AES3 outputs for index `k`: one frame or more with both words, validity, channel status and the start of each block (R355). A port that is OFF sends zero audio at its rate (R341). -/
def aesOutputs (k : Nat) (s : State) : State :=
  (s.route.aes.filter fun e => decide (2 ≤ e.1)).foldl (fun s e =>
    let port := e.1 - 2
    let key := portKey 1 1 port
    let off := portMode s 1 1 port == 3
    let s := setPort key { getPort s key with mask := 3 } s
    let (frames, s) := if off then ((framesIn k e.2.rate s.time.rate).map fun _ => [0, 0], s)
      else portFrames 1 port k 2 (0x41000000 + port * 65536) 24 (0x3510 + port) s
    frames.foldl (fun s ws =>
      let p := getPort s key
      let pos := p.block % 192
      let bit := (byteAt e.2.status (pos / 8)).testBit (pos % 8)
      emitPins [.aesFrame port k (ws.getD 0 0) (ws.getD 1 0) e.2.valid bit (pos == 0)] (setPort key { p with block := (pos + 1) % 192 } s)) s) s

/-! ### Swaps (R339, R346, R359) -/

/-- A direction takes new settings: a clock of its own runs at once, a measured one that matches fades in (R351). -/
def restartPort (kind dir index : Nat) (s : State) : State :=
  let k := portKey kind dir index
  let p := getPort s k
  let p := { p with queue := [], skip := 0, hist := [], held := [], frames := 0, fade := 0, fadeUp := false, errRun := 0, block := 192 }
  if ownClock s kind dir index then setPort k { p with st := 2, fade := 64, fadeUp := true, block := 0 } s
  else if p.rate = 0 ∨ p.st = 0 then setPort k { p with st := 0 } s
  else if clockMatches s kind dir index p.rate p.frameLen then admitClock kind dir index p s
  else setPort k { p with st := 1 } s

/-- The staged ports of one direction take effect, each with its mask in the buffer. -/
def swapPorts (dir : Nat) (s : State) : State :=
  let tdm := s.route.tdmStage.filter fun e => e.1 / 16 == dir
  let aes := s.route.aesStage.filter fun e => e.1 / 2 == dir
  let s := { s with
    route.tdmStage := s.route.tdmStage.filter fun e => !(e.1 / 16 == dir)
    route.aesStage := s.route.aesStage.filter fun e => !(e.1 / 2 == dir) }
  let s := tdm.foldl (fun s e =>
    let same := match mapFind s.route.tdm e.1 with
      | some c => { c with mask := e.2.mask } == e.2
      | none => false
    let s := { s with route.tdm := mapSet s.route.tdm e.1 e.2 }
    let s := if same then s else restartPort 0 dir (e.1 % 16) s
    let k := portKey 0 dir (e.1 % 16)
    setPort k { getPort s k with maskBuf := some e.2.mask, maskLate := false } s) s
  let s := aes.foldl (fun s e =>
    let same := match mapFind s.route.aes e.1 with
      | some c => c.rate == e.2.rate
      | none => false
    let s := { s with route.aes := mapSet s.route.aes e.1 e.2 }
    if same then s else restartPort 1 dir (e.1 % 2) s) s
  swapSrcs (fun i => if i < 32 then i / 16 == dir else if i < 36 then (i - 32) / 2 == dir else (if i < 192 then 0 else 1) == dir) s

/-- The shadow banks of ports and converters emptied. -/
def discardPorts (s : State) : State := { s with route.tdmStage := [], route.aesStage := [], route.srcStage := [] }

/-! ### `port` messages (R157) -/

/-- The frame length of a master: the smallest 2ᵃ or 3 · 2ᵃ that holds the slots (R344). -/
def masterFrame (n : Nat) : Nat :=
  (((List.range 12).flatMap fun a => [2 ^ a, 3 * 2 ^ a]).filter fun f => decide (n ≤ f)).foldl min 4096

def portTdmCfgBody (rq : Request) (s : State) : Reply :=
  let p := rq.payload
  let port := byteAt p 0
  let dir := byteAt p 1
  let slots := byteAt p 2
  let w := byteAt p 3
  let rate := byteAt p 6
  let master := byteAt p 5 == 1
  match firstBad [(0, decide (port < s.member.tdmPorts)), (1, decide (dir < 2)), (2, decide (1 ≤ slots) && decide (slots ≤ 32)),
      (3, w == 16 || w == 20 || w == 24 || w == 32), (4, decide (byteAt p 4 ≤ 31)), (5, decide (byteAt p 5 ≤ 1)),
      (6, decide (rate ≤ 5))] with
  | some f => badArg f s
  | none =>
    if 50000000 < slots * w * rateHz rate then badArg 2 s
    else if master && !sameFamily rate s.time.rate then refuse codeBadArg 4 6 s
    else if master && decide (50000000 < masterFrame (slots * w) * rateHz rate) then refuse codeBadArg 5 2 s
    else
      let c : TdmCfg := { slots := slots, width := w, offset := byteAt p 4, master := master, rate := rate
                          hiZ := (byteAt p 7).testBit 0, mask := fieldLE p 8 4 }
      replyOk [] { s with route.tdmStage := mapSet s.route.tdmStage (tdmKey dir port) c }

/-- `port.tdm.cfg`. -/
def portTdmCfgOp : NcpOp :=
  { opcode := 0x0600, layout := fun _ => [1, 1, 1, 1, 1, 1, 1, 1, 4], staged := always, key := keyBytes 2, body := portTdmCfgBody }

def execPortTdmCfg (rq : Request) (s : State) : Host.Outcome State Fault Refusal := .next (serve portTdmCfgOp rq s)

/-- `port.tdm.mask` writes the buffer; where frames run, whether it came in the last 2 bit clocks before a frame start is open to the model (R346). DEDUCED, log 68. -/
def portTdmMaskBody (rq : Request) (s : State) : Reply :=
  let p := rq.payload
  let port := byteAt p 0
  let dir := byteAt p 1
  match firstBad [(0, decide (port < s.member.tdmPorts)), (1, decide (dir < 2))] with
  | some f => badArg f s
  | none =>
    let k := portKey 0 dir port
    let runs := rendering s && portMode s 0 dir port != 3 && (ownClock s 0 dir port || (getPort s k).st == 2 || (getPort s k).st == 3)
    let (b, t) := drawFree s
    let late := runs && b.getLsbD 0
    let t := if runs then t else s
    let t := setPort k { getPort t k with maskBuf := some (fieldLE p 4 4), maskLate := late } t
    replyOk [] (if late then count (if dir = 0 then 0x3400 + 8 * port + 4 else 0x3480 + 8 * port + 3) t else t)

def portTdmMaskOp : NcpOp :=
  { opcode := 0x0601, layout := fun _ => [1, 1, 2, 4], staged := never, key := keyBytes 2, body := portTdmMaskBody }

def execPortTdmMask (rq : Request) (s : State) : Host.Outcome State Fault Refusal := .next (serve portTdmMaskOp rq s)

def portAesCfgBody (rq : Request) (s : State) : Reply :=
  let p := rq.payload
  let port := byteAt p 0
  let dir := byteAt p 1
  let rate := byteAt p 2
  match firstBad [(0, decide (port < 2)), (1, decide (dir < 2)), (2, decide (rate ≤ 5))] with
  | some f => badArg f s
  | none =>
    if dir = 1 ∧ !sameFamily rate s.time.rate then refuse codeBadArg 4 2 s
    else
      let pro := (byteAt p 3).testBit 0
      let cs := slice p 4 24
      let cs := if pro then cs.take 23 ++ [crcc (cs.take 23)] else cs
      let c : AesCfg := { rate := rate, pro := pro, valid := (byteAt p 3).testBit 1, status := cs }
      replyOk [] { s with route.aesStage := mapSet s.route.aesStage (aesKey dir port) c }

/-- `port.aes.cfg`. -/
def portAesCfgOp : NcpOp :=
  { opcode := 0x0602, layout := fun _ => [1, 1, 1, 1, 24], staged := always, key := keyBytes 2, body := portAesCfgBody }

def execPortAesCfg (rq : Request) (s : State) : Host.Outcome State Fault Refusal := .next (serve portAesCfgOp rq s)

def portWclkCfgBody (rq : Request) (s : State) : Reply :=
  let rate := byteAt rq.payload 1
  if 5 < rate then badArg 1 s
  else if !sameFamily rate s.time.rate then refuse codeBadArg 4 1 s
  else replyOk [] { s with
    route.wclkOut := (byteAt rq.payload 0).testBit 0, route.wclkRef := (byteAt rq.payload 0).testBit 1, route.wclkRate := rate }

/-- `port.wclk.cfg`. -/
def portWclkCfgOp : NcpOp :=
  { opcode := 0x0603, layout := fun _ => [1, 1], staged := never, key := keyBytes 0, body := portWclkCfgBody }

def execPortWclkCfg (rq : Request) (s : State) : Host.Outcome State Fault Refusal := .next (serve portWclkCfgOp rq s)

/-- The group delay of R360 in 1/256 sample at Fr. -/
def srcDelay (set rate fr : Nat) : Nat :=
  let rp := rateHz rate
  let f := rateHz fr
  let lo := min rp f
  (roundDiv (256 * ((if set = 0 then 32 else 8) * f * rp + 2 * f * lo) : Nat) (lo * rp : Nat)).toNat

/-- The port rate that a converter works with: staged, active, or its stream's; where none is configured the delay has no stated value. -/
def srcRate (s : State) (kind dir index : Nat) : Option Nat :=
  if kind = 0 then (((mapFind s.route.tdmStage (tdmKey dir index)).or (mapFind s.route.tdm (tdmKey dir index))).map (·.rate))
  else if kind = 1 then (((mapFind s.route.aesStage (aesKey dir index)).or (mapFind s.route.aes (aesKey dir index))).map (·.rate))
  else ((mapFind (if dir = 0 then s.net.rx else s.net.tx) index).map (·.rate))

/-- DEDUCED, log 109. -/
def portSrcCfgBody (rq : Request) (s : State) : Reply :=
  let p := rq.payload
  let kind := byteAt p 0
  let index := byteAt p 1
  let dir := byteAt p 2
  let limit := if kind = 0 then s.member.tdmPorts else if kind = 1 then 2 else if dir = 0 then 128 else 64
  match firstBad [(0, decide (kind ≤ 2)), (1, decide (index < limit)), (2, decide (dir ≤ 1)), (3, decide (byteAt p 3 ≤ 1)),
      (4, decide (byteAt p 4 ≤ 1))] with
  | some f => badArg f s
  | none =>
    let i := if kind = 2 then (if dir = 0 then 64 else 192) + index else convOf kind dir index
    let c : SrcCfg := { enable := byteAt p 3 == 1, set := byteAt p 4 }
    let delay := if !c.enable then 0 else match srcRate s kind dir index with
      | some r => srcDelay c.set r s.time.rate
      | none => (Config.unstated 360 i % 2 ^ 32).toNat
    replyOk (bytesLE 4 delay) { s with route.srcStage := mapSet s.route.srcStage i c }

/-- `port.src.cfg`. -/
def portSrcCfgOp : NcpOp :=
  { opcode := 0x0604, layout := fun _ => [1, 1, 1, 1, 1], staged := always, key := keyBytes 3, body := portSrcCfgBody }

def execPortSrcCfg (rq : Request) (s : State) : Host.Outcome State Fault Refusal := .next (serve portSrcCfgOp rq s)

def portStatusBody (rq : Request) (s : State) : Reply :=
  let p := rq.payload
  let kind := byteAt p 0
  let index := byteAt p 1
  let dir := byteAt p 2
  let limit := if kind = 0 then s.member.tdmPorts else if kind = 1 then 2 else 1
  match firstBad [(0, decide (kind ≤ 2)), (1, decide (index < limit)), (2, decide (dir ≤ (if kind = 2 then 0 else 1)))] with
  | some f => badArg f s
  | none =>
    replyOk (bytesLE 4 (portMeasured s kind dir index) ++ bytesLE 1 (portSt s kind dir index) ++ bytesLE 3 0
      ++ bytesLE 4 (if kind = 1 ∧ dir = 1 then 0 else counter s (lossCounter kind dir index))) s

/-- `port.status`. -/
def portStatusOp : NcpOp :=
  { opcode := 0x0605, layout := fun _ => [1, 1, 1], staged := never, key := noKey, body := portStatusBody }

def execPortStatus (rq : Request) (s : State) : Host.Outcome State Fault Refusal := .next (serve portStatusOp rq s)

end Sys2Proof.Machine
end

