-- ==== Sys2Proof/Machine/Net.lean ====
section
/-! DEFINITION. Network ports and the embedded switch (R368 to R396): links, receive checks, learning, filtering, forwarding, transmission, PAUSE and PFC, the receive DMA, and the `net` messages (R158). -/

namespace Sys2Proof.Machine

/-! ### Ports -/

def getNet (s : State) (p : Nat) : NetPort := mapGet netPort0 s.net.ports p
def setNet (p : Nat) (x : NetPort) (s : State) : State := { s with net.ports := mapSet s.net.ports p x }

/-- Address of a port register and of SW_CFG on the active Shore (R396). -/
def netReg (s : State) (p off : Nat) : Nat := dieAddr (activeShore s) (0x340000 + p * 0x100 + off)
def swCfg (s : State) : Nat := regOr s 300 (dieAddr (activeShore s) 0x350000) % 65536
def defPri (s : State) (p : Nat) : Nat := regOr s 0 (netReg s p 0x14) % 8

/-- The address of a port: imaged, or derived from the serial number and the die (R372). -/
def portMac (s : State) (p : Nat) : Nat :=
  let h := regOr s 0 (netReg s p 0x08)
  if h.testBit 16 then h % 65536 * 2 ^ 32 + regOr s 0 (netReg s p 0x04)
  else 0x06 * 2 ^ 40 + fieldBE (bytesLE 16 (fuseField s 1024 128)) 12 4 * 256 + (activeShore s * 4 + p)

def ownMacs (s : State) : List Nat := (List.range 4).map (portMac s)

/-- Line rate of a mode, in order (R368). -/
def lineRate (mode : Nat) : Nat := mode

/-- Pause is resolved on: in 1000BASE-X by the partner's symmetric ability and what the port advertises; elsewhere always (R369). -/
def pauseResolved (x : NetPort) : Bool :=
  if x.mode = 1 then (x.flags.testBit 0 || x.flags.testBit 1) && (x.partner == 1 || x.partner == 3) else true
def obeysPause (x : NetPort) : Bool := x.flags.testBit 0 && !x.flags.testBit 2 && pauseResolved x
def sendsPause (x : NetPort) : Bool := x.flags.testBit 1 && !x.flags.testBit 2 && pauseResolved x
def usesPfc (x : NetPort) : Bool := x.flags.testBit 2

/-! ### Counters (R394, R395) -/

/-- A counter as it is read. -/
def netCounter (s : State) (p n : Nat) : Nat := counter s (netId p n)

/-! ### Partitions (R378, R386 to R388) -/

/-- Frames that hold room in a port's partition, each once. -/
def heldFrames (s : State) (i : Nat) : List QFrame :=
  let all := (getNet s i).hostQ ++ (List.range 4).flatMap fun j => (getNet s j).txQ.filter fun f => !f.host && f.inPort == i
  all.foldl (fun acc f => if acc.any fun g => g.id == f.id then acc else acc ++ [f]) []
def fillOf (s : State) (i : Nat) : Nat := ((heldFrames s i).map fun f => frameLength f.bytes).sum
def xoffAt (x : NetPort) : Nat := x.partition * 1024 - 2 * x.maxFrame - 1536
def xonAt (x : NetPort) : Nat := xoffAt x - x.maxFrame

/-- A PAUSE or PFC frame of a time sent by a port that sends them (R387, R388). DEDUCED, log 73. -/
def sendPause (i time : Nat) (s : State) : State :=
  let x := getNet s i
  if usesPfc x then netCount i 23 (emit (.pfc i x.pfcMask time) s)
  else if sendsPause x then netCount i 22 (emit (.pause i time) s)
  else s

/-- A port's fill checked against its thresholds. DEDUCED, log 73. -/
def checkFill (i : Nat) (s : State) : State :=
  let x := getNet s i
  let fill := fillOf s i
  let s := setCounter (netId i 29) (max (counter s (netId i 29)) fill) s
  if !(x.flags.testBit 1 || x.flags.testBit 2) then s
  else if !x.xoff && decide (xoffAt x < fill) then sendPause i 0xFFFF (netCount i 28 (setNet i { x with xoff := true } s))
  else if x.xoff && decide (fill ≤ xonAt x) then sendPause i 0 (setNet i { x with xoff := false } s)
  else s

def checkFills (s : State) : State := (List.range 4).foldl (fun s i => checkFill i s) s

/-- PAUSE_REFRESH: sent again for as long as the fill stays above XON. -/
def execPauseRefresh (port : Nat) (s : State) : Host.Outcome State Fault Refusal :=
  .next (if port < 4 ∧ (getNet s port).xoff then sendPause port 0xFFFF s else s)

/-! ### Links (R370, R371) -/

/-- `net.link`. -/
def netLink (p up : Nat) (s : State) : State :=
  event 12 (activeShore s) 0x0780 0xFFFF (bytesLE 1 p ++ bytesLE 1 up ++ bytesLE 1 (getNet s p).mode) s

/-- A link falls: the partition and the frames queued on the port are discarded and counted. -/
def dropLink (p : Nat) (s : State) : State :=
  let x := getNet s p
  if !x.link then s
  else
    let lost := heldFrames s p ++ x.txQ.filter fun f => f.host || f.inPort != p
    let s := { s with net.ports := s.net.ports.map fun e => (e.1, { e.2 with txQ := e.2.txQ.filter fun f => f.host || f.inPort != p }) }
    let x := { getNet s p with
      link := false, linkDowns := x.linkDowns + 1, hostQ := [], txQ := [], xoff := false, pauseEnd := none, pfcEnd := [], partner := 0xFF }
    checkFills (netLink p 0 (netCountBy p 34 lost.length (netCount p 33 (setNet p x s))))

/-- Membership reports of every receive stream with a group address on a port (R422). DEDUCED, log 74. -/
def joinAll (p : Nat) (s : State) : State :=
  (s.net.rx.filter fun e => e.2.kind != 1 && ipIsGroup e.2.ipv e.2.addr.toNat).foldl (fun s e => emit (.join p e.1) s) s

/-- LINK_UP: the partner's pause ability counts where it is negotiated (R369, R370). -/
def execLinkUp (port partner : Nat) (s : State) : Host.Outcome State Fault Refusal :=
  .next (
    let x := getNet s port
    if !shoreUp s ∨ 4 ≤ port ∨ x.mode = 0 ∨ x.link ∨ pinsDriven s then s
    else joinAll port (netLink port 1 (setNet port { x with link := true, partner := if x.mode = 1 then partner % 4 else 0xFF } s)))

/-- LINK_DOWN. -/
def execLinkDown (port : Nat) (s : State) : Host.Outcome State Fault Refusal :=
  .next (if port < 4 ∧ shoreUp s then dropLink port s else s)

/-! ### Transmission (R385, R391, R401, R402) -/

/-- A frame's class on a port that sends or receives it (R375). -/
def classOf (s : State) (p : Nat) (f : List Byte) : Nat :=
  (getNet s p).prioMap.getD ((framePcp f).getD (defPri s p)) 0

/-- The sum of the mode's default and the adjustment of a port for one direction, in 0.1 ns (R401). -/
def stampAdjust (s : State) (p : Nat) (tx : Bool) : Int :=
  let r := regOr s 0 (dieAddr (activeShore s) (0x360100 + p * 0x40))
  let d := match (getNet s p).mode with
    | 4 => (480, 720)
    | 3 => (960, 1440)
    | 2 => (1600, 2400)
    | 1 => (3200, 4800)
    | _ => (0, 0)
  if tx then (d.1 : Int) + signed 16 (r % 65536) else (d.2 : Int) + signed 16 (r / 65536)

/-- The time-stamp of a frame that crosses a port's pins now: seconds, nanoseconds and the top 8 sub-nanosecond bits. -/
def frameStamp (s : State) (p : Nat) (tx : Bool) : Nat × Nat × Nat :=
  let c := s.time.ptp
  let adj := stampAdjust s p tx * 2 ^ 24 / 10
  let t : Int := ((c.sec * 1000000000 + c.ns) * 2 ^ 24 + c.sub : Nat) + (if tx then adj else -adj)
  let n := t.toNat
  (n / 2 ^ 24 / 1000000000, n / 2 ^ 24 % 1000000000, n / 2 ^ 16 % 256)

/-- The PTP counters of a port (R428). -/
def ptpCount (p k : Nat) (s : State) : State := count (0x4200 + 0x20 * p + k) s

/-- A transmit time-stamp taken: queued, or lost with its number (R402). Its sequence number is answered when it is queued. -/
def takeStamp (p : Nat) (s : State) : State × Option Nat :=
  let x := getNet s p
  let (sec, ns, frac) := frameStamp s p true
  let n := x.tsqNext
  let s := ptpCount p 12 s
  let x := { x with tsqNext := (n + 1) % 65536 }
  if x.tsq.length < 64 then (setNet p { x with tsq := x.tsq ++ [(n, sec, ns, frac)] } s, some n)
  else
    let s := ptpCount p 13 s
    if x.tsqOvf then (setNet p x s, none)
    else (event 4 (activeShore s) 0x0882 0xFFFF (bytesLE 1 p ++ bytesLE 1 0 ++ bytesLE 2 n) (setNet p { x with tsqOvf := true } s), none)

/-- A frame given out on a port, counted as transmitted. -/
def sendFrame (p cls : Nat) (f : List Byte) (s : State) : State :=
  let d := dstMac f
  let s := emit (.frame p cls f) s
  let s := netCount p (48 + cls % 8) (netCountBy p 18 (frameLength f) (netCount p 17 s))
  netCount p (if d = macBroadcast then 21 else if macGroup d then 20 else 19) s

/-- A PTP event message corrected as it leaves: the residence since its receive time-stamp in scaled nanoseconds, and with the transparent P2P role a Sync's ingress link delay (R407). DEDUCED, log 72. -/
def transitCorrect (out : Nat) (f : QFrame) (s : State) : List Byte × State :=
  if !isPtpEvent f.bytes then (f.bytes, s)
  else
    let (sec, ns, frac) := frameStamp s out true
    let t1 : Int := (sec * 1000000000 + ns : Nat) * 65536 + frac * 256
    let t0 : Int := (f.sec * 1000000000 + f.ns : Nat) * 65536 + f.frac * 256
    let p2p := s.time.ptp.clock == 2 && s.time.ptp.p2p && ptpType f.bytes == some 0
    let link : Int := if p2p then (regOr s 0 (dieAddr (activeShore s) (0x360104 + f.inPort * 0x40)) * 4096 : Nat) else 0
    (correctPtp (t1 - t0 + link) f.bytes, ptpCount out 14 s)

/-- The message counter of a PTP kind sent: 0 Sync, 1 Delay_Req, 2 Pdelay_Req, 3 Announce, 4 Follow_Up. -/
def ptpSentCounter (kind : Nat) : Nat := match kind with
  | 0 => 1
  | 1 => 5
  | 2 => 7
  | 3 => 9
  | _ => 3

/-- A PTP message of the Shore leaves: an event message is time-stamped; a two-step Sync brings its Follow_Up, and a lost time-stamp abandons it (R402, R405). -/
def sendPtp (p kind seq : Nat) (s : State) : State :=
  let s := ptpCount p (ptpSentCounter kind) (netCount p 55 (netCount p 17 (emit (.ptp p kind seq) s)))
  if 3 ≤ kind then s
  else
    let (sec, ns, _) := frameStamp s p true
    let (s, got) := takeStamp p s
    let s := if got.isSome then
        { s with time.ptp.sent := mapSet s.time.ptp.sent (kind * 4 + p) (seq, ((sec * 1000000000 + ns : Nat) : Int)) }
      else s
    match got with
    | some _ => if kind = 0 ∧ s.time.ptp.twoStep then ptpCount p 3 (emit (.ptp p 4 seq) s) else s
    | none => if kind = 0 ∧ !s.time.ptp.twoStep then s else ptpCount p 11 s

/-- The next frame of a port: the highest class not paused; forwarded and host frames in turn within it. -/
def nextFrame (x : NetPort) : Option QFrame :=
  if x.pauseEnd.isSome then none
  else
    let open_ := x.txQ.filter fun f => !mapHas x.pfcEnd f.cls
    let top := (open_.map (·.cls)).foldl max 0
    let mine := open_.filter fun f => f.cls == top
    match mine.find? (fun f => f.host == x.hostNext.contains top) with
    | some f => some f
    | none => mine.head?

/-- HOST_FRAME_TX: a frame leaves an external port, and its place in its partition is free. -/
def execHostFrameTx (port : Nat) (s : State) : Host.Outcome State Fault Refusal :=
  .next (
    let x := getNet s port
    if 4 ≤ port ∨ !shoreUp s ∨ !x.link then s
    else match nextFrame x with
      | none => s
      | some f =>
        let turn := x.hostNext.filter (· != f.cls) ++ (if f.host then [] else [f.cls])
        let s := setNet port { x with txQ := x.txQ.erase f, hostNext := turn } s
        match f.ptp with
        | some (kind, seq) => sendPtp port kind seq s
        | none =>
          let (bytes, s) := if f.host then (f.bytes, s) else transitCorrect port f s
          let s := sendFrame port f.cls bytes (if f.host then s else netCount port 26 s)
          checkFills (if f.stamp then (takeStamp port s).1 else s))

/-- A frame put in the host transmit buffer for a port: 256 KiB in all (R378); one that finds no room is not queued. -/
def queueHost (p : Nat) (ptp : Option (Nat × Nat)) (cls : Nat) (bytes : List Byte) (s : State) : State × Bool :=
  let used := ((List.range 4).flatMap fun j => ((getNet s j).txQ.filter (·.host)).map fun f => frameLength f.bytes).sum
  let x := getNet s p
  if !x.link ∨ 262144 < used + frameLength bytes then (s, false)
  else
    let f : QFrame := { id := s.net.nextId, bytes := bytes, cls := cls, at_ := s.now, host := true, stamp := false, ptp := ptp
                        sec := 0, ns := 0, frac := 0, inPort := 4 }
    (setNet p { x with txQ := x.txQ ++ [f] } { s with net.nextId := s.net.nextId + 1 }, true)

/-- HOST_TX_STALE. -/
def execHostTxStale (port id : Nat) (s : State) : Host.Outcome State Fault Refusal :=
  .next (
    let x := getNet s port
    match x.txQ.find? fun f => f.host && f.id == id with
    | none => s
    | some f => if port < 4 then netCount port 35 (setNet port { x with txQ := x.txQ.erase f } s) else s)

/-! ### PAUSE and PFC received (R390 to R392) -/

/-- A PAUSE frame of a time in quanta. DEDUCED, log 73. -/
def pauseRx (port time : Nat) (s : State) : State :=
  let x := getNet s port
  let s := netCount port 11 s
  if usesPfc x then netCount port 13 s
  else if !obeysPause x then s
  else netCountBy port 24 time (setNet port { x with pauseEnd := if time = 0 then none else some time } s)

/-- PAUSE_FRAME_RX. -/
def execPauseFrameRx (port time : Nat) (s : State) : Host.Outcome State Fault Refusal :=
  .next (if 4 ≤ port ∨ !shoreUp s ∨ !(getNet s port).link then s else pauseRx port (time % 65536) s)

/-- A PFC frame: its class-enable vector and the time of each class. DEDUCED, log 73. -/
def pfcRx (port classes : Nat) (times : List Nat) (s : State) : State :=
  let s := netCount port 12 s
  if !usesPfc (getNet s port) then netCount port 13 s
  else (List.range 8).foldl (fun s c =>
    let x := getNet s port
    if classes.testBit c && x.pfcMask.testBit c then
      let t := times.getD c 0 % 65536
      netCountBy port (56 + c) t (setNet port { x with pfcEnd := if t = 0 then mapErase x.pfcEnd c else mapSet x.pfcEnd c t } s)
    else s) s

/-- PFC_FRAME_RX. -/
def execPfcFrameRx (port classes : Nat) (times : List Nat) (s : State) : Host.Outcome State Fault Refusal :=
  .next (if 4 ≤ port ∨ !shoreUp s ∨ !(getNet s port).link then s else pfcRx port classes times s)

/-- PAUSE_TIMER_EXPIRY, of PAUSE or of a class. -/
def execPauseTimerExpiry (port : Nat) (cls : Option Nat) (s : State) : Host.Outcome State Fault Refusal :=
  .next (
    let x := getNet s port
    if 4 ≤ port then s
    else match cls with
      | none => setNet port { x with pauseEnd := none } s
      | some c => setNet port { x with pfcEnd := mapErase x.pfcEnd c } s)

/-! ### The switch (R373 to R386) -/

/-- The source address learned against a port. DEDUCED, log 74. -/
def learn (port : Nat) (mac : Nat) (s : State) : State :=
  if (ownMacs s).contains mac then s
  else match mapFind s.net.macs mac with
    | some e =>
      let s := if e.port = port then s else netCount port 32 s
      { s with net.macs := mapSet s.net.macs mac { port := port, seen := s.now } }
    | none =>
      if s.net.macs.length + 4 < 2048 then { s with net.macs := mapSet s.net.macs mac { port := port, seen := s.now } }
      else netCount port 30 s

/-- ADDRESS_AGE_OUT. DEDUCED, log 74. -/
def execAddressAgeOut (mac : BitVec 48) (s : State) : Host.Outcome State Fault Refusal :=
  .next (
    match mapFind s.net.macs mac.toNat with
    | some e => if swCfg s = 0 then s else netCount e.port 31 { s with net.macs := mapErase s.net.macs mac.toNat }
    | none => s)

/-- Group addresses of the PTP instance (IEEE 1588). -/
def ptpGroups (s : State) : List Nat :=
  let p := s.time.ptp
  if p.mask = 0 then []
  else if p.profile = 1 ∨ p.profile = 2 then
    if s.msg.ncp.mgmt.ipv = 6 then [0x333300000181, 0x33330000006B] else [0x01005E000181, 0x01005E00006B]
  else [0x011B19000000, 0x0180C200000E]

/-- Group addresses of the streams and the PTP instance, which Nerris sets in the hash (R380). -/
def configuredGroups (s : State) : List Nat :=
  ptpGroups s ++ (s.net.rx ++ s.net.tx).filterMap fun e =>
    if e.2.kind = 1 then some (e.2.addr.toNat / 2 ^ 80)
    else if ipIsGroup e.2.ipv e.2.addr.toNat then some (groupMac e.2.ipv e.2.addr.toNat)
    else none

/-- Whether a group-addressed frame passes the filter of a port (R379, R380). -/
def passesFilter (s : State) (port : Nat) (f : List Byte) : Bool :=
  let x := getNet s port
  if s.member = .evr8 then
    let h := macHash (dstMac f)
    (byteAt x.hash (h / 8)).testBit (h % 8) || (configuredGroups s).any fun a => macHash a == h
  else x.patterns.isEmpty || x.patterns.any fun e => matchesPattern f e.2

/-- Whether a frame is one that wakes the part (R561). -/
def wakesPart (s : State) (port : Nat) (f : List Byte) : Bool :=
  if s.member = .evr8 then dstMac f == portMac s port else (getNet s port).patterns.any fun e => matchesPattern f e.2

/-- Where a good frame goes: to the host port, to which external ports, and the counter of a discard (R373, R407). -/
def destinations (s : State) (port : Nat) (f : List Byte) : Bool × List Nat × Option Nat :=
  let others := (List.range 4).filter fun j => j != port && (getNet s j).link
  let d := dstMac f
  let typ := etherType f
  let ptp := s.time.ptp
  let proto := !isTagged f && (typ == 0x88A8 || typ == 0x9100)
  let unicast : List Nat × Option Nat := match mapFind s.net.macs d with
    | some e => if e.port = port then ([], some 39) else (others.filter (· == e.port), none)
    | none => (others, none)
  if isReserved f then (if typ = 0x88F7 then (true, [], none) else (false, [], some 9))
  else if (ptp.clock = 1 ∧ ptp.mask.testBit port ∧ ptpDomain f = some ptp.domain)
      ∨ (udpAt f).isSome && (ipDest f == 0xE000006B * 2 ^ 96 || ipDest f == 0xFF02 * 2 ^ 112 + 0x6B) && (ptpAt f).isSome then
    (true, [], none)
  else if typ = 0x22EA ∨ typ = 0x88F5 ∨ typ = 0x88F6 then
    (false, if (ownMacs s).contains d then [] else if d = macBroadcast ∨ macGroup d then others else unicast.1, some 10)
  else if (ownMacs s).contains d then (if proto then (false, [], some 10) else (true, [], none))
  else if d = macBroadcast then (!proto, others, if proto then some 10 else none)
  else if macGroup d then
    if !passesFilter s port f then (false, others, some 38)
    else (!proto, others, if proto then some 10 else none)
  else (false, unicast.1, unicast.2)

/-- The Delay messages that the transparent P2P role does not forward (R407). -/
def delayDiscarded (s : State) (f : List Byte) : Bool :=
  s.time.ptp.clock == 2 && s.time.ptp.p2p && (ptpType f == some 1 || ptpType f == some 9)

/-- Whether a frame for port `j` is cut through (R382). DEDUCED, log 72. -/
def cutsThrough (s : State) (i j cls : Nat) : Bool :=
  let x := getNet s i
  let y := getNet s j
  x.flags.testBit 3 && y.flags.testBit 3 && decide (lineRate y.mode ≤ lineRate x.mode)
    && !(y.txQ.any fun f => decide (cls ≤ f.cls)) && y.pauseEnd.isNone && !mapHas y.pfcEnd cls

/-- A good frame sent on towards one external port: cut through at once, or queued. DEDUCED, log 72. -/
def forwardTo (cls : Nat) (q : QFrame) (s : State) (j : Nat) : State :=
  if cutsThrough s q.inPort j cls then
    let (bytes, s) := transitCorrect j q s
    netCount j 25 (sendFrame j cls bytes s)
  else
    let y := getNet s j
    setNet j { y with txQ := y.txQ ++ [q] } s

/-- The counter of the check that a frame fails (R377). -/
def frameFault (x : NetPort) (f : Frame) : Option Nat :=
  let n := frameLength f.bytes
  if !f.codingOk then some 8 else if n < 64 then some 6 else if x.maxFrame < n then some 7 else if !f.fcsOk then some 5 else none

/-- A MAC control frame consumed by its port (R390). -/
def macControl (port : Nat) (f : List Byte) (s : State) : State :=
  let at_ := typeAt f + 2
  match fieldBE f at_ 2 with
  | 0x0001 => pauseRx port (fieldBE f (at_ + 2) 2) s
  | 0x0101 => pfcRx port (fieldBE f (at_ + 2) 2) ((List.range 8).map fun c => fieldBE f (at_ + 4 + 2 * c) 2) s
  | _ => netCount port 13 s

/-- A good frame learned, classified, filtered and stored or sent on. -/
def switchFrame (port : Nat) (f : List Byte) (s : State) : State :=
  let s := learn port (srcMac f) s
  let cls := classOf s port f
  let (host, outs, discard) := destinations s port f
  let s := match discard with
    | some n => netCount port n s
    | none => s
  let (outs, s) := if delayDiscarded s f && !outs.isEmpty then ([], ptpCount port 15 s) else (outs, s)
  let (sec, ns, frac) := frameStamp s port false
  let q : QFrame := { id := s.net.nextId, bytes := f, cls := cls, at_ := s.now, host := false, stamp := false, ptp := none
                      sec := sec, ns := ns, frac := frac, inPort := port }
  let x := getNet s port
  if !host ∧ outs = [] then s
  else if x.partition * 1024 < fillOf s port + frameLength f then netCount port (40 + cls % 8) s
  else
    let s := { s with net.nextId := s.net.nextId + 1 }
    let s := if outs = [] then s else outs.foldl (forwardTo cls q) (netCount port 16 s)
    let s := if host then netCount port 15 (setNet port { getNet s port with hostQ := (getNet s port).hostQ ++ [q] } s) else s
    checkFill port s

/-- A frame that fails a check after its forwarding decision is ended on the ports that cut it through (R383). -/
def stomp (port : Nat) (f : List Byte) (s : State) : State :=
  if f.length < 16 then s
  else
    let cls := classOf s port f
    ((destinations s port f).2.1.filter fun j => cutsThrough s port j cls).foldl (fun s j =>
      netCount j 27 (emit (.stomped j (f.take ((getNet s port).maxFrame + 1))) s)) s

/-- NET_FRAME_RX. DEDUCED, log 72. -/
def execNetFrameRx (port : Nat) (f : Frame) (s : State) : Host.Outcome State Fault Refusal :=
  .next (
    let x := getNet s port
    if 4 ≤ port ∨ !shoreUp s ∨ !x.link then s
    else match frameFault x f with
      | some n => stomp port f.bytes (netCount port n s)
      | none =>
        let s := if wakesPart s port f.bytes then wakeBy 2 s else s
        if s.sys.ao.power = .sleep then s
        else
          let d := dstMac f.bytes
          let s := netCountBy port 1 (frameLength f.bytes) (netCount port 0 s)
          let s := netCount port (if d = macBroadcast then 4 else if macGroup d then 3 else 2) s
          let s := if isTagged f.bytes then netCount port 14 s else s
          if isMacControl f.bytes then macControl port f.bytes s else switchFrame port f.bytes s)

/-! ### The host port and the receive DMA (R389, R414, R488, R492) -/

/-- The VLAN that classification uses: the tag's, or the port's for untagged and priority-tagged frames. -/
def frameVlan (s : State) (port : Nat) (f : List Byte) : Nat := if frameVid f = 0 then (getNet s port).pvid else frameVid f

/-- A management address frame that Nerris serves itself: ARP, neighbour discovery and ICMP echo to the management address, IGMP and MLD queries. -/
def forNerris (s : State) (f : List Byte) : Bool :=
  let ip := typeAt f + 2
  let mine := s.msg.ncp.mgmt.port.isSome && ipDest f == s.msg.ncp.mgmt.addr.toNat
  if etherType f = 0x0806 then true
  else if etherType f = 0x0800 then (byteAt f (ip + 9) == 1 && mine) || (byteAt f (ip + 9) == 2 && byteAt f (ip + byteAt f ip % 16 * 4) == 0x11)
  else if etherType f = 0x86DD then
    (byteAt f (ip + 6) == 58 && (byteAt f (ip + 40) == 135 || byteAt f (ip + 40) == 136 || (byteAt f (ip + 40) == 128 && mine)
      || byteAt f (ip + 40) == 130)) || (byteAt f (ip + 6) == 0 && byteAt f (ip + 48) == 130)
  else false

/-- The flow of a frame at the host port by the rules of R414, none for a frame to discard. -/
def classifyFrame (s : State) (port : Nat) (f : List Byte) : Option Nat :=
  let vlan := frameVlan s port f
  let inVlan := fun (x : Stream) => x.vlan == 0xFFFF || x.vlan == vlan
  if (ptpAt f).isSome then some 2789
  else if s.msg.ncp.mgmt.port = some port ∧ udpDest f = some s.msg.ncp.mgmt.udpPort ∧ ipDest f = s.msg.ncp.mgmt.addr.toNat then
    match udpAt f with
    | some u =>
      match sessionOf s (BitVec.ofNat 128 (ipSource f)) (fieldBE f u 2) with
      | some k => some (2785 + k)
      | none => some 2790
    | none => some 2790
  else if forNerris s f then some 2790
  else
    let hit := s.net.rx.find? fun e =>
      if e.2.kind = 1 then
        etherType f == 0x22F0 && byteAt f (typeAt f + 2) == 0x02 && dstMac f == e.2.addr.toNat / 2 ^ 80
          && fieldBE f (typeAt f + 6) 8 == e.2.streamId.toNat && inVlan e.2
      else
        udpDest f == some e.2.udpPort && ipDest f == e.2.addr.toNat && inVlan e.2
          && (e.2.source == 0 || ipSource f == e.2.source.toNat)
    hit.map fun e => 2048 + e.1

/-- The highest class that waits at a port's host queue. -/
def hostClass (s : State) (p : Nat) : Option Nat :=
  match (getNet s p).hostQ with
  | [] => none
  | q => some ((q.map (·.cls)).foldl max 0)

/-- The first of `n` consecutive free receive slots (R492). -/
def freeSlots (s : State) (n : Nat) : Option Nat :=
  let ends := 0 :: s.msg.weir.buffers.map fun b => b.2.1 + b.2.2
  let fits := ends.filter fun e => decide (e + n ≤ 8192) && !(s.msg.weir.buffers.any fun b => decide (e < b.2.1 + b.2.2) && decide (b.2.1 < e + n))
  match fits with
  | [] => none
  | e :: es => some (es.foldl min e)

/-- Internal address of a receive slot, in Nerris's own part of DRAM (DESIGN CHOICE). DESIGN CHOICE, log 20. -/
def slotAddr (s : State) (n : Nat) : Nat := dramAddr s (0x200_0000 + n * 2048)

/-- RX_DMA_COMPLETE: the oldest frame of the port's highest waiting class goes to DRAM and its descriptor to the Weir queue of its class; the DMA waits when the queue or the slots are full. Nothing else discards a frame. -/
def execRxDmaComplete (port : Nat) (s : State) : Host.Outcome State Fault Refusal :=
  .next (
    if 4 ≤ port ∨ !nerrisUp s then s
    else match hostClass s port with
      | none => s
      | some c =>
        if (List.range 4).any fun p => match hostClass s p with
            | some d => decide (c < d)
            | none => false
        then s
        else match (getNet s port).hostQ.find? fun f => f.cls == c with
          | none => s
          | some f =>
            let taken := setNet port { getNet s port with hostQ := (getNet s port).hostQ.erase f } s
            match classifyFrame s port f.bytes with
            | none => checkFill port (count (if macGroup (dstMac f.bytes) then 0x4291 else 0x4290) taken)
            | some flow =>
              let n := (f.bytes.length + 2047) / 2048
              match freeSlots s n with
              | none => s
              | some slot =>
                let (t, ok) := weirOffer c flow 0 (frameLength f.bytes) port (slotAddr s slot) taken
                if !ok then (weirOffer c flow 0 (frameLength f.bytes) port (slotAddr s slot) s).1
                else
                  let q := getQueue t c
                  let last := q.items.length - 1
                  let index := (q.items.getLast?.map (·.index)).getD 0
                  let mark := fun (it : WeirItem) => { it with
                    flags := 1 + flagAt (isTagged f.bytes) 1 + flagAt (macGroup (dstMac f.bytes)) 2, sec := f.sec % 2 ^ 48, ns := f.ns, frac := f.frac }
                  let t := setQueue c { q with items := nthMod q.items last mark } t
                  let t := { t with msg.weir.buffers := mapSet t.msg.weir.buffers index (slot, n) }
                  checkFill port (writeBytes (slotAddr s slot) f.bytes t))

/-- FRAME_ERROR_REPORT: one `diag.counter` of class 13 for each frame-error counter that has risen since the last report (R395). -/
def execFrameErrorReport (port : Nat) (s : State) : Host.Outcome State Fault Refusal :=
  .next (
    let x := getNet s port
    let ids := [5, 6, 7, 8] ++ (List.range 8).map (· + 40)
    let risen := ids.filter fun n => decide (mapGet (fun _ => 0) x.lastErr n < counter s (netId port n))
    if 4 ≤ port ∨ !nerrisUp s ∨ risen = [] then s
    else match oncePerSecond (0x60000 + port) s with
      | none => s
      | some s =>
        let s := risen.foldl (fun s n => counterEvent 13 (netId port n) s) s
        setNet port { getNet s port with lastErr := ids.map fun n => (n, counter s (netId port n)) } s)

/-! ### `net` messages (R158) -/

/-- P and F that a request gets (R378). -/
def portSizes (s : State) (port partition maxFrame flags : Nat) : Nat × Nat :=
  let taken := (((List.range 4).filter (· ≠ port)).map fun p => if (getNet s p).mode = 0 then 0 else (getNet s p).partition).sum
  let p := min partition (1792 - taken)
  let f := min maxFrame (p * 1024 - 256)
  (p, if flags.testBit 1 || flags.testBit 2 then min f ((p * 1024 - 1536) / 3) else f)

def netPortCfgBody (rq : Request) (s : State) : Reply :=
  let p := rq.payload
  let port := byteAt p 0
  let mode := byteAt p 1
  let maxF := fieldLE p 2 2
  let part := fieldLE p 4 2
  let flags := byteAt p 6
  match firstBad [(0, decide (port < 4)), (1, decide (mode ≤ 4)), (2, decide (64 ≤ maxF) && decide (maxF ≤ 9216)),
      (4, decide (4 ≤ part) && decide (part ≤ 1024))] with
  | some f => badArg f s
  | none =>
    let (pUsed, fUsed) := portSizes s port part maxF flags
    let x := getNet s port
    let s := if mode ≠ x.mode ∨ pUsed ≠ x.partition then dropLink port s else s
    let x := getNet s port
    let y := { x with mode := mode, maxFrame := fUsed, partition := pUsed, flags := flags % 16, pfcMask := byteAt p 7 }
    let y := if obeysPause y then y else { y with pauseEnd := none }
    let y := if usesPfc y then y else { y with pfcEnd := [] }
    let limited := if fUsed < maxF then some 2 else if pUsed < part then some 4 else none
    replyUsed limited (bytesLE 2 fUsed ++ bytesLE 2 pUsed) [] (checkFill port (setNet port y s))

/-- `net.port.cfg`. -/
def netPortCfgOp : NcpOp :=
  { opcode := 0x0700, layout := fun _ => [1, 1, 2, 2, 1, 1], staged := never, key := keyBytes 1, body := netPortCfgBody }

def execNetPortCfg (rq : Request) (s : State) : Host.Outcome State Fault Refusal := .next (serve netPortCfgOp rq s)

def netPortStatusBody (rq : Request) (s : State) : Reply :=
  let port := byteAt rq.payload 0
  let x := getNet s port
  if 4 ≤ port then badArg 0 s
  else replyOk (bytesLE 1 (flag x.link) ++ bytesLE 1 x.mode ++ bytesLE 1 (if x.mode = 1 then x.partner else 0xFF) ++ bytesLE 1 0
    ++ bytesLE 4 x.linkDowns) s

/-- `net.port.status`. -/
def netPortStatusOp : NcpOp := { opcode := 0x0701, layout := fun _ => [1], staged := never, key := noKey, body := netPortStatusBody }

def execNetPortStatus (rq : Request) (s : State) : Host.Outcome State Fault Refusal := .next (serve netPortStatusOp rq s)

def netFilterSetBody (rq : Request) (s : State) : Reply :=
  let p := rq.payload
  let port := byteAt p 0
  let kind := byteAt p 1
  let n := byteAt p 2
  let own := if s.member = .evr8 then 1 else 0
  match firstBad [(0, decide (port < 4)), (1, kind == own), (2, kind == 1 || decide (n ≤ 15)),
      (8, decide (8 + (if kind = 1 then 64 else 128) ≤ p.length))] with
  | some f => badArg f s
  | none =>
    let x := getNet s port
    if kind = 1 then replyOk [] (setNet port { x with hash := slice p 8 64 } s)
    else
      let mask := slice p 8 128
      replyOk [] (setNet port { x with
        patterns := if mask.all (· == 0) then mapErase x.patterns n else mapSet x.patterns n (mask, BitVec.ofNat 32 (fieldLE p 4 4)) } s)

/-- `net.filter.set`. -/
def netFilterSetOp : NcpOp :=
  { opcode := 0x0702, layout := fun _ => [1, 1, 1, 1, 4], staged := never, key := keyBytes 3, body := netFilterSetBody }

def execNetFilterSet (rq : Request) (s : State) : Host.Outcome State Fault Refusal := .next (serve netFilterSetOp rq s)

def netVlanCfgBody (rq : Request) (s : State) : Reply :=
  let p := rq.payload
  let port := byteAt p 0
  let vid := fieldLE p 2 2
  let map := (List.range 8).map fun i => byteAt p (4 + i)
  match firstBad ([(0, decide (port < 4)), (2, decide (vid ≤ 4095))] ++ map.zipIdx.map fun e => (4 + e.2, decide (e.1 ≤ 7))) with
  | some f => badArg f s
  | none => replyOk [] (setNet port { getNet s port with pvid := vid, prioMap := map } s)

/-- `net.vlan.cfg`. -/
def netVlanCfgOp : NcpOp :=
  { opcode := 0x0703, layout := fun _ => [1, 1, 2, 1, 1, 1, 1, 1, 1, 1, 1], staged := never, key := keyBytes 1, body := netVlanCfgBody }

def execNetVlanCfg (rq : Request) (s : State) : Host.Outcome State Fault Refusal := .next (serve netVlanCfgOp rq s)

/-- The settings that `net.mgmt.cfg` carries. -/
def mgmtOf (p : List Byte) : Mgmt :=
  { port := if byteAt p 0 = 0xFF then none else some (byteAt p 0), ipv := byteAt p 1, udpPort := fieldLE p 2 2
    addr := BitVec.ofNat 128 (fieldBE p 4 16), prefixLen := byteAt p 20, gateway := BitVec.ofNat 128 (fieldBE p 24 16) }

/-- New management settings in force: every UDP session ends. DEDUCED, log 74. -/
def applyMgmt (m : Mgmt) (s : State) : State :=
  s.msg.ncp.sessions.foldl (fun s e => endSession e.1 s) { s with msg.ncp.mgmt := m }

/-- `net.mgmt.cfg`: a record of the image applies at once; a request's settings apply after its response. -/
def netMgmtCfgBody (rq : Request) (s : State) : Reply :=
  let p := rq.payload
  let off := byteAt p 0 == 0xFF
  match firstBad [(0, off || decide (byteAt p 0 < 4)), (1, off || byteAt p 1 == 4 || byteAt p 1 == 6),
      (20, off || decide (byteAt p 20 ≤ (if byteAt p 1 = 4 then 32 else 128)))] with
  | some f => badArg f s
  | none => replyOk [] (if rq.sender = 0x8000 then applyMgmt (mgmtOf p) s else s)

def netMgmtCfgOp : NcpOp :=
  { opcode := 0x0704, layout := fun _ => [1, 1, 2, 16, 1, 3, 16], staged := never, key := keyBytes 0, body := netMgmtCfgBody }

/-- Every message waiting for a UDP session sent. -/
def flushSession (k : Nat) (s : State) : State :=
  let s := (getDest s (0x200000 + k)).queue.foldl (fun s m => sendDatagram k m s) s
  setDest (0x200000 + k) { getDest s (0x200000 + k) with queue := [] } s

/-- `net.mgmt.cfg`: the response leaves under the old settings, and then the new ones apply. -/
def execNetMgmtCfg (rq : Request) (s : State) : Host.Outcome State Fault Refusal :=
  .next (
    let done := nerrisUp s && (gate netMgmtCfgOp rq s).isNone && (netMgmtCfgBody rq s).code == codeOk
    let t := serve netMgmtCfgOp rq s
    if done then applyMgmt (mgmtOf rq.payload) (if rq.sender = 0x20 then flushSession rq.session t else t) else t)

def netCountersReadBody (rq : Request) (s : State) : Reply :=
  let port := byteAt rq.payload 0
  let first := byteAt rq.payload 1
  let n := byteAt rq.payload 2
  match firstBad [(0, decide (port < 4)), (2, decide (1 ≤ n) && decide (n ≤ 125) && decide (first + n ≤ 64))] with
  | some f => badArg f s
  | none => replyOk ((List.range n).flatMap fun i => bytesLE 8 (netCounter s port (first + i))) s

/-- `net.counters.read`. -/
def netCountersReadOp : NcpOp :=
  { opcode := 0x0705, layout := fun _ => [1, 1, 1], staged := never, key := noKey, body := netCountersReadBody }

def execNetCountersRead (rq : Request) (s : State) : Host.Outcome State Fault Refusal := .next (serve netCountersReadOp rq s)

end Sys2Proof.Machine
end

