-- ==== Sys2Proof/Machine/Clock.lean ====
section
/-! DEFINITION. The PTP instance and its servo (R397 to R407), the media-clock synthesiser (R408 to R413) and the `time` messages (R159). -/

namespace Sys2Proof.Machine

def setPtp (p : Ptp) (s : State) : State := { s with time.ptp := p }
/-- PTP time in ns. -/
def ptpNs (p : Ptp) : Nat := p.sec * 1000000000 + p.ns
/-- floor(T × Fs) for a rate in Hz. -/
def ptpSamples (p : Ptp) (hz : Nat) : Nat := ptpNs p * hz / 1000000000

/-! ### `time.ptp.cfg` and `time.adjust` -/

/-- Ports of a mask. -/
def maskCount (m : Nat) : Nat := ((List.range 4).filter fun i => m.testBit i).length

def timePtpCfgBody (rq : Request) (s : State) : Reply :=
  let p := rq.payload
  let profile := byteAt p 0
  let domain := byteAt p 1
  let clock := byteAt p 2
  let flags := byteAt p 3
  let mask := byteAt p 4
  let udp := profile == 1 || profile == 2
  match firstBad [(0, decide (profile ≤ 3)), (1, decide (domain ≤ (if profile = 0 then 255 else if profile = 3 then 0 else 127))),
      (2, decide (clock ≤ 2)), (3, profile != 3 || flags.testBit 1),
      (4, decide (mask < 16) && (mask == 0 || clock != 0 || maskCount mask == 1))] with
  | some f => badArg f s
  | none =>
    if udp && mask != 0 && s.msg.ncp.mgmt.port.isNone then refuse codeBadArg 2 0 s
    else
      let c := s.time.ptp
      let was := c.servo
      let q := { c with
        profile := profile, domain := domain, clock := clock, twoStep := flags.testBit 0, p2p := flags.testBit 1
        slaveOnly := flags.testBit 2, mask := mask, prio1 := byteAt p 5, prio2 := byteAt p 6
        servo := if mask = 0 then 3 else 0, gm := false, pstate := if mask = 0 then 3 else 1, gmId := 0, offset := 0
        okRun := 0, badRun := 0, seqs := [], sent := [], sync := none, syncDiff := 0, peer := [], pathDelay := 0, gmKey := [] }
      let s := setPtp q s
      replyOk [] (if was = 1 ∨ was = 2 then timeLock 0x10 0 s else s)

/-- `time.ptp.cfg` (R404, R405). -/
def timePtpCfgOp : NcpOp :=
  { opcode := 0x0800, layout := fun _ => [1, 1, 1, 1, 1, 1, 1], staged := never, key := keyBytes 0, body := timePtpCfgBody }

def execTimePtpCfg (rq : Request) (s : State) : Host.Outcome State Fault Refusal := .next (serve timePtpCfgOp rq s)

/-- The clock moved by a signed offset in ns, carrying between its fields (R400). -/
def ptpOffset (off : Int) (p : Ptp) : Ptp :=
  let t := ((ptpNs p : Int) + off).toNat
  { p with sec := t / 1000000000, ns := t % 1000000000 }

/-- Limits of the increment in 2⁻³² ns: 6.4 ns ± 0.1 %. -/
def incrMin : Nat := 27460302904
def incrMax : Nat := 27515278485

def timeAdjustBody (rq : Request) (s : State) : Reply :=
  let p := rq.payload
  let kind := byteAt p 0
  let c := s.time.ptp
  if !(c.mask == 0 || c.gm) then refuse codeDenied 1 noField s
  else match kind with
    | 0 =>
      let v := fieldLE p 8 8
      let used := clampNat incrMin incrMax v
      replyUsed (if used = v then none else some 8) [] (withField 8 8 used p) (setPtp { c with incr := used } s)
    | 1 =>
      let off := fieldS p 8 8
      if 1000000000 ≤ off.natAbs ∨ (ptpNs c : Int) + off < 0 then badArg 8 s
      else replyOk [] (setPtp (ptpOffset off c) s)
    | 2 =>
      let ns := fieldLE p 16 4
      if 1000000000 ≤ ns then badArg 16 s else replyOk [] (setPtp { c with sec := fieldLE p 8 8, ns := ns, sub := 0 } s)
    | _ => badArg 0 s

/-- `time.adjust` (R400). -/
def timeAdjustOp : NcpOp :=
  { opcode := 0x0801, layout := fun _ => [1, 7, 8, 4], staged := never, key := noKey, body := timeAdjustBody }

def execTimeAdjust (rq : Request) (s : State) : Host.Outcome State Fault Refusal := .next (serve timeAdjustOp rq s)

def timeStatusBody (_ : Request) (s : State) : Reply :=
  let c := s.time.ptp
  replyOk (bytesLE 8 c.sec ++ bytesLE 4 c.ns ++ bytesLE 1 c.pstate ++ bytesLE 3 0 ++ bytesS 8 c.offset
    ++ bytesBE 8 c.gmId.toNat ++ bytesLE 8 s.time.index) s

/-- `time.status`. -/
def timeStatusOp : NcpOp := { opcode := 0x0802, layout := fun _ => [], staged := never, key := noKey, body := timeStatusBody }

def execTimeStatus (rq : Request) (s : State) : Host.Outcome State Fault Refusal := .next (serve timeStatusOp rq s)

/-! ### PTP messages and servo (R406) -/

/-- A servo state taken and reported when it changes. DEDUCED, log 79. -/
def servoTo (st : Nat) (s : State) : State :=
  if s.time.ptp.servo = st then s else timeLock 0x10 st (setPtp { s.time.ptp with servo := st } s)

/-- The servo takes an offset from master in ns: a step above 100 µs, else a new increment; lock after 16 below 1 µs, unlock after 4 above 10 µs. DEDUCED, log 79. -/
def servoStep (off : Int) (s : State) : State :=
  let c := { s.time.ptp with offset := off }
  let s := if 100000 < off.natAbs then count 0x4284 (setPtp (ptpOffset (-off) c) s)
    else setPtp { c with incr := clampNat incrMin incrMax (Config.servoIncrement c.incr off) } s
  let c := s.time.ptp
  let c := { c with okRun := if off.natAbs < 1000 then c.okRun + 1 else 0, badRun := if 10000 < off.natAbs then c.badRun + 1 else 0 }
  let s := setPtp c s
  if 16 ≤ c.okRun then servoTo 1 s else if 4 ≤ c.badRun then servoTo 0 s else s

/-- A Sync's corrected times known: offset from master. -/
def syncTimes (rx origin : Int) (s : State) : State :=
  let d := rx - origin
  servoStep (d - s.time.ptp.pathDelay) (setPtp { s.time.ptp with syncDiff := d, sync := none } s)

/-- Own clock identity: the EUI-64 of the first port's address (IEEE 1588). PRESUMED, log 78. -/
def clockIdentity (s : State) : Nat :=
  let m := portMac s 0
  m / 2 ^ 24 * 2 ^ 40 + 0xFFFE * 2 ^ 24 + m % 2 ^ 24

/-- PRESUMED, log 78. -/
def keyLess : List Nat → List Nat → Bool
  | [], _ => false
  | _, [] => false
  | a :: as, b :: bs => decide (a < b) || (a == b && keyLess as bs)

/-- The part's own data in the best-master-clock comparison (class, accuracy and variance at the IEEE 1588 defaults). PRESUMED, log 78. -/
def ownKey (s : State) : List Nat := [s.time.ptp.prio1, 248, 0xFE, 0xFFFF, s.time.ptp.prio2, clockIdentity s]

/-- The clock becomes master, and grandmaster, unless it is slave only. PRESUMED, log 78. -/
def becomeMaster (s : State) : State :=
  let c := s.time.ptp
  if c.slaveOnly ∨ c.clock = 2 then setPtp { c with pstate := 4, gm := false, gmKey := [] } s
  else setPtp { c with pstate := 6, gm := true, gmId := BitVec.ofNat 64 (clockIdentity s), gmKey := [] } s

/-- An Announce in the best-master-clock algorithm (R404). PRESUMED, log 78. -/
def announceRx (port : Nat) (m : PtpMessage) (s : State) : State :=
  let c := s.time.ptp
  let key := [m.gmPriority1, m.gmClass, m.gmAccuracy, m.gmVariance, m.gmPriority2, m.gmIdentity.toNat]
  let slave := c.pstate == 9
  let better := !slave || c.gmId == m.gmIdentity || keyLess key c.gmKey
  if !better then s
  else if !(c.slaveOnly || c.clock == 2) && keyLess (ownKey s) key then (if slave && c.gmId != m.gmIdentity then s else becomeMaster s)
  else setPtp { c with pstate := 9, gm := false, gmId := m.gmIdentity, gmKey := key, slavePort := port, announceAt := s.now } s

/-- The receive counter of a message type (R428). -/
def ptpRxCounter : Nat → Option Nat
  | 0 => some 0
  | 8 => some 2
  | 1 => some 4
  | 2 => some 6
  | 11 => some 8
  | _ => none

/-- A reply or message of the part on a port, time-stamped class 7 (R385). -/
def queuePtp (port kind seq : Nat) (s : State) : State := (queueHost port (some (kind, seq)) 7 [] s).1

/-- A message of the configured domain on a port of the mask. Kinds sent: 9 Delay_Resp, 3 Pdelay_Resp as 5. -/
def ptpServe (port : Nat) (m : PtpMessage) (s : State) : State :=
  let c := s.time.ptp
  let rx : Int := (m.rxSec * 1000000000 + m.rxNs : Nat)
  let origin : Int := (m.originSec * 1000000000 + m.originNs : Nat)
  let corr := m.correction / 65536
  let slave := c.pstate == 9 && c.slavePort == port
  match m.msgType with
  | 0 =>
    if !slave then s
    else if m.twoStep then setPtp { c with sync := some (m.seq, rx - corr) } s
    else syncTimes (rx - corr) origin s
  | 8 =>
    match c.sync with
    | some (q, t) => if slave ∧ q = m.seq then syncTimes t (origin + corr) s else s
    | none => s
  | 9 =>
    match mapFind c.sent (4 + port) with
    | some (q, t3) =>
      if slave ∧ q = m.seq ∧ !c.p2p then setPtp { c with pathDelay := (c.syncDiff + (origin - t3 - corr)) / 2 } s else s
    | none => s
  | 1 => if c.pstate = 6 ∨ (c.clock = 1 ∧ c.slavePort ≠ port) then emit (.ptp port 9 m.seq) s else s
  | 2 => if c.p2p then emit (.ptp port 5 m.seq) s else s
  | 3 =>
    match mapFind c.sent (8 + port) with
    | some (q, t1) =>
      if !c.p2p ∨ q ≠ m.seq then s
      else if m.twoStep then setPtp { c with peer := mapSet c.peer port (q, rx - t1 - corr + origin) } s
      else
        let d := (rx - t1 - corr) / 2
        regPut (dieAddr (activeShore s) (0x360104 + port * 0x40)) ((d * 16).toNat % 2 ^ 32) (setPtp { c with pathDelay := d } s)
    | none => s
  | 10 =>
    match mapFind c.peer port with
    | some (q, part) =>
      if q ≠ m.seq then s
      else
        let d := (part - origin - corr) / 2
        regPut (dieAddr (activeShore s) (0x360104 + port * 0x40)) ((d * 16).toNat % 2 ^ 32)
          (setPtp { c with pathDelay := d, peer := mapErase c.peer port } s)
    | none => s
  | 11 => announceRx port m s
  | _ => s

/-- PTP_MESSAGE_RX: a message of another domain is discarded and counted (R406). -/
def execPtpMessageRx (port : Nat) (p : PtpMessage) (s : State) : Host.Outcome State Fault Refusal :=
  .next (
    let c := s.time.ptp
    if !nerrisUp s ∨ 4 ≤ port ∨ !c.running then s
    else if p.domain ≠ c.domain then ptpCount port 10 s
    else
      let s := match ptpRxCounter p.msgType with
        | some k => ptpCount port k s
        | none => s
      if c.mask.testBit port then ptpServe port p s else s)

/-- ANNOUNCE_TIMEOUT: no valid master; the servo holds its increment and reports holdover (R406). -/
def execAnnounceTimeout (s : State) : Host.Outcome State Fault Refusal :=
  .next (if !nerrisUp s ∨ s.time.ptp.mask = 0 ∨ s.time.ptp.gm then s else becomeMaster (refLost 0 0 (servoTo 2 s)))

/-- The interval kinds: 0 Sync, 1 Delay_Req, 2 Pdelay_Req, 3 Announce, each sent by the ports whose role sends it. -/
def sendsPtp (c : Ptp) (port kind : Nat) : Bool :=
  let slave := c.pstate == 9 && c.slavePort == port
  let master := c.pstate == 6 || (c.clock == 1 && c.pstate == 9 && c.slavePort != port)
  c.mask.testBit port && match kind with
    | 0 => master
    | 1 => slave && !c.p2p
    | 2 => c.p2p
    | 3 => master
    | _ => false

/-- PTP_MESSAGE_INTERVAL. -/
def execPtpMessageInterval (port kind : Nat) (s : State) : Host.Outcome State Fault Refusal :=
  .next (
    let c := s.time.ptp
    if !nerrisUp s ∨ 4 ≤ port ∨ !sendsPtp c port kind then s
    else
      let key := kind * 4 + port
      let n := mapGet (fun _ => 0) c.seqs key
      queuePtp port kind n (setPtp { c with seqs := mapSet c.seqs key ((n + 1) % 65536) } s))

/-- PTP_TSQ_SEQ_READ: the control cluster's read pops; another master's returns 0 (R403). -/
def ptpTsqRead (m : Master) (port : Nat) (s : State) : State :=
  let x := getNet s port
  if m ≠ .controlCluster then busOk [0] s
  else match x.tsq with
    | [] => busOk [BitVec.ofNat 32 x.tsqPopped.1] (setNet port { x with tsqValid := false } s)
    | e :: rest => busOk [BitVec.ofNat 32 (e.1 + 65536)] (setNet port { x with tsq := rest, tsqPopped := e, tsqValid := true } s)

def execPtpTsqSeqRead (m : Master) (port size : Nat) (s : State) : Host.Outcome State Fault Refusal :=
  if size ≠ 1 ∧ size ≠ 2 ∧ size ≠ 4 then .fault .illFormedCommand
  else .next (if 4 ≤ port ∨ !shoreUp s then busErr s
    else if size ≠ 4 then sideReadRefused m (activeShore s) 1 s
    else ptpTsqRead m port s)

/-! ### The media clock (R408 to R413) -/

/-- The rate of WCLK_IN: measured, or as configured while it is not classed. -/
def wclkHz (s : State) : Nat :=
  let c := (getPort s (portKey 2 0 0)).cls
  if c = 0 then rateHz s.route.wclkRate else c

/-- DEDUCED, log 80. -/
def timeMclkCfgBody (rq : Request) (s : State) : Reply :=
  let p := rq.payload
  let ref := byteAt p 0
  let port := byteAt p 1
  let fr := rateHz s.time.rate
  let tdm := if rendering s then (mapFind s.route.tdm (tdmKey 0 port)).map (·.rate) else srcRate s 0 0 port
  if 3 < ref then badArg 0 s
  else if ref = 1 ∧ !(decide (wclkHz s ≤ fr) && wclkHz s != 0 && fr % wclkHz s == 0) then refuse codeBadArg 4 0 s
  else if ref = 2 ∧ (s.member.tdmPorts ≤ port ∨ tdm ≠ some s.time.rate) then badArg 1 s
  else
    let m := s.time.mclk
    let same := m.ref == ref && (ref != 2 || m.tdmPort == port)
    let m' := { m with ref := ref, tdmPort := port, mclkOut := (byteAt p 2).testBit 0, st := if ref = 3 then 3 else if same then m.st else 0 }
    let s := setMclk m' s
    replyOk [] (if ref ≠ 3 ∧ !same ∧ m.st ≠ 0 then timeLock ref 0 s else s)

/-- `time.mclk.cfg` (R409). -/
def timeMclkCfgOp : NcpOp :=
  { opcode := 0x0803, layout := fun _ => [1, 1, 1], staged := never, key := keyBytes 0, body := timeMclkCfgBody }

def execTimeMclkCfg (rq : Request) (s : State) : Host.Outcome State Fault Refusal := .next (serve timeMclkCfgOp rq s)

/-- MCLK_LOCK: with reference 0 the servo must be locked. -/
def execMclkLock (s : State) : Host.Outcome State Fault Refusal :=
  .next (if s.time.mclk.ref = 0 ∧ s.time.ptp.servo ≠ 1 then s else mclkTo 1 s)

/-- MCLK_UNLOCK. -/
def execMclkUnlock (s : State) : Host.Outcome State Fault Refusal := .next (mclkTo 0 s)

/-- MCLK_HOLDOVER: a loss of the reference that another command shows has already had this effect. -/
def execMclkHoldover (s : State) : Host.Outcome State Fault Refusal := .next (mclkTo 2 s)

/-- The fractional clock work of tick `k`: with reference 0 an error beyond 1 ms re-anchors Δ at the next tick; with another, Δ is measured again and each change is a slip, whose sign is answered (R410, R413). DEDUCED, log 80. -/
def mclkTick (k : Nat) (phase : Int) (s : State) : State × Int :=
  let m := s.time.mclk
  let fresh : Int := (k : Int) - ptpSamples s.time.ptp (rateHz s.time.rate)
  if m.ref = 0 then
    let s := if m.reanchor then
        timeLock 0 1 (count 0x4280 (setMclk { m with delta := fresh, reanchor := false, slewing := true, st := 1 } s))
      else s
    let m := s.time.mclk
    (setMclk { m with phase := phase, reanchor := decide (1000000 < phase.natAbs), slewing := decide (100 < phase.natAbs) } s, 0)
  else
    let d := clampInt (-1) 1 (fresh - m.delta)
    let s := if d = 0 then s else count 0x4283 s
    (setMclk { m with delta := m.delta + d, phase := phase, slewing := m.ref != 3 && decide (20 < phase.natAbs) } s, d)

end Sys2Proof.Machine
end

