-- ==== Sys2Proof/Machine/Streams.lean ====
section
/-! DEFINITION. Receive and transmit streams (R414 to R428), EOMS packets (R198 to R202) and the `stream` messages (R159). -/

namespace Sys2Proof.Machine

def getRx (s : State) (h : Nat) : Option Stream := mapFind s.net.rx h
def setRx (h : Nat) (x : Stream) (s : State) : State := { s with net.rx := mapSet s.net.rx h x }
def getTx (s : State) (h : Nat) : Option Stream := mapFind s.net.tx h
def setTx (h : Nat) (x : Stream) (s : State) : State := { s with net.tx := mapSet s.net.tx h x }

/-- `stream.state` (R420). -/
def streamEvent (dir h st : Nat) (s : State) : State :=
  event 5 (activeShore s) 0x0881 h (bytesLE 1 dir ++ bytesLE 1 st ++ bytesLE 2 h) s

/-- P for a packet time in ns at a rate code (R415). -/
def packetSamples (ns rate : Nat) : Option Nat :=
  let f := 2 ^ (rate / 2)
  match ns with
  | 125000 => some (6 * f)
  | 250000 => some (12 * f)
  | 333333 => some (16 * f)
  | 1000000 => some (48 * f)
  | _ => none
def Stream.pkt (x : Stream) : Nat := (packetSamples x.packetNs x.rate).getD 0

/-! ### Adding (R415, R421, R423) -/

/-- The lowest run of `n` free channels below a limit. -/
def freeRun (used : List (Nat × Nat)) (limit n : Nat) : Option Nat :=
  let starts := 0 :: used.map fun u => u.1 + u.2
  let fits := starts.filter fun a => decide (a + n ≤ limit) && !(used.any fun u => decide (a < u.1 + u.2) && decide (u.1 < a + n))
  match fits with
  | [] => none
  | e :: es => some (es.foldl min e)

/-- Channels in use by the streams of one direction: first and number; an EOMS stream has none. -/
def usedRuns (m : AMap Stream) : List (Nat × Nat) := (m.filter fun e => e.2.kind != 2).map fun e => (e.2.first, e.2.channels)

/-- The presentation offset in samples at Fr for a request in ns: rounded, raised to P samples + 125 µs, within 125 µs to 20 ms; and whether it was raised or limited (R415). -/
def offsetUsed (ns pkt rate fr : Nat) : Nat × Bool :=
  let want := (roundDiv (ns * fr : Nat) 1000000000).toNat
  let least := (pkt * fr * 1000000000 + 125000 * fr * rate + rate * 1000000000 - 1) / (rate * 1000000000)
  let po := min (max want least) (20000000 * fr / 1000000000)
  (po, po != want)
def samplesNs (po fr : Nat) : Nat := (roundDiv (po * 1000000000 : Nat) fr).toNat

/-- The classification key of a receive stream (R414). -/
def streamKey (x : Stream) : Nat × Nat × Nat × Nat :=
  if x.kind = 1 then (1, x.addr.toNat / 2 ^ 80, x.streamId.toNat, x.vlan) else (0, x.addr.toNat, x.udpPort * 65536 + x.vlan, x.source.toNat)

/-- A stream as the common layout of `stream.rx.add` and `stream.tx.add` describes it. -/
def streamOf (p : List Byte) : Stream :=
  let kind := byteAt p 0
  { kind := kind, channels := byteAt p 1, format := byteAt p 2, rate := byteAt p 3, packetNs := fieldLE p 4 4, po := 0, poNs := 0
    group := fieldLE p 12 2, vlan := fieldLE p 14 2, addr := BitVec.ofNat 128 (fieldBE p 16 16), source := BitVec.ofNat 128 (fieldBE p 32 16)
    udpPort := fieldLE p 48 2, ipv := byteAt p 50, ptype := byteAt p 51, streamId := BitVec.ofNat 64 (fieldLE p 52 8), first := 0
    clockOff := 0, portMask := 0xF, dscp := 34, pcp := if kind = 1 then 3 else 5, ttl := 32, srcPort := 0, st := 0, seq := none, ssrc := 0
    lastPkt := [], missing := 0, lossAt := none, fade := 0, fadeUp := false, removing := false, buffer := [], lastOut := [], gather := []
    gatherAt := 0, mac := none, resolvedAt := 0, eomsOn := false, eomsRel := false, eomsBase := 0, eomsCount := 0 }

/-- The checks of the common layout; an EOMS stream ignores channels, format, rate and packet time. -/
def streamChecks (x : Stream) : List (Nat × Bool) :=
  let audio := x.kind != 2
  [(0, decide (x.kind ≤ 2)), (1, !audio || (decide (1 ≤ x.channels) && decide (x.channels ≤ 64))),
    (2, !audio || x.format == 16 || x.format == 24 || x.format == 32), (3, !audio || decide (x.rate ≤ 5)),
    (4, !audio || (packetSamples x.packetNs x.rate).isSome), (12, decide (x.group ≤ 63) || x.group == 0xFFFF),
    (50, x.kind == 1 || x.ipv == 4 || x.ipv == 6)]

def streamRxAddBody (rq : Request) (s : State) : Reply :=
  let x := streamOf rq.payload
  let fr := rateHz s.time.rate
  match firstBad (streamChecks x) with
  | some f => badArg f s
  | none =>
    if s.net.rx.any fun e => streamKey e.2 == streamKey x then refuse codeBadArg 4 16 s
    else match mapFree s.net.rx 128 with
      | none => refuse codeNoResource 0 noField s
      | some h =>
        let runs := usedRuns s.net.rx
        let n := if x.kind = 2 then 0 else x.channels
        if 2048 < (runs.map (·.2)).sum + n then refuse codeNoResource 0 noField s
        else match (if n = 0 then some 0xFFFF else freeRun runs 2048 n) with
          | none => refuse codeNoResource 2 noField s
          | some first =>
            let (po, lim) := offsetUsed (fieldLE rq.payload 8 4) (if n = 0 then 0 else x.pkt) (if n = 0 then fr else rateHz x.rate) fr
            let mate := s.net.rx.find? fun e => x.group != 0xFFFF && e.2.group == x.group
            let (po, lim) := match mate with
              | some e => (e.2.po, lim || e.2.po != po)
              | none => (po, lim)
            let x := { x with first := first, po := po, poNs := samplesNs po fr }
            let s := setRx h x s
            let s := if x.kind != 1 && ipIsGroup x.ipv x.addr.toNat then
                ((List.range 4).filter fun p => (getNet s p).link).foldl (fun s p => emit (.join p h) s) s
              else s
            replyUsed (if lim then some 8 else none) (bytesLE 2 h ++ bytesLE 2 first ++ bytesLE 4 x.poNs) [] s

def streamLayout (_ : Nat) : List Nat := [1, 1, 1, 1, 4, 4, 2, 2, 16, 16, 2, 1, 1, 8]
/-- The key of a stream's record: what names the stream on the network. -/
def streamRecKey (rq : Request) : Option (List Byte) := some (rq.payload.take 1 ++ slice rq.payload 14 46)

/-- `stream.rx.add`. -/
def streamRxAddOp : NcpOp := { opcode := 0x0810, layout := streamLayout, staged := never, key := streamRecKey, body := streamRxAddBody }

def execStreamRxAdd (rq : Request) (s : State) : Host.Outcome State Fault Refusal := .next (serve streamRxAddOp rq s)

/-- Bytes of a transmit stream's longest frame with its FCS (R424). -/
def streamFrameSize (x : Stream) : Nat :=
  let audio := x.pkt * x.channels * (x.format / 8)
  let tag := if 1 ≤ x.vlan ∧ x.vlan ≤ 4094 then 4 else 0
  14 + tag + (if x.kind = 1 then 24 else (if x.ipv = 6 then 40 else 20) + 8 + 12) + audio + 4

def streamTxAddBody (rq : Request) (s : State) : Reply :=
  let x := streamOf rq.payload
  let fr := rateHz s.time.rate
  if x.kind = 2 then badArg 0 s
  else match firstBad (streamChecks x) with
    | some f => badArg f s
    | none =>
      if (List.range 4).any fun p => (getNet s p).mode != 0 && decide ((getNet s p).maxFrame < streamFrameSize x) then
        refuse codeBadArg 3 noField s
      else match mapFree s.net.tx 64 with
        | none => refuse codeNoResource 0 noField s
        | some h =>
          let runs := usedRuns s.net.tx
          if 512 < (runs.map (·.2)).sum + x.channels then refuse codeNoResource 0 noField s
          else match freeRun runs 512 x.channels with
            | none => refuse codeNoResource 2 noField s
            | some first =>
              let (po, lim) := offsetUsed (fieldLE rq.payload 8 4) x.pkt (rateHz x.rate) fr
              let (r, s) := drawFree s
              let x := { x with first := first, po := po, poNs := samplesNs po fr, seq := some (r.toNat % 65536)
                                ssrc := r.toNat / 65536 % 2 ^ 32, fade := 64, fadeUp := true }
              let s := setTx h x s
              let s := if x.kind = 0 && !ipIsGroup x.ipv x.addr.toNat then emit (.arp h) s else s
              replyUsed (if lim then some 8 else none) (bytesLE 2 h ++ bytesLE 2 first) (withField 8 4 x.poNs rq.payload) s

/-- `stream.tx.add`. -/
def streamTxAddOp : NcpOp := { opcode := 0x0811, layout := streamLayout, staged := never, key := streamRecKey, body := streamTxAddBody }

def execStreamTxAdd (rq : Request) (s : State) : Host.Outcome State Fault Refusal := .next (serve streamTxAddOp rq s)

/-- A direction and handle named by a message: the stream, or the field at fault. -/
def namedStream (s : State) (p : List Byte) : Except Nat Stream :=
  if 1 < byteAt p 0 then .error 0
  else match mapFind (if byteAt p 0 = 0 then s.net.rx else s.net.tx) (fieldLE p 2 2) with
    | some x => .ok x
    | none => .error 2

/-- A receive stream gone: its channels and handle are free, and its group is left (R422, R426). -/
def freeRx (h : Nat) (s : State) : State :=
  match getRx s h with
  | none => s
  | some x =>
    let s := if x.kind != 1 && ipIsGroup x.ipv x.addr.toNat then
        ((List.range 4).filter fun p => (getNet s p).link).foldl (fun s p => emit (.leave p h) s) s
      else s
    { s with net.rx := mapErase s.net.rx h }

/-- The records of a stream withdrawn. -/
def forgetStream (dir h : Nat) (x : Stream) (s : State) : State :=
  forgetRecords (fun r =>
    (r.opcode == 0x0810 + dir && streamKey (streamOf r.payload) == streamKey x && byteAt r.payload 0 == x.kind)
      || (r.opcode == 0x0814 && byteAt r.payload 0 == dir && fieldLE r.payload 2 2 == h)
      || (r.opcode == 0x020C && dir == 0 && fieldLE r.payload 0 2 == h)) s

def streamRemoveBody (rq : Request) (s : State) : Reply :=
  let dir := byteAt rq.payload 0
  let h := fieldLE rq.payload 2 2
  match namedStream s rq.payload with
  | .error f => badArg f s
  | .ok x =>
    if x.removing then badArg 2 s
    else
      let s := forgetStream dir h x s
      if !rendering s ∨ x.fade = 0 then replyOk [] (if dir = 0 then freeRx h s else { s with net.tx := mapErase s.net.tx h })
      else
        let y := { x with removing := true, fadeUp := false }
        replyOk [] (if dir = 0 then setRx h y s else setTx h y s)

/-- `stream.remove`. -/
def streamRemoveOp : NcpOp := { opcode := 0x0812, layout := fun _ => [1, 1, 2], staged := never, key := noKey, body := streamRemoveBody }

def execStreamRemove (rq : Request) (s : State) : Host.Outcome State Fault Refusal := .next (serve streamRemoveOp rq s)

def streamStatusBody (rq : Request) (s : State) : Reply :=
  let h := fieldLE rq.payload 2 2
  match namedStream s rq.payload with
  | .error f => badArg f s
  | .ok x =>
    let rx := byteAt rq.payload 0 == 0
    let n := fun (k : Nat) => if rx then counter s (0x4400 + 8 * h + k) else if k = 2 then 0 else counter s (0x4800 + 4 * h + k)
    replyOk (bytesLE 1 x.st ++ bytesLE 3 0 ++ bytesLE 4 (n 0) ++ bytesLE 4 (n 1) ++ bytesLE 4 (n 2)) s

/-- `stream.status`. A transmit stream reports its packets sent and discarded. -/
def streamStatusOp : NcpOp := { opcode := 0x0813, layout := fun _ => [1, 1, 2], staged := never, key := noKey, body := streamStatusBody }

def execStreamStatus (rq : Request) (s : State) : Host.Outcome State Fault Refusal := .next (serve streamStatusOp rq s)

def streamOptsBody (rq : Request) (s : State) : Reply :=
  let p := rq.payload
  let dir := byteAt p 0
  let h := fieldLE p 2 2
  match namedStream s p with
  | .error f => badArg f s
  | .ok x =>
    let mask := byteAt p 8 % 16
    if mask = 0 then badArg 8 s
    else
      let dscp := min 63 (byteAt p 9)
      let pcp := min 7 (byteAt p 10)
      let ttl := max 1 (byteAt p 11)
      let lim := firstBad [(9, dscp == byteAt p 9), (10, pcp == byteAt p 10), (11, ttl == byteAt p 11)]
      let used := p.take 8 ++ bytesLE 1 mask ++ bytesLE 1 dscp ++ bytesLE 1 pcp ++ bytesLE 1 ttl ++ slice p 12 2 ++ bytesLE 2 0
      let off := fieldLE p 4 4
      replyUsed lim used [] (if dir = 0 then setRx h { x with clockOff := off } s
        else setTx h { x with clockOff := off, portMask := mask, dscp := dscp, pcp := pcp, ttl := ttl, srcPort := fieldLE p 12 2 } s)

/-- `stream.opts` (R427). -/
def streamOptsOp : NcpOp :=
  { opcode := 0x0814, layout := fun _ => [1, 1, 2, 4, 1, 1, 1, 1, 2, 2], staged := never, key := keyBytes 4, body := streamOptsBody }

def execStreamOpts (rq : Request) (s : State) : Host.Outcome State Fault Refusal := .next (serve streamOptsOp rq s)

/-- ARP_REFRESH: a unicast destination is resolved again, and what was found is used (R425). -/
def execArpRefresh (handle : Nat) (mac : Option (BitVec 48)) (s : State) : Host.Outcome State Fault Refusal :=
  .next (
    match getTx s handle with
    | none => s
    | some x =>
      if !nerrisUp s ∨ x.kind = 1 ∨ ipIsGroup x.ipv x.addr.toNat then s
      else emit (.arp handle) (setTx handle { x with mac := mac, resolvedAt := s.now } s))

/-! ### Receiving (R416 to R420) -/

/-- The 64-bit count congruent to `r` modulo 2³² nearest to `x` (R417). -/
def nearest32 (r : Nat) (x : Int) : Int :=
  let d := ((r : Int) - x) % 2 ^ 32
  if d < 2 ^ 31 then x + d else x + d - 2 ^ 32

/-- A stream whose rate is Fr is placed by input index; another by its own sample number, which its converter takes up. -/
def sameRate (s : State) (x : Stream) : Bool := x.rate == s.time.rate

/-- The place in a stream's buffer that input `k` takes. -/
def streamPos (s : State) (x : Stream) (k : Nat) : Int :=
  if sameRate s x then k else ((k : Int) - s.time.mclk.delta - x.po) * rateHz x.rate / rateHz s.time.rate

/-- The place of a packet's first sample (R417, R418). AAF takes `marker` for tv: without it the packet continues the one before. DEDUCED, log 76. -/
def packetPlace (s : State) (x : Stream) (p : StreamPacket) : Int :=
  let fs := rateHz x.rate
  let fr := rateHz s.time.rate
  if x.kind = 1 then
    if p.marker then
      let t := nearest32 p.timestamp (ptpNs s.time.ptp)
      if sameRate s x then roundDiv (t * fr) 1000000000 + s.time.mclk.delta else roundDiv (t * fs) 1000000000 - x.po * fs / fr
    else match x.buffer.getLast? with
      | some e => e.1 + 1
      | none => streamPos s x (s.time.index + 1)
  else
    let n := nearest32 ((p.timestamp + 2 ^ 32 - x.clockOff % 2 ^ 32) % 2 ^ 32) (ptpSamples s.time.ptp fs)
    if sameRate s x then n + x.po + s.time.mclk.delta else n

/-- The sample frames of a packet's payload: big-endian words as render words. -/
def packetFrames (x : Stream) (pay : List Byte) : List (List Int) :=
  let w := x.format / 8
  let size := w * x.channels
  (List.range (pay.length / size)).map fun i => (List.range x.channels).map fun c =>
    wordIn x.format (signed x.format (fieldBE pay (i * size + c * w) w))

/-- Frames joined to the last one played over the first `n` (R420). -/
def joinFrames (n : Nat) (last : List Int) (fs : List (List Int)) : List (List Int) :=
  fs.zipIdx.map fun e =>
    if e.2 < n then e.1.zipIdx.map fun v => roundDiv (last.getD v.2 0 * (n - 1 - e.2 : Nat) + v.1 * (e.2 + 1 : Nat)) n else e.1

/-- Frames put in a buffer from a place on. -/
def placeFrames (got : Bool) (at_ : Nat) (fs : List (List Int)) (b : AMap (Bool × List Int)) : AMap (Bool × List Int) :=
  fs.zipIdx.foldl (fun b e => mapSet b (at_ + e.2) (got, e.1)) b

/-- STREAM_PACKET_RX: checked, placed by its time-stamp, and late, duplicate and out-of-window packets discarded. DEDUCED, log 76. -/
def execStreamPacketRx (handle : Nat) (p : StreamPacket) (s : State) : Host.Outcome State Fault Refusal :=
  .next (
    match getRx s handle with
    | none => s
    | some x =>
      if !nerrisUp s ∨ s.sys.ao.power ≠ .run ∨ x.kind = 2 ∨ x.removing then s
      else
        let size := x.format / 8 * x.channels
        let n := p.payload.length / size
        if (x.kind = 0 ∧ p.payloadType ≠ x.ptype) ∨ p.payload.length % size ≠ 0 ∨ n < 1 ∨ 2 * x.pkt < n then
          count (if x.kind = 1 then 0x4293 else 0x4292) s
        else
          let id := 0x4400 + 8 * handle
          let s := count id s
          let i0 := packetPlace s x p
          let now := streamPos s x s.time.index
          let reach : Int := if sameRate s x then (x.po + 2 * x.pkt + (rateHz x.rate + 999) / 1000 : Nat)
            else ((x.po * rateHz x.rate / rateHz s.time.rate + 2 * x.pkt + (rateHz x.rate + 999) / 1000 : Nat) : Int)
          let held := mapFind x.buffer i0.toNat
          if !rendering s ∨ i0 ≤ now then count (id + 2) s
          else match held with
            | some (true, _) => count (id + 3) s
            | some (false, _) => count (id + 2) s
            | none =>
              if now + reach < i0 then count (id + 4) s
              else
                let at_ := i0.toNat
                let frames := packetFrames x p.payload
                let last := match mapFind x.buffer (at_ - 1) with
                  | some e => e.2
                  | none => x.lastOut
                let placed := if x.st = 2 then joinFrames (min 16 x.pkt) last frames else frames
                let back := x.st != 1
                let fresh := x.st == 0 || x.st == 3
                let y := { x with
                  buffer := placeFrames true at_ placed x.buffer, lastPkt := frames, missing := 0, lossAt := none, st := 1
                  fade := if fresh then 0 else x.fade, fadeUp := true }
                let s := setRx handle y s
                if back then streamEvent 0 handle 1 s else s)

/-- The first place after `k` that a buffer does not hold. -/
def firstHole (b : AMap (Bool × List Int)) : Nat → Nat → Nat
  | 0, k => k
  | n + 1, k => if mapHas b k then firstHole b n (k + 1) else k

/-- STREAM_PACKET_MISSING: the deadline of the next packet time has passed; the packet before it plays again, joined to the last sample played; at the end of the eighth the stream is lost (R420). DEDUCED, log 76. -/
def execStreamPacketMissing (handle : Nat) (s : State) : Host.Outcome State Fault Refusal :=
  .next (
    match getRx s handle with
    | none => s
    | some x =>
      if !nerrisUp s ∨ !rendering s ∨ x.kind = 2 ∨ !(x.st == 1 || x.st == 2) ∨ 8 ≤ x.missing ∨ x.lastPkt.isEmpty then s
      else
        let from_ := (streamPos s x s.time.index).toNat + 1
        let h := firstHole x.buffer x.buffer.length from_
        let last := match mapFind x.buffer (h - 1) with
          | some e => e.2
          | none => x.lastOut
        let again := joinFrames (min 16 x.pkt) last ((List.range x.pkt).map fun i => x.lastPkt.getD (i % x.lastPkt.length) [])
        let fill := (again.zipIdx.filter fun e => !mapHas x.buffer (h + e.2)).foldl (fun b e => mapSet b (h + e.2) (false, e.1)) x.buffer
        let id := 0x4400 + 8 * handle
        let m := x.missing + 1
        let y := { x with buffer := fill, missing := m, st := 2, lossAt := if m = 8 then some (h + x.pkt) else none }
        let s := count (id + 1) (count (id + 5) (setRx handle y s))
        if x.st = 1 then streamEvent 0 handle 2 s else s)

/-- What a stream plays at a place: a frame held, or after a loss the repetition going on under the fade. DEDUCED, log 76. -/
def streamFrame (x : Stream) (pos : Nat) : List Int :=
  match mapFind x.buffer pos with
  | some e => e.2
  | none => match x.lossAt with
    | some n => if n ≤ pos ∧ 0 < x.lastPkt.length then x.lastPkt.getD ((pos - n) % x.lastPkt.length) [] else []
    | none => []

/-- Input `k` of one receive stream at the ingress router. -/
def streamInput (h k : Nat) (s : State) : State :=
  match getRx s h with
  | none => s
  | some x =>
    if x.kind = 2 then s
    else
      let pos := (streamPos s x k).toNat
      let lost := match x.lossAt with
        | some n => decide (n ≤ pos) && x.st == 2
        | none => false
      let x := if lost then { x with st := 3, fadeUp := false } else x
      let s := if lost then streamEvent 0 h 3 (count (0x4400 + 8 * h + 6) s) else s
      let frame := streamFrame x pos
      let moving := if x.fadeUp then mapHas x.buffer pos else true
      let fade := if !moving then x.fade else if x.fadeUp then min 64 (x.fade + 1) else x.fade - 1
      let hist := (List.range 66).map fun j => streamFrame x (pos - j)
      let phase := if sameRate s x then 0 else
        ((k : Int) - s.time.mclk.delta - x.po) * rateHz x.rate % rateHz s.time.rate
      let y := { x with fade := fade, lastOut := frame, buffer := x.buffer.filter fun e => decide (pos ≤ e.1 + 66) }
      let s := setRx h y s
      let s := (List.range x.channels).foldl (fun s c =>
        let (v, s) := if sameRate s x ∧ !(getSrc s (64 + h)).enable then (frame.getD c 0, s)
          else if !(getSrc s (64 + h)).enable then (0, s)
          else convRun (64 + h) x.rate s.time.rate phase (frame.getD c 0) (hist.map fun f => f.getD c 0) s
        { s with route.inputs := mapSet s.route.inputs (0x12000000 + x.first + c) (roundDiv (v * fade) 64) }) s
      if y.removing ∧ fade = 0 then freeRx h s else s

/-- Input `k` of every receive stream. -/
def streamInputs (k : Nat) (s : State) : State := s.net.rx.foldl (fun s e => streamInput e.1 k s) s

/-- A slip of Δ at index `k`: a stream without a converter repeats a sample when Δ rises and drops one when it falls (R413). DEDUCED, log 77. -/
def slipStream (k : Nat) (d : Int) (x : Stream) : Stream :=
  if 0 < d then
    let moved := x.buffer.map fun e => if k ≤ e.1 then (e.1 + 1, e.2) else e
    { x with
      buffer := match mapFind x.buffer (k - 1) with
        | some e => mapSet moved k (true, e.2)
        | none => moved
      lossAt := x.lossAt.map (· + 1) }
  else
    { x with buffer := (mapErase x.buffer k).map fun e => if k < e.1 then (e.1 - 1, e.2) else e, lossAt := x.lossAt.map (· - 1) }

/-- A slip on every stream, counted for each. DEDUCED, log 77. -/
def slipStreams (k : Nat) (d : Int) (s : State) : State :=
  if d = 0 then s
  else
    let s := { s with net.rx := s.net.rx.map fun (e : Nat × Stream) =>
      (e.1, if sameRate s e.2 && !(getSrc s (64 + e.1)).enable && e.2.kind != 2 then slipStream k d e.2 else e.2) }
    let s := (s.net.rx.filter fun e => e.2.kind != 2).foldl (fun s e => count (0x4400 + 8 * e.1 + 7) s) s
    s.net.tx.foldl (fun s e => count (0x4800 + 4 * e.1 + 2) s) s

/-! ### Sending (R423 to R425) -/

/-- A port word's bytes, big-endian. -/
def wordBytes (w : Nat) (v : Int) : List Byte := (bytesS (w / 8) v).reverse

/-- NSR and format codes of AAF (IEEE 1722-2016). PRESUMED, log 75. -/
def aafNsr : Nat → Nat
  | 0 => 4
  | 1 => 5
  | 2 => 6
  | 3 => 7
  | 4 => 8
  | _ => 9
/-- PRESUMED, log 75. -/
def aafFormat (w : Nat) : Nat := if w = 32 then 2 else if w = 24 then 3 else 4

/-- The frame of one packet on a port, from its first sample's stream time-stamp or presentation time. PRESUMED, log 75. -/
def streamPacketFrame (s : State) (x : Stream) (port dst stamp ident seq : Nat) (audio : List Byte) : List Byte :=
  if x.kind = 1 then
    let head := bytesBE 1 0x02 ++ bytesBE 1 0x81 ++ bytesBE 1 (seq % 256) ++ bytesBE 1 0 ++ bytesBE 8 x.streamId.toNat ++ bytesBE 4 stamp
      ++ bytesBE 1 (aafFormat x.format) ++ bytesBE 2 (aafNsr x.rate * 4096 + x.channels) ++ bytesBE 1 x.format ++ bytesBE 2 audio.length
      ++ bytesBE 2 0
    etherHead dst (portMac s port) x.vlan x.pcp 0x22F0 ++ head ++ audio
  else
    let rtp := bytesBE 1 0x80 ++ bytesBE 1 (x.ptype % 128) ++ bytesBE 2 seq ++ bytesBE 4 stamp ++ bytesBE 4 x.ssrc ++ audio
    etherHead dst (portMac s port) x.vlan x.pcp (if x.ipv = 6 then 0x86DD else 0x0800)
      ++ udpPacket x.ipv x.source.toNat x.addr.toNat (if x.srcPort = 0 then x.udpPort else x.srcPort) x.udpPort x.dscp x.ttl ident rtp

/-- A packet of gathered samples formed and queued on every port of the mask whose link is up. -/
def sendPacket (h : Nat) (x : Stream) (s : State) : State :=
  let seq := x.seq.getD 0
  let fr := rateHz s.time.rate
  let first : Int := (x.gatherAt : Int) - (if sameRate s x then s.time.mclk.delta else 0)
  let stamp := if x.kind = 1 then
      ((first * 1000000000 / (if sameRate s x then fr else rateHz x.rate) + x.poNs) % 2 ^ 32).toNat
    else ((first + x.clockOff) % 2 ^ 32).toNat
  let dst := if x.kind = 1 then some (x.addr.toNat / 2 ^ 80)
    else if ipIsGroup x.ipv x.addr.toNat then some (groupMac x.ipv x.addr.toNat) else x.mac.map (·.toNat)
  let s := setTx h { x with gather := [], seq := some ((seq + 1) % 65536) } s
  match dst with
  | none => count (0x4800 + 4 * h + 1) s
  | some d =>
    let audio := x.gather.flatMap fun f => f.flatMap (wordBytes x.format)
    let (r, s) := drawFree s
    let s := ((List.range 4).filter fun p => x.portMask.testBit p && (getNet s p).link).foldl (fun s p =>
      let f := streamPacketFrame s x p d stamp (r.toNat % 65536) seq audio
      (queueHost p none (classOf s p f) f s).1) s
    count (0x4800 + 4 * h) s

/-- One sample frame added to a transmit stream's packet. -/
def gatherFrame (h at_ : Nat) (f : List Int) (s : State) : State :=
  match getTx s h with
  | none => s
  | some x =>
    let y := { x with gather := x.gather ++ [f], gatherAt := if x.gather = [] then at_ else x.gatherAt }
    if x.pkt ≤ y.gather.length then sendPacket h y s else setTx h y s

/-- Feed `k` taken by one transmit stream: directly, or through its converter once locked. -/
def streamOutput (h k : Nat) (s : State) : State :=
  match getTx s h with
  | none => s
  | some x =>
    let fade := if x.fadeUp then min 64 (x.fade + 1) else x.fade - 1
    let now := (List.range x.channels).map fun c => (getDst s (0x42000000 + x.first + c)).last
    let y := { x with fade := fade, st := 1, buffer := (mapSet x.buffer k (true, now)).filter fun e => decide (k ≤ e.1 + 66) }
    let s := setTx h y s
    let i := 192 + h
    let conv := (getSrc s i).enable
    let words := fun (vs : List Int) => vs.map fun v => (wordOut x.format (roundDiv (v * fade) 64)).1
    let s :=
      if sameRate s x ∧ !conv then gatherFrame h k (words now) s
      else if !conv ∨ !(getSrcState s i).locked then s
      else
        let fr := rateHz s.time.rate
        let fs := rateHz x.rate
        let n0 := (((k : Int) - s.time.mclk.delta) * fs / fr).toNat
        (framesIn k x.rate s.time.rate).foldl (fun s j =>
          let (vs, s) := (List.range x.channels).foldl (fun (a : List Int × State) c =>
            let hist := (List.range 66).map fun b => match mapFind y.buffer (k - b) with
              | some e => e.2.getD c 0
              | none => 0
            let (v, s) := convRun i s.time.rate x.rate ((k * fs % fr : Nat) + j : Nat) (now.getD c 0) hist a.2
            (a.1 ++ [v], s)) ([], s)
          gatherFrame h (n0 + j) (words vs) s) s
    if x.removing ∧ fade = 0 then { s with net.tx := mapErase s.net.tx h } else s

/-- Feed `k` taken by every transmit stream. -/
def streamOutputs (k : Nat) (s : State) : State := s.net.tx.foldl (fun s e => streamOutput e.1 k s) s

/-! ### EOMS (R198 to R202) -/

/-- The elements of a packet: relative ID, type, length in words and body; none when a head or body runs past the end (R200). -/
def eomsElements (pay : List Byte) : Nat → Nat → Option (List (Nat × Nat × Nat × List Byte))
  | 0, _ => some []
  | n + 1, off =>
    let words := byteAt pay (off + 3)
    if pay.length < off + 4 ∨ pay.length < off + 4 + 4 * words then none
    else match eomsElements pay n (off + 4 + 4 * words) with
      | none => none
      | some rest => some ((fieldBE pay off 2, byteAt pay (off + 2), words, slice pay (off + 4) (4 * words)) :: rest)

/-- A signed big-endian field. -/
def fieldSBE (bs : List Byte) (off n : Nat) : Int := signed (8 * n) (fieldBE bs off n)

/-- The update that an element makes; none for an element that is skipped: an unknown type, a wrong length, or a mode that an element cannot set (R199). -/
def elementUpdate (typ words : Nat) (b : List Byte) : Option Update :=
  let pos := some (fieldSBE b 0 4, fieldSBE b 4 4, fieldSBE b 8 4)
  let level := fun (o : Nat) => (some (min 6144 (fieldSBE b o 2)), some (min 1 (byteAt b (o + 2)) == 1))
  match typ, words with
  | 1, 3 => some { Update.empty with pos := pos }
  | 2, 1 => some { Update.empty with gain := (level 0).1, mute := (level 0).2 }
  | 3, 1 => some { Update.empty with size := some (fieldBE b 0 2) }
  | 4, 1 =>
    if 3 ≤ byteAt b 0 then none
    else some { Update.empty with
      mode := some (byteAt b 0), options := some ((byteAt b 1).testBit 0, (byteAt b 1).testBit 1, (byteAt b 1).testBit 2) }
  | 5, 4 => some { Update.empty with pos := pos, gain := (level 12).1, mute := (level 12).2 }
  | _, _ => none

/-- One element served as an update accepted now, or skipped and counted. -/
def eomsElement (h t : Nat) (now : Bool) (x : Stream) (e : Nat × Nat × Nat × List Byte) (s : State) : State :=
  let id := 0x0580 + 4 * h
  match elementUpdate e.2.1 e.2.2.1 e.2.2.2 with
  | none => count (id + 2) s
  | some u =>
    if !x.eomsOn ∨ x.eomsCount ≤ e.1 then count (id + 2) s
    else
      let o := x.eomsBase + e.1
      match activeObj s o with
      | none => count (id + 3) s
      | some ob =>
        if rendering s && !now && decide (s.time.index + 2 ^ 31 < t) then count (id + 2) s
        else if rendering s && decide (8 ≤ ob.pend.length) then noteClamp o 3 1 s
        else (acceptUpdate 1 o u t now s).2.2

/-- The sequence of a stream's packets followed: gaps counted (R202). -/
def eomsSequence (h : Nat) (x : Stream) (seq : Nat) (s : State) : State :=
  match x.seq with
  | none => setRx h { x with seq := some seq } s
  | some q =>
    let d := (seq + 65536 - q - 1) % 65536
    if d < 32768 then countBy (0x0580 + 4 * h + 1) d (setRx h { x with seq := some seq } s) else s

/-- EOMS_PACKET: the structure is checked before any element is applied (R200). -/
def execEomsPacket (handle : Nat) (p : StreamPacket) (s : State) : Host.Outcome State Fault Refusal :=
  .next (
    match getRx s handle with
    | none => s
    | some x =>
      let id := 0x0580 + 4 * handle
      let pay := p.payload
      if !nerrisUp s ∨ s.sys.ao.power ≠ .run ∨ x.kind ≠ 2 ∨ x.removing then s
      else if p.payloadType ≠ x.ptype then count 0x4292 s
      else
        let s := eomsSequence handle x (p.seq % 65536) s
        let n := fieldBE pay 2 2
        let absolute := (byteAt pay 1).testBit 0
        let now := (byteAt pay 1).testBit 1
        if pay.length < 16 ∨ 8192 < pay.length then count 0x4292 s
        else if byteAt pay 0 / 16 ≠ 1 ∨ (absolute && now) then countBy (id + 2) n (count 0x4292 s)
        else match eomsElements pay n 16 with
          | none => countBy (id + 2) n (count 0x4292 s)
          | some es =>
            if !absolute && !now && !x.eomsRel then countBy (id + 2) n s
            else
              let rel := nearest32 ((p.timestamp + 2 ^ 32 - x.clockOff % 2 ^ 32) % 2 ^ 32) (ptpSamples s.time.ptp (rateHz s.time.rate))
                + x.po + s.time.mclk.delta
              let t := if absolute then fieldBE pay 8 8 else rel.toNat
              let s := match getRx s handle with
                | some y => setRx handle { y with st := 1 } s
                | none => s
              let s := count (0x4400 + 8 * handle) (count id s)
              es.foldl (fun s e => eomsElement handle t now x e s) s)

end Sys2Proof.Machine
end

