-- ==== Sys2Proof/Machine/Commit.lean ====
section
/-! DEFINITION. Commit samples (R53 to R59): `cfg.commit` in two phases, its arms, swap reports and cancellation, and `cfg.discard` and `cfg.staged` (R155). -/

namespace Sys2Proof.Machine

/-! ### What is staged -/

/-- The staged set includes a geometry setting of R54: speaker table and mesh, environment or update period. DEDUCED, log 48. -/
def geometryStaged (s : State) : Bool :=
  let a := s.rend.geo
  let b := s.rend.geoStage
  a.table != b.table || a.c != b.c || a.airA != b.airA || a.period != b.period

/-- U of R54: the larger of the update period in force and the staged one. DEDUCED, log 48. -/
def commitU (s : State) : Nat := max (s.rend.geo.periodAt s.time.index) s.rend.geoStage.period

/-- A port, route or converter change is staged on the Shore. -/
def shoreStaged (s : State) : Bool :=
  !s.route.stage.isEmpty || s.route.tdmStage.any (fun e => mapFind s.route.tdm e.1 != some e.2)
    || s.route.aesStage.any (fun e => mapFind s.route.aes e.1 != some e.2)
    || s.route.srcStage.any (fun e => getSrc s e.1 != e.2)

/-- A bed or zone map staged for an object of a Tarn. -/
def mapsStaged (s : State) (die : Nat) : Bool :=
  s.rend.objs.any fun o => sliceDie o.2.slice == die
    && (mapFind s.rend.beds o.1 != mapFind s.rend.bedStage o.1 || mapFind s.rend.zones o.1 != mapFind s.rend.zoneStage o.1)

/-- A Tarn's shadow banks differ from its active ones (R155, R242). -/
def tarnStaged (s : State) (die : Nat) : Bool :=
  geometryStaged s || s.chain.models != s.chain.modelStage || mapsStaged s die
    || (die == 2 && s.rend.geo.icoef != s.rend.geoStage.icoef)
    || (homedChannels s.member die).any (fun c => chanSet s false c != chanSet s true c)
    || s.chain.insertStage.any (fun e => match e.2 with
        | some i => coreDie i.core == die
        | none => match mapFind s.chain.inserts e.1 with
          | some i => coreDie i.core == die
          | none => false)

/-- The dies whose shadow banks differ from their active ones. -/
def stagedDies (s : State) : List Nat :=
  (if shoreStaged s then [activeShore s] else []) ++ s.member.tarnDies.filter fun d => tarnStaged s d

/-- `cfg.staged`. -/
def cfgStagedBody (_ : Request) (s : State) : Reply := replyOk (bytesLE 1 (maskOf (stagedDies s))) s

def cfgStagedOp : NcpOp := { opcode := 0x0105, layout := fun _ => [], staged := never, key := noKey, body := cfgStagedBody }

def execCfgStaged (rq : Request) (s : State) : Host.Outcome State Fault Refusal := .next (serve cfgStagedOp rq s)

/-- Every shadow bank reloaded from its active bank. DEDUCED, log 49. -/
def discardStaged (s : State) : State :=
  let s := discardPorts (discardRoutes s)
  { s with
    chain.stage := s.chain.sets, chain.modelStage := s.chain.models, chain.insertStage := [], rend.geoStage := s.rend.geo
    rend.bedStage := s.rend.beds, rend.zoneStage := s.rend.zones, msg.ncp.stagedRecs := [] }

/-- `cfg.discard`. -/
def cfgDiscardBody (_ : Request) (s : State) : Reply :=
  if s.msg.commit.isSome then refuse codeBusy 0 noField s else replyOk [] (discardStaged s)

def cfgDiscardOp : NcpOp := { opcode := 0x0101, layout := fun _ => [], staged := never, key := noKey, body := cfgDiscardBody }

def execCfgDiscard (rq : Request) (s : State) : Host.Outcome State Fault Refusal := .next (serve cfgDiscardOp rq s)

/-! ### The two phases (R54 to R57) -/

def setCommit (c : Option Commit) (s : State) : State := { s with msg.commit := c }

/-- The last index at which Nerris may send the arm (R54). DEDUCED, log 48. -/
def Commit.deadline (c : Commit) : Nat := c.c - 16 - (if c.geometry then c.u else 0)

/-- `cfg.commit`: BUSY, BAD_ARG and LATE change nothing; with no staged change it is answered at once (R55, R56). DESIGN CHOICE, log 14; DEDUCED, log 48. -/
def cfgCommitBody (rq : Request) (s : State) : Reply :=
  let c := fieldLE rq.payload 0 8
  let i := s.time.index
  let geo := geometryStaged s
  if s.msg.commit.isSome then refuse codeBusy 0 noField s
  else if i + 2 ^ 31 < c then badArg 0 s
  else if c < i + 64 ∨ (geo ∧ c < i + commitU s + 64) then refuse codeLate 0 0 s
  else if (stagedDies s).isEmpty then replyOk (bytesLE 8 c ++ bytesLE 1 0) s
  else
    let x : Commit :=
      { c := c, request := rq, dies := serviceDies s, u := commitU s, geometry := geo, prepared := [], replies := [], received := []
        armSent := false, armed := [], reported := [], shore := 0, mesh := !s.rend.geo.table.mesh.sameAs s.rend.geoStage.table.mesh }
    replyLater (emitAll (x.dies.map fun d => .prepare d c) (setCommit (some x) s))

/-- `cfg.commit`. -/
def cfgCommitOp : NcpOp := { opcode := 0x0100, layout := fun _ => [8], staged := never, key := noKey, body := cfgCommitBody }

def execCfgCommit (rq : Request) (s : State) : Host.Outcome State Fault Refusal := .next (serve cfgCommitOp rq s)

/-- A die can take a message of Nerris: it is powered, reached and not held in reset. -/
def dieAnswers (s : State) (die : Nat) : Bool :=
  powered s die && reaches s (activeShore s) die
    && !(isTarn die && (getTile s die).inReset)

/-- Why a die is not ready: Tarn 2 with a coefficient set that fails R240 (1), a Tarn that migrates a slot under a larger staged table (2). -/
def notReady (s : State) (die : Nat) : Option Nat :=
  if die = 2 ∧ !icoefValid s.rend.geoStage then some 1
  else if isTarn die && decide (s.rend.geo.table.recs.length < s.rend.geoStage.table.recs.length)
      && (tileSlices die).any (fun sl => (getSlice s sl).migrating.isSome) then some 2
  else none

/-- The shadow set of Tarn 2 copied into the shadow set of another Tarn, whose words are kept where they differ from its active set (R242). DEDUCED, log 61. -/
def copyShadow (die : Nat) (s : State) : State :=
  if die = 2 then s
  else
    let active := (getTile s die).geo
    let staged := s.rend.geoStage
    (staged.icoef.map (·.1) ++ active.icoef.map (·.1)).foldl (fun s k =>
      regPut (dieAddr die (0x442000 + 4 * k)) (icoefAt staged (k / 8) (k % 8) % 2 ^ 20).toNat s) s

/-- COMMIT_PREPARE: the die checks its shadow banks and replies (R54, R242, R252). -/
def execCommitPrepare (die : Nat) (s : State) : Host.Outcome State Fault Refusal :=
  .next (match s.msg.commit with
    | none => s
    | some c =>
      if !c.dies.contains die ∨ c.prepared.contains die ∨ !dieAnswers s die then s
      else
        let s := if isTarn die then setTile die { getTile s die with stage := 0 } s else s
        let s := if die = 2 then s.member.tarnDies.foldl (fun s d => copyShadow d s) s else s
        setCommit (some { c with prepared := c.prepared ++ [die], replies := mapSet c.replies die (notReady s die) }) s)

/-- The commit cancelled on every die: nothing swaps, the shadow banks keep their contents, and REASON is that of the not-ready die with the lowest ID, 0 for one that has not replied (R54). DEDUCED, log 47. -/
def cancelCommit (c : Commit) (s : State) : State :=
  let bad := c.dies.filterMap fun d =>
    if !c.received.contains d then some (d, 0)
    else match mapFind c.replies d with
      | some (some r) => some (d, r)
      | _ => none
  let first := bad.foldl (fun (b : Option (Nat × Nat)) e =>
    match b with
    | none => some e
    | some a => if e.1 < a.1 then some e else some a) none
  let reason := match first with
    | some e => e.2
    | none => 0
  let s := emitAll (c.dies.map fun d => .cancel d c.c) (setCommit none s)
  respond c.request 0x0100 (refuse codeAborted reason noField s) s

/-- The staged period's start: the first multiple of 64 at or after the commit sample; pending updates take the new grid (R193). -/
def armPeriod (c : Nat) (s : State) : State :=
  if s.rend.geo.period = s.rend.geoStage.period then s
  else
    let before := s.rend.geo.periodAt c
    regrid { s with rend.geoStage.since := (c + 63) / 64 * 64, rend.geoStage.before := before }

/-- The arm sent to every die, after a batch of the journal (R54, R537). -/
def sendArms (c : Commit) (s : State) : State :=
  let s := armPeriod c.c (setCommit (some { c with armSent := true }) s)
  emitAll (c.dies.map fun d => .arm d c.c) (writeJournal s)

/-- COMMIT_READY_REPLY: once every die has replied Nerris arms or, when one is not ready or the deadline has passed, cancels. DEDUCED, log 47. -/
def execCommitReadyReply (die : Nat) (s : State) : Host.Outcome State Fault Refusal :=
  .next (match s.msg.commit with
    | none => s
    | some c =>
      if !nerrisUp s ∨ c.armSent ∨ !c.prepared.contains die ∨ c.received.contains die then s
      else
        let c := { c with received := c.received ++ [die] }
        if !(c.dies.all fun d => c.received.contains d) then setCommit (some c) s
        else if c.deadline < s.time.index ∨ c.replies.any (fun e => e.2.isSome) then cancelCommit c s
        else sendArms c s)

/-- COMMIT_ARM_DEADLINE: the deadline has come and a die is not ready. DEDUCED, log 47. -/
def execCommitArmDeadline (s : State) : Host.Outcome State Fault Refusal :=
  .next (match s.msg.commit with
    | none => s
    | some c => if !nerrisUp s ∨ c.armSent ∨ s.time.index < c.deadline then s else cancelCommit c s)

/-- Whether an arm comes to a die after the tick at which it should first have swapped (R53, R59). -/
def armLate (s : State) (die c : Nat) : Bool :=
  if isTarn die then decide (c ≤ (getTile s die).index + 2)
  else if isOutlet die then decide (c + 1 ≤ (mapGet outlet0 s.outs.outlets die).index)
  else decide (c ≤ s.time.index)

/-- COMMIT_ARM: the die arms its swaps; a late arm is discarded and a commit split is fatal (R59). -/
def execCommitArm (die : Nat) (s : State) : Host.Outcome State Fault Refusal :=
  .next (match s.msg.commit with
    | none => s
    | some c =>
      if !c.armSent ∨ !c.dies.contains die ∨ c.armed.contains die ∨ !powered s die then s
      else if armLate s die c.c then fatal 6 die s
      else
        let s := setCommit (some { c with armed := c.armed ++ [die] }) s
        if isTarn die then setTile die { getTile s die with armed := some c.c, stage := 0 } s else s)

/-- A record that a commit has put in force, in place of what it replaces. -/
def settleRecord (s : State) (r : Rec) : State :=
  if r.opcode = 0x0501 then forgetRecords (fun q => q.opcode == 0x0500 && q.key == r.key) s
  else if r.opcode = 0x0300 then noteSetting false r (forgetRecords (fun q => q.opcode == 0x0301) s)
  else if r.opcode = 0x0600 then noteSetting false r (forgetRecords (fun q => q.opcode == 0x0601 && q.key == r.key) s)
  else noteSetting false r s

/-- Every staged record in force. -/
def settleRecords (s : State) : State := { (s.msg.ncp.stagedRecs.foldl settleRecord s) with msg.ncp.stagedRecs := [] }

/-- Whether a die has swapped: each at its tick, and none reports before B(C + 1) (R53, R57). DEDUCED, log 47. -/
def hasSwapped (s : State) (c : Commit) (die : Nat) : Bool :=
  decide (c.c + 1 ≤ s.time.index) && c.armed.contains die
    && (if isTarn die then (getTile s die).armed.isNone && (getTile s die).stage == 3
      else if isOutlet die then decide (c.c + 1 ≤ (mapGet outlet0 s.outs.outlets die).index)
      else c.shore == 2)

/-- COMMIT_SWAP_REPORT: once every die has reported, the response names them; a changed mesh is reported (R57, R208). -/
def execCommitSwapReport (die : Nat) (s : State) : Host.Outcome State Fault Refusal :=
  .next (match s.msg.commit with
    | none => s
    | some c =>
      if !nerrisUp s ∨ !c.dies.contains die ∨ c.reported.contains die ∨ !hasSwapped s c die then s
      else
        let c := { c with reported := c.reported ++ [die] }
        if !(c.dies.all fun d => c.reported.contains d) then setCommit (some c) s
        else
          let s := { (setCommit none s) with chain.insertStage := [] }
          let s := if c.mesh then meshEvent s else s
          respond c.request 0x0100 (replyOk (bytesLE 8 c.c ++ bytesLE 1 (maskOf c.dies)) s) s)

end Sys2Proof.Machine
end

