-- ==== Sys2Proof/Machine/Tick.lean ====
section
/-! DEFINITION. The master tick of the active Shore (R45, R46, R49): markers, swaps, ingress and egress, and how a timeline starts. -/

namespace Sys2Proof.Machine

/-! ### Swaps of the active Shore (R53, R339) -/

/-- The Shore's swap at B(C): ingress routes and ports; what was staged is in force and on record. -/
def swapIngress (s : State) : State :=
  let s := swapPorts 0 (swapRoutes isObjectInput s)
  settleRecords { s with rend.geo := s.rend.geoStage }

/-- The Shore's swap at B(C + 1): egress routes and ports. -/
def swapEgress (s : State) : State := swapPorts 1 (swapRoutes (fun e => !isObjectInput e) s)

/-- The swaps due at tick `k` once the Shore is armed. -/
def shoreSwaps (k : Nat) (s : State) : State :=
  match s.msg.commit with
  | none => s
  | some c =>
    if !c.armed.contains (activeShore s) then s
    else
      let s := if c.shore = 0 ∧ c.c ≤ k then swapIngress s else s
      let s := if c.shore < 2 ∧ c.c + 1 ≤ k then swapEgress s else s
      setCommit (some { c with shore := if c.c + 1 ≤ k then 2 else if c.c ≤ k then 1 else c.shore }) s

/-! ### The work of a tick -/

/-- A tick marker on every link from the Shore to a Tarn. -/
def sendMarkers (k : Nat) (s : State) : State :=
  emitAll ((s.member.tarnDies.filter fun d => powered s d && linkUpBetween s (activeShore s) d).map fun d => .marker d k) s

/-- The samples of ports, streams and rings for input `k`. -/
def ingressInputs (k : Nat) (s : State) : State :=
  ringInputs k (streamInputs k (portInputs k { s with route.inputs := [] }))

/-- Delivery: the sample of every routed object input goes to the Tarn of its slice (R49, R334). -/
def deliverInputs (s : State) : State :=
  let s := (liveDsts s isObjectInput).foldl (fun s e =>
    let (v, s) := dstSample (ingressSample s) e s
    match getObj s (epChannel e) with
    | none => s
    | some o =>
      let die := sliceDie o.slice
      let t := getTile s die
      setTile die { t with inbox := mapSet t.inbox (epChannel e) v } s) s
  (s.member.tarnDies.filter fun d => powered s d && linkUpBetween s (activeShore s) d).foldl (fun s d =>
    setTile d { getTile s d with delivered := true } s) s

/-- What the mutes leave of an output's sample: silence in a mute that has ended, a ramp to zero while `cfg.rate` mutes (R155, with the law of R337). DEDUCED, log 91. -/
def mutedSample (s : State) (v : Int) : Int :=
  if s.time.muted then 0
  else match s.msg.ncp.rateChange with
    | some r => roundDiv (v * (r.mute - 1 : Nat)) 64
    | none => v

/-- Egress: every output destination takes the feed given last, under the mutes (R49). -/
def takeFeeds (s : State) : State :=
  (liveDsts s fun e => !isObjectInput e).foldl (fun s e =>
    let (_, s) := dstSample (egressSource s) e s
    let d := getDst s e
    let v := mutedSample s d.last
    if v = d.last then s else setDst e { d with last := v } s) s

/-- Every timeline stops: no marker, no tick, nothing armed. -/
def stopTimeline (s : State) : State :=
  { s with
    time.rendering := false
    rend.tiles := s.rend.tiles.map fun (e : Nat × Tile) => (e.1, { e.2 with ticking := false, armed := none, holdover := false })
    route.dsts := s.route.dsts.map fun (e : Nat × Dst) => (e.1, { e.2 with last := 0 }) }

/-- A sample of the mute of `cfg.rate` is out: the timeline stops after the last one. DEDUCED, logs 50, 91. -/
def muteRate (s : State) : State :=
  match s.msg.ncp.rateChange with
  | none => s
  | some r =>
    let s := { s with msg.ncp.rateChange := some { r with mute := r.mute - 1 } }
    if r.mute ≤ 1 then stopTimeline s else s

/-- The outputs of feed `k` leave by ports, streams and capture rings. -/
def sendOutputs (k : Nat) (s : State) : State := ringCaptures k (streamOutputs k (aesOutputs k (tdmOutputs k s)))

/-- What the Shore does at B(k). -/
def tickWork (k : Nat) (s : State) : State :=
  let s := { s with time.index := k, time.tickSec := s.time.ptp.sec, time.tickNs := s.time.ptp.ns }
  let s := stepSrcs (endFades (fun _ => true) (shoreSwaps k s))
  let s := deliverInputs (ingressInputs k (sendMarkers k s))
  sendOutputs (k - 1) (takeFeeds s)

/-- MASTER_TICK: `cycles` of the timer clock have passed since the tick before, and the synthesiser's phase error is `phase` ns. DESIGN CHOICE, log 3; DEDUCED, log 52. -/
def execMasterTick (cycles : Nat) (phase : Int) (s : State) : Host.Outcome State Fault Refusal :=
  .next (
    if !rendering s ∨ !nerrisUp s then s
    else
      let s := advanceTime cycles s
      let k := s.time.index + 1
      let (s, d) := mclkTick k phase (forceBuses (k - 1) s)
      muteRate (tickWork k (slipStreams k d s)))

/-! ### Starting a timeline (R45, R60) -/

/-- A tile that starts with tick `k`: it runs with the settings in force, nothing in its pipeline. -/
def startTile (s : State) (k : Nat) (t : Tile) : Tile :=
  { t with
    index := k - 1, ticking := true, missing := 0, markerAt := k - 1, holdover := false, holdMute := false, mutePos := 64
    delivered := false, inbox := [], lastInputs := [], armed := none, stage := 0, geo := s.rend.geo, chGeo := s.rend.geo
    ownSums := [], ownIndex := k - 1, arrived := [], busSends := [], busFrom := [], busIndex := k - 1 }

/-- The boundary of the update period that holds the matrix's first feed, k + 2. -/
def firstBoundary (s : State) (k : Nat) : Nat := (k + 2) / periodAt s k * periodAt s k

/-- The boundaries whose records would have been frozen before index `k`. -/
def startBoundaries (s : State) (k : Nat) : List Nat :=
  let u := periodAt s k
  ((List.range 4).map fun j => firstBoundary s k + j * u).filter fun b => decide (b < k + u + 16)

/-- A pair that stands at its target. -/
def Pair.settled (p : Pair) : Pair := { p with gainB := (p.target.gain : Int) * 64, gainStep := 0 }

/-- A slice that starts with tick `k`: the boundaries near at hand frozen from the records in force, and the first of them loaded. Objects allocated before the start (`fresh`) ramp in from zero over that first update period (R597); those that a timeline before had stand at their targets. -/
def startSlice (fresh : Bool) (k sl : Nat) (s : State) : State :=
  let u := periodAt s k
  let x := getSlice s sl
  let x := { x with boundary := firstBoundary s k - u, period := u, windows := [], pairs := [], sums := [], prevSums := [] }
  let s := loadBoundary sl (firstBoundary s k) ((startBoundaries s k).foldl (fun s b => freezeSlice sl b s) (setSlice sl x s))
  if fresh then s
  else
    let y := getSlice s sl
    setSlice sl { y with pairs := y.pairs.map fun o => (o.1, o.2.map fun p => (p.1, p.2.settled)) } s

/-- The update periods start afresh with a timeline: one period, no change of grid ahead. -/
def settlePeriod (s : State) : State :=
  { s with rend.geo.since := 0, rend.geo.before := s.rend.geo.period, rend.geoStage.since := 0, rend.geoStage.before := s.rend.geo.period }

/-- The index of R45: floor(T × Fr). -/
def freshIndex (s : State) : Nat := ptpSamples s.time.ptp (rateHz s.time.rate) % 2 ^ 64

/-- A timeline starts at index `k`. -/
def startTimelineAt (fresh : Bool) (k : Nat) (s : State) : State :=
  let s := settlePeriod s
  let s := { s with time.rendering := true, time.muted := false, time.mclk.delta := 0, time.mclk.phase := 0, time.mclk.reanchor := false
                    route.feeds := [], route.prevFeeds := [], route.direct := [] }
  let s := (s.member.tarnDies.filter (powered s)).foldl (fun s d => setTile d (startTile s k (getTile s d)) s) s
  let s := (List.range s.member.slices).foldl (fun s sl => startSlice fresh k sl s) s
  let s := s.member.outletDies.foldl (fun s d =>
    { s with outs.outlets := mapMod outlet0 s.outs.outlets d fun o => { o with index := k - 1, noFeed := 0 } }) s
  tickWork k s

/-- A timeline starts with the fresh index of R45. -/
def startTimeline (fresh : Bool) (s : State) : State := startTimelineAt fresh (freshIndex s) s

/-- The history of every slice reads zero; pairs, windows and sums go, and the chain's state with them. -/
def clearSound (s : State) : State :=
  let s := s.member.tarnDies.foldl (fun s d => clearMem (pondAddr d 0 0) (pondAddr d 192 0) s) s
  { s with
    rend.slices := s.rend.slices.map fun (e : Nat × Slice) =>
      (e.1, { e.2 with windows := [], pairs := [], sums := [], prevSums := [], migrating := none })
    chain.states := [] }

end Sys2Proof.Machine
end

