-- ==== Sys2Proof/Machine/Outs.lean ====
section
/-! DEFINITION. Line DAC channels, the settings of the sense chain and of the auxiliary converter (R431 to R451). -/

namespace Sys2Proof.Machine

def getDac (s : State) (c : Nat) : Dac := mapGet dac0 s.outs.dacs c
def setDac (c : Nat) (d : Dac) (s : State) : State := { s with outs.dacs := mapSet s.outs.dacs c d }
def getSense (s : State) (c : Nat) : Sense := mapGet sense0 s.outs.senses c
def setSense (c : Nat) (x : Sense) (s : State) : State := { s with outs.senses := mapSet s.outs.senses c x }
/-- Auxiliary inputs are keyed die × 16 + input. -/
def auxKey (die input : Nat) : Nat := die * 16 + input
def getAux (s : State) (k : Nat) : Aux := mapGet aux0 s.outs.auxs k
def setAux (k : Nat) (x : Aux) (s : State) : State := { s with outs.auxs := mapSet s.outs.auxs k x }
def getOutlet (s : State) (die : Nat) : Outlet := mapGet outlet0 s.outs.outlets die
def setOutlet (die : Nat) (x : Outlet) (s : State) : State := { s with outs.outlets := mapSet s.outs.outlets die x }

/-- The global channels of an Outlet. -/
def outletChannels (die : Nat) : List Nat := (List.range 16).map fun n => (die - 6) * 16 + n
/-- An Outlet works: present and powered. -/
def outletWorks (s : State) (die : Nat) : Bool := s.member.outletDies.contains die && powered s die

/-! ### The line DAC path (R431 to R438) -/

/-- 1.333 ms in cycles of the timer clock. DEDUCED, log 81. -/
def clearMoveCycles : Nat := 208333

/-- The clear code as driven: on its way to a new value for 1.333 ms (R434). DEDUCED, log 81. -/
def Dac.clearNow (now : Nat) (d : Dac) : Int :=
  match d.moving with
  | none => d.clear
  | some (start, t0) =>
    let e := now - t0
    if clearMoveCycles ≤ e then d.clear else roundDiv (start * (clearMoveCycles - e : Nat) + d.clear * e) clearMoveCycles

/-- One update of the slew limiter at 8 × Fr: the limiter's output in 2⁻¹⁶ codes and whether it acted (R438). -/
def slewStep (step rate hz : Nat) (x acc : Int) : Int × Bool :=
  let want := x * 65536
  if step = 0 then (want, false)
  else
    let most : Int := (step * min rate (8 * hz) * 65536 / (8 * hz) : Nat)
    let d := want - acc
    if d ≤ most ∧ -most ≤ d then (want, false) else (if 0 < d then acc + most else acc - most, true)

/-- The channel carries its feed, or is on its way to it (R436, R437); outside RUN it stays at its clear code (R558). DEDUCED, log 82. -/
def carriesFeed (s : State) (c : Nat) : Bool :=
  let o := getOutlet s (channelDie c)
  (getDac s c).enable && !o.loss && !o.hub && !s.outs.dacClr && s.sys.ao.power == .run

/-- A line DAC channel in an Outlet tick: the code of its feed, the filter, the crossfade and the limiter at 8 × Fr (R432). DEDUCED, log 81. -/
def dacTick (c : Nat) (s : State) : State :=
  let d := getDac s c
  let (code, sat) := wordOut 24 (getDst s (0x50000000 + c)).last
  let s := if sat then count (0x5000 + 4 * c) s else s
  let hist := (code :: d.hist).take 32
  if s.outs.dacClr then setDac c { d with hist := hist, pos := 0, code := d.clear, acc := d.clear * 65536, limiting := false, moving := none } s
  else
    let pos := if carriesFeed s c then min 64 (d.pos + 1) else d.pos - 1
    let clear := d.clearNow s.now
    let input := fun (p : Nat) => satInt 24 (roundDiv (clear * (64 - pos : Nat) + satInt 24 (Config.dacFilter p hist) * pos) 64)
    let (acc, acted, n) := (List.range 8).foldl (fun (a : Int × Bool × Nat) p =>
      let (v, hit) := slewStep d.step d.rate (rateHz s.time.rate) (input p) a.1
      (v, hit, a.2.2 + flag hit)) (d.acc, false, 0)
    let moving := if clearMoveCycles ≤ s.now - (d.moving.getD (0, 0)).2 then none else d.moving
    setDac c { d with hist := hist, pos := pos, acc := acc, code := satInt 24 (roundDiv acc 65536), limiting := acted, moving := moving }
      (countBy (0x5000 + 4 * c + 1) n s)

/-- A new clear code: a channel that is not enabled moves to it, and under DAC_CLR it is driven at once (R434, R436). -/
def Dac.setClear (now : Nat) (held : Bool) (v : Int) (d : Dac) : Dac :=
  if held then { d with clear := v, moving := none, code := v, acc := v * 65536 }
  else if d.enable ∨ v = d.clear then { d with clear := v }
  else { d with clear := v, moving := some (d.clearNow now, now) }

/-- The state that `out.dac.status` reports (R449). DEDUCED, log 82. -/
def dacState (s : State) (c : Nat) : Nat :=
  let d := getDac s c
  let o := getOutlet s (channelDie c)
  if d.enable && s.outs.dacClr then 4
  else if d.enable && (o.loss || o.hub) then (if d.pos = 0 then 5 else 3)
  else if d.enable then (if d.pos = 64 then 2 else 1)
  else if d.pos = 0 then 0 else 3

/-- The field of a channel that the member lacks (R160). -/
def channelRefused (s : State) (c : Nat) : Bool := decide (s.member.channels ≤ c)

def outDacCfgBody (rq : Request) (s : State) : Reply :=
  let p := rq.payload
  let c := byteAt p 0
  let enable := min 1 (byteAt p 1)
  let rate := fieldLE p 4 4
  let used := min rate (8 * rateHz s.time.rate)
  let code := fieldS p 8 4
  let clear := clampInt (-8388608) 8388607 code
  if channelRefused s c then badArg 0 s
  else if rate = 0 then badArg 4 s
  else
    let d := Dac.setClear s.now s.outs.dacClr clear (getDac s c)
    let d := { d with enable := enable == 1, step := fieldLE p 2 2, rate := used }
    let lim := firstBad [(1, enable == byteAt p 1), (4, used == rate), (8, clear == code)]
    let echo := bytesLE 1 c ++ bytesLE 1 enable ++ slice p 2 2 ++ bytesLE 4 used ++ bytesS 4 clear
    replyUsed lim [] echo (setDac c d (if s.outs.dacClr then emit (.dacClear c clear) s else s))

/-- `out.dac.cfg`. -/
def outDacCfgOp : NcpOp :=
  { opcode := 0x0900, layout := fun _ => [1, 1, 2, 4, 4], staged := never, key := keyBytes 1, body := outDacCfgBody }

def execOutDacCfg (rq : Request) (s : State) : Host.Outcome State Fault Refusal := .next (serve outDacCfgOp rq s)

def outDacStatusBody (rq : Request) (s : State) : Reply :=
  let c := byteAt rq.payload 0
  let d := getDac s c
  if channelRefused s c then badArg 0 s
  else replyOk (bytesLE 1 (dacState s c) ++ bytesLE 1 (flag s.outs.dacClr) ++ bytesLE 2 0 ++ bytesS 4 d.clear ++ bytesS 4 d.code
    ++ bytesLE 4 d.step ++ bytesLE 4 (min d.rate (8 * rateHz s.time.rate))) s

/-- `out.dac.status`. -/
def outDacStatusOp : NcpOp := { opcode := 0x0906, layout := fun _ => [1], staged := never, key := noKey, body := outDacStatusBody }

def execOutDacStatus (rq : Request) (s : State) : Host.Outcome State Fault Refusal := .next (serve outDacStatusOp rq s)

/-- DAC_CLR taken: each working Outlet counts it and its channels drive their clear codes (R436). -/
def clearDacs (s : State) : State :=
  (s.member.outletDies.filter (outletWorks s)).foldl (fun s die =>
    (outletChannels die).foldl (fun s c =>
      let d := getDac s c
      emit (.dacClear c d.clear) (setDac c { d with pos := 0, code := d.clear, acc := d.clear * 65536, limiting := false, moving := none } s))
      (count (0x5080 + (die - 6)) s)) { s with outs.dacClr := true }

/-- DAC_CLR_RISE: the pin goes high for `ns`; a pulse of 50 ns or more is taken, and whether a shorter one is, is open (R436). DEDUCED, log 81. -/
def execDacClrRise (ns : Nat) (s : State) : Host.Outcome State Fault Refusal :=
  .next (
    if s.outs.dacClr ∨ s.member.outletDies.isEmpty then s
    else if 50 ≤ ns then clearDacs s
    else
      let (b, s) := drawFree s
      if b.getLsbD 0 then clearDacs s else s)

/-- DAC_CLR_FALL: enabled channels crossfade to their feeds from the next Outlet tick. -/
def execDacClrFall (s : State) : Host.Outcome State Fault Refusal := .next { s with outs.dacClr := false }

/-! ### Sense settings (R439 to R444) -/

/-- Nanoseconds of `n` half clocks of 6.144 MHz. -/
def modNs (n : Nat) : Nat := (roundDiv (n * 15625 : Nat) 192).toNat

/-- Group delay of a sense input: N × (M − 1) / 2 + p × M + 4 modulator clocks (R443). -/
def senseDelay (log2M order peak : Nat) : Nat := modNs (order * (2 ^ log2M - 1) + 2 * peak * 2 ^ log2M + 8)

/-- The coefficient bank in force, and the peak tap of a set: 15 for a factory set. -/
def Sense.coefs (x : Sense) : List Int := if x.bank = 0 then x.coef0 else x.coef1
def Sense.peak (x : Sense) : Nat := if x.loaded then peakTap (if x.pending then (if x.bank = 0 then x.coef1 else x.coef0) else x.coefs) else 15

/-- Powers of two. -/
def log2Of (m : Nat) : Option Nat := (List.range 17).find? fun k => 2 ^ k == m

/-- DEDUCED, log 83. -/
def outSenseCfgBody (rq : Request) (s : State) : Reply :=
  let p := rq.payload
  let c := byteAt p 0
  let order := clampNat 1 4 (byteAt p 1)
  if channelRefused s c then badArg 0 s
  else match log2Of (fieldLE p 2 2) with
    | none => badArg 2 s
    | some l =>
      let log2M := clampNat 3 9 l
      let x := getSense s c
      let changed := x.log2M != log2M || x.order != order
      let x := { x with log2M := log2M, order := order, loaded := (byteAt p 4).testBit 0, vfs := fieldLE p 8 4, ifs := fieldLE p 12 4
                        restartDue := x.restartDue || changed }
      let m := 2 ^ log2M
      let lim := firstBad [(1, order == byteAt p 1), (2, log2M == l)]
      let echo := bytesLE 1 c ++ bytesLE 1 order ++ bytesLE 2 m ++ slice p 4 12
      replyUsed lim (bytesLE 4 (6144000 / m) ++ bytesLE 4 (senseDelay log2M order x.peak) ++ bytesLE 4 (modNs (2 * (order + 31) * m)))
        echo (setSense c x s)

/-- `out.sense.cfg` (R442). -/
def outSenseCfgOp : NcpOp :=
  { opcode := 0x0907, layout := fun _ => [1, 1, 2, 1, 3, 4, 4], staged := never, key := keyBytes 1, body := outSenseCfgBody }

def execOutSenseCfg (rq : Request) (s : State) : Host.Outcome State Fault Refusal := .next (serve outSenseCfgOp rq s)

def outSenseCoefBody (rq : Request) (s : State) : Reply :=
  let p := rq.payload
  let c := byteAt p 0
  if channelRefused s c then badArg 0 s
  else
    let cs := (List.range 31).map fun i => signed 24 (fieldLE p (4 + 4 * i) 4)
    let x := getSense s c
    let x := if x.bank = 0 then { x with coef1 := cs, pending := true } else { x with coef0 := cs, pending := true }
    replyOk (bytesLE 1 (peakTap cs) ++ bytesLE 3 0 ++ bytesLE 4 (senseDelay x.log2M x.order (peakTap cs))) (setSense c x s)

/-- `out.sense.coef` writes the inactive bank (R441). -/
def outSenseCoefOp : NcpOp :=
  { opcode := 0x0908, layout := fun _ => [1, 3] ++ List.replicate 31 4, staged := never, key := keyBytes 1, body := outSenseCoefBody }

def execOutSenseCoef (rq : Request) (s : State) : Host.Outcome State Fault Refusal := .next (serve outSenseCoefOp rq s)

/-- A sample in mV or mA: modulator full scale is 2²³ (R444). -/
def senseScaled (v : Int) (fs : Nat) : Int := roundDiv (v * fs) (2 ^ 23)

def outSenseReadBody (rq : Request) (s : State) : Reply :=
  let c := byteAt rq.payload 0
  let x := getSense s c
  if channelRefused s c then badArg 0 s
  else replyOk (bytesS 4 (senseScaled x.v x.vfs) ++ bytesS 4 (senseScaled x.i x.ifs) ++ bytesS 4 x.v ++ bytesS 4 x.i
    ++ bytesLE 1 (flagAt x.valid 0 + flagAt x.valid 1 + flagAt x.ovlV 2 + flagAt x.ovlI 3) ++ bytesLE 3 0) s

/-- `out.sense.read`. -/
def outSenseReadOp : NcpOp := { opcode := 0x0909, layout := fun _ => [1], staged := never, key := noKey, body := outSenseReadBody }

def execOutSenseRead (rq : Request) (s : State) : Host.Outcome State Fault Refusal := .next (serve outSenseReadOp rq s)

/-- The compensation FIR over a history, newest first (R440). -/
def senseFir (x : Sense) (hist : List Int) : Int :=
  let cs := if x.loaded then x.coefs else (List.range 31).map (Config.senseFactory x.order)
  satInt 24 (roundDiv (((List.range 31).map fun k => cs.getD k 0 * hist.getD k 0).sum) (2 ^ 22))

/-- A decimated sample beyond ±0.8 of full scale (R444). -/
def overloaded (v : Int) : Bool := decide (6710886 < v.natAbs)

/-- One output of a channel's decimators: a bank swap and a restart take place here, and a failed coefficient read takes the sample without the FIR (R441, R442, R445). DEDUCED, log 83. -/
def senseStep (ch : Nat) (v i : Int) (x : Sense) (s : State) : Sense × State :=
  let x := if x.pending then { x with bank := 1 - x.bank, pending := false } else x
  if x.restartDue then
    ({ x with histV := [], histI := [], restart := x.order + 31, restartDue := false, valid := false }, count (0x5100 + 4 * ch + 3) s)
  else
    let v := satInt 24 v
    let i := satInt 24 i
    let x := { x with histV := (v :: x.histV).take 31, histI := (i :: x.histI).take 31 }
    let ov := overloaded v
    let oi := overloaded i
    let s := countBy (0x5100 + 4 * ch) (flag ov) (countBy (0x5100 + 4 * ch + 1) (flag oi) s)
    let (yv, yi) := if x.conceal then (v, i) else (senseFir x x.histV, senseFir x x.histI)
    let s := if x.conceal then memEvent (channelDie ch) 0xFA 1 0 (count (0x5100 + 4 * ch + 2) s) else s
    ({ x with v := yv, i := yi, ovlV := ov, ovlI := oi, restart := x.restart - 1, valid := decide (x.restart ≤ 1), conceal := false }, s)

/-! ### The auxiliary converter (R446 to R448) -/

/-- A conversion in its input's unit; the scale of each input is the board's. DESIGN CHOICE, log 11. -/
def auxValue (input : Nat) (raw : Int) : Int := Config.unstated 446 (input * 2 ^ 24 + (raw % 2 ^ 24).toNat)

/-- Scan time of an Outlet: 16 + N × M + 4 clocks for each enabled input (R447). -/
def scanNs (s : State) (die : Nat) : Nat :=
  modNs (2 * (((List.range 16).filter fun i => (getAux s (auxKey die i)).enable).map fun i =>
    let x := getAux s (auxKey die i)
    20 + x.n * x.m).sum)

/-- DEDUCED, log 84. -/
def outAuxCfgBody (rq : Request) (s : State) : Reply :=
  let p := rq.payload
  let die := byteAt p 0
  let input := min 15 (byteAt p 1)
  let n := clampNat 1 4 (byteAt p 4)
  let enable := min 1 (byteAt p 5)
  let low := fieldS p 8 4
  let high := fieldS p 12 4
  if !s.member.outletDies.contains die then badArg 0 s
  else match log2Of (fieldLE p 2 2) with
    | none => badArg 2 s
    | some l =>
      if high < low then badArg 8 s
      else
        let m := 2 ^ clampNat 3 9 l
        let k := auxKey die input
        let x := getAux s k
        let x := { x with m := m, n := n, enable := enable == 1, low := low, high := high, valid := x.valid && enable == 1 }
        let s := setAux k x s
        let lim := firstBad [(1, input == byteAt p 1), (2, m == 2 ^ l), (4, n == byteAt p 4), (5, enable == byteAt p 5)]
        replyUsed lim (bytesLE 1 die ++ bytesLE 1 input ++ bytesLE 2 m ++ bytesLE 1 n ++ bytesLE 1 enable ++ bytesLE 2 0 ++ bytesS 4 low
          ++ bytesS 4 high ++ bytesLE 4 (scanNs s die)) [] s

/-- `out.aux.cfg`. -/
def outAuxCfgOp : NcpOp :=
  { opcode := 0x090A, layout := fun _ => [1, 1, 2, 1, 1, 2, 4, 4], staged := never, key := keyBytes 2, body := outAuxCfgBody }

def execOutAuxCfg (rq : Request) (s : State) : Host.Outcome State Fault Refusal := .next (serve outAuxCfgOp rq s)

def outAuxReadBody (rq : Request) (s : State) : Reply :=
  let die := byteAt rq.payload 0
  let x := fun i => getAux s (auxKey die i)
  if !s.member.outletDies.contains die then badArg 0 s
  else replyOk ((List.range 16).flatMap (fun i => bytesS 4 (auxValue i (x i).raw))
    ++ bytesLE 2 (maskOf ((List.range 16).filter fun i => (x i).valid)) ++ bytesLE 2 0 ++ bytesLE 4 (scanNs s die)) s

/-- `out.aux.read`. -/
def outAuxReadOp : NcpOp := { opcode := 0x090B, layout := fun _ => [1], staged := never, key := noKey, body := outAuxReadBody }

def execOutAuxRead (rq : Request) (s : State) : Host.Outcome State Fault Refusal := .next (serve outAuxReadOp rq s)

/-- A result beyond a limit, or the fourth in a row back inside (R448). DEDUCED, log 84. -/
def auxLimits (die input : Nat) (value : Int) (s : State) : State :=
  let k := auxKey die input
  let x := getAux s k
  let report := fun (kind : Nat) (s : State) =>
    eventLimited (0x70000 + k) 20 die 0x0983 0xFFFF (bytesLE 1 die ++ bytesLE 1 input ++ bytesLE 1 kind ++ bytesLE 1 0 ++ bytesS 4 value) s
  if value < x.low ∨ x.high < value then
    let s := setAux k { x with limit := true, inside := 0 } s
    let s := if x.limit then s else count (0x5180 + 16 * (die - 6) + input) s
    report (if value < x.low then 0 else 1) s
  else if x.limit then
    if 3 ≤ x.inside then report 2 (setAux k { x with limit := false, inside := 0 } s) else setAux k { x with inside := x.inside + 1 } s
  else s

end Sys2Proof.Machine
end

