-- ==== Sys2Proof/Machine/Amp.lean ====
section
/-! DEFINITION. The power stage: reference path, starts and stops, faults, retries, boost, pilot tone (R452 to R486), the Outlet tick and the conversions of the sense chain. -/

namespace Sys2Proof.Machine

def getAmp (s : State) (c : Nat) : Amp := mapGet amp0 s.outs.amps c
def setAmp (c : Nat) (a : Amp) (s : State) : State := { s with outs.amps := mapSet s.outs.amps c a }
def getBoost (s : State) (g : Nat) : Boost := mapGet boost0 s.outs.boosts g
def setBoost (g : Nat) (b : Boost) (s : State) : State := { s with outs.boosts := mapSet s.outs.boosts g b }

/-- The group of a channel, its channels and the Outlet of a controller (R452). -/
def groupOf (c : Nat) : Nat := c / 4
def groupChannels (g : Nat) : List Nat := (List.range 4).map fun j => 4 * g + j
def boostDie (g : Nat) : Nat := 6 + g / 4

/-! ### Events of an Outlet (R466) -/

/-- An event of an Outlet: while no Shore is active the Outlet keeps up to 16. DEDUCED, log 85. -/
def outletEvent (die cls op flow : Nat) (fields : List Byte) (s : State) : State :=
  if nerrisUp s then event cls die op flow fields s
  else
    let o := getOutlet s die
    if o.kept.length < 16 then setOutlet die { o with kept := o.kept ++ [{ cls := cls, opcode := op, flow := flow, fields := fields }] } s
    else s

/-- The events that Outlets have kept, sent by the Shore that has taken over. -/
def sendKept (s : State) : State :=
  s.member.outletDies.foldl (fun s die =>
    let o := getOutlet s die
    o.kept.foldl (fun s e => event e.cls die e.opcode e.flow e.fields s) (setOutlet die { o with kept := [] } s)) s

/-- `amp.fault`. -/
def ampFault (c cause : Nat) (latched : Bool) (s : State) : State :=
  let a := getAmp s c
  outletEvent (channelDie c) 8 0x0980 c (bytesLE 1 c ++ bytesLE 1 cause ++ bytesLE 1 a.retries ++ bytesLE 1 (flag latched))
    (setAmp c { a with cause := cause } s)

/-- `amp.boost`. -/
def boostEvent (g cause : Nat) (s : State) : State := outletEvent (boostDie g) 9 0x0982 0xFFFF (bytesLE 1 g ++ bytesLE 1 cause) s

/-! ### States of a channel (R463 to R466) -/

/-- The gate commands switch. -/
def AmpState.switching : AmpState → Bool
  | .startHold => true
  | .holding => true
  | .fadingIn => true
  | .running => true
  | .fadingOut => true
  | .stopHold => true
  | _ => false

/-- The channel runs or fades. -/
def AmpState.sounding : AmpState → Bool
  | .fadingIn => true
  | .running => true
  | .fadingOut => true
  | _ => false

/-- STATE of `amp.status` and AMP_CHn_STATUS. DEDUCED, log 85. -/
def AmpState.code : AmpState → Nat
  | .fadingIn => 1
  | .running => 1
  | .fadingOut => 1
  | .waiting => 2
  | .latched => 3
  | _ => 0

/-- A condition asks for off through a fade, or for holding (R466). -/
def wantsStop (a : Amp) : Bool := a.mode == 0 || a.heat
def wantsHold (s : State) (c : Nat) : Bool :=
  let o := getOutlet s (channelDie c)
  let a := getAmp s c
  o.loss || o.hub || o.rate || a.resizing || a.check

/-- The channel takes its next step at an Outlet tick: fades start, go on and end (R463 to R466). -/
def ampStep (s : State) (c : Nat) : Amp :=
  let a := getAmp s c
  let stop := wantsStop a || pinsDriven s || s.sys.ao.power != .run || s.sys.fatal.halted
  let hold := wantsHold s c
  let up := fun (a : Amp) => { a with st := if 63 ≤ a.fade then .running else .fadingIn, fade := min 64 (a.fade + 1) }
  let down := fun (a : Amp) =>
    { a with st := if a.fade ≤ 1 then (if stop then .stopHold else .holding) else .fadingOut, fade := a.fade - 1 }
  match a.st with
  | .holding => if stop then { a with st := .stopHold } else if hold then a else up a
  | .fadingIn => if stop || hold then down a else up a
  | .running => if stop || hold then down a else a
  | .fadingOut => if stop || hold then down a else up a
  | _ => a

/-- Everything of a channel's loop that ends when its gate commands fall. -/
def Amp.gatesLow (st : AmpState) (a : Amp) : Amp :=
  { a with st := st, fade := 0, check := false, syncLock := false, clip := false, line := [] }

/-- A channel leaves the off state: it waits for its rail (R464). -/
def Amp.begin (check : Bool) (a : Amp) : Amp :=
  { a with st := .starting, fade := 0, check := check, retryDue := false, expired := false }

/-- A channel that may start does: its mode is not 0 and its group is not hot; a hot one waits. -/
def ampMayStart (c : Nat) (s : State) : State :=
  let a := getAmp s c
  if a.mode = 0 ∨ a.st ≠ .off ∨ pinsDriven s ∨ s.sys.ao.power ≠ .run ∨ s.sys.fatal.halted then s
  else if a.heat then setAmp c { a with st := .waiting } s
  else setAmp c (a.begin false) s

/-! ### Locking to the reference (R461, R462) -/

/-- The reference an Outlet has, 0 when absent. -/
def syncRef (o : Outlet) : Nat := if o.syncExt then (if o.refLost then 0 else o.refHz) else o.syncHz

/-- A mode-2 channel tries its reference: it locks between 0.60 and 1.05 times its idle frequency, and a failure is a sync slip. -/
def trySync (c hz : Nat) (s : State) : State :=
  let a := getAmp s c
  if a.mode ≠ 2 ∨ !a.st.switching then setAmp c { a with syncLock := false } s
  else
    let idle := a.idle * 1000
    let fits := decide (60 * idle ≤ 100 * hz) && decide (100 * hz ≤ 105 * idle) && hz != 0
    let s := setAmp c { a with syncLock := fits } s
    if fits then s else count (0x5200 + 8 * c + 7) s

/-- Every channel of an Outlet tries its reference. -/
def trySyncAll (die : Nat) (s : State) : State :=
  (outletChannels die).foldl (fun s c => trySync c (syncRef (getOutlet s die)) s) s

/-! ### Starts and stops -/

/-- CHANNEL_START: its rail is in range; the bridges are released at half duty. LOOP_K 0 is taken as 1 at the start (R464, R485). -/
def execChannelStart (ch : Nat) (s : State) : Host.Outcome State Fault Refusal :=
  .next (
    let a := getAmp s ch
    if channelRefused s ch ∨ !outletWorks s (channelDie ch) ∨ a.st ≠ .starting ∨ pinsDriven s then s
    else setAmp ch { a with st := .startHold, line := [], pilotPhase := 0, dcSum := 0, dcN := 0, dcTotal := 0 } s)

/-- START_HOLD_END: the idle frequency is judged, a mode-2 channel locks, and the fade-in comes with the next Outlet tick that no condition holds (R459, R464). -/
def execStartHoldEnd (ch kHz refHz : Nat) (s : State) : Host.Outcome State Fault Refusal :=
  .next (
    let a := getAmp s ch
    if channelRefused s ch ∨ !outletWorks s (channelDie ch) ∨ a.st ≠ .startHold then s
    else
      let bad := decide (kHz < 300) || decide (700 < kHz)
      let s := setAmp ch { a with st := .holding, idle := kHz, freqErr := a.freqErr || bad } s
      let s := if bad then count (0x5300 + 4 * ch + 3) s else s
      trySync ch (if (getOutlet s (channelDie ch)).syncExt then refHz else (getOutlet s (channelDie ch)).syncHz) s)

/-- CHANNEL_STOP_COMPLETE: the gate commands fall; a hot channel waits, one whose mode has been set again starts afresh (R465, R473). -/
def execChannelStopComplete (ch : Nat) (s : State) : Host.Outcome State Fault Refusal :=
  .next (
    let a := getAmp s ch
    if channelRefused s ch ∨ !outletWorks s (channelDie ch) ∨ a.st ≠ .stopHold then s
    else
      let s := setAmp ch (a.gatesLow .off) s
      ampMayStart ch s)

/-! ### Faults and retries (R467 to R471) -/

/-- A retry that has failed: counted; the eighth in a row latches. DEDUCED, log 85. -/
def retryFailed (c : Nat) (s : State) : State :=
  let a := getAmp s c
  let n := min 15 (a.retries + 1)
  let last := decide (8 ≤ n)
  let a := { a.gatesLow (if last then .latched else .waiting) with retries := n, retryDue := !last, expired := false, recent := false }
  count (0x5200 + 8 * c + 3) (setAmp c a s)

/-- A protection shutdown with its cause (R468, R470). DEDUCED, log 85. -/
def shutDown (c cause : Nat) (s : State) : State :=
  let a := getAmp s c
  let g := groupOf c
  let s := count (0x5200 + 8 * c + 2) (setBoost g { getBoost s g with floorDue := true } s)
  if a.check then
    let s := retryFailed c s
    let latched := (getAmp s c).st == .latched
    ampFault c (if latched then 7 else 6) latched s
  else if a.retryMs = 0 then ampFault c cause true (setAmp c { a.gatesLow .latched with recent := false } s)
  else if a.recent then
    let s := retryFailed c s
    let latched := (getAmp s c).st == .latched
    ampFault c (if latched then 7 else cause) latched s
  else ampFault c cause false (setAmp c { a.gatesLow .waiting with retryDue := true, expired := false } s)

/-- CYCLE_TRIP: the `consecutive`-th switching cycle in a row with a trip; three shut the channel down, and in a retry check the first fails it. -/
def execCycleTrip (ch consecutive : Nat) (s : State) : Host.Outcome State Fault Refusal :=
  .next (
    let a := getAmp s ch
    if channelRefused s ch ∨ !outletWorks s (channelDie ch) ∨ !a.st.switching then s
    else
      let s := count (0x5200 + 8 * ch + 1) s
      if a.check then
        let s := retryFailed ch s
        let latched := (getAmp s ch).st == .latched
        ampFault ch (if latched then 7 else 6) latched s
      else if 3 ≤ consecutive then shutDown ch 2 s
      else s)

/-- HARD_SHORT. -/
def execHardShort (ch : Nat) (s : State) : Host.Outcome State Fault Refusal :=
  .next (if channelRefused s ch ∨ !outletWorks s (channelDie ch) ∨ !(getAmp s ch).st.switching then s else shutDown ch 1 s)

/-- CLIP_EPISODE: CLIP sets until the next Outlet tick (R460). DEDUCED, log 85. -/
def execClipEpisode (ch : Nat) (s : State) : Host.Outcome State Fault Refusal :=
  .next (
    let a := getAmp s ch
    if channelRefused s ch ∨ !outletWorks s (channelDie ch) ∨ !a.st.switching then s
    else
      let s := count (0x5200 + 8 * ch + 4) (setAmp ch { a with clip := true } s)
      match oncePerSecond (0x71000 + ch) s with
      | none => s
      | some t => ampFault ch 4 false t)

/-- RETRY_TIMER: a waiting channel starts its retry check; in a hot group the check waits for the group. DESIGN CHOICE, log 5. -/
def execRetryTimer (ch : Nat) (s : State) : Host.Outcome State Fault Refusal :=
  .next (
    let a := getAmp s ch
    if channelRefused s ch ∨ !outletWorks s (channelDie ch) ∨ a.st ≠ .waiting ∨ !a.retryDue then s
    else if a.heat then setAmp ch { a with expired := true } s
    else setAmp ch (a.begin true) s)

/-- RETRY_CHECK_END: |Z| below the short limit fails the check; else the channel fades in from the next tick. -/
def execRetryCheckEnd (ch zmag : Nat) (s : State) : Host.Outcome State Fault Refusal :=
  .next (
    let a := getAmp s ch
    if channelRefused s ch ∨ !outletWorks s (channelDie ch) ∨ !a.check ∨ a.st ≠ .holding then s
    else if zmag < a.shortLim then
      let s := retryFailed ch (setAmp ch { a with zmag := zmag } s)
      let latched := (getAmp s ch).st == .latched
      ampFault ch (if latched then 7 else 6) latched s
    else setAmp ch { a with check := false, recent := true, zmag := zmag } s)

/-- RETRY_COUNT_RESET: ten seconds of running without a shutdown. -/
def execRetryCountReset (ch : Nat) (s : State) : Host.Outcome State Fault Refusal :=
  .next (
    let a := getAmp s ch
    if channelRefused s ch ∨ a.st ≠ .running then s else setAmp ch { a with retries := 0, recent := false } s)

/-! ### References of an Outlet (R462) -/

/-- SYNC_REF_LOST: mode-2 channels run free. -/
def execSyncRefLost (die : Nat) (s : State) : Host.Outcome State Fault Refusal :=
  .next (
    let o := getOutlet s die
    if !outletWorks s die ∨ !o.syncExt then s
    else
      let s := setOutlet die { o with refLost := true, refHz := 0 } s
      (outletChannels die).foldl (fun s c => setAmp c { getAmp s c with syncLock := false } s) s)

/-- SYNC_REF_RETURN: 16 edges within the range of `amp.sync.cfg`. -/
def execSyncRefReturn (die hz : Nat) (s : State) : Host.Outcome State Fault Refusal :=
  .next (
    let o := getOutlet s die
    if !outletWorks s die ∨ !o.syncExt ∨ hz < 300000 ∨ 500000 < hz then s
    else trySyncAll die (setOutlet die { o with refLost := false, refHz := hz } s))

/-! ### Boost (R474 to R477) -/

def Boost.tracking (b : Boost) : Bool := b.ceiling != 0 && b.floor != b.ceiling
/-- W of R456 at a rate. -/
def Boost.delay (b : Boost) (hz : Nat) : Nat := if b.tracking then (b.lookUs * hz + 999999) / 1000000 else 0

/-- Vpk of a channel in mV: 0.8 times its voltage full scale (R457), in tenths. -/
def vpk10 (s : State) (c : Nat) : Nat := 8 * (getSense s c).vfs

/-- The demand of a sample in 2⁻¹⁶ mV: |v| / 0.9 + margin. -/
def demandOf (s : State) (c : Nat) (b : Boost) (x : Int) : Int :=
  (x.natAbs : Int) * vpk10 s c * 65536 / (9 * 2 ^ 27 : Nat) + b.margin * 65536

/-- The controller's command of a sample (R475). -/
def boostTick (g : Nat) (s : State) : State :=
  let b := getBoost s g
  let mv := fun (n : Nat) => (n : Int) * 65536
  if b.ceiling = 0 ∨ pinsDriven s then setBoost g { b with target := 0 } s
  else if !b.tracking then setBoost g { b with target := mv b.floor } s
  else
    let ds := (groupChannels g).flatMap fun c => if (getAmp s c).st.sounding then (getAmp s c).line.map (·.2) else []
    let want := max (mv b.floor) (min (mv b.ceiling) (ds.foldl max 0))
    let step : Int := (b.slew * 1000000 * 65536 / rateHz s.time.rate : Nat)
    let target := if b.target < want then min want (b.target + step) else max want (b.target - step / 8)
    setBoost g { b with target := target } s

/-- BOOST_OUT_OF_REG: once an episode. DEDUCED, log 86. -/
def execBoostOutOfReg (ctl : Nat) (s : State) : Host.Outcome State Fault Refusal :=
  .next (
    let b := getBoost s ctl
    if s.member.boosts ≤ ctl ∨ !outletWorks s (boostDie ctl) ∨ b.ceiling = 0 ∨ b.outOfReg then s
    else boostEvent ctl 0 (count (0x5400 + 4 * ctl) (setBoost ctl { b with outOfReg := true } s)))

/-- BOOST_OVERCURRENT: the controller stops for 10 ms. -/
def execBoostOvercurrent (ctl : Nat) (s : State) : Host.Outcome State Fault Refusal :=
  .next (
    let b := getBoost s ctl
    if s.member.boosts ≤ ctl ∨ !outletWorks s (boostDie ctl) ∨ b.ceiling = 0 ∨ b.ocStop then s
    else boostEvent ctl 2 (count (0x5400 + 4 * ctl + 1) (setBoost ctl { b with ocStop := true } s)))

/-- BOOST_OC_RESTART. -/
def execBoostOcRestart (ctl : Nat) (s : State) : Host.Outcome State Fault Refusal :=
  .next (if s.member.boosts ≤ ctl then s else setBoost ctl { getBoost s ctl with ocStop := false } s)

/-- BOOST_AT_FLOOR: every channel of a tracking group is off or latched after a shutdown and the rail has reached the floor. -/
def execBoostAtFloor (ctl : Nat) (s : State) : Host.Outcome State Fault Refusal :=
  .next (
    let b := getBoost s ctl
    let quiet := (groupChannels ctl).all fun c => !(getAmp s c).st.switching
    if s.member.boosts ≤ ctl ∨ !outletWorks s (boostDie ctl) ∨ !b.tracking ∨ !b.floorDue ∨ !quiet then s
    else boostEvent ctl 1 (setBoost ctl { b with floorDue := false } s))

/-! ### The reference path and the Outlet tick (R456) -/

/-- The pilot tone of a channel for its next sample, in render words, and the channel with its phase moved on. -/
def pilotSample (hz : Nat) (a : Amp) : Int × Amp :=
  if !a.st.switching ∨ !(a.pilotOn || a.check) ∨ hz = 0 then (0, a)
  else
    let level := if a.check then -12800 else a.pilotLvl
    let v := fxRoundTo (2 ^ 27) (fxMul (fxDb (fxFrac level 256)) (fxSin (2 * fxPi * a.pilotPhase / hz)))
    (v, { a with pilotPhase := (a.pilotPhase + a.pilotHz) % hz })

/-- A power channel in an Outlet tick. -/
def ampTick (c : Nat) (s : State) : State :=
  let b := getBoost s (groupOf c)
  let a := { ampStep s c with clip := false }
  let w := b.delay (rateHz s.time.rate)
  let a := if a.fade = 0 ∧ a.w ≠ w then { a with w := w, line := [], resizing := false } else if a.w = w then { a with resizing := false } else a
  let x := roundDiv ((getDst s (0x51000000 + c)).last * a.fade) 64
  let d := if a.st.sounding then demandOf s c b x else 0
  let a := { a with line := ((x, d) :: a.line).take (a.w + 1) }
  let (p, a) := pilotSample (rateHz s.time.rate) a
  let v := roundDiv ((a.line.getD a.w (0, 0)).1 + p) 256
  let code := satInt 20 v
  let hist := (code :: a.hist).take 16
  let a := { a with code := code, hist := hist, ladder := satInt 20 (Config.ampFilter 7 hist) }
  let s := if code = v then s else count (0x5200 + 8 * c) s
  let s := if b.tracking && decide ((b.ceiling : Int) * 65536 < d) then count (0x5400 + 4 * groupOf c + 2) s else s
  setAmp c a s

/-- A feed comes from the parent Tarn: it ticks and reaches its Outlet. -/
def feedComes (s : State) (die : Nat) : Bool :=
  let p := parentTarn die
  powered s p && linkUpBetween s p die && (getTile s p).ticking && !(getTile s p).inReset

/-- A feed counted as missing or come: the first one ends a feed loss (R437, R466). While no timeline runs there is none to miss. DEDUCED, log 82. -/
def countFeed (die : Nat) (s : State) : State :=
  let o := getOutlet s die
  if feedComes s die then setOutlet die { o with noFeed := 0, loss := false, index := (getTile s (parentTarn die)).index } s
  else if rendering s || (getTile s (parentTarn die)).ticking then setOutlet die { o with noFeed := o.noFeed + 1, index := o.index + 1 } s
  else s

/-- OUTLET_TICK. DEDUCED, log 52. -/
def execOutletTick (die : Nat) (s : State) : Host.Outcome State Fault Refusal :=
  .next (
    if !outletWorks s die then s
    else
      let s := countFeed die s
      let s := (outletChannels die).foldl (fun s c => ampTick c (dacTick c s)) s
      ((List.range 4).map fun h => 4 * (die - 6) + h).foldl (fun s g => boostTick g s) s)

/-- FEED_LOSS: four Outlet ticks in a row without a feed. DEDUCED, log 82. -/
def execFeedLoss (die : Nat) (s : State) : Host.Outcome State Fault Refusal :=
  .next (
    let o := getOutlet s die
    if !outletWorks s die ∨ o.noFeed < 4 ∨ o.loss then s
    else
      let s := setOutlet die { o with loss := true } s
      (outletChannels die).foldl (fun s c =>
        let s := if (getDac s c).enable then count (0x5000 + 4 * c + 2) s else s
        if (getAmp s c).st.switching then count (0x5380 + c) s else s) s)

/-! ### `amp` messages (R160, R469, R471, R476, R478, R483) -/

/-- A threshold limited to a range of percentages of the current full scale, in 10 mA; as given while no full scale is known. -/
def limitTo (ifs lo hi v : Nat) : Nat := if ifs = 0 then v else clampNat ((ifs * lo + 999) / 1000) (ifs * hi / 1000) v

/-- DEDUCED, log 85. -/
def ampCfgBody (rq : Request) (s : State) : Reply :=
  let p := rq.payload
  let c := byteAt p 0
  let mode := min 2 (byteAt p 1)
  let retry := if fieldLE p 4 4 = 0 then 0 else clampNat 50 10000 (fieldLE p 4 4)
  let x := getSense s c
  let cyc := limitTo x.ifs 10 90 (fieldLE p 8 2)
  let hard := limitTo x.ifs 20 98 (fieldLE p 10 2)
  if channelRefused s c then badArg 0 s
  else if mode ≠ 0 ∧ (x.vfs = 0 ∨ x.ifs = 0) then refuse codeBadArg 2 1 s
  else if 10 * hard ≤ 11 * cyc then refuse codeBadArg 1 10 s
  else
    let a := getAmp s c
    let a := { a with mode := mode, phase := fieldLE p 2 2, retryMs := retry, cycleLim := cyc, hardLim := hard
                      syncLock := a.syncLock && mode == 2 }
    let a := if mode ≠ 0 then a
      else match a.st with
        | .waiting => { a with st := .off, retryDue := false, expired := false }
        | .starting => { a with st := .off, check := false }
        | .startHold => { a with st := .stopHold, check := false }
        | _ => { a with check := false }
    let s := ampMayStart c (setAmp c a s)
    let s := if mode = 2 ∧ !a.syncLock ∧ a.st.switching ∧ a.st ≠ .startHold then trySync c (syncRef (getOutlet s (channelDie c))) s else s
    let fields := [(1, mode == byteAt p 1), (4, retry == fieldLE p 4 4), (8, cyc == fieldLE p 8 2), (10, hard == fieldLE p 10 2)]
    let echo := bytesLE 1 c ++ bytesLE 1 mode ++ slice p 2 2 ++ bytesLE 4 retry ++ bytesLE 2 cyc ++ bytesLE 2 hard
    replyUsed (firstBad fields) (bytesLE 4 retry) (echoUnless [4] fields echo) s

/-- `amp.cfg`. -/
def ampCfgOp : NcpOp :=
  { opcode := 0x0901, layout := fun _ => [1, 1, 2, 4, 2, 2], staged := never, key := keyBytes 1, body := ampCfgBody }

def execAmpCfg (rq : Request) (s : State) : Host.Outcome State Fault Refusal := .next (serve ampCfgOp rq s)

/-- `amp.clear` of one channel. -/
def ampClearOne (c : Nat) (s : State) : State :=
  let a := { getAmp s c with retries := 0 }
  if (a.st = .latched ∨ a.st = .waiting) ∧ a.mode ≠ 0 then
    setAmp c (if a.heat then { a with st := .waiting, retryDue := true, expired := true } else a.begin true) s
  else setAmp c a s

def ampClearBody (rq : Request) (s : State) : Reply :=
  let mask := fieldLE rq.payload 0 4
  let named := (List.range 32).filter fun c => mask.testBit c
  if named.any (channelRefused s) then badArg 0 s
  else replyOk [] (named.foldl (fun s c => ampClearOne c s) s)

/-- `amp.clear` (R471). -/
def ampClearOp : NcpOp := { opcode := 0x0902, layout := fun _ => [4], staged := never, key := noKey, body := ampClearBody }

def execAmpClear (rq : Request) (s : State) : Host.Outcome State Fault Refusal := .next (serve ampClearOp rq s)

def ampBoostCfgBody (rq : Request) (s : State) : Reply :=
  let p := rq.payload
  let g := byteAt p 0
  let look := clampNat 500 4000 (fieldLE p 2 2)
  let margin := min 10000 (fieldLE p 4 2)
  let slew := clampNat 1 1000 (fieldLE p 6 2)
  let floor := min 65000 (fieldLE p 8 2)
  let ceiling := min 65000 (fieldLE p 10 2)
  if s.member.boosts ≤ g then badArg 0 s
  else if ceiling < floor then badArg 8 s
  else
    let need := if ceiling = 0 ∨ floor = ceiling then 0 else (ceiling - floor + slew - 1) / slew
    if 4000 < need then refuse codeBadArg 1 2 s
    else
      let used := max look need
      let b := getBoost s g
      let b' := { b with lookUs := used, margin := margin, slew := slew, floor := floor, ceiling := ceiling }
      let hz := rateHz s.time.rate
      let s := setBoost g b' s
      let s := if b.delay hz = b'.delay hz then s
        else (groupChannels g).foldl (fun s c => setAmp c { getAmp s c with resizing := true } s) s
      let fields := [(2, used == fieldLE p 2 2), (4, margin == fieldLE p 4 2), (6, slew == fieldLE p 6 2), (8, floor == fieldLE p 8 2),
        (10, ceiling == fieldLE p 10 2)]
      let echo := p.take 2 ++ bytesLE 2 used ++ bytesLE 2 margin ++ bytesLE 2 slew ++ bytesLE 2 floor ++ bytesLE 2 ceiling
      replyUsed (firstBad fields) (bytesLE 2 used) (echoUnless [2] fields echo) s

/-- `amp.boost.cfg` (R476). -/
def ampBoostCfgOp : NcpOp :=
  { opcode := 0x0903, layout := fun _ => [1, 1, 2, 2, 2, 2, 2], staged := never, key := keyBytes 1, body := ampBoostCfgBody }

def execAmpBoostCfg (rq : Request) (s : State) : Host.Outcome State Fault Refusal := .next (serve ampBoostCfgOp rq s)

def ampPilotCfgBody (rq : Request) (s : State) : Reply :=
  let p := rq.payload
  let c := byteAt p 0
  let on := min 1 (byteAt p 1)
  let hz := clampNat 10 40000 (fieldLE p 2 2)
  let level := clampInt (-15360) (-7680) (fieldS p 4 2)
  let ms := clampNat 100 10000 (fieldLE p 6 2)
  if channelRefused s c then badArg 0 s
  else
    let a := getAmp s c
    let a := { a with pilotOn := on == 1, pilotHz := hz, pilotLvl := level, pilotMs := ms, openLim := fieldLE p 8 4
                      shortLim := fieldLE p 12 4, drift := fieldLE p 16 2, pilotPhase := 0, refMeas := []
                      inOpen := false, inShort := false, inDrift := false }
    let lim := firstBad [(1, on == byteAt p 1), (2, hz == fieldLE p 2 2), (4, level == fieldS p 4 2), (6, ms == fieldLE p 6 2)]
    replyUsed lim (bytesLE 1 c ++ bytesLE 1 on ++ bytesLE 2 hz ++ bytesS 2 level ++ bytesLE 2 ms ++ slice p 8 10) [] (setAmp c a s)

/-- `amp.pilot.cfg` (R478). -/
def ampPilotCfgOp : NcpOp :=
  { opcode := 0x0904, layout := fun _ => [1, 1, 2, 2, 2, 4, 4, 2], staged := never, key := keyBytes 1, body := ampPilotCfgBody }

def execAmpPilotCfg (rq : Request) (s : State) : Host.Outcome State Fault Refusal := .next (serve ampPilotCfgOp rq s)

/-- The temperature of a channel's group, −32768 with its sensor disabled (R473). -/
def groupTemp (s : State) (g : Nat) : Int := let b := getBoost s g; if b.beta = 0 then -32768 else b.temp

def ampStatusBody (rq : Request) (s : State) : Reply :=
  let c := byteAt rq.payload 0
  let a := getAmp s c
  if channelRefused s c then badArg 0 s
  else replyOk (bytesLE 1 a.st.code ++ bytesLE 1 a.retries ++ bytesLE 2 0 ++ bytesLE 4 a.zmag ++ bytesS 2 a.zph
    ++ bytesS 2 (groupTemp s (groupOf c))) s

/-- `amp.status`. -/
def ampStatusOp : NcpOp := { opcode := 0x0905, layout := fun _ => [1], staged := never, key := noKey, body := ampStatusBody }

def execAmpStatus (rq : Request) (s : State) : Host.Outcome State Fault Refusal := .next (serve ampStatusOp rq s)

def ampGuardCfgBody (rq : Request) (s : State) : Reply :=
  let p := rq.payload
  let g := byteAt p 0
  let mv := clampNat 100 20000 (fieldLE p 2 2)
  let ms := clampNat 20 1000 (fieldLE p 4 2)
  if s.member.boosts ≤ g then badArg 0 s
  else
    let b := { getBoost s g with dcMv := mv, dcMs := ms, beta := fieldLE p 6 2, r25 := fieldLE p 8 4, rpu := fieldLE p 12 4
                                 shutT := fieldS p 16 2, hystT := fieldLE p 18 2 }
    let lim := firstBad [(2, mv == fieldLE p 2 2), (4, ms == fieldLE p 4 2)]
    replyUsed lim (p.take 1 ++ bytesLE 1 0 ++ bytesLE 2 mv ++ bytesLE 2 ms ++ slice p 6 14) [] (setBoost g b s)

/-- `amp.guard.cfg`. -/
def ampGuardCfgOp : NcpOp :=
  { opcode := 0x090C, layout := fun _ => [1, 1, 2, 2, 2, 4, 4, 2, 2], staged := never, key := keyBytes 1, body := ampGuardCfgBody }

def execAmpGuardCfg (rq : Request) (s : State) : Host.Outcome State Fault Refusal := .next (serve ampGuardCfgOp rq s)

def ampSyncCfgBody (rq : Request) (s : State) : Reply :=
  let p := rq.payload
  let die := byteAt p 0
  let ext := min 1 (byteAt p 1)
  let hz := clampNat 300000 500000 (fieldLE p 4 4)
  if !s.member.outletDies.contains die then badArg 0 s
  else
    let o := getOutlet s die
    let turned := ext == 1 && !o.syncExt
    let o := { o with syncExt := ext == 1, syncHz := hz, refLost := if ext = 0 then false else turned || o.refLost
                      refHz := if turned then 0 else o.refHz }
    let s := trySyncAll die (setOutlet die o s)
    let locked := maskOf ((List.range 16).filter fun n => (getAmp s ((die - 6) * 16 + n)).syncLock)
    let lim := firstBad [(1, ext == byteAt p 1), (4, hz == fieldLE p 4 4)]
    replyUsed lim (bytesLE 4 (syncRef o) ++ bytesLE 2 locked) (bytesLE 1 die ++ bytesLE 1 ext ++ bytesLE 2 0 ++ bytesLE 4 hz) s

/-- `amp.sync.cfg` (R461). -/
def ampSyncCfgOp : NcpOp :=
  { opcode := 0x090D, layout := fun _ => [1, 1, 2, 4], staged := never, key := keyBytes 1, body := ampSyncCfgBody }

def execAmpSyncCfg (rq : Request) (s : State) : Host.Outcome State Fault Refusal := .next (serve ampSyncCfgOp rq s)

/-! ### What the sense samples are used for (R472, R479, R480) -/

/-- SENSE_DECIMATOR_OUTPUT: the decimated samples of a channel (R439 to R445); they enter its DC window and its pilot interval. -/
def execSenseDecimatorOutput (ch : Nat) (v i : Int) (s : State) : Host.Outcome State Fault Refusal :=
  .next (
    if channelRefused s ch ∨ !outletWorks s (channelDie ch) then s
    else
      let (x, s) := senseStep ch v i (getSense s ch) s
      let good := x.valid && !x.ovlV
      let a := getAmp s ch
      let a := { a with
        dcSum := if good then a.dcSum + x.v else a.dcSum, dcN := a.dcN + flag good, dcTotal := a.dcTotal + 1
        pilotBad := a.pilotBad || !x.valid || x.ovlV || x.ovlI }
      setAmp ch a (setSense ch x s))

/-- DC_WINDOW_END: a mean beyond the threshold turns the channel off and latches it; a window with too few samples is not judged. -/
def execDcWindowEnd (ch : Nat) (s : State) : Host.Outcome State Fault Refusal :=
  .next (
    let a := getAmp s ch
    if channelRefused s ch ∨ !outletWorks s (channelDie ch) then s
    else
      let s := setAmp ch { a with dcSum := 0, dcN := 0, dcTotal := 0 } s
      let mean := (a.dcSum.natAbs * (getSense s ch).vfs : Nat)
      let limit := (getBoost s (groupOf ch)).dcMv * 2 ^ 23 * a.dcN
      if !a.st.switching ∨ a.dcN = 0 ∨ 2 * a.dcN < a.dcTotal ∨ mean ≤ limit then s
      else
        let b := getAmp s ch
        let g := groupOf ch
        let s := setBoost g { getBoost s g with floorDue := true } s
        ampFault ch 3 true (count (0x5200 + 8 * ch + 5) (setAmp ch { b.gatesLow .latched with recent := false } s)))

/-- An entry into a limit: counted, and reported at most once a second for a channel. -/
def pilotEntry (ch limit zmag : Nat) (s : State) : State :=
  let s := count (0x5300 + 4 * ch + 2) s
  match oncePerSecond (0x72000 + ch) s with
  | none => s
  | some t => outletEvent (channelDie ch) 11 0x0981 ch (bytesLE 1 ch ++ bytesLE 1 limit ++ bytesLE 2 0 ++ bytesLE 4 zmag) t

/-- |Z| in mΩ and its phase in 0.01° from complex V and I in units of modulator full scale 2²³ (R479). Below 0.01 % of the current full scale |Z| is all ones and the phase has no stated value. DESIGN CHOICE, log 11. -/
def pilotZ (vfs ifs : Nat) (vre vim ire iim : Int) : Nat × Int :=
  let mag := fun (a b : Int) => natSqrt ((a * a + b * b).toNat * 2 ^ 32)
  let v := mag vre vim
  let i := mag ire iim
  if i * 10000 < 2 ^ 23 * 2 ^ 16 ∨ i * ifs = 0 then (0xFFFFFFFF, signed 16 (Config.unstated 479 (vre.natAbs + iim.natAbs)).toNat)
  else
    let z := (roundDiv (1000 * v * vfs : Nat) (i * ifs : Nat)).toNat
    let ph := fxAtan2 (fxOf (vim * ire - vre * iim)) (fxOf (vre * ire + vim * iim))
    (min z 0xFFFFFFFE, fxRound (100 * fxDegrees ph))

/-- PILOT_INTERVAL_END: an interval with an overloaded or invalid sample is discarded; else |Z| is judged against the three limits. -/
def execPilotIntervalEnd (ch : Nat) (vre vim ire iim : Int) (s : State) : Host.Outcome State Fault Refusal :=
  .next (
    let a := getAmp s ch
    if channelRefused s ch ∨ !outletWorks s (channelDie ch) ∨ !a.pilotOn ∨ !a.st.switching then s
    else if a.pilotBad then count (0x5300 + 4 * ch + 1) (setAmp ch { a with pilotBad := false } s)
    else
      let x := getSense s ch
      let (z, ph) := pilotZ x.vfs x.ifs vre vim ire iim
      let refs := if a.refMeas.length < 8 ∧ z ≠ 0xFFFFFFFF then a.refMeas ++ [z] else a.refMeas
      let n := refs.length
      let open_ := decide (a.openLim < z)
      let short := decide (z < a.shortLim)
      let drift := decide (8 ≤ a.refMeas.length) && decide (a.drift * refs.sum < 1000 * ((z * n : Nat) - refs.sum : Int).natAbs)
      let s := count (0x5300 + 4 * ch)
        (setAmp ch { a with zmag := z, zph := ph, refMeas := refs, inOpen := open_, inShort := short, inDrift := drift } s)
      let s := if open_ && !a.inOpen then pilotEntry ch 0 z s else s
      let s := if short && !a.inShort then pilotEntry ch 1 z s else s
      if drift && !a.inDrift then pilotEntry ch 2 z s else s)

/-! ### Temperature and auxiliary conversions (R446 to R448, R473) -/

/-- The temperature in 1/16 °C of a group's sensor at a pin voltage in mV; a voltage that gives no resistance has no stated result. DESIGN CHOICE, log 11. -/
def ntcTemp (b : Boost) (mv : Int) : Int :=
  if mv ≤ 0 ∨ 1800 ≤ mv ∨ b.beta = 0 ∨ b.r25 = 0 ∨ b.rpu = 0 then signed 16 (Config.unstated 473 mv.natAbs).toNat
  else
    let ratio := fxFrac (b.rpu * mv) ((1800 - mv) * b.r25)
    let inv := fxDiv fxOne (fxFrac 29815 100) + fxLn ratio / b.beta
    if inv ≤ 0 then signed 16 (Config.unstated 473 mv.natAbs).toNat
    else clampInt (-32768) 32767 (fxRound (16 * (fxDiv fxOne inv - fxFrac 27315 100)))

/-- A group has passed its shutdown value: every channel stops, reports and waits. -/
def groupHot (g : Nat) (s : State) : State :=
  (groupChannels g).foldl (fun s c =>
    let a := { getAmp s c with heat := true }
    let s := setAmp c (if a.st = .starting then { a with st := .waiting, retryDue := a.check, expired := a.check, check := false }
      else if a.st = .startHold then { a with st := .stopHold } else a) s
    if a.mode ≠ 0 ∧ (a.st.switching ∨ a.st = .starting) then ampFault c 5 false (count (0x5200 + 8 * c + 6) s) else s) s

/-- The group has cooled: its channels start, one that owes a retry check with it. -/
def groupCool (g : Nat) (s : State) : State :=
  (groupChannels g).foldl (fun s c =>
    let a := { getAmp s c with heat := false }
    if a.st = .waiting ∧ a.mode ≠ 0 ∧ (!a.retryDue || a.expired) then setAmp c (a.begin a.retryDue) s else setAmp c a s) s

/-- A reading of a group's sensor. -/
def groupReading (g : Nat) (mv : Int) (s : State) : State :=
  let b := getBoost s g
  if b.beta = 0 then s
  else
    let t := ntcTemp b mv
    let b := { b with temp := t }
    if !b.hot ∧ b.shutT < t then groupHot g (setBoost g { b with hot := true } s)
    else if b.hot ∧ t < b.shutT - b.hystT then groupCool g (setBoost g { b with hot := false } s)
    else setBoost g b s

/-- A reading of a group's rail: the board's divider gives its scale; back within 10 % of the target the episode of R477 ends. DESIGN CHOICE, log 11; DEDUCED, log 86. -/
def railReading (g : Nat) (mv : Int) (s : State) : State :=
  let b := getBoost s g
  let v := (Config.unstated 486 (g * 2 ^ 32 + (mv % 2 ^ 32).toNat)).toNat % 65536
  let t := (b.target / 65536).toNat
  let inside := decide (10 * ((v : Int) - t).natAbs ≤ t)
  setBoost g { b with vout := v, outOfReg := b.outOfReg && !inside } s

/-- AUX_CONVERSION: the result, its limits, and what the input measures: the Outlet's temperature, a group's rail or a group's sensor. DESIGN CHOICE, log 5. -/
def execAuxConversion (die input : Nat) (raw : Int) (s : State) : Host.Outcome State Fault Refusal :=
  .next (
    let k := auxKey die input
    let x := getAux s k
    if !outletWorks s die ∨ 16 ≤ input ∨ !x.enable then s
    else
      let raw := satInt 24 raw
      let value := auxValue input raw
      let s := auxLimits die input value (setAux k { x with raw := raw, valid := true } s)
      if input = 0 then { s with sys.temps := mapSet s.sys.temps die value }
      else if 6 ≤ input ∧ input < 10 then railReading (4 * (die - 6) + (input - 6)) value s
      else if 10 ≤ input ∧ input < 14 then groupReading (4 * (die - 6) + (input - 10)) value s
      else s)

end Sys2Proof.Machine
end

