-- ==== Sys2Proof/Machine/Ponds.lean ====
section
/-! DEFINITION. Ponds: ownership, power, parity and the background test (R503 to R510, R520), and the bus matrix's record of errors (R500 to R502, R519). -/

namespace Sys2Proof.Machine

/-! ### Targets and the record of errors (R500, R501, R519, R600) -/

/-- The target to which a Shore register offset decodes (R600). -/
def registerTarget (off : Nat) : Nat :=
  if off < 0x200000 then 0 else if off < 0x300000 then 2 else if off < 0x400000 then 1 else if off < 0xF00000 then 2 else 0

/-- The target of an offset of a Shore (R495, R43). -/
def shoreTarget (off : Nat) : Nat :=
  if off < 0x1000000 then registerTarget off
  else if pondBase ≤ off ∧ off < pondBase + 0x200000 then 3
  else if pondBase ≤ off ∧ off < pondBase + 0x400000 then 4
  else if dramBase ≤ off then 5 + off / 256 % 2
  else 9

/-- The first error since VALID was cleared is recorded. DEDUCED, log 41. -/
def bmxRecord (target : Nat) (m : Master) (kind : Nat) (write : Bool) (addr : Nat) (s : State) : State :=
  if s.hw.bmxErr.valid then s
  else { s with hw.bmxErr := { target := target, master := masterNumber m, kind := kind, write := write, valid := true, addr := addr / 256 } }

/-- A number of its own for every master. -/
def masterKey : Master → Nat
  | .ripple c => 0x100 + c
  | .warden d => 0x80 + d
  | .networkMgmt => 0x40
  | m => masterNumber m

/-- An access that decodes to no target stays open (R501). DEDUCED, log 41. -/
def openAccess (m : Master) (addr : Nat) (write : Bool) (s : State) : State :=
  { s with hw.opens := mapSet s.hw.opens (masterKey m) (addr, write), bus := { error := false, status := 0, data := [] } }

/-- An access ended by the watchdog of its port: a bus error, counted and recorded; a read returns 0 (R501). DEDUCED, log 41. -/
def endDecodeError (m : Master) (addr : Nat) (write : Bool) (s : State) : State :=
  let t := shoreTarget (addr % 2 ^ 36)
  busErr (bmxRecord t m 1 write addr (count (0x6100 + 4 * t + 1) s))

/-- DECODE_ERROR_WATCHDOG: an access of a master other than the control cluster has been open for 4096 cycles. -/
def execDecodeErrorWatchdog (m : Master) (s : State) : Host.Outcome State Fault Refusal :=
  .next (match mapFind s.hw.opens (masterKey m) with
    | none => s
    | some (addr, write) =>
      if m = .controlCluster then s
      else endDecodeError m addr write { s with hw.opens := mapErase s.hw.opens (masterKey m) })

/-- BUS_TIMEOUT: an access of the control cluster, open on a decode error or a hung target, reaches 4096 of its cycles (R502). -/
def execBusTimeout (_addr : Nat) (s : State) : Host.Outcome State Fault Refusal :=
  .next (fatal 2 (activeShore s) { s with hw.opens := mapErase s.hw.opens (masterKey .controlCluster) })

/-! ### Banks -/

/-- Pond banks of a die. -/
def bankCount (die : Nat) : Nat := if isShore die then 64 else if isTarn die then 256 else 0
def hasBank (s : State) (die bank : Nat) : Bool := s.member.has die && decide (bank < bankCount die)
def getBank (s : State) (die bank : Nat) : PondBank := mapGet (bank0 s.member) s.hw.ponds.banks (die * 256 + bank)
def setBank (die bank : Nat) (b : PondBank) (s : State) : State :=
  { s with hw.ponds.banks := mapSet s.hw.ponds.banks (die * 256 + bank) b }

/-- Base of a die's pond registers (R520). -/
def pndBase (die : Nat) : Nat := dieAddr die (if isShore die then 0x220000 else 0x470000)
/-- PND_XFERe. -/
def pndXfer (s : State) (die e : Nat) : Nat := regOr s 0 (pndBase die + 0x400 + 4 * e)

/-- Counter `k` of a die's ponds (R518). -/
def pondCounter (die k : Nat) : Nat := if isShore die then 0x6150 + k else 0x6180 + 8 * (die - 2) + k

/-- The first refused write of PND_BANK since VALID was cleared. -/
def pndRefused (die bank owner : Nat) (s : State) : State :=
  let e := mapGet pndErr0 s.hw.ponds.errs die
  if e.valid then s else { s with hw.ponds.errs := mapSet s.hw.ponds.errs die { bank := bank, owner := owner, valid := true } }

/-- An owner to which hardware fixes its banks (R503). -/
def fixedOwner (die o : Nat) : Bool := isTarn die && ((decide (0x10 ≤ o) && decide (o < 0x14)) || o == 0x20)

/-- An owner code that a die's banks can have. DEDUCED, log 39. -/
def ownerCode (m : Member) (die o : Nat) : Bool :=
  if isShore die then decide (o ≤ 5)
  else o == 0 || (decide (0x40 ≤ o) && decide (o < 0x50)) || (o == 0x60 && m == .evr8 && (die == 2 || die == 4))

/-- Whether the sealed table permits a transfer from the pool (R504). -/
def xferAllows (s : State) (die bank o : Nat) : Bool :=
  (List.range 32).any fun e =>
    let v := pndXfer s die e
    v % 256 == 0 && v / 256 % 256 == o && o != 0 && decide (v / 65536 % 256 ≤ bank) && decide (bank ≤ v / 2 ^ 24)

/-- Whether a bank may pass to an owner: from the pool by the table, or back to the pool. DEDUCED, logs 35, 39. -/
def mayHand (s : State) (die bank o : Nat) : Bool :=
  let cur := (getBank s die bank).owner
  if fixedOwner die cur || fixedOwner die o || !ownerCode s.member die o then false
  else if cur = 0 then xferAllows s die bank o
  else o == 0

/-- The core that an owner code names on a Tarn. -/
def ownerCore (die o : Nat) : Option Nat := if isTarn die ∧ 0x40 ≤ o ∧ o < 0x50 then some ((die - 2) * 16 + (o - 0x40)) else none

/-- A bank taken out of a core's window slots; given the lowest free one (R320). -/
def dropWindow (bank core : Nat) (s : State) : State :=
  let c := getCore s core
  setCore core { c with windows := c.windows.filter fun e => e.2 != bank } s
/-- DEDUCED, log 39. -/
def giveWindow (bank core : Nat) (s : State) : State :=
  let c := getCore s core
  match mapFree c.windows 8 with
  | some k => setCore core { c with windows := mapSet c.windows k bank } s
  | none => s

/-- A bank handed over between two accesses (R504, R320). DEDUCED, log 39. -/
def handBank (die bank o : Nat) (s : State) : State :=
  let b := getBank s die bank
  let s := match ownerCore die b.owner with
    | some c => dropWindow bank c s
    | none => s
  let s := setBank die bank { b with owner := o } s
  match ownerCore die o with
  | some c => giveWindow bank c s
  | none => s

/-- The OWNER field of PND_BANKb written. -/
def writeOwner (die bank o : Nat) (s : State) : State :=
  if o = (getBank s die bank).owner then s
  else if mayHand s die bank o then handBank die bank o s
  else pndRefused die bank o s

/-- A bank's power mode taken: OFF loses its contents, and the return to ON fills it with zeros (R506). DEDUCED, log 38. -/
def setPower (die bank p : Nat) (s : State) : State :=
  let s := if p = 2 then zeroBank die bank s else s
  setBank die bank { getBank s die bank with pwr := p } s

/-- The PWR field written: only a bank of the pool may leave ON. -/
def writePower (die bank p asked : Nat) (s : State) : State :=
  let b := getBank s die bank
  if p = b.pwr ∨ 3 ≤ p then s
  else if p ≠ 0 ∧ b.owner ≠ 0 then pndRefused die bank asked s
  else setPower die bank p s

/-- A write of PND_BANKb by a master; any but the control cluster's is ignored (R520). -/
def pndBankWrite (m : Master) (die bank : Nat) (v : Word) (s : State) : State :=
  if m ≠ .controlCluster then s
  else
    let o := v.toNat % 256
    let s := writePower die bank (v.toNat / 256 % 4) o (writeOwner die bank o s)
    if v.getLsbD 10 then setBank die bank { getBank s die bank with testInt := false } s else s

/-- PND_BANK_OWNER_WRITE. -/
def execPndBankOwnerWrite (m : Master) (die bank : Nat) (v : Word) (s : State) : Host.Outcome State Fault Refusal :=
  .next (if hasBank s die bank && powered s die then busOk [] (pndBankWrite m die bank v s) else busErr s)

/-- PND_BANK_POWER_WRITE. -/
def execPndBankPowerWrite (m : Master) (die bank : Nat) (v : Word) (s : State) : Host.Outcome State Fault Refusal :=
  .next (if hasBank s die bank && powered s die then busOk [] (pndBankWrite m die bank v s) else busErr s)

/-- A bank that an access wakes from RETENTION (R506). DEDUCED, log 38. -/
def wakeBank (die bank : Nat) (s : State) : State :=
  let b := getBank s die bank
  if b.pwr = 1 then setBank die bank { b with pwr := 0 } (count (pondCounter die 4) s) else s

/-! ### Parity (R507, R258, R289, R322, R445) -/

/-- Numbers that the model gives to the memories of a die that are no pond banks: the marked banks of R258, R289 and R445, and the code ponds from 0x100. DEDUCED, log 87. -/
def memSense : Nat := 0x2FA
/-- DEDUCED, log 87. -/
def memState : Nat := 0x2FB
/-- DEDUCED, log 87. -/
def memFir : Nat := 0x2FC
/-- DEDUCED, log 87. -/
def memSos : Nat := 0x2FD
/-- DEDUCED, log 60. -/
def memPair : Nat := 0x2FE
/-- DEDUCED, log 60. -/
def memCoef : Nat := 0x2FF

/-- A bank queued for test, its parity error counted. -/
def queueBank (die bank : Nat) (s : State) : State := setBank die bank { getBank s die bank with queued := true } s
def bankError (die bank : Nat) (s : State) : State :=
  let b := getBank s die bank
  setBank die bank { b with errors := (b.errors + 1) % 2 ^ 32 } s

/-- A word marked on a tile (R258, R289). -/
def markWord (die bank word : Nat) (s : State) : State :=
  let t := getTile s die
  setTile die { t with marked := if t.marked.contains (bank, word) then t.marked else (bank, word) :: t.marked } s

/-- A section, FIR history or protection state word taken as 0 and rewritten: words 8n + j of section n hold x1, x2, y1, y2 and e; from 128 the FIR history; from 3072 the filters, temperatures and lines of the protection. -/
def zeroState (q : ChanState) (w : Nat) : ChanState :=
  if w < 128 then
    let x := mapGet sosState0 q.sos (w / 8)
    let x := match w % 8 with
      | 0 => { x with x1 := 0 }
      | 1 => { x with x2 := 0 }
      | 2 => { x with y1 := 0 }
      | 3 => { x with y2 := 0 }
      | _ => { x with e := 0 }
    if mapHas q.sos (w / 8) then { q with sos := mapSet q.sos (w / 8) x } else q
  else if w < 3072 then { q with hist := nthMod q.hist (w - 128) fun _ => 0 }
  else
    let p := q.prot
    let n := (w - 3072) % 256
    let p := match (w - 3072) / 256 with
      | 0 => { p with hp := nthMod p.hp n fun _ => 0 }
      | 1 => { p with disp := nthMod p.disp n fun _ => 0 }
      | 2 => if n = 0 then { p with coil := 0 } else { p with magnet := 0 }
      | _ => { p with inputs := nthMod p.inputs n fun _ => 0 }
    { q with prot := p }

/-- A parity error in a memory of the matrix or the chain of a Tarn: `k` numbers the memory in R258 and R289. -/
def tileParity (e : ParityError) (s : State) : State :=
  let d := e.die
  let chain := 0x3000 + 8 * (d - 2)
  if e.bank = memCoef ∨ e.bank = memPair then
    let sl := 4 * (d - 2) + (if e.bank = memCoef then e.word / 2048 else e.word / (2048 * 512)) % 4
    let b := e.bank - 0x200
    if !e.again then memEvent d b 0 e.word (count (0x0840 + 8 * sl + 1) s)
    else memEvent d b 1 e.word (markWord d b e.word (count (0x0840 + 8 * sl + (if e.bank = memCoef then 3 else 4)) s))
  else
    let b := e.bank - 0x200
    if !e.again then memEvent d b 0 e.word (count chain s)
    else if e.bank = memState then
      let c := e.word / 4096
      let s := if mapHas s.chain.states c && homeTile s.member c == d then setChan c (zeroState (getChan s c) (e.word % 4096)) s else s
      memEvent d b 1 e.word (count (chain + 3) s)
    else memEvent d b 1 e.word (markWord d b e.word (count (chain + 2) s))

/-- A parity error in a history bank: replayed, or concealed with the word marked and the bank queued. -/
def historyParity (e : ParityError) (s : State) : State :=
  let sl := 4 * (e.die - 2) + e.bank / 48
  let s := bankError e.die e.bank s
  if !e.again then memEvent e.die e.bank 0 e.word (count (pondCounter e.die 0) (count (0x0840 + 8 * sl + 1) s))
  else memEvent e.die e.bank 1 e.word
    (queueBank e.die e.bank (markWord e.die e.bank e.word (count (pondCounter e.die 1) (count (0x0840 + 8 * sl + 2) s))))

/-- The channel whose delay line has a word of a chain bank; the spec places no line (a free value). -/
def lineOwner (s : State) (e : ParityError) : Nat :=
  let n := (homedChannels s.member e.die).length
  nth 0 (homedChannels s.member e.die) ((Config.unstated 289 (e.bank * 16384 + e.word)).toNat % max 1 n)

/-- A parity error in a chain bank. -/
def chainParity (e : ParityError) (s : State) : State :=
  let chain := 0x3000 + 8 * (e.die - 2)
  let s := bankError e.die e.bank s
  if !e.again then memEvent e.die e.bank 0 e.word (count (pondCounter e.die 0) (count chain s))
  else memEvent e.die e.bank 1 e.word
    (queueBank e.die e.bank (markWord e.die 192 (lineOwner s e * 4096 + e.word % 4096)
      (count (pondCounter e.die 1) (count (chain + 1) s))))

/-- Two cycles of a replay spent by the core that read (R313). -/
def replayCycles (m : Master) (s : State) : State :=
  match m with
  | .ripple n =>
    let c := getCore s n
    if n < s.member.cores ∧ c.st = .running then
      setCore n { c with cycles := min 0xFFFFFFFF (c.cycles + 2), busy := min 0xFFFFFFFF (c.busy + 2) } s
    else s
  | _ => s

/-- A parity error in a general bank or a bank of the Shore: a word that fails twice gives 0 at its next read; the control cluster's own data on the Shore is fatal (R507, R322). -/
def wordParity (e : ParityError) (s : State) : State :=
  let s := bankError e.die e.bank s
  if !e.again then replayCycles e.reader (count (pondCounter e.die 0) s)
  else
    let s := queueBank e.die e.bank (count (pondCounter e.die 1) s)
    let s := if isTarn e.die then memEvent e.die e.bank 1 e.word s else s
    if isShore e.die ∧ e.reader = .controlCluster then fatal 3 e.die s
    else { s with hw.ponds.bad := pondAddr e.die e.bank (4 * e.word) :: s.hw.ponds.bad }

/-- A parity error in a core's code pond: a second failure traps with cause 8 (R322). The spec numbers no bank for a code pond in `diag.mem`: a free value. -/
def codeParity (e : ParityError) (s : State) : State :=
  let n := (e.die - 2) * 16 + (e.bank - 0x100)
  if !e.again then replayCycles (.ripple n) (count (pondCounter e.die 0) s)
  else
    let s := count (pondCounter e.die 1) s
    let s := memEvent e.die ((Config.unstated 322 (e.bank - 0x100)).toNat % 256) 1 e.word s
    if issues s n then trapCore n 8 0 s else s

/-- POND_PARITY_ERROR. Banks from 0x100 are the memories numbered above. DEDUCED, log 36. -/
def execPondParityError (e : ParityError) (s : State) : Host.Outcome State Fault Refusal :=
  .next (
    if !s.member.has e.die ∨ !powered s e.die then s
    else if e.bank < 0x100 then
      if !hasBank s e.die e.bank ∨ 16384 ≤ e.word ∨ (getBank s e.die e.bank).pwr ≠ 0 then s
      else if isShore e.die then wordParity e s
      else if e.bank < 192 then historyParity e s
      else if e.bank < 224 then chainParity e s
      else wordParity e s
    else if isTarn e.die ∧ e.bank < 0x110 ∧ e.word < 16384 then codeParity e s
    else if isTarn e.die ∧ memState ≤ e.bank ∧ e.bank ≤ memCoef then tileParity e s
    else if isOutlet e.die ∧ e.bank = memSense ∧ e.word < 16 ∧ e.again then
      let ch := (e.die - 6) * 16 + e.word
      { s with outs.senses := mapMod sense0 s.outs.senses ch fun x => { x with conceal := true } }
    else s)

/-! ### The background test (R508, R509, R510) -/

/-- The bank tested after one: a queued one first, else the next bank that is ON. DESIGN CHOICE, log 37. -/
def nextTested (s : State) (die bank : Nat) : Nat :=
  match (List.range (bankCount die)).find? fun b => (getBank s die b).queued && (getBank s die b).pwr == 0 with
  | some b => b
  | none =>
    let order := (List.range (bankCount die)).map fun j => (bank + 1 + j) % max 1 (bankCount die)
    (order.find? fun b => (getBank s die b).pwr == 0).getD bank

/-- POND_TEST_REGION: a region of an ON bank is done, restored with its contents kept; a failure marks the bank FAILED. DESIGN CHOICE, log 37. -/
def execPondTestRegion (die bank region : Nat) (pass : Bool) (s : State) : Host.Outcome State Fault Refusal :=
  .next (
    let b := getBank s die bank
    if !hasBank s die bank ∨ !powered s die ∨ 256 ≤ region ∨ b.pwr ≠ 0 then s
    else
      let s := count (pondCounter die 2) s
      let s := if pass then s
        else memEvent die bank 2 (64 * region) (setBank die bank { b with failed := true } (count (pondCounter die 3) s))
      if region = 255 then
        let s := setBank die bank { getBank s die bank with queued := false } s
        { s with hw.ponds.testing := mapSet s.hw.ponds.testing die (nextTested s die bank * 256) }
      else { s with hw.ponds.testing := mapSet s.hw.ponds.testing die (bank * 256 + region + 1) })

/-- Free bytes in place of a region's contents. DESIGN CHOICE, log 37. -/
def blurRegion (die bank region : Nat) (s : State) : State :=
  (List.range 2).foldl (fun s h =>
    let (v, s) := drawFree s
    writeBytes (pondAddr die bank (256 * region + 128 * h)) (bytesLE 128 v.toNat) s) s

/-- A reset that reaches a die while a region is under test: the region is undefined and the bank marked (R510). DESIGN CHOICE, log 37. -/
def interruptTest (die : Nat) (s : State) : State :=
  match mapFind s.hw.ponds.testing die with
  | none => s
  | some k =>
    let bank := k / 256
    let s := blurRegion die bank (k % 256) { s with hw.ponds.testing := mapErase s.hw.ponds.testing die }
    setBank die bank { getBank s die bank with testInt := true } s

/-! ### `diag.pond.status` (R165) -/

def diagPondStatusBody (rq : Request) (s : State) : Reply :=
  let die := byteAt rq.payload 0
  let bank := byteAt rq.payload 1
  if !s.member.has die ∨ bankCount die = 0 then badArg 0 s
  else if !hasBank s die bank then badArg 1 s
  else
    let b := getBank s die bank
    replyOk (bytesLE 1 b.pwr ++ bytesLE 1 (flag b.testInt + 2 * flag b.queued) ++ bytesLE 2 b.owner ++ bytesLE 4 b.errors) s

/-- `diag.pond.status`. -/
def diagPondStatusOp : NcpOp :=
  { opcode := 0x0E05, layout := fun _ => [1, 1], staged := never, key := noKey, body := diagPondStatusBody }

def execDiagPondStatus (rq : Request) (s : State) : Host.Outcome State Fault Refusal := .next (serve diagPondStatusOp rq s)

end Sys2Proof.Machine
end

