-- ==== Sys2Proof/Machine/Regs.lean ====
section
/-! DEFINITION. The register map: what each register of the Shore, a Tarn and an Outlet reads as (R64, R105 to R127, R232, R260 to R262, R293, R329, R366, R367, R396, R429, R430, R451, R485, R486, R493, R519 to R521, R551, R573, R593, R599), with the fuse fields they report. -/

namespace Sys2Proof.Machine

/-! ### Fuse fields (R87, R89, R101) -/

/-- A flag of eight fuses, read by majority. DESIGN CHOICE, log 21; DEDUCED, log 22. -/
def fuseFlag (s : State) (lo : Nat) : Bool := decide (4 < ((List.range 8).filter fun i => (fuseField s (lo + i) 1) == 1).length)
/-- The lifecycle flag of state `k`: MANUFACTURE, PROVISIONED, DEPLOYED, RMA in order of their bits. DEDUCED, log 22. -/
def lifeFlag (s : State) (k : Nat) : Bool := fuseFlag s (1280 + 8 * k)
/-- The lifecycle state: the highest flag blown (R89). DEDUCED, log 22. -/
def lifecycle (s : State) : Nat := if lifeFlag s 3 then 3 else if lifeFlag s 2 then 2 else if lifeFlag s 1 then 1 else 0
/-- A blown flag above one that is not (R89). DEDUCED, log 22. -/
def lifecycleFault (s : State) : Bool := (lifeFlag s 2 && !lifeFlag s 1) || (lifeFlag s 3 && !lifeFlag s 2)
/-- Blown bits of a thermometer of 64 fuses. -/
def thermometer (s : State) (lo : Nat) : Nat := ((List.range 64).filter fun i => (fuseField s (lo + i) 1) == 1).length
def rollbackCount (s : State) : Nat := thermometer s 3120
def debugEpoch (s : State) : Nat := thermometer s 3184
/-- DESIGN CHOICE, log 21. -/
def serialBytes (s : State) : List Byte := bytesLE 16 (fuseField s 1024 128)
/-- Steppings of Shore, Tarn and Outlet; the spec gives their field and not their places in it (DESIGN CHOICE: bytes at 1160, 1168 and 1176). DESIGN CHOICE, log 21. -/
def steppings (s : State) : List Byte := bytesLE 1 (fuseField s 1160 8) ++ bytesLE 1 (fuseField s 1168 8) ++ bytesLE 1 (fuseField s 1176 8)
/-- The effective debug enables: the sealed ones with the grant of the tokens accepted (R101); all in RMA (R89). -/
def effectiveDebug (s : State) : BitVec 4 := if lifecycle s = 3 then 0xF else s.sys.spring.sealedDebug ||| s.sys.spring.grantedDebug
/-- DEDUCED, log 110. -/
def isSealed (s : State) (die : Nat) : Bool := s.sys.spring.sealedDies.contains die

/-! ### Shore -/

/-- SPR_STATUS (R64). -/
def sprStatus (s : State) : Nat :=
  let p := s.sys.spring
  lifecycle s + 4 * (p.stage % 8) + flagAt (isSealed s (activeShore s)) 5 + flagAt p.selftestOk 6 + flagAt p.cryptoErr 7
    + 256 * (p.bootErr % 256) + flagAt (p.slot == some 1) 16 + flagAt p.fallback 17 + flagAt p.overlay 18 + flagAt p.debugGrant 19
    + flagAt p.sealViol 20

/-- STATE of an inbound mailbox. -/
def MbxState.code : MbxState → Nat
  | .empty => 0
  | .filling => 1
  | .full => 2

def mbxInReg (s : State) (n off : Nat) : Nat :=
  let b := getIn s n
  if off < 0x400 then winWord b.words (off / 4)
  else if off = 0x404 then b.st.code + flagAt b.ack 2 + flagAt b.aborted 3 + 65536 * b.owner
  else if off = 0x408 then b.allow.toNat
  else 0

def mbxOutReg (s : State) (n off : Nat) : Nat :=
  let b := getOut s n
  if off < 0x400 then winWord b.words (off / 4)
  else if off = 0x404 then flag b.full + 65536 * b.dest
  else if off = 0x408 then b.allow.toNat
  else 0

def lockErrReg (s : State) (die : Nat) : Nat :=
  let e := getLockErr s die
  e.index + 65536 * e.sender + flagAt e.valid 31

/-- Registers of the mailbox, doorbell and lock blocks, MSI-X and PCI_; a register whose read has a side effect is not read here. -/
def hostReg (s : State) (off : Nat) : Nat :=
  let x := s.msg.mbx
  if 0x10000 ≤ off ∧ off < 0x12000 then mbxInReg s ((off - 0x10000) / 0x800) (off % 0x800)
  else if 0x12000 ≤ off ∧ off < 0x14000 then mbxOutReg s ((off - 0x12000) / 0x800) (off % 0x800)
  else if off = 0x14000 then x.err.toNat
  else if off = 0x14004 then (irqStatus s).toNat
  else if off = 0x14008 then x.irqMask.toNat
  else if off = 0x15000 then x.dblNerris.toNat
  else if off = 0x15008 then x.dblHost.toNat
  else if off = 0x16100 then lockErrReg s (activeShore s)
  else if 0x20000 ≤ off ∧ off < 0x20200 then
    if off % 16 = 12 then flag (x.msixMask.getLsbD ((off - 0x20000) / 16)) else regOr s 0 (dieAddr (activeShore s) off)
  else if off = 0x21000 then x.msixPba.toNat
  else if off = 0x22000 then x.pciSpeed + 16 * x.pciWidth + flagAt x.msixEn 6 + flagAt x.msixFmask 7
  else if off = 0x22004 then x.hotResets + 65536 * x.flrs
  else if off = 0x22008 then x.bar2
  else if off = 0xF00000 then sprStatus s
  else 0

def bankReg (b : PondBank) : Nat := b.owner + 256 * b.pwr + flagAt b.testInt 10 + flagAt b.queued 11 + flagAt b.failed 12

/-- The pond registers of a die (R520). -/
def pndReg (s : State) (die off : Nat) : Nat :=
  let e := mapGet pndErr0 s.hw.ponds.errs die
  let r := mapGet pndRepair0 s.hw.ponds.repairs die
  if off < 4 * bankCount die then bankReg (getBank s die (off / 4))
  else if 0x400 ≤ off ∧ off < 0x480 then pndXfer s die ((off - 0x400) / 4)
  else if off = 0x480 then e.bank + 256 * e.owner + flagAt e.valid 31
  else if off = 0x484 then min 63 r.applied + 64 * min 63 r.refused + flagAt r.fieldErr 12
  else 0

/-- PWR_STATE (R573): the codes of `pwr.state`. -/
def PowerState.code : PowerState → Nat
  | .run => 0
  | .idle => 1
  | .listen => 2
  | .sleep => 3
  | .deepStandby => 4

/-- Seconds until the alarm, rounded up (R561). -/
def alarmSeconds (s : State) : Nat :=
  match s.sys.ao.alarmAt with
  | none => 0
  | some t => (t - s.now + cyclesPerSecond - 1) / cyclesPerSecond

/-- Rail-fault restarts of the last 60 s. -/
def recentRestarts (s : State) : Nat := (s.sys.ao.railRestarts.filter fun t => decide (s.now < t + 60 * cyclesPerSecond)).length

/-- The registers of the always-on domain (R573). -/
def aoReg (s : State) (off : Nat) : Nat :=
  let a := s.sys.ao
  match off with
  | 0x00 => a.power.code + flagAt a.changing 3
  | 0x04 => a.wakeEn.toNat + 65536 * a.wakeSrc.toNat
  | 0x08 => alarmSeconds s
  | 0x0C => a.enables.toNat + 256 * a.inRange.toNat
  | 0x10 => a.cause + 16 * a.group + 256 * min 3 (recentRestarts s) + flagAt a.startStop 10
  | 0x14 => a.rstScope + 4 * a.rstDie
  | _ => 0

/-- Default QoS of a Shore master (R495). -/
def qos0 (m : Nat) : Nat := nth 0 [15, 15, 14, 12, 11, 8, 8, 4, 4, 2, 1, 0] m

/-- System registers of the Shore: WEIR_, BMX_, PND_, DRC_, PWR_, DBG_. -/
def systemReg (s : State) (off : Nat) : Nat :=
  let die := activeShore s
  let stored := fun (reset : Nat) => regOr s reset (dieAddr die off)
  if 0x200000 ≤ off ∧ off < 0x200080 then stored (weirCfg0 ((off - 0x200000) / 4))
  else if off < 0x200100 then
    let q := getQueue s ((off - 0x200080) / 4)
    q.items.length + flagAt q.bp 15 + 65536 * q.ready.length
  else if off = 0x200100 then weirFree s + 65536 * s.msg.weir.inService.length
  else if off = 0x200104 then stored 2000
  else if 0x210000 ≤ off ∧ off < 0x210030 then stored (qos0 ((off - 0x210000) / 4))
  else if off = 0x210040 then
    let e := s.hw.bmxErr
    e.target + 16 * e.master + 256 * e.kind + flagAt e.write 9 + flagAt e.valid 31
  else if off = 0x210044 then s.hw.bmxErr.addr
  else if 0x211000 ≤ off ∧ off < 0x212400 then stored 0
  else if 0x220000 ≤ off ∧ off < 0x221000 then pndReg s die (off - 0x220000)
  else if off = 0x230000 then stored 7
  else if off = 0x230004 then s.hw.dram.units + 128 * s.hw.dram.st + 512 * s.hw.dram.order
  else if off = 0x230008 then stored 4096
  else if 0x240000 ≤ off ∧ off < 0x240018 then aoReg s (off - 0x240000)
  else if 0x250000 ≤ off ∧ off < 0x250040 then stored 0
  else if off = 0x250040 then (effectiveDebug s).toNat + 16 * s.sys.spring.sealedDebug.toNat
  else 0

/-- A TDM port direction's registers (R366). -/
def tdmReg (s : State) (dir p off : Nat) : Nat :=
  let x := getPort s (portKey 0 dir p)
  let own := ownClock s 0 dir p && portSt s 0 dir p == 2
  let len := if own then (match mapFind s.route.tdm (tdmKey dir p) with
    | some c => masterFrame (c.slots * c.width)
    | none => 0) else x.frameLen
  match off with
  | 0 => portSt s 0 dir p + 4 * portMode s 0 dir p + flagAt x.maskBuf.isSome 4 + 32 * (len % 2048) + 65536 * min 65535 x.losses
  | 4 => x.mask
  | 8 => portMeasured s 0 dir p
  | _ => 0

/-- An AES3 input's registers (R367). -/
def aesReg (s : State) (p off : Nat) : Nat :=
  let x := getPort s (portKey 1 0 p)
  if off = 0 then portSt s 1 0 p + 4 * portMode s 1 0 p + flagAt (byteAt x.csA 0 % 2 == 1) 4 + flagAt (x.nonAudio != 0) 5
    + flagAt x.validity 6 + flagAt x.crccErr 7 + flagAt x.bsyncErr 8 + 65536 * min 65535 x.losses
  else if off = 8 then portMeasured s 1 0 p
  else if 0x10 ≤ off ∧ off < 0x28 then fieldLE x.csA (off - 0x10) 4
  else if 0x30 ≤ off ∧ off < 0x48 then fieldLE x.csB (off - 0x30) 4
  else 0

/-- A network port's registers (R396). -/
def netPortReg (s : State) (p off : Nat) : Nat :=
  let x := getNet s p
  match off with
  | 0x00 => flag x.link + 2 * x.mode + flagAt x.pauseEnd.isSome 4 + 32 * (maskOf (x.pfcEnd.map (·.1)) % 256) + flagAt x.xoff 13
      + 65536 * min 65535 x.linkDowns
  | 0x04 => regOr s 0 (netReg s p off)
  | 0x08 => regOr s 0 (netReg s p off)
  | 0x0C => portMac s p % 2 ^ 32
  | 0x10 => portMac s p / 2 ^ 32
  | 0x14 => regOr s 0 (netReg s p off)
  | 0x18 => (if x.mode = 0 then 0 else x.partition) + 65536 * (x.maxFrame % 16384)
  | 0x1C => fillOf s p
  | _ => 0

/-- The PTP registers; TSQ_SEQ, whose read pops, reads here as it was popped last (R429). -/
def ptpReg (s : State) (off : Nat) : Nat :=
  let c := s.time.ptp
  if off < 0x100 then match off with
    | 0x00 => c.sec % 2 ^ 32
    | 0x04 => c.sec / 2 ^ 32
    | 0x08 => c.ns
    | 0x0C => c.sub
    | 0x10 => c.incr % 2 ^ 32
    | 0x14 => c.incr / 2 ^ 32 % 256
    | 0x18 => c.servo + flagAt c.gm 2 + 8 * (c.pstate % 16)
    | 0x1C => regOr s 0x808080 (dieAddr (activeShore s) 0x36001C)
    | _ => 0
  else if off < 0x200 then
    let p := (off - 0x100) / 0x40
    let x := getNet s p
    match off % 0x40 with
    | 0x00 => regOr s 0 (dieAddr (activeShore s) (0x360000 + off))
    | 0x04 => regOr s 0 (dieAddr (activeShore s) (0x360000 + off))
    | 0x08 => x.tsq.length + flagAt x.tsqOvf 8 + 65536 * x.tsqNext
    | 0x0C => x.tsqPopped.1 + flagAt x.tsqValid 16
    | 0x10 => x.tsqPopped.2.1 % 2 ^ 32
    | 0x14 => x.tsqPopped.2.1 / 2 ^ 32
    | 0x18 => x.tsqPopped.2.2.1
    | 0x1C => x.tsqPopped.2.2.2
    | _ => 0
  else 0

/-- The media-clock registers (R430). The NCO's correction has no stated value while a reference rules it. -/
def mcsReg (s : State) (off : Nat) : Nat :=
  let m := s.time.mclk
  let word := fun (v : Int) => (v % 2 ^ 64).toNat
  match off with
  | 0x00 => m.ref + 4 * m.st + flagAt m.slewing 4 + flagAt m.mclkOut 5 + flagAt s.time.mclk512 6
      + 256 * (if rendering s then s.time.rate else 0xFF) + 65536 * min 65535 (counter s 0x4280)
  | 0x04 => s.time.index % 2 ^ 32
  | 0x08 => s.time.index / 2 ^ 32 % 2 ^ 32
  | 0x0C => word m.delta % 2 ^ 32
  | 0x10 => word m.delta / 2 ^ 32
  | 0x14 => word m.phase % 2 ^ 32
  | 0x18 => if m.ref = 3 then 0 else word (Config.unstated 430 s.time.index) % 2 ^ 32
  | _ => 0

/-- Audio and network registers of the Shore. -/
def audioReg (s : State) (off : Nat) : Nat :=
  if 0x300000 ≤ off ∧ off < 0x300400 then
    if (off - 0x300000) / 0x20 < s.member.tdmPorts then tdmReg s 0 ((off - 0x300000) / 0x20) (off % 0x20) else 0
  else if off < 0x300800 then
    if (off - 0x300400) / 0x20 < s.member.tdmPorts then tdmReg s 1 ((off - 0x300400) / 0x20) (off % 0x20) else 0
  else if 0x310000 ≤ off ∧ off < 0x310200 then aesReg s ((off - 0x310000) / 0x100) (off % 0x100)
  else if 0x340000 ≤ off ∧ off < 0x340400 then netPortReg s ((off - 0x340000) / 0x100) (off % 0x100)
  else if off = 0x350000 then swCfg s
  else if off = 0x350004 then 4 + s.net.macs.length
  else if 0x360000 ≤ off ∧ off < 0x360200 then ptpReg s (off - 0x360000)
  else if 0x370000 ≤ off ∧ off < 0x370020 then mcsReg s (off - 0x370000)
  else 0

/-- A register of the active Shore (R600). -/
def shoreReg (s : State) (off : Nat) : Nat :=
  if off < 0x200000 ∨ 0xF00000 ≤ off then hostReg s off
  else if off < 0x300000 then systemReg s off
  else if off < 0x400000 then audioReg s off
  else 0

/-! ### Tarn -/

/-- Objects of a slice, and those of its lane group `g` (R232, R260). -/
def sliceObjects (s : State) (sl : Nat) : List (Nat × Obj) := s.rend.objs.filter fun e => e.2.slice == sl
def laneObjects (s : State) (sl g : Nat) : Nat := ((sliceObjects s sl).filter fun e => e.2.slot % 4 == g).length

def geoRegRead (s : State) (sl off : Nat) : Nat :=
  let x := getSlice s sl
  let t := getTile s (sliceDie sl)
  match off with
  | 0 => (sliceObjects s sl).length % 256 + flagAt (historySlots s sl == 128) 8 + flagAt (x.windows.any fun w => !w.computed) 9
      + flagAt (t.geoOverrun.getLsbD (sl % 4)) 10 + flagAt t.geo.table.mesh.noPan 11 + 65536 * (x.boundary % 65536)
  | 4 => x.geoLast % 2 ^ 20
  | 8 => regOr s 0 (dieAddr (sliceDie sl) (0x400000 + (sl % 4) * 0x1000 + 8))
  | _ => 0

def dgmRegRead (s : State) (sl off : Nat) : Nat :=
  let x := getSlice s sl
  let t := getTile s (sliceDie sl)
  match off with
  | 0 => laneObjects s sl 0 + 64 * laneObjects s sl 1 + 4096 * laneObjects s sl 2 + 2 ^ 18 * laneObjects s sl 3
      + flagAt x.migrating.isSome 24 + flagAt (t.dgmLate.getLsbD (sl % 4)) 25
  | 4 => x.laneLast % 65536
  | 8 => regOr s 0 (dieAddr (sliceDie sl) (0x410000 + (sl % 4) * 0x1000 + 8))
  | _ => 0

/-- A coefficient word: the active set, or the shadow set, which on Tarn 2 is the staged one (R242, R261). -/
def icoefReg (s : State) (die : Nat) (shadow : Bool) (k : Nat) : Nat :=
  let t := getTile s die
  let word := fun (v : Int) => (v % 2 ^ 20).toNat
  if !shadow then word (icoefAt t.geo (k / 8) (k % 8))
  else if die = 2 then word (icoefAt s.rend.geoStage (k / 8) (k % 8))
  else regOr s (word (icoefAt t.geo (k / 8) (k % 8))) (dieAddr die (0x442000 + 4 * k))

/-- Bits of READY of 32 slots. -/
def readyMask (c : Core) (base : Nat) : Nat := maskOf ((List.range 32).filter fun i => (mapGet xslot0 c.slots (base + i)).ready)

def CoreState.code : CoreState → Nat
  | .unloaded => 0
  | .stopped => 1
  | .running => 2
  | .trapped => 3

/-- The RPL block of a core (R329). -/
def rplReg (s : State) (core off : Nat) : Nat :=
  let c := getCore s core
  let slot := fun (base : Nat) => mapGet xslot0 c.slots ((off - base) / 4)
  if off = 0 then c.st.code
  else if off = 4 then (if c.st = .trapped then c.trapPc else c.pc)
  else if off = 8 then c.cause + 16 * c.code
  else if off = 0xC then c.busyLast
  else if off = 0x10 then c.peak
  else if off = 0x14 then c.ovr
  else if off = 0x18 then c.conflict
  else if 0x20 ≤ off ∧ off < 0x40 then
    match mapFind c.windows ((off - 0x20) / 4) with
    | some b => b + 2 ^ 31
    | none => 0
  else if 0x400 ≤ off ∧ off < 0x500 then (slot 0x400).xin.toNat
  else if 0x500 ≤ off ∧ off < 0x600 then (slot 0x500).xout.toNat
  else if 0x600 ≤ off ∧ off < 0x700 then
    let x := slot 0x600
    x.point + flagAt x.bound 2 + 256 * x.tag + flagAt x.ready 16 + flagAt x.done 17 + 2 ^ 20 * (x.id % 2048)
  else if off = 0x704 then readyMask c 0
  else if off = 0x708 then readyMask c 32
  else 0

/-- The warden's registers (R551). -/
def wardenReg (s : State) (die off : Nat) : Nat :=
  let w := mapGet warden0 s.sys.red.wardens die
  let t := getTile s die
  match off with
  | 0 => flagAt w.suspect 0 + flagAt w.declared 1 + flagAt t.holdover 2 + flagAt t.holdMute 3 + 16 * w.votes.toNat
      + 256 * s.sys.red.active + flagAt s.sys.red.proving.isSome 12 + 65536 * min 65535 w.hbAge
  | 4 => regOr s 10 (dieAddr die 0x490004)
  | 8 => min 65535 w.failovers
  | _ => 0

/-- A register of a Tarn. -/
def tarnReg (s : State) (die off : Nat) : Nat :=
  let t := getTile s die
  if off = 0x16080 then lockErrReg s die
  else if 0x400000 ≤ off ∧ off < 0x404000 then geoRegRead s (4 * (die - 2) + (off - 0x400000) / 0x1000) (off % 0x1000)
  else if 0x410000 ≤ off ∧ off < 0x414000 then dgmRegRead s (4 * (die - 2) + (off - 0x410000) / 0x1000) (off % 0x1000)
  else if 0x440000 ≤ off ∧ off < 0x442000 then icoefReg s die false ((off - 0x440000) / 4)
  else if 0x442000 ≤ off ∧ off < 0x444000 then icoefReg s die true ((off - 0x442000) / 4)
  else if off = 0x450000 then t.miss.toNat + flagAt t.misalign 4 + 65536 * (t.redIndex % 65536)
  else if off = 0x460000 then
    ((List.range t.chGeo.table.recs.length).filter fun i => homeTile s.member i == die).length % 256 + 256 * (32 / s.member.tarns)
      + flagAt t.chnOverrun 14 + 65536 * (t.chnIndex % 65536)
  else if off = 0x460004 then Config.cyclesUsed (1000 + die) t.chnIndex % 65536
  else if off = 0x460008 then regOr s 0 (dieAddr die off)
  else if 0x470000 ≤ off ∧ off < 0x471000 then pndReg s die (off - 0x470000)
  else if 0x481000 ≤ off ∧ off < 0x482400 then regOr s 0 (dieAddr die off)
  else if 0x490000 ≤ off ∧ off < 0x490010 then wardenReg s die (off - 0x490000)
  else if 0x500000 ≤ off ∧ off < 0x510000 then rplReg s ((die - 2) * 16 + (off - 0x500000) / 0x1000) (off % 0x1000)
  else 0

/-! ### Outlet -/

def dacReg (s : State) (c off : Nat) : Nat :=
  let d := getDac s c
  let code := fun (v : Int) => (v % 2 ^ 24).toNat
  match off with
  | 0x00 => code d.clear
  | 0x04 => dacState s c + flagAt s.outs.dacClr 3 + flagAt d.limiting 4 + 256 * code d.code
  | 0x08 => d.step
  | 0x0C => d.rate
  | _ => 0

def senseReg (s : State) (c off : Nat) : Nat :=
  let x := getSense s c
  let sample := fun (v : Int) (ovl : Bool) => (v % 2 ^ 24).toNat + flagAt ovl 30 + flagAt x.valid 31
  match off with
  | 0 => x.log2M + 16 * (x.order - 1) + flagAt (x.bank == 1) 6 + flagAt x.loaded 7 + flagAt x.pending 8
  | 4 => sample x.v x.ovlV
  | 8 => sample x.i x.ovlI
  | _ => 0

def auxReg (s : State) (die i : Nat) : Nat :=
  let x := getAux s (auxKey die i)
  (x.raw % 2 ^ 24).toNat + flagAt x.limit 30 + flagAt x.valid 31

/-- FREQ of a power channel in kHz: its reference while it is locked, its idle frequency with no signal, and no stated value under modulation (R459). DESIGN CHOICE, log 30. -/
def ampFreq (s : State) (c : Nat) : Nat :=
  let a := getAmp s c
  if !a.st.switching then 0
  else if a.syncLock then syncRef (getOutlet s (channelDie c)) / 1000
  else if a.st = .startHold ∨ a.st = .holding then a.idle
  else (Config.unstated 459 (c * 2 ^ 32 + s.now)).toNat

def ampReg (s : State) (c off : Nat) : Nat :=
  let a := getAmp s c
  match off with
  | 0x00 => a.st.code + flagAt a.st.switching 2 + flagAt a.syncLock 3 + flagAt a.freqErr 4 + flagAt a.clip 5
      + flagAt (a.st == .startHold || a.st == .holding || a.st == .stopHold) 6 + 256 * min 15 a.retries + 4096 * (a.cause % 16)
      + 65536 * (ampFreq s c % 1024)
  | 0x04 => regOr s 0x38 (dieAddr (channelDie c) (0x630004 + (c % 16) * 0x20))
  | 0x08 => a.zmag % 2 ^ 32
  | 0x0C => (a.zph % 65536).toNat
  | _ => 0

def boostReg (s : State) (g off : Nat) : Nat :=
  let b := getBoost s g
  let on := b.ceiling != 0 && !b.ocStop && !pinsDriven s
  match off with
  | 0 => (roundDiv b.target 65536 % 65536).toNat + flagAt on 16 + flagAt (b.tracking && on) 17 + flagAt b.outOfReg 18 + flagAt b.ocStop 19
  | 4 => b.vout % 65536
  | _ => 0

/-- A register of an Outlet (R451, R485, R486). -/
def outletReg (s : State) (die off : Nat) : Nat :=
  let ch := fun (base : Nat) => (die - 6) * 16 + (off - base) / 0x20
  if 0x600000 ≤ off ∧ off < 0x600200 then dacReg s (ch 0x600000) (off % 0x20)
  else if 0x610000 ≤ off ∧ off < 0x610200 then senseReg s (ch 0x610000) (off % 0x20)
  else if 0x620000 ≤ off ∧ off < 0x620040 then auxReg s die ((off - 0x620000) / 4)
  else if 0x630000 ≤ off ∧ off < 0x630200 then ampReg s (ch 0x630000) (off % 0x20)
  else if 0x640000 ≤ off ∧ off < 0x640080 then boostReg s ((die - 6) * 4 + (off - 0x640000) / 0x20) (off % 0x20)
  else 0

/-- A register word of a die as it reads without any side effect; addresses that name no register read 0 (R17). -/
def regRead (s : State) (die off : Nat) : Word :=
  BitVec.ofNat 32 (if isShore die then shoreReg s off else if isTarn die then tarnReg s die off else outletReg s die off)

end Sys2Proof.Machine
end

