-- ==== Sys2Proof/Machine/Bus.lean ====
section
/-! DEFINITION. Accesses to internal addresses (R12 to R17, R40 to R44): where an address leads, the firewall (R498 to R500), what a write does to each register, pond, code pond and DRAM accesses, and the commands REGISTER_WRITE, W1S_ACTION_DONE, RPL_XDONE_WRITE, `mem.read` and `mem.write`. -/

namespace Sys2Proof.Machine

/-! ### Where an address leads (R40 to R43) -/

/-- Where an internal address leads. -/
inductive Place where
  | reg (die off : Nat)
  | pond (die bank off : Nat)
  | rom (off : Nat)
  | code (core off : Nat)
  | dram (d : Nat)
  /-- A decode error. -/
  | nothing
  /-- A die that is present but does not answer: a bus error at once. -/
  | dead
  deriving DecidableEq, Repr

/-- The die of a master. -/
def masterDie (s : State) : Master → Nat
  | .ripple c => coreDie c
  | .warden d => d
  | _ => activeShore s

/-- A die answers accesses from another: it is powered and its links are up; of the Shores only the active one. -/
def answersFrom (s : State) (own die : Nat) : Bool :=
  powered s die && (if isShore die then die == activeShore s && s.sys.red.hubUp else true) && reaches s own die

/-- The region of an offset within a die (R43). -/
def placeIn (s : State) (die off : Nat) : Place :=
  if off < 0x100_0000 then .reg die off
  else if isShore die then
    if pondBase ≤ off ∧ off < pondBase + 0x40_0000 then .pond die ((off - pondBase) / 0x10000) (off % 0x10000)
    else if 0x2000_0000 ≤ off ∧ off < 0x2004_0000 then .rom (off - 0x2000_0000)
    else if dramBase ≤ off ∧ off - dramBase < dramSize s then .dram (off - dramBase)
    else .nothing
  else if isTarn die then
    if pondBase ≤ off ∧ off < pondBase + 0x100_0000 then .pond die ((off - pondBase) / 0x10000) (off % 0x10000)
    else if codeBase ≤ off ∧ off < codeBase + 0x10_0000 then .code ((die - 2) * 16 + (off - codeBase) / 0x10000) (off % 0x10000)
    else .nothing
  else .nothing

/-- An internal address as seen from a die. -/
def placeOf (s : State) (own addr : Nat) : Place :=
  let f := addr / 2 ^ 36 % 16
  let off := addr % 2 ^ 36
  if f = 0xE ∧ !s.sys.red.hubUp then .dead
  else
    let die := if f = 0xE then activeShore s else if f = 0xF then own else f
    if f = 0xE ∨ f = 0xF ∨ f < 8 then
      if !s.member.has die then .nothing
      else if !answersFrom s own die then .dead
      else placeIn s die off
    else .nothing

def Place.die : Place → State → Nat
  | .reg d _, _ => d
  | .pond d _ _, _ => d
  | .code c _, _ => coreDie c
  | _, s => activeShore s

/-- Offset within the die. -/
def Place.off : Place → Nat
  | .reg _ o => o
  | .pond _ b o => pondBase + b * 0x10000 + o
  | .rom o => 0x2000_0000 + o
  | .code c o => codeBase + (c % 16) * 0x10000 + o
  | .dram d => dramBase + d
  | _ => 0

/-! ### Firewall (R498 to R500) -/

/-- A sealed region of a target grants a master an access at an offset (R499). -/
def regionGrants (s : State) (base t off m : Nat) (write : Bool) : Bool :=
  (List.range 32).any fun k =>
    let r := base + t * 0x200 + k * 0x10
    let perm := regOr s 0 (r + 8)
    perm.testBit 31 && decide (regOr s 0 r ≤ off / 4096) && decide (off / 4096 ≤ regOr s 0 (r + 4))
      && perm.testBit (if write then 16 + m else m)

/-- Master and target of the fixed grants of R498 on the Shore. -/
def fixedGrant (s : State) (m : Master) (p : Place) (t : Nat) (write : Bool) : Bool :=
  let owner := match p with
    | .pond d b _ => some (getBank s d b).owner
    | _ => none
  match m with
  | .controlCluster => t != 9 || !isSealed s (activeShore s)
  | .spring => true
  | .pcie => t == 0
  | .qspi => t == 0
  | .ripple _ => t == 0 || (!write && (t == 1 || t == 2))
  | .warden _ => t == 0 || (!write && (t == 1 || t == 2))
  | .ingressRouter => owner == some 2 || t == 8
  | .egressRouter => owner == some 3 || t == 8
  | .basinRing => t == 5 || t == 6
  | .weirDma => owner == some 1 || t == 5 || t == 6 || t == 7
  | .networkMgmt => t == 5 || t == 6
  | .xspi => write && (t == 3 || t == 4 || t == 5 || t == 6) && !isSealed s (activeShore s)
  | .debug => (effectiveDebug s).getLsbD 1
  | .testEngine => t == 3 || t == 4

/-- The firewall of a Tarn or an Outlet: its registers may be read, its locks used, a core's own block used by that core; the rest is the control cluster's or a region's (R329, R497, R519). The spec numbers no targets there: a region of any grants (DESIGN CHOICE). DEDUCED, log 40. -/
def dieAllows (s : State) (m : Master) (p : Place) (write : Bool) : Bool :=
  let reg := match p with
    | .reg d off => !write || (isTarn d && decide (0x16000 ≤ off) && decide (off < 0x17000))
        || (match m with
            | .ripple c => coreDie c == d && decide (0x500000 + (c % 16) * 0x1000 ≤ off) && decide (off < 0x501000 + (c % 16) * 0x1000)
            | _ => false)
    | .pond d b _ => (match m with
        | .ripple c => coreDie c == d && ownerCore d (getBank s d b).owner == some c
        | _ => false)
    | _ => false
  reg || (match m with
    | .controlCluster => true
    | .spring => true
    | .warden d => d == p.die s
    | .debug => (effectiveDebug s).getLsbD 1
    | _ => (List.range 10).any fun t => regionGrants s (dieAddr (p.die s) 0x481000) t p.off (masterNumber m) write)

/-- The firewall on an access's way: on the Shore its own target, for another die of a Shore master the Kyoler port and then that die's. -/
def allows (s : State) (m : Master) (p : Place) (write : Bool) : Bool :=
  let die := p.die s
  let shore := fun (t : Nat) => fixedGrant s m p t write || regionGrants s (dieAddr (activeShore s) 0x211000) t p.off (masterNumber m) write
  if isShore die then shore (shoreTarget p.off)
  else (!isShore (masterDie s m) || shore 8) && dieAllows s m p write

/-- The Shore target that counts a refusal. -/
def refusalTarget (s : State) (p : Place) : Nat := if isShore (p.die s) then shoreTarget p.off else 8

/-- A refused access: no effect; a read returns 0, and a bus error but for PCIe; counted and recorded on the Shore (R125, R500). -/
def firewallRefuse (m : Master) (p : Place) (write : Bool) (addr : Nat) (s : State) : State :=
  let t := refusalTarget s p
  let onShore := isShore (p.die s) || isShore (masterDie s m)
  let s := if onShore then bmxRecord t m 0 write addr (countRefusal t s) else s
  if m = .pcie then busOk [0] s else busErr s

/-- The blocks that PCIe reaches through BAR0 without a grant (R125). DEDUCED, log 40. -/
def hostBlock (off : Nat) : Bool :=
  (decide (0x10000 ≤ off) && decide (off < 0x17000)) || (decide (0x20000 ≤ off) && decide (off < 0x23000)) || off == 0xF00000

/-- What PCIe reaches: those blocks of the active Shore, all its registers under a debug grant for direct access, and the BAR2 window, whose part in the dump area it may not write (R44, R125, R546). DEDUCED, log 40. -/
def pcieReaches (s : State) (p : Place) (write : Bool) : Bool :=
  match p with
  | .reg d off => isShore d && (hostBlock off || (effectiveDebug s).getLsbD 1)
  | .dram d =>
    let b := d - basinOffset
    decide (basinOffset ≤ d) && decide (s.msg.mbx.bar2 * 0x10_0000 ≤ b) && decide (b < s.msg.mbx.bar2 * 0x10_0000 + bar2Size)
      && decide (b < basinSize s) && !(write && decide (dumpOffset s ≤ b) && decide (b < dumpOffset s + dumpSize))
  | _ => false

/-- Whether an access goes through. DEDUCED, log 40. -/
def permitted (s : State) (m : Master) (p : Place) (write : Bool) : Bool :=
  match m with
  | .pcie => pcieReaches s p write
  | _ => allows s m p write

/-! ### Register writes (R15 to R17, R98) -/

/-- Masters that write what only the control cluster writes; Spring is the same cluster before the seal. DEDUCED, log 40. -/
def controls : Master → Bool
  | .controlCluster => true
  | .spring => true
  | _ => false

/-- Registers that are plain storage, by die and offset: the fields that a write sets and whether they are sealed. -/
def storedMask (s : State) (die off : Nat) : Option (Nat × Bool) :=
  let region := fun (base : Nat) =>
    if base ≤ off ∧ off < base + 0x1400 then match (off - base) % 16 with
      | 0 => some (0xFFFFFF, true)
      | 4 => some (0xFFFFFF, true)
      | 8 => some (0x8FFF0FFF, true)
      | _ => none
    else none
  if isShore die then
    if 0x200000 ≤ off ∧ off < 0x200080 then some (0x3FFFFFF7, false)
    else if off = 0x200104 then some (0x3FFF, false)
    else if 0x210000 ≤ off ∧ off < 0x210030 then some (0xF, false)
    else if 0x220400 ≤ off ∧ off < 0x220480 then some (0xFFFFFFFF, true)
    else if off = 0x230000 then some (7, false)
    else if off = 0x230008 then some (0xFFFF, false)
    else if 0x250000 ≤ off ∧ off < 0x250040 then some (0xFFFF, false)
    else if 0x340000 ≤ off ∧ off < 0x340400 then match off % 0x100 with
      | 0x04 => some (0xFFFFFFFF, false)
      | 0x08 => some (0x1FFFF, false)
      | 0x14 => some (7, false)
      | _ => none
    else if off = 0x350000 then some (0xFFFF, false)
    else if off = 0x36001C then some (0xFFFFFF, false)
    else if 0x360100 ≤ off ∧ off < 0x360200 ∧ off % 0x40 ≤ 4 then some (0xFFFFFFFF, false)
    else region 0x211000
  else if isTarn die then
    if 0x470400 ≤ off ∧ off < 0x470480 then some (0xFFFFFFFF, true)
    else if off = 0x490004 then some (0x3F, false)
    else if die ≠ 2 ∧ 0x442000 ≤ off ∧ off < 0x444000 then some (0xFFFFF, false)
    else region 0x481000
  else if s.member.has die ∧ 0x630000 ≤ off ∧ off < 0x630200 ∧ off % 0x20 = 4 then some (0x7F, false)
  else none

/-- The plain registers on the network and mailbox side, whose Image column reads "Yes" (R19): they are saved, journalled and set by REGS. -/
def imageReg (die off : Nat) : Bool :=
  if isShore die then
    (decide (0x10000 ≤ off) && decide (off < 0x14000) && off % 0x800 == 0x408) || off == 0x14008
      || (decide (0x200000 ≤ off) && decide (off < 0x200080)) || off == 0x200104
      || (decide (0x210000 ≤ off) && decide (off < 0x210030)) || off == 0x230000 || off == 0x230008
      || (decide (0x340000 ≤ off) && decide (off < 0x340400) && (off % 0x100 == 4 || off % 0x100 == 8 || off % 0x100 == 0x14))
      || off == 0x350000 || off == 0x36001C || (decide (0x360100 ≤ off) && decide (off < 0x360200) && off % 0x40 == 0)
  else if isTarn die then decide (0x442000 ≤ off) && decide (off < 0x444000)
  else (decide (0x600000 ≤ off) && decide (off < 0x600200) && (off % 0x20 == 0 || off % 0x20 == 8 || off % 0x20 == 0xC))
    || (decide (0x630000 ≤ off) && decide (off < 0x630200) && off % 0x20 == 4)

/-- The peaks that a write of bit 0 clears, kept as stored registers. -/
def peakReg (die off : Nat) : Bool :=
  isTarn die && ((decide (0x400000 ≤ off) && decide (off < 0x404000) && off % 0x1000 == 8)
    || (decide (0x410000 ≤ off) && decide (off < 0x414000) && off % 0x1000 == 8) || off == 0x460008)

/-- A write to DBL_NERRIS (R120, R141). -/
def ringDoorbell (v : Nat) (s : State) : State :=
  let s := ringNerris (v % 8 + v / 65536 * 65536) s
  let s := if v.testBit 1 then { s with msg.ncp.suspended := true } else s
  if v.testBit 2 then { s with msg.ncp.suspended := false } else s

/-- A write within the mailbox block. -/
def mailboxWrite (m : Master) (off : Nat) (v : Word) (s : State) : State :=
  let n := (off - 0x10000) / 0x800 % 4
  let r := off % 0x800
  if off < 0x12000 then
    if r < 0x400 then mbxWriteWord m n (r / 4) v s
    else if r = 0x404 then
      let b := getIn s n
      busOk [] (setIn n { b with ack := b.ack && !v.getLsbD 2, aborted := b.aborted && !v.getLsbD 3 } s)
    else if r = 0x408 ∧ controls m then busOk [] (setIn n { getIn s n with allow := v.setWidth 3 } s)
    else busOk [] s
  else if off < 0x14000 then
    if r = 0x408 ∧ controls m then busOk [] (setOut n { getOut s n with allow := v.setWidth 3 } s) else busOk [] s
  else if off = 0x14000 then
    busOk [] (withVectors (fun t => { t with msg.mbx.err := t.msg.mbx.err &&& ~~~(v.setWidth 16) }) s)
  else if off = 0x14008 then busOk [] { s with msg.mbx.irqMask := v.setWidth 12 ||| 0x400 }
  else busOk [] s

/-- A write of LOCK_ERR: VALID clears and the next record is armed (R123). -/
def lockErrWrite (die : Nat) (v : Word) (s : State) : State :=
  if v.getLsbD 31 then
    busOk [] (withVectors (fun t => { t with msg.locks.errs := mapSet t.msg.locks.errs die { getLockErr t die with valid := false } }) s)
  else busOk [] s

/-- A write within the lock block of a die. -/
def lockBlockWrite (m : Master) (die off : Nat) (v : Word) (s : State) : State :=
  let n := (off - 0x16000) / 4
  let err := if isShore die then 0x16100 else 0x16080
  if n < lockCount die then lockRelease m die n v s
  else if off = err then lockErrWrite die v s
  else if off = err + 4 then lockForced m die v s
  else busOk [] s

/-- A write of the MSI-X table: its words are stored, and bit 0 of an entry's last word is its mask (R126). PRESUMED, log 43. -/
def msixWrite (off : Nat) (v : Word) (s : State) : State :=
  let e := (off - 0x20000) / 16
  if 0x20200 ≤ off then s
  else if off % 16 ≠ 12 then regPut (dieAddr (activeShore s) off) v.toNat s
  else if v.getLsbD 0 then { s with msg.mbx.msixMask := s.msg.mbx.msixMask ||| BitVec.ofNat 32 (2 ^ e) }
  else unmaskVector e s

/-- A write to the host-interface registers of the active Shore. -/
def hostWrite (m : Master) (off : Nat) (v : Word) (s : State) : State :=
  if 0x10000 ≤ off ∧ off < 0x15000 then mailboxWrite m off v s
  else if off = 0x15000 then (if (senderId m).isSome then busOk [] (ringDoorbell v.toNat s) else busErr s)
  else if off = 0x15004 then
    (if m = .controlCluster then busOk [] { s with msg.mbx.dblNerris := s.msg.mbx.dblNerris &&& ~~~v } else busOk [] s)
  else if off = 0x15008 then busOk [] (clearHostBits v s)
  else if 0x16000 ≤ off ∧ off < 0x17000 then lockBlockWrite m (activeShore s) off v s
  else if 0x20000 ≤ off ∧ off < 0x21000 then busOk [] (msixWrite off v s)
  else if off = 0xF00000 ∧ v.getLsbD 20 then busOk [] { s with sys.spring.sealViol := false }
  else busOk [] s

/-- The registers of the always-on domain that the control cluster writes (R573). -/
def aoWrite (off : Nat) (v : Word) (s : State) : State :=
  if off = 0x04 then
    { s with sys.ao.wakeEn := v.setWidth 5, sys.ao.wakeSrc := s.sys.ao.wakeSrc &&& ~~~((v >>> 16).setWidth 5) }
  else if off = 0x08 then
    { s with sys.ao.alarmAt := if v = 0 then none else some (s.now + v.toNat * cyclesPerSecond) }
  else s

/-- PTP and time-stamp queue registers written. -/
def ptpWrite (m : Master) (off : Nat) (v : Word) (s : State) : State :=
  let c := s.time.ptp
  if off = 0x10 ∧ controls m then setPtp { c with incr := c.incr / 2 ^ 32 * 2 ^ 32 + v.toNat } s
  else if off = 0x14 ∧ controls m then setPtp { c with incr := c.incr % 2 ^ 32 + v.toNat % 256 * 2 ^ 32 } s
  else if 0x100 ≤ off ∧ off % 0x40 = 8 ∧ v.getLsbD 8 then
    let p := (off - 0x100) / 0x40
    setNet p { getNet s p with tsqOvf := false } s
  else s

/-- A write of RPL_XDONE (R325). A stale output has no numbered counter; it is counted under a number of the model's own. -/
def xdoneWrite (core : Nat) (v : Nat) (s : State) : State :=
  let c := getCore s core
  let n := v % 64
  let x := mapGet xslot0 c.slots n
  if !x.bound then s
  else if v / 256 % 256 = x.tag then setCore core { c with slots := mapSet c.slots n { x with done := true, ready := false } } s
  else count (0x12000 + core) (setCore core (c.stick 7) s)

/-- A write to a core's RPL block (R329). -/
def rplWrite (core off : Nat) (v : Word) (s : State) : State :=
  let c := getCore s core
  if off = 0x10 ∧ v.getLsbD 0 then setCore core { c with peak := 0 } s
  else if off = 0x18 ∧ v.getLsbD 0 then setCore core { c with conflict := 0 } s
  else if 0x500 ≤ off ∧ off < 0x600 then
    let n := (off - 0x500) / 4
    setCore core { c with slots := mapSet c.slots n { mapGet xslot0 c.slots n with xout := v } } s
  else if off = 0x700 then xdoneWrite core v.toNat s
  else s

/-- W1C flags of a Tarn's status registers. -/
def tarnFlags (die off : Nat) (v : Word) (s : State) : State :=
  let t := getTile s die
  let bitOff := fun (base : Nat) => ~~~(BitVec.ofNat 4 (2 ^ ((off - base) / 0x1000)))
  if 0x400000 ≤ off ∧ off < 0x404000 ∧ off % 0x1000 = 0 ∧ v.getLsbD 10 then
    setTile die { t with geoOverrun := t.geoOverrun &&& bitOff 0x400000 } s
  else if 0x410000 ≤ off ∧ off < 0x414000 ∧ off % 0x1000 = 0 ∧ v.getLsbD 25 then
    setTile die { t with dgmLate := t.dgmLate &&& bitOff 0x410000 } s
  else if off = 0x450000 ∧ v.getLsbD 4 then setTile die { t with misalign := false } s
  else if off = 0x460000 ∧ v.getLsbD 14 then setTile die { t with chnOverrun := false } s
  else s

/-- The record of refused PND_BANK writes cleared. -/
def pndErrWrite (die : Nat) (v : Word) (s : State) : State :=
  if v.getLsbD 31 then { s with hw.ponds.errs := mapSet s.hw.ponds.errs die { mapGet pndErr0 s.hw.ponds.errs die with valid := false } } else s

/-- DAC registers written by the control cluster (R434, R438, R451). -/
def dacWrite (c off : Nat) (v : Word) (s : State) : State :=
  let d := getDac s c
  match off with
  | 0x00 =>
    let code := signed 24 v.toNat
    setDac c (Dac.setClear s.now s.outs.dacClr code d) (if s.outs.dacClr then emit (.dacClear c code) s else s)
  | 0x08 => setDac c { d with step := v.toNat % 65536 } s
  | 0x0C => setDac c { d with rate := v.toNat % 2 ^ 21 } s
  | _ => s

/-- FREQ_ERR cleared. -/
def ampWrite (c off : Nat) (v : Word) (s : State) : State :=
  if off = 0 ∧ v.getLsbD 4 then setAmp c { getAmp s c with freqErr := false } s else s

/-- CRCC_ERR and BSYNC_ERR cleared. -/
def aesWrite (p off : Nat) (v : Word) (s : State) : State :=
  let k := portKey 1 0 p
  let x := getPort s k
  if off = 0 then setPort k { x with crccErr := x.crccErr && !v.getLsbD 7, bsyncErr := x.bsyncErr && !v.getLsbD 8 } s else s

/-- A register word of the Shore beyond the host interface. -/
def shoreWrite (m : Master) (off : Nat) (v : Word) (s : State) : State :=
  if off = 0x200108 then (if m = .controlCluster ∨ m = .weirDma then weirFinish (v.toNat % 16384) s else s)
  else if off = 0x210040 ∧ v.getLsbD 31 then { s with hw.bmxErr := { s.hw.bmxErr with valid := false } }
  else if 0x220000 ≤ off ∧ off < 0x220100 then pndBankWrite m (activeShore s) ((off - 0x220000) / 4) v s
  else if off = 0x220480 then pndErrWrite (activeShore s) v s
  else if 0x240000 ≤ off ∧ off < 0x240018 then (if controls m then aoWrite (off - 0x240000) v s else s)
  else if 0x310000 ≤ off ∧ off < 0x310200 then aesWrite ((off - 0x310000) / 0x100) (off % 0x100) v s
  else if 0x360000 ≤ off ∧ off < 0x360200 then ptpWrite m (off - 0x360000) v s
  else s

/-- A register word of a Tarn. Coefficient words are the control cluster's (R261). -/
def tarnWrite (m : Master) (die off : Nat) (v : Word) (s : State) : State :=
  if die = 2 ∧ 0x442000 ≤ off ∧ off < 0x444000 then
    { s with rend.geoStage := { s.rend.geoStage with
        icoef := mapSet s.rend.geoStage.icoef ((off - 0x442000) / 4) (BitVec.ofNat 32 (v.toNat % 2 ^ 20)) } }
  else if 0x470000 ≤ off ∧ off < 0x470400 then pndBankWrite m die ((off - 0x470000) / 4) v s
  else if off = 0x470480 then pndErrWrite die v s
  else if 0x500000 ≤ off ∧ off < 0x510000 then rplWrite ((die - 2) * 16 + (off - 0x500000) / 0x1000) (off % 0x1000) v s
  else tarnFlags die off v s

/-- A register word of an Outlet. -/
def outletWrite (m : Master) (die off : Nat) (v : Word) (s : State) : State :=
  let ch := fun (base : Nat) => (die - 6) * 16 + (off - base) / 0x20
  if 0x600000 ≤ off ∧ off < 0x600200 then (if controls m then dacWrite (ch 0x600000) (off % 0x20) v s else s)
  else if 0x630000 ≤ off ∧ off < 0x630200 then ampWrite (ch 0x630000) (off % 0x20) v s
  else s

/-- Who may write a plain stored register: the control cluster, and the debug master the test multiplexer (R593). -/
def mayStore (m : Master) (die off : Nat) : Bool :=
  controls m || (m == .debug && isShore die && decide (0x250000 ≤ off) && decide (off < 0x250040))

/-- A register word written by a master that the firewall lets through: the effect of each field's access code (R15), sealed registers keeping their values (R98), what names no register ignored (R17). DEDUCED, log 110. -/
def regWrite (m : Master) (die off : Nat) (v : Word) (s : State) : State :=
  match storedMask s die off with
  | some (mask, locked) =>
    if locked && isSealed s die then busOk [] { s with sys.spring.sealViol := true }
    else if isTarn die ∧ 0x442000 ≤ off ∧ off < 0x444000 ∧ !controls m then busErr s
    else if mayStore m die off then busOk [] (regPut (dieAddr die off) (v.toNat &&& mask) s)
    else busOk [] s
  | none =>
    if peakReg die off then busOk [] (if v.getLsbD 0 then regPut (dieAddr die off) 0 s else s)
    else if isShore die then
      if off < 0x200000 ∨ 0xF00000 ≤ off then hostWrite m off v s else busOk [] (shoreWrite m off v s)
    else if isTarn die then
      if 0x16000 ≤ off ∧ off < 0x17000 then lockBlockWrite m die off v s
      else if 0x442000 ≤ off ∧ off < 0x444000 ∧ !controls m then busErr s
      else busOk [] (tarnWrite m die off v s)
    else busOk [] (outletWrite m die off v s)

/-- The record of a register that an image may set: its address, with a Shore named as the active one, and its value (R65, R77). DEDUCED, log 25. -/
def regRecord (layer die off : Nat) (s : State) : Rec :=
  let addr := dieAddr (if isShore die then 0xE else die) off
  { layer := layer, opcode := 0x0B01, flow := 0xFFFF, key := bytesLE 8 addr
    payload := bytesLE 8 addr ++ bytesLE 2 4 ++ bytesLE 6 0 ++ bytesLE 4 (regRead s die off).toNat }

/-- The record noted; the shadow coefficients of Tarn 2 are a staged setting (R242). DEDUCED, log 25. -/
def noteReg (layer die off : Nat) (s : State) : State :=
  if imageReg die off && !(isTarn die && die != 2) then
    if layer = 1 then noteSetting (isTarn die) (regRecord layer die off s) s
    else { s with msg.ncp.records := putRec (regRecord layer die off s) s.msg.ncp.records }
  else s

/-! ### Register reads -/

/-- The four registers whose read has a side effect (R12): target of the refusal of a part read. -/
def sideTarget (die off : Nat) : Option Nat :=
  if isShore die then
    if 0x10000 ≤ off ∧ off < 0x14000 ∧ off % 0x800 = 0x400 then some 0
    else if 0x16000 ≤ off ∧ off < 0x16100 then some 0
    else if 0x360100 ≤ off ∧ off < 0x360200 ∧ off % 0x40 = 0xC then some 1
    else none
  else if isTarn die ∧ 0x16000 ≤ off ∧ off < 0x16080 then some 0
  else none

/-- A 32-bit read with its side effect. -/
def sideRead (m : Master) (die off : Nat) (s : State) : State :=
  if 0x16000 ≤ off ∧ off < 0x17000 then lockAcquire m die ((off - 0x16000) / 4) s
  else if off < 0x12000 then mbxCommit m ((off - 0x10000) / 0x800) s
  else if off < 0x14000 then mbxPop m ((off - 0x12000) / 0x800) s
  else ptpTsqRead m ((off - 0x360100) / 0x40) s

/-- A mailbox window that this master may not read now: inbound, FILLING by another (R107); outbound, for another (R114). -/
def windowHidden (m : Master) (off : Nat) (s : State) : Bool :=
  let n := (off - 0x10000) / 0x800 % 4
  let id := (senderId m).getD 0
  if 0x10000 ≤ off ∧ off < 0x12000 ∧ off % 0x800 < 0x400 then (getIn s n).st == .filling && (getIn s n).owner != id
  else if 0x12000 ≤ off ∧ off < 0x14000 ∧ off % 0x800 < 0x400 then
    m != .controlCluster && !((getOut s n).full && (getOut s n).dest == id)
  else false

/-- A read that a mailbox hides: 0, with a bus error for an internal master and DENIED for the QSPI host. -/
def hiddenRead (m : Master) (s : State) : State :=
  match m with
  | .pcie => busOk [0] s
  | .qspi => answer true 3 [0] s
  | _ => busErr s

/-- Part of a word. -/
def partOf (w : Word) (a size : Nat) : Word := BitVec.ofNat 32 (w.toNat / 2 ^ (8 * (a % 4)) % 2 ^ (8 * size))

/-- A register read of 1, 2 or 4 bytes (R12). -/
def regAccessRead (m : Master) (die off size : Nat) (s : State) : State :=
  let word := off / 4 * 4
  match sideTarget die word with
  | some t => if size ≠ 4 then sideReadRefused m die t s else sideRead m die word s
  | none =>
    if isShore die && windowHidden m word s then hiddenRead m s
    else if isShore die ∧ 0x10000 ≤ word ∧ word < 0x17000 ∧ (senderId m).isNone ∧ m ≠ .debug then busErr s
    else busOk [partOf (regRead s die word) off size] s

/-! ### Ponds, code ponds and DRAM -/

/-- A bank's accesses by its owner (R503). -/
def ownsBank (s : State) (m : Master) (die bank : Nat) : Bool :=
  let o := (getBank s die bank).owner
  match m with
  | .controlCluster => o == 0 || (isShore die && (o == 4 || o == 5)) || (isTarn die && o == 0x60)
  | .spring => isShore die
  | .xspi => isShore die
  | .weirDma => isShore die && o == 1
  | .ingressRouter => isShore die && o == 2
  | .egressRouter => isShore die && o == 3
  | .ripple c => ownerCore die o == some c
  | .testEngine => true
  | _ => false

/-- Whether a word fails its parity, and the state that has read it. DEDUCED, log 36. -/
def takeBad (addr : Nat) (s : State) : Bool × State :=
  let w := addr / 4 * 4
  if s.hw.ponds.bad.contains w then (true, { s with hw.ponds.bad := s.hw.ponds.bad.erase w }) else (false, s)

/-- Bytes of a chain bank: the chain's own lines lie there in places that the spec does not give (free values). -/
def chainBank (die bank : Nat) : Bool := isTarn die && decide (192 ≤ bank) && decide (bank < 224)

/-- A pond read of up to 4 bytes, giving the value where it succeeds (R506, R507). -/
def pondRead (die bank off size : Nat) (s : State) : Option Word × State :=
  if (getBank s die bank).pwr = 2 then (none, s)
  else
    let s := wakeBank die bank s
    let (bad, s) := takeBad (pondAddr die bank off) s
    if bad then (none, s)
    else if chainBank die bank then (some (BitVec.ofInt 32 (Config.unstated 264 (pondAddr die bank off + s.now * 2 ^ 40))), s)
    else (some (BitVec.ofNat 32 (fieldLE (readBytes s (pondAddr die bank off) size) 0 size)), s)

/-- A pond write by a master: refused to all but the owner (R503). -/
def pondWrite (m : Master) (die bank off size : Nat) (v : Word) (s : State) : State :=
  if !ownsBank s m die bank then
    busErr (if isShore die then count (0x6102 + 4 * (if bank < 32 then 3 else 4)) s else s)
  else if (getBank s die bank).pwr = 2 then busErr s
  else
    let a := pondAddr die bank off
    busOk [] (mendWords a size (writeBytes a (bytesLE size v.toNat) (wakeBank die bank s)))

/-- A DRAM read; an uncorrectable word gives 0 and a bus error (R515). -/
def dramRead (d size : Nat) (s : State) : State :=
  let a := dramAddr s d
  if s.hw.dram.st ≠ 1 then busErr s
  else
    let (bad, s) := takeBad a (touchDram a size s)
    if bad then busErr s else busOk [BitVec.ofNat 32 (fieldLE (readBytes s a size) 0 size)] s

/-! ### Accesses -/

/-- An aligned access of 1, 2 or 4 bytes. -/
def aligned (addr size : Nat) : Bool := addr % size == 0

/-- A read of an internal address by a master (R12, R40 to R43, R498 to R501). DESIGN CHOICE, log 11. -/
def busRead (m : Master) (addr size : Nat) (s : State) : State :=
  let p := placeOf s (masterDie s m) addr
  match p with
  | .nothing => openAccess m addr false s
  | .dead => busErr s
  | _ =>
    if !aligned addr size then (if m = .pcie then busOk [0] s else busErr s)
    else if !permitted s m p false then firewallRefuse m p false addr s
    else match p with
      | .reg die off => regAccessRead m die off size s
      | .pond die bank off => match pondRead die bank off size s with
        | (some v, s) => busOk [v] s
        | (none, s) => busErr s
      | .rom off => busOk [BitVec.ofInt 32 (Config.unstated 43 off)] s
      | .code core off => busOk [BitVec.ofNat 32 (fieldLE (readBytes s (codeAddr core 0 + off) size) 0 size)] s
      | .dram d => dramRead d size s
      | _ => s

/-- The answer of a posted write of PCIe: none (R12, R500). -/
def posted (m : Master) (s : State) : State := if m = .pcie then busOk [] s else s

/-- A write of an internal address by a master. -/
def busWrite (m : Master) (addr size : Nat) (v : Word) (s : State) : State :=
  let p := placeOf s (masterDie s m) addr
  match p with
  | .nothing => openAccess m addr true s
  | .dead => posted m (busErr s)
  | _ =>
    if !aligned addr size then posted m (busErr s)
    else if !permitted s m p true then firewallRefuse m p true addr s
    else match p with
      | .reg die off =>
        if size ≠ 4 then posted m (busErr s)
        else posted m (noteReg 1 die off (regWrite m die off v s))
      | .pond die bank off => pondWrite m die bank off size v s
      | .rom _ => busErr s
      | .code core off => busOk [] (writeBytes (codeAddr core 0 + off) (bytesLE size v.toNat) s)
      | .dram d => if s.hw.dram.st ≠ 1 then busErr s else busOk [] (dramWrite (dramAddr s d) (bytesLE size v.toNat) s)
      | _ => s

/-- An access that is not left open: its port's watchdog ends it within the command (R501). DEDUCED, log 41. -/
def settleOpen (m : Master) (s : State) : State :=
  match mapFind s.hw.opens (masterKey m) with
  | none => s
  | some (addr, write) => endDecodeError m addr write { s with hw.opens := mapErase s.hw.opens (masterKey m) }

/-- REGISTER_WRITE. A master whose access is open makes no other. DEDUCED, log 4. -/
def execRegisterWrite (m : Master) (addr size : Nat) (v : Word) (s : State) : Host.Outcome State Fault Refusal :=
  if !accessSize size then .fault .illFormedCommand
  else .next (if !powered s (masterDie s m) ∨ mapHas s.hw.opens (masterKey m) then s else busWrite m (addr % 2 ^ 40) size v s)

/-- W1S_ACTION_DONE: hardware completes a W1S action and clears the bit, unless it is requested again in the same cycle (R16). The W1S fields are those of DBL_NERRIS. DEDUCED, log 18. -/
def execW1sActionDone (addr bit : Nat) (again : Bool) (s : State) : Host.Outcome State Fault Refusal :=
  .next (match placeOf s (activeShore s) (addr % 2 ^ 40) with
    | .reg die off =>
      if isShore die ∧ off = 0x15000 ∧ (bit < 3 ∨ 16 ≤ bit) ∧ bit < 32 ∧ !again then
        { s with msg.mbx.dblNerris := s.msg.mbx.dblNerris &&& ~~~(BitVec.ofNat 32 (2 ^ bit)) }
      else s
    | _ => s)

/-- RPL_XDONE_WRITE: by the core itself, or by another master that the firewall lets through. -/
def execRplXdoneWrite (m : Master) (core : Nat) (v : Word) (s : State) : Host.Outcome State Fault Refusal :=
  .next (
    let die := coreDie core
    let off := 0x500700 + (core % 16) * 0x1000
    let p := placeOf s (masterDie s m) (dieAddr die off)
    if s.member.cores ≤ core ∨ !powered s (masterDie s m) then s
    else if p ≠ .reg die off then busErr s
    else if !permitted s m p true then firewallRefuse m p true (dieAddr die off) s
    else busOk [] (xdoneWrite core v.toNat s))

/-! ### `mem.read` and `mem.write` (R162) -/

/-- The last byte of a range lies in the same place as its first. -/
def sameRegion (a b : Place) : Bool :=
  match a, b with
  | .reg d _, .reg e _ => d == e
  | .pond d _ _, .pond e _ _ => d == e
  | .rom _, .rom _ => true
  | .code c _, .code d _ => coreDie c == coreDie d
  | .dram _, .dram _ => true
  | _, _ => false

def Place.isReg : Place → Bool
  | .reg _ _ => true
  | _ => false

/-- The refusal of a range before any access, if any: an address that leads nowhere, a register access not aligned, the Spring ROM after the seal, a firewall refusal. DEDUCED, log 40. -/
def memRefused (s : State) (addr len : Nat) (write : Bool) : Option Reply :=
  let p := placeOf s (activeShore s) addr
  let q := placeOf s (activeShore s) (addr + len - 1)
  if 2 ^ 40 ≤ addr ∨ !sameRegion p q ∨ addr / 2 ^ 36 ≠ (addr + len - 1) / 2 ^ 36 then some (badArg 0 s)
  else if p.isReg && addr % 4 != 0 then some (badArg 0 s)
  else if !permitted s .controlCluster p write then some (refuse codeDenied 0 noField s)
  else none

/-- The width of the accesses to a range: words, or bytes where it does not start at a word. -/
def memUnit (addr : Nat) : Nat := if addr % 4 = 0 then 4 else 1

/-- A range read by the control cluster, access by access. -/
def readRange (addr len : Nat) (s : State) : List Byte × State :=
  let u := memUnit addr
  (List.range (len / u)).foldl (fun (a : List Byte × State) k =>
    let s := busRead .controlCluster (addr + u * k) u a.2
    (a.1 ++ bytesLE u (nth 0 s.bus.data 0).toNat, s)) ([], s)

def memReadBody (rq : Request) (s : State) : Reply :=
  let addr := fieldLE rq.payload 0 8
  let len := fieldLE rq.payload 8 2
  if len < 4 ∨ 1000 < len ∨ len % 4 ≠ 0 then badArg 8 s
  else match memRefused s addr len false with
    | some r => r
    | none =>
      let (bs, s) := readRange addr len s
      replyOk bs s

/-- `mem.read`. -/
def memReadOp : NcpOp :=
  { opcode := 0x0B00, layout := fun _ => [8, 2], staged := never, key := noKey, body := memReadBody }

def execMemRead (rq : Request) (s : State) : Host.Outcome State Fault Refusal := .next (serve memReadOp rq s)

/-- The range lies in the shadow coefficients of Tarn 2: a staged change (R56, R242). -/
def memStaged (rq : Request) : Bool :=
  let a := fieldLE rq.payload 0 8
  decide (dieAddr 2 0x442000 ≤ a) && decide (a < dieAddr 2 0x444000)

/-- DEDUCED, log 42. -/
def memWriteBody (rq : Request) (s : State) : Reply :=
  let addr := fieldLE rq.payload 0 8
  let len := fieldLE rq.payload 8 2
  if len < 4 ∨ 992 < len ∨ len % 4 ≠ 0 then badArg 8 s
  else if rq.payload.length < 16 + len then badArg 16 s
  else match memRefused s addr len true with
    | some r => r
    | none =>
      let u := memUnit addr
      let step := fun (a : Bool × State) (k : Nat) =>
        let s := busWrite .controlCluster (addr + u * k) u (BitVec.ofNat 32 (fieldLE rq.payload (16 + u * k) u)) a.2
        (a.1 || s.bus.error, s)
      let (bad, t) := (List.range (len / u)).foldl step (false, s)
      if bad then { refuse codeDenied 0 noField s with state := t } else replyOk [] t

/-- `mem.write`. The records that it leaves are those of the registers written. -/
def memWriteOp : NcpOp :=
  { opcode := 0x0B01, layout := fun _ => [8, 2, 6], staged := memStaged, key := noKey, body := memWriteBody }

def execMemWrite (rq : Request) (s : State) : Host.Outcome State Fault Refusal := .next (serve memWriteOp rq s)

end Sys2Proof.Machine
end

