-- ==== Sys2Proof/Machine/RippleIsa.lean ====
section
/-! DEFINITION. The Ripple instructions that touch no memory (R303 to R317): control, ALU, accumulator and move classes. An instruction acts on a core that issues; otherwise nothing happens. -/

namespace Sys2Proof.Machine

/-- Any READY bit of a core's exchange slots. -/
def Core.anyReady (c : Core) : Bool := c.slots.any fun e => e.2.ready

/-- The accumulator after an exact result: kept, or pinned with PINa, with the trap of TPa (R304). A pinned accumulator ignores the instruction. -/
def accumulate (n a : Nat) (uses : List Use) (r : Int) (c : Core) (s : State) : State :=
  if c.pinned.getLsbD a then completes n uses 0 [(3, a)] c s
  else
    let p := accFit r
    let c1 := { c with acc := mapSet c.acc a p.1 }
    if p.2 then
      let c2 := { c1.stick (1 + a) with pinned := c1.pinned ||| BitVec.ofNat 4 (2 ^ a) }
      if c.ctrl.getLsbD a then trapCore n 5 0 (setCore n (c2.spend uses 0 [(3, a)]) s)
      else completes n uses 0 [(3, a)] c2 s
    else completes n uses 0 [(3, a)] c1 s

/-- An accumulator written afresh: the pin is released, PINa stays (R304). -/
def setAcc (n a : Nat) (uses : List Use) (v : BitVec 72) (c : Core) (s : State) : State :=
  completes n uses 0 [(3, a)] { c with acc := mapSet c.acc a v, pinned := c.pinned &&& ~~~(BitVec.ofNat 4 (2 ^ a)) } s

/-- The contents of a control register (R298). -/
def Core.control (c : Core) (n cr : Nat) (s : State) : Word :=
  match cr with
  | 0 => c.flags.setWidth 32
  | 1 => c.sticky.setWidth 32
  | 2 => BitVec.ofNat 32 (flag c.ie + 2 * c.ctrl.toNat)
  | 3 => BitVec.ofNat 32 c.ipc
  | 4 => BitVec.ofNat 32 (mapGet tile0 s.rend.tiles (coreDie n)).index
  | 5 => BitVec.ofNat 32 ((mapGet tile0 s.rend.tiles (coreDie n)).index / 2 ^ 32)
  | 6 => BitVec.ofNat 32 c.cycles
  | 7 => c.far.setWidth 32
  | 8 => BitVec.ofNat 32 n
  | 9 => BitVec.ofNat 32 s.time.rate
  | _ => BitVec.ofNat 32 c.stack.length

/-- A control register written; a read-only one keeps its contents (R298, R312). -/
def Core.setControl (c : Core) (cr : Nat) (v : Word) : Core :=
  match cr with
  | 0 => { c with flags := v.setWidth 4 }
  | 2 => { c with ctrl := (v >>> 1).setWidth 6 }
  | 3 => { c with ipc := v.toNat % 16384 }
  | 7 => { c with far := v.setWidth 16 }
  | _ => c

/-- A pending tick is consumed by a WAIT (R315, R317). -/
def Core.eatTick (c : Core) : Core := { c with tickPending := false }

/-- REP: the next instruction issues `k` times; with 0 it is skipped (R314). DEDUCED, log 32. -/
def repeatNext (n k : Nat) (uses : List Use) (c : Core) (s : State) : State :=
  let c1 := c.spend uses 0 []
  if k = 0 then setCore n { c1 with pc := (c.pc + 2) % 16384 } s
  else setCore n { c1 with pc := (c.pc + 1) % 16384, rep := some k } s

/-- NOP (R308). -/
def execNop (core : Nat) (s : State) : Host.Outcome State Fault Refusal :=
  .next (issueControl core s fun c t => completes core [] 0 [] c t)

/-- REP #n, n from 1; the word with n = 0 is illegal (R307, R308). -/
def execRepImm (core : Nat) (n : BitVec 16) (s : State) : Host.Outcome State Fault Refusal :=
  .next (issueControl core s fun c t => if n = 0 then trapCore core 1 0 t else repeatNext core n.toNat [] c t)

/-- REP Dn: the count is Dn[15:0] when REP issues (R314). -/
def execRepReg (core : Nat) (dn : Fin 16) (s : State) : Host.Outcome State Fault Refusal :=
  .next (issueControl core s fun c t => repeatNext core ((c.dreg dn).toNat % 65536) [.otherD dn] c t)

/-- BR cc, target (R308). -/
def execBr (core : Nat) (cc : Fin 15) (target : BitVec 14) (s : State) : Host.Outcome State Fault Refusal :=
  .next (issueControl core s fun c t =>
    if condition cc c.flags c.sticky then jump core (if cc.val = 0 then [] else [.cond]) 2 target.toNat c t
    else completes core [.cond] 0 [] c t)

/-- CALL: pushes PC + 1; with 8 entries in use it traps with cause 4 (R308, R319). -/
def execCall (core : Nat) (target : BitVec 14) (s : State) : Host.Outcome State Fault Refusal :=
  .next (issueControl core s fun c t =>
    if c.stack.length < 8 then jump core [] 2 target.toNat { c with stack := ((c.pc + 1) % 16384) :: c.stack } t
    else trapCore core 4 0 t)

/-- RET: with an empty return stack it traps with cause 4. -/
def execRet (core : Nat) (s : State) : Host.Outcome State Fault Refusal :=
  .next (issueControl core s fun c t =>
    match c.stack with
    | pc :: rest => jump core [] 2 pc { c with stack := rest } t
    | [] => trapCore core 4 0 t)

/-- RETI: PC from IPC, FLAGS from the copy saved at entry, IE set. -/
def execReti (core : Nat) (s : State) : Host.Outcome State Fault Refusal :=
  .next (issueControl core s fun c t => jump core [] 2 c.ipc { c with flags := c.saved, ie := true } t)

/-- DBNZ: flags unchanged. -/
def execDbnz (core : Nat) (dn : Fin 16) (target : BitVec 14) (s : State) : Host.Outcome State Fault Refusal :=
  .next (issueControl core s fun c t =>
    if c.dreg dn - 1 ≠ 0 then jump core [.otherD dn] 0 target.toNat (c.setD dn (c.dreg dn - 1)) t
    else completes core [.otherD dn] 2 [] (c.setD dn (c.dreg dn - 1)) t)

/-- WAIT #m: ends at once when its condition holds, else the core waits (R317). -/
def execWait (core : Nat) (m : Bool) (s : State) : Host.Outcome State Fault Refusal :=
  .next (issueControl core s fun c t =>
    if m && c.anyReady then completes core [] 0 [] c t
    else if c.tickPending then completes core [] 0 [] c.eatTick t
    else setCore core { c with waiting := some m, hazard := [] } t)

/-- EI. -/
def execEi (core : Nat) (s : State) : Host.Outcome State Fault Refusal :=
  .next (issueControl core s fun c t => completes core [] 0 [] { c with ie := true } t)

/-- DI. -/
def execDi (core : Nat) (s : State) : Host.Outcome State Fault Refusal :=
  .next (issueControl core s fun c t => completes core [] 0 [] { c with ie := false } t)

/-- CLRS #mask. -/
def execClrs (core : Nat) (mask : Byte) (s : State) : Host.Outcome State Fault Refusal :=
  .next (issueControl core s fun c t => completes core [] 0 [] { c with sticky := c.sticky &&& ~~~mask } t)

/-- TRAP #code: cause 6. -/
def execTrap (core : Nat) (code : Byte) (s : State) : Host.Outcome State Fault Refusal :=
  .next (issueControl core s fun _ t => trapCore core 6 code.toNat t)

/-- HALT: cause 7. -/
def execHalt (core : Nat) (s : State) : Host.Outcome State Fault Refusal :=
  .next (issueControl core s fun _ t => trapCore core 7 0 t)

/-- ADD Dd, Ds1, Ds2 (R309). -/
def execAdd (core : Nat) (dd ds1 ds2 : Fin 16) (s : State) : Host.Outcome State Fault Refusal :=
  .next (aluReg aluAdd core dd ds1 ds2 s)

/-- SUB Dd, Ds1, Ds2 (R309). -/
def execSub (core : Nat) (dd ds1 ds2 : Fin 16) (s : State) : Host.Outcome State Fault Refusal :=
  .next (aluReg aluSub core dd ds1 ds2 s)

/-- ADDS Dd, Ds1, Ds2 (R309). -/
def execAdds (core : Nat) (dd ds1 ds2 : Fin 16) (s : State) : Host.Outcome State Fault Refusal :=
  .next (aluReg aluAdds core dd ds1 ds2 s)

/-- SUBS Dd, Ds1, Ds2 (R309). -/
def execSubs (core : Nat) (dd ds1 ds2 : Fin 16) (s : State) : Host.Outcome State Fault Refusal :=
  .next (aluReg aluSubs core dd ds1 ds2 s)

/-- AND Dd, Ds1, Ds2 (R309). -/
def execAnd (core : Nat) (dd ds1 ds2 : Fin 16) (s : State) : Host.Outcome State Fault Refusal :=
  .next (aluReg aluAnd core dd ds1 ds2 s)

/-- OR Dd, Ds1, Ds2 (R309). -/
def execOr (core : Nat) (dd ds1 ds2 : Fin 16) (s : State) : Host.Outcome State Fault Refusal :=
  .next (aluReg aluOr core dd ds1 ds2 s)

/-- XOR Dd, Ds1, Ds2 (R309). -/
def execXor (core : Nat) (dd ds1 ds2 : Fin 16) (s : State) : Host.Outcome State Fault Refusal :=
  .next (aluReg aluXor core dd ds1 ds2 s)

/-- SHL Dd, Ds1, Ds2 (R309). -/
def execShl (core : Nat) (dd ds1 ds2 : Fin 16) (s : State) : Host.Outcome State Fault Refusal :=
  .next (aluReg aluShl core dd ds1 ds2 s)

/-- SHR Dd, Ds1, Ds2 (R309). -/
def execShr (core : Nat) (dd ds1 ds2 : Fin 16) (s : State) : Host.Outcome State Fault Refusal :=
  .next (aluReg aluShr core dd ds1 ds2 s)

/-- SAR Dd, Ds1, Ds2 (R309). -/
def execSar (core : Nat) (dd ds1 ds2 : Fin 16) (s : State) : Host.Outcome State Fault Refusal :=
  .next (aluReg aluSar core dd ds1 ds2 s)

/-- MIN Dd, Ds1, Ds2 (R309). -/
def execMin (core : Nat) (dd ds1 ds2 : Fin 16) (s : State) : Host.Outcome State Fault Refusal :=
  .next (aluReg aluMin core dd ds1 ds2 s)

/-- MAX Dd, Ds1, Ds2 (R309). -/
def execMax (core : Nat) (dd ds1 ds2 : Fin 16) (s : State) : Host.Outcome State Fault Refusal :=
  .next (aluReg aluMax core dd ds1 ds2 s)

/-- ABS Dd, Ds1. -/
def execAbs (core : Nat) (dd ds1 : Fin 16) (s : State) : Host.Outcome State Fault Refusal :=
  .next (aluOne aluAbs core dd ds1 s)

/-- NEG Dd, Ds1. -/
def execNeg (core : Nat) (dd ds1 : Fin 16) (s : State) : Host.Outcome State Fault Refusal :=
  .next (aluOne aluNeg core dd ds1 s)

/-- CMP: flags of SUB, nothing written. -/
def execCmp (core : Nat) (ds1 ds2 : Fin 16) (s : State) : Host.Outcome State Fault Refusal :=
  .next (issue core s fun c t => aluCompare core [.otherD ds1, .otherD ds2] (aluSub (c.dreg ds1) (c.dreg ds2)) c t)

/-- MUL: a use of Dd in the next instruction stalls (R313). -/
def execMul (core : Nat) (dd ds1 ds2 : Fin 16) (s : State) : Host.Outcome State Fault Refusal :=
  .next (issue core s fun c t =>
    aluInto core dd [.otherD ds1, .otherD ds2] [(1, dd.val)] (aluMul (c.dreg ds1) (c.dreg ds2)) c t)

/-- ADDI Dd, Ds1, #imm (R309). -/
def execAddi (core : Nat) (dd ds1 : Fin 16) (imm : BitVec 16) (s : State) : Host.Outcome State Fault Refusal :=
  .next (aluImm aluAdd core dd ds1 (immSign imm) s)

/-- SUBI Dd, Ds1, #imm (R309). -/
def execSubi (core : Nat) (dd ds1 : Fin 16) (imm : BitVec 16) (s : State) : Host.Outcome State Fault Refusal :=
  .next (aluImm aluSub core dd ds1 (immSign imm) s)

/-- ADDSI Dd, Ds1, #imm (R309). -/
def execAddsi (core : Nat) (dd ds1 : Fin 16) (imm : BitVec 16) (s : State) : Host.Outcome State Fault Refusal :=
  .next (aluImm aluAdds core dd ds1 (immSign imm) s)

/-- SUBSI Dd, Ds1, #imm (R309). -/
def execSubsi (core : Nat) (dd ds1 : Fin 16) (imm : BitVec 16) (s : State) : Host.Outcome State Fault Refusal :=
  .next (aluImm aluSubs core dd ds1 (immSign imm) s)

/-- ANDI Dd, Ds1, #imm (R309). -/
def execAndi (core : Nat) (dd ds1 : Fin 16) (imm : BitVec 16) (s : State) : Host.Outcome State Fault Refusal :=
  .next (aluImm aluAnd core dd ds1 (immZero imm) s)

/-- ORI Dd, Ds1, #imm (R309). -/
def execOri (core : Nat) (dd ds1 : Fin 16) (imm : BitVec 16) (s : State) : Host.Outcome State Fault Refusal :=
  .next (aluImm aluOr core dd ds1 (immZero imm) s)

/-- XORI Dd, Ds1, #imm (R309). -/
def execXori (core : Nat) (dd ds1 : Fin 16) (imm : BitVec 16) (s : State) : Host.Outcome State Fault Refusal :=
  .next (aluImm aluXor core dd ds1 (immZero imm) s)

/-- SHLI Dd, Ds1, #imm (R309). -/
def execShli (core : Nat) (dd ds1 : Fin 16) (imm : BitVec 16) (s : State) : Host.Outcome State Fault Refusal :=
  .next (aluImm aluShl core dd ds1 (immSign imm) s)

/-- SHRI Dd, Ds1, #imm (R309). -/
def execShri (core : Nat) (dd ds1 : Fin 16) (imm : BitVec 16) (s : State) : Host.Outcome State Fault Refusal :=
  .next (aluImm aluShr core dd ds1 (immSign imm) s)

/-- SARI Dd, Ds1, #imm (R309). -/
def execSari (core : Nat) (dd ds1 : Fin 16) (imm : BitVec 16) (s : State) : Host.Outcome State Fault Refusal :=
  .next (aluImm aluSar core dd ds1 (immSign imm) s)

/-- MINI Dd, Ds1, #imm (R309). -/
def execMini (core : Nat) (dd ds1 : Fin 16) (imm : BitVec 16) (s : State) : Host.Outcome State Fault Refusal :=
  .next (aluImm aluMin core dd ds1 (immSign imm) s)

/-- MAXI Dd, Ds1, #imm (R309). -/
def execMaxi (core : Nat) (dd ds1 : Fin 16) (imm : BitVec 16) (s : State) : Host.Outcome State Fault Refusal :=
  .next (aluImm aluMax core dd ds1 (immSign imm) s)

/-- ABSI: the field in place of Ds2 must be 0, or the instruction is illegal. DEDUCED. DEDUCED, log 31. -/
def execAbsi (core : Nat) (dd ds1 : Fin 16) (imm : BitVec 16) (s : State) : Host.Outcome State Fault Refusal :=
  .next (if imm = 0 then aluOne aluAbs core dd ds1 s else issue core s fun _ t => trapCore core 1 0 t)

/-- NEGI: the field in place of Ds2 must be 0, or the instruction is illegal. DEDUCED. DEDUCED, log 31. -/
def execNegi (core : Nat) (dd ds1 : Fin 16) (imm : BitVec 16) (s : State) : Host.Outcome State Fault Refusal :=
  .next (if imm = 0 then aluOne aluNeg core dd ds1 s else issue core s fun _ t => trapCore core 1 0 t)

/-- CMPI. -/
def execCmpi (core : Nat) (ds1 : Fin 16) (imm : BitVec 16) (s : State) : Host.Outcome State Fault Refusal :=
  .next (issue core s fun c t => aluCompare core [.otherD ds1] (aluSub (c.dreg ds1) (immSign imm)) c t)

/-- MULI. -/
def execMuli (core : Nat) (dd ds1 : Fin 16) (imm : BitVec 16) (s : State) : Host.Outcome State Fault Refusal :=
  .next (issue core s fun c t =>
    aluInto core dd [.otherD ds1] [(1, dd.val)] (aluMul (c.dreg ds1) (immSign imm)) c t)

/-- CLRA. -/
def execClra (core : Nat) (a : Fin 4) (s : State) : Host.Outcome State Fault Refusal :=
  .next (issue core s fun c t => setAcc core a [] 0 c t)

/-- LDA: sign-extended Dh:Dl. -/
def execLda (core : Nat) (a : Fin 4) (dh dl : Fin 16) (s : State) : Host.Outcome State Fault Refusal :=
  .next (issue core s fun c t =>
    setAcc core a [.otherD dh, .otherD dl] ((c.dreg dh ++ c.dreg dl : BitVec 64).signExtend 72) c t)

/-- EXT (R305). -/
def execExt (core : Nat) (a : Fin 4) (dd : Fin 16) (sh : Fin 41) (s : State) : Host.Outcome State Fault Refusal :=
  .next (issue core s fun c t => aluInto core dd [.accRead a] [(1, dd.val)] (accExt (c.accv a) sh) c t)

/-- MOVA (R305). -/
def execMova (core : Nat) (a : Fin 4) (dd : Fin 16) (part : Fin 3) (s : State) : Host.Outcome State Fault Refusal :=
  .next (issue core s fun c t =>
    completes core [.accRead a] 0 [(1, dd.val)] (c.setD dd (accPart (c.accv a) part)) t)

/-- ADDA: a pinned ACCb contributes its pinned value (R304). -/
def execAdda (core : Nat) (a b : Fin 4) (s : State) : Host.Outcome State Fault Refusal :=
  .next (issue core s fun c t => accumulate core a [] ((c.accv a).toInt + (c.accv b).toInt) c t)

/-- MOV. -/
def execMov (core : Nat) (dd ds : Fin 16) (s : State) : Host.Outcome State Fault Refusal :=
  .next (issue core s fun c t => completes core [.otherD ds] 0 [] (c.setD dd (c.dreg ds)) t)

/-- MOVX xr, Ds (R297, R302). -/
def execMovxTo (core : Nat) (xr : Fin 32) (ds : Fin 16) (s : State) : Host.Outcome State Fault Refusal :=
  .next (issue core s fun c t => completes core [.otherD ds] 0 [(2, xr.val)] (c.setX xr (c.dreg ds)) t)

/-- MOVX Dd, xr. -/
def execMovxFrom (core : Nat) (dd : Fin 16) (xr : Fin 32) (s : State) : Host.Outcome State Fault Refusal :=
  .next (issue core s fun c t => completes core [] 0 [] (c.setD dd (c.xreg xr)) t)

/-- MOVC cr, Ds; no effect on a read-only register. -/
def execMovcTo (core : Nat) (cr : Fin 11) (ds : Fin 16) (s : State) : Host.Outcome State Fault Refusal :=
  .next (issue core s fun c t =>
    completes core [.otherD ds] 0 (if cr.val = 0 then [(4, 0)] else []) (c.setControl cr (c.dreg ds)) t)

/-- MOVC Dd, cr. -/
def execMovcFrom (core : Nat) (dd : Fin 16) (cr : Fin 11) (s : State) : Host.Outcome State Fault Refusal :=
  .next (issue core s fun c t => completes core [] 0 [] (c.setD dd (c.control core cr t)) t)

/-- LDI. -/
def execLdi (core : Nat) (dd : Fin 16) (imm : BitVec 16) (s : State) : Host.Outcome State Fault Refusal :=
  .next (issue core s fun c t => completes core [] 0 [] (c.setD dd (immSign imm)) t)

/-- LDIH: bits [15:0] are kept. -/
def execLdih (core : Nat) (dd : Fin 16) (imm : BitVec 16) (s : State) : Host.Outcome State Fault Refusal :=
  .next (issue core s fun c t =>
    completes core [] 0 [] (c.setD dd ((immZero imm <<< 16) ||| (c.dreg dd &&& 0xFFFF#32))) t)

/-- An illegal word traps with cause 1 before any effect (R307); a word that spells an instruction is not this command. -/
def execIllegalInstruction (core : Nat) (w : Word) (s : State) : Host.Outcome State Fault Refusal :=
  .next (if (Sys2Proof.rippleDecode core w).isNone then issue core s fun _ t => trapCore core 1 0 t else s)

/-- RIPPLE_TICK: the tick becomes pending, or an overrun is counted; the busy cycles of the tick that ends are held (R315, R318). -/
def execRippleTick (core : Nat) (s : State) : Host.Outcome State Fault Refusal :=
  .next (if decide (core < s.member.cores) && powered s (coreDie core) && (getCore s core).st == .running then
      let c := getCore s core
      let c1 := { c with busyLast := c.busy, peak := max c.peak c.busy, busy := 0, cycles := 0 }
      setCore core (if c.tickPending then { c1 with ovr := min 0xFFFFFFFF (c.ovr + 1) } else { c1 with tickPending := true }) s
    else s)

/-- INTERRUPT_ENTRY: IPC and a copy of FLAGS saved, IE cleared, a branch to word 8 (R316, R317). -/
def execInterruptEntry (core : Nat) (s : State) : Host.Outcome State Fault Refusal :=
  .next (if decide (core < s.member.cores) && powered s (coreDie core) && (getCore s core).st == .running then
      let c := getCore s core
      if c.ie && c.tickPending && c.rep.isNone then
        let back := if c.waiting.isSome then (c.pc + 1) % 16384 else c.pc
        let n := min 0xFFFFFFFF (c.cycles + 3)
        setCore core { c with ipc := back, saved := c.flags, ie := false, pc := 8, tickPending := false, waiting := none
                              cycles := n, busy := min 0xFFFFFFFF (c.busy + 3), hazard := [] } s
      else s
    else s)

/-- WAIT_END: the wait ends on READY, or on a pending tick that it consumes; with IE set the tick is an interrupt instead (R317). -/
def execWaitEnd (core waited : Nat) (s : State) : Host.Outcome State Fault Refusal :=
  .next (if decide (core < s.member.cores) && powered s (coreDie core) && (getCore s core).st == .running then
      let c := getCore s core
      let c1 := { c with waiting := none, pc := (c.pc + 1) % 16384, cycles := min 0xFFFFFFFF (c.cycles + waited) }
      match c.waiting with
      | none => s
      | some m =>
        if m && c.anyReady then setCore core c1 s
        else if c.tickPending && !c.ie then setCore core c1.eatTick s
        else s
    else s)

end Sys2Proof.Machine
end

