-- ==== Sys2Proof/Machine/RippleMem.lean ====
section
/-! DEFINITION. The Ripple instructions that reach memory: LD and ST (R299, R300, R310) and the multiply-accumulate group with its parallel loads (R303, R304, R311). -/

namespace Sys2Proof.Machine

/-- What an access comes to: a trap with its cause, or a value (0 for a store) with the cycles added, whether a far access met a bus error and whether a word was concealed. -/
inductive CoreAccess where
  | trap (cause : Nat) (berr : Bool)
  | done (v : Word) (extra : Nat) (berr perr : Bool)
  deriving DecidableEq, Repr

/-- Cycles of an access that the spec bounds by `most`, beyond its first. DESIGN CHOICE, log 30. -/
def accessCycles (n most : Nat) (s : State) : Nat := Config.cyclesUsed (2000 + n) (getCore s n).cycles % most

/-- Whether a far address names the core's own die. -/
def ownDie (n addr : Nat) : Bool := addr / 2 ^ 36 % 16 == 0xF || addr / 2 ^ 36 % 16 == coreDie n

/-- A far access ended: its bus error sets BERR, and with TB is a trap (R300); the answer of the part's last bus transaction stays as it was. DESIGN CHOICE, log 30. -/
def farDone (n addr : Nat) (before after : State) : CoreAccess × State :=
  let waited := mapHas after.hw.opens (masterKey (.ripple n))
  let t := settleOpen (.ripple n) after
  let extra := if waited then 4096 else accessCycles n (if ownDie n addr then 20 else 80) before
  let u := { t with bus := before.bus }
  if t.bus.error then
    if (getCore u n).ctrl.getLsbD 4 then (.trap 3 true, u) else (.done 0 extra true false, u)
  else (.done (nth 0 t.bus.data 0) extra false false, u)

/-- A load of the word at a data address (R299, R300, R322). DEDUCED, log 38. -/
def loadWord (n : Nat) (addr : Word) (s : State) : CoreAccess × State :=
  let die := coreDie n
  match (getCore s n).target addr with
  | .misaligned => (.trap 2 false, s)
  | .unmapped => (.trap 3 false, s)
  | .window slot off =>
    let bank := mapGet (fun _ => 0) (getCore s n).windows slot
    if (getBank s die bank).pwr = 2 then (.done 0 0 true false, s)
    else
      let woken := (getBank s die bank).pwr == 1
      let (bad, t) := takeBad (pondAddr die bank off) (wakeBank die bank s)
      let extra := if woken then 64 else 0
      if bad then (.done 0 (extra + 2) false true, t) else (.done (readWord t (pondAddr die bank off)) extra false false, t)
  | .block off => (.done (BitVec.ofNat 32 (rplReg s n off)) 0 false false, s)
  | .tarnReg off => (.done (regRead s die off) (accessCycles n 20 s) false false, s)
  | .far a => farDone n a s (busRead (.ripple n) a 4 s)

/-- A store of a word. -/
def storeWord (n : Nat) (addr v : Word) (s : State) : CoreAccess × State :=
  let die := coreDie n
  match (getCore s n).target addr with
  | .misaligned => (.trap 2 false, s)
  | .unmapped => (.trap 3 false, s)
  | .tarnReg _ => (.trap 3 false, s)
  | .window slot off =>
    let bank := mapGet (fun _ => 0) (getCore s n).windows slot
    if (getBank s die bank).pwr = 2 then (.done 0 0 true false, s)
    else
      let a := pondAddr die bank off
      let extra := if (getBank s die bank).pwr = 1 then 64 else 0
      (.done 0 extra false false, mendWords a 4 (writeWord a v (wakeBank die bank s)))
  | .block off => (.done 0 0 false false, rplWrite n off v s)
  | .far a => farDone n a s (busWrite (.ripple n) a 4 v s)

/-- STICKY after an access. -/
def Core.noteAccess (berr perr : Bool) (c : Core) : Core :=
  let c := if berr then c.stick 5 else c
  if perr then c.stick 6 else c

/-- A trap on an access: BERR stands where a far bus error caused it. -/
def trapAccess (n cause : Nat) (berr : Bool) (s : State) : State :=
  trapCore n cause 0 (if berr then setCore n ((getCore s n).stick 5) s else s)

/-- An instruction that completes; where it concealed a word and TPE is set, the core then traps with cause 9 at that instruction (R322). -/
def completesOr9 (n : Nat) (uses : List Use) (extra : Nat) (writes : List Written) (perr : Bool) (c : Core) (s : State) : State :=
  if perr && c.ctrl.getLsbD 5 then trapCore n 9 0 (setCore n (c.spend uses extra writes) s)
  else completes n uses extra writes c s

/-- What the post-modification uses. -/
def postUses : PostMod → List Use
  | .modifier m => [.offset m]
  | .imm _ => []

/-- LD Dd, [An]: the word at An, which is then post-modified (R301, R310). -/
def execLd (core : Nat) (dd : Fin 16) (an : Fin 8) (md : PostMod) (s : State) : Host.Outcome State Fault Refusal :=
  .next (issue core s fun c t =>
    match loadWord core (c.areg an) t with
    | (.trap cause berr, t) => trapAccess core cause berr t
    | (.done v extra berr perr, t) =>
      let c := getCore t core
      let c := (((c.stepA an (c.offset md)).setD dd v)).noteAccess berr perr
      completesOr9 core (.addr an :: postUses md) extra [(0, dd.val)] perr c t)

/-- ST Dd, [An]. -/
def execSt (core : Nat) (dd : Fin 16) (an : Fin 8) (md : PostMod) (s : State) : Host.Outcome State Fault Refusal :=
  .next (issue core s fun c t =>
    match storeWord core (c.areg an) (c.dreg dd) t with
    | (.trap cause berr, t) => trapAccess core cause berr t
    | (.done _ extra berr _, t) =>
      let c := getCore t core
      completes core (.otherD dd :: .addr an :: postUses md) extra [] ((c.stepA an (c.offset md)).noteAccess berr false) t)

/-! ### Multiply-accumulate (R303, R304, R311) -/

/-- The parallel loads enabled: destination and address register. -/
def parallelLoads (p0 p1 : Option (Fin 8 × Fin 4)) : List (Nat × Nat) :=
  (match p0 with
    | some (d, a) => [(d.val, a.val)]
    | none => []) ++ (match p1 with
    | some (d, a) => [(8 + d.val, 4 + a.val)]
    | none => [])

/-- What the loads come to: a trap, or the values by destination, the cycles and the flags. -/
structure Loaded where
  trap  : Option (Nat × Bool)
  vals  : List (Nat × Word)
  extra : Nat
  berr  : Bool
  perr  : Bool
  deriving DecidableEq, Repr

/-- The loads made in order; none after a trap. -/
def runLoads (n : Nat) (c : Core) (ls : List (Nat × Nat)) (s : State) : Loaded × State :=
  ls.foldl (fun (a : Loaded × State) l =>
    if a.1.trap.isSome then a
    else match loadWord n (c.areg l.2) a.2 with
      | (.trap cause berr, t) => ({ a.1 with trap := some (cause, berr) }, t)
      | (.done v extra berr perr, t) =>
        ({ a.1 with vals := a.1.vals ++ [(l.1, v)], extra := a.1.extra + extra, berr := a.1.berr || berr, perr := a.1.perr || perr }, t))
    ({ trap := none, vals := [], extra := 0, berr := false, perr := false }, s)

/-- Whether an address that no load may reach stands in an address register: its cause. A trap found so leaves every effect undone. -/
def badLoad (c : Core) (ls : List (Nat × Nat)) : Option Nat :=
  (ls.filterMap fun l => match c.target (c.areg l.2) with
    | .misaligned => some 2
    | .unmapped => some 3
    | _ => none).head?

/-- Two loads in one bank cost a cycle, counted in RPL_CONFLICT (R313). -/
def sameBank (c : Core) (ls : List (Nat × Nat)) : Bool :=
  match ls.map fun l => c.target (c.areg l.2) with
  | [.window i _, .window j _] => mapGet (fun _ => 0) c.windows i == mapGet (fun _ => 0) c.windows j
  | _ => false

/-- An accumulator after MAC, MSU, MACU (`r` the exact result) or MPY: its value, and whether it pins now (R303, R304). -/
def Core.accumulateTo (c : Core) (a : Nat) (fresh : Bool) (r : Int) : Core × Bool :=
  if fresh then ({ c with acc := mapSet c.acc a (BitVec.ofInt 72 r), pinned := c.pinned &&& ~~~(BitVec.ofNat 4 (2 ^ a)) }, false)
  else if c.pinned.getLsbD a then (c, false)
  else
    let p := accFit r
    let c1 := { c with acc := mapSet c.acc a p.1 }
    if p.2 then ({ c1.stick (1 + a) with pinned := c1.pinned ||| BitVec.ofNat 4 (2 ^ a) }, true) else (c1, false)

/-- An instruction of the group: Ds1 and Ds2 are read before the loads write; then the loads, their post-modifications and the accumulator; a pin with TPa traps with cause 5 after completion. -/
def mulAccumulate (core : Nat) (a : Fin 4) (ds1 ds2 : Fin 16) (p0 p1 : Option (Fin 8 × Fin 4)) (fresh : Bool)
    (result : Int → Word → Word → Int) (s : State) : State :=
  issue core s fun c t =>
    let ls := parallelLoads p0 p1
    match badLoad c ls with
    | some cause => trapCore core cause 0 t
    | none =>
      let r := result (c.accv a).toInt (c.dreg ds1) (c.dreg ds2)
      let (ld, t) := runLoads core c ls t
      match ld.trap with
      | some (cause, berr) => trapAccess core cause berr t
      | none =>
        let c := getCore t core
        let clash := sameBank c ls
        let c := ls.foldl (fun c l => c.stepA l.2 (c.mreg l.2).toInt) c
        let c := (ld.vals.foldl (fun (c : Core) v => c.setD v.1 v.2) c).noteAccess ld.berr ld.perr
        let c := if clash then { c with conflict := min 0xFFFFFFFF (c.conflict + 1) } else c
        let (c, pins) := c.accumulateTo a fresh r
        let uses := [.mulD ds1, .mulD ds2] ++ ls.flatMap fun l => [.addr l.2, .offset l.2]
        let writes := (3, a.val) :: ld.vals.map fun v => (0, v.1)
        let extra := ld.extra + flag clash
        if pins && c.ctrl.getLsbD a then trapCore core 5 0 (setCore core (c.spend uses extra writes) t)
        else completesOr9 core uses extra writes ld.perr c t

/-- MAC: the signed product added. -/
def execMac (core : Nat) (a : Fin 4) (ds1 ds2 : Fin 16) (p0 p1 : Option (Fin 8 × Fin 4)) (s : State) : Host.Outcome State Fault Refusal :=
  .next (mulAccumulate core a ds1 ds2 p0 p1 false (fun acc x y => acc + x.toInt * y.toInt) s)

/-- MSU: the signed product subtracted. -/
def execMsu (core : Nat) (a : Fin 4) (ds1 ds2 : Fin 16) (p0 p1 : Option (Fin 8 × Fin 4)) (s : State) : Host.Outcome State Fault Refusal :=
  .next (mulAccumulate core a ds1 ds2 p0 p1 false (fun acc x y => acc - x.toInt * y.toInt) s)

/-- MPY: the signed product in place of the accumulator. -/
def execMpy (core : Nat) (a : Fin 4) (ds1 ds2 : Fin 16) (p0 p1 : Option (Fin 8 × Fin 4)) (s : State) : Host.Outcome State Fault Refusal :=
  .next (mulAccumulate core a ds1 ds2 p0 p1 true (fun _ x y => x.toInt * y.toInt) s)

/-- MACU: the product of unsigned Ds1 and signed Ds2 added. -/
def execMacu (core : Nat) (a : Fin 4) (ds1 ds2 : Fin 16) (p0 p1 : Option (Fin 8 × Fin 4)) (s : State) : Host.Outcome State Fault Refusal :=
  .next (mulAccumulate core a ds1 ds2 p0 p1 false (fun acc x y => acc + (x.toNat : Int) * y.toInt) s)

end Sys2Proof.Machine
end

