-- ==== Sys2Proof/Machine/Pins.lean ====
section
/-! DEFINITION. The QSPI target, the I²C target, the test multiplexer and the test access port (R588 to R595). -/

namespace Sys2Proof.Machine

/-! ### QSPI target (R119, R588, R589) -/

/-- The always-on domain answers QSPI: in DEEP STANDBY, and after a rail failure at start-up (R63, R113). -/
def aoAnswersQspi (s : State) : Bool := s.sys.ao.power == .deepStandby || s.sys.ao.aoIntN

/-- Internal address of a BAR0 offset. -/
def bar0Addr (off : Nat) : Nat := 0xE * 2 ^ 36 + off % 2 ^ 24

/-- Words written one after the other until one is refused. -/
def qspiWrites : Nat → List Word → State → State
  | _, [], s => s
  | a, w :: ws, s =>
    let t := busWrite .qspi (bar0Addr a) 4 w s
    if t.bus.status = 0 then qspiWrites (a + 4) ws t else t

/-- QSPI_WRITE_WORDS: the status is that of the first word refused; a torn last word is discarded and no status is delivered. -/
def execQspiWriteWords (addr : Nat) (data : List Word) (tornTail : Bool) (s : State) : Host.Outcome State Fault Refusal :=
  .next (
    let t := if aoAnswersQspi s then answer true 2 [] s
      else if !shoreUp s then s
      else if addr % 4 ≠ 0 then answer true 4 [] s
      else
        let u := qspiWrites addr data (busOk [] s)
        answer u.bus.error u.bus.status [] u
    if tornTail then { t with bus := s.bus } else t)

/-- Further words of a read whose first word was read well; each read has its effect. -/
def qspiReads : Nat → Nat → List Word → State → List Word × State
  | _, 0, ws, s => (ws, s)
  | a, n + 1, ws, s =>
    let t := busRead .qspi (bar0Addr a) 4 s
    qspiReads (a + 4) n (ws ++ [nth 0 t.bus.data 0]) t

/-- QSPI_READ_WORDS: the status describes the first word; when it is not OK every word reads 0 and nothing further is read. DEDUCED, log 108. -/
def execQspiReadWords (addr count : Nat) (s : State) : Host.Outcome State Fault Refusal :=
  .next (
    if aoAnswersQspi s then answer true 2 (List.replicate count 0) s
    else if !shoreUp s ∨ count = 0 then s
    else if addr % 4 ≠ 0 then answer true 4 (List.replicate count 0) s
    else
      let t := busRead .qspi (bar0Addr addr) 4 s
      if t.bus.status ≠ 0 then answer true t.bus.status (List.replicate count 0) t
      else
        let (ws, u) := qspiReads (addr + 4) (count - 1) [nth 0 t.bus.data 0] t
        busOk ws u)

/-! ### I²C target (R590) -/

/-- A write to the I²C target: it sets the pointer; a further byte goes to the register at it, and only the wake register takes one. DEDUCED, log 108. -/
def i2cTake (address pointer : Nat) (data : List Byte) (s : State) : State :=
  if address ≠ s.sys.ao.i2cAddr ∨ !s.sys.ao.vdd then s
  else
    let s := { s with sys.ao.i2cPtr := pointer % 256 }
    if pointer % 256 = 0x10 ∧ (data.map fun b => b.getLsbD 0) = [true] then wakeBy 4 s else s

/-- I2C_WRITE. -/
def execI2cWrite (address pointer : Nat) (data : List Byte) (s : State) : Host.Outcome State Fault Refusal :=
  .next (i2cTake address pointer data s)

/-- I2C_WAKE_WRITE: a write of one byte to the wake register. -/
def execI2cWakeWrite (address : Nat) (v : Byte) (s : State) : Host.Outcome State Fault Refusal := .next (i2cTake address 0x10 [v] s)

/-! ### Test multiplexer (R591 to R593) -/

/-- DBG_TMUXp of the active Shore. DEDUCED, log 108. -/
def tmuxReg (s : State) (pin : Nat) : Nat := dieAddr (activeShore s) (0x250000 + 4 * pin)

def diagTmuxBody (rq : Request) (s : State) : Reply :=
  let pin := byteAt rq.payload 0
  let die := byteAt rq.payload 1
  let sig := fieldLE rq.payload 2 2
  if !(effectiveDebug s).getLsbD 0 then refuse codeDenied 0 noField s
  else match firstBad [(0, decide (pin < 16)), (1, s.member.has die || sig == 0xFFFF), (2, decide (sig < 4096) || sig == 0xFFFF)] with
    | some f => badArg f s
    | none => replyOk [] (regPut (tmuxReg s pin) (if sig = 0xFFFF then 0 else sig + 4096 * die + 32768) s)

/-- `diag.tmux`. -/
def diagTmuxOp : NcpOp :=
  { opcode := 0x0E04, layout := fun _ => [1, 1, 2], staged := never, key := noKey, body := diagTmuxBody }

def execDiagTmux (rq : Request) (s : State) : Host.Outcome State Fault Refusal := .next (serve diagTmuxOp rq s)

/-! ### Test access port (R594, R595) -/

/-- The pins return to their functions: channels that may start do, and PCIe trains again. -/
def releasePins (s : State) : State :=
  let s := (List.range s.member.channels).foldl (fun s c => ampMayStart c s) s
  { s with msg.mbx.pciTraining := true }

/-- An instruction in force from Update-IR. One that drives or releases the pins takes the Ethernet and PCIe links down; leaving every such instruction gives the pins back. DEDUCED, log 108. -/
def jtagLoad (i : JtagInstr) (s : State) : State :=
  let was := pinsDriven s
  let t := { s with sys.jtag.instr := i }
  if pinsDriven t && !was then
    let t := (List.range 4).foldl (fun t p => dropLink p t) t
    { t with msg.mbx.hotResets := if t.msg.mbx.pciSpeed = 0 then t.msg.mbx.hotResets else min 65535 (t.msg.mbx.hotResets + 1)
             msg.mbx.pciSpeed := 0, msg.mbx.pciWidth := 0, msg.mbx.pciTraining := false }
  else if was && !pinsDriven t then releasePins t
  else t

/-- The test access port is that of the active Shore. -/
def jtagStep (i : JtagInstr) (s : State) : Host.Outcome State Fault Refusal :=
  .next (if powered s (activeShore s) then jtagLoad i s else s)

/-- JTAG_BYPASS. -/
def execJtagBypass (s : State) : Host.Outcome State Fault Refusal := jtagStep .bypass s

/-- Part number of a member. -/
def Member.part : Member → Nat
  | .evr2 => 0xE202
  | .evr4 => 0xE204
  | .evr8 => 0xE208

/-- The Shore's stepping: 0xB1 reads as 1. DEDUCED, log 108. -/
def idStepping (s : State) : Nat := fuseField s 1160 8 % 16

/-- IDCODE: the maker's JEP106 code is not in the spec. -/
def idCode (s : State) : Word :=
  BitVec.ofNat 32 (1 + 2 * ((Config.unstated 594 0).toNat % 2048) + 4096 * s.member.part + 2 ^ 28 * idStepping s)

/-- JTAG_IDCODE: the word shifted out. -/
def execJtagIdcode (s : State) : Host.Outcome State Fault Refusal :=
  .next (if powered s (activeShore s) then busOk [idCode s] (jtagLoad .idcode s) else s)

/-- JTAG_SAMPLE_PRELOAD: the boundary register takes what is shifted in. -/
def execJtagSamplePreload (boundary : List Bool) (s : State) : Host.Outcome State Fault Refusal :=
  .next (if powered s (activeShore s) then jtagLoad .sample { s with sys.jtag.boundary := boundary } else s)

/-- JTAG_EXTEST. -/
def execJtagExtest (s : State) : Host.Outcome State Fault Refusal := jtagStep .extest s
/-- JTAG_EXTEST_PULSE. -/
def execJtagExtestPulse (s : State) : Host.Outcome State Fault Refusal := jtagStep .extestPulse s
/-- JTAG_EXTEST_TRAIN. -/
def execJtagExtestTrain (s : State) : Host.Outcome State Fault Refusal := jtagStep .extestTrain s
/-- JTAG_CLAMP. -/
def execJtagClamp (s : State) : Host.Outcome State Fault Refusal := jtagStep .clamp s
/-- JTAG_HIGHZ. -/
def execJtagHighz (s : State) : Host.Outcome State Fault Refusal := jtagStep .highz s

/-- JTAG_CORE_DEBUG: as BYPASS, unless the effective enables include JTAG beyond boundary scan; the spec does not describe the debug unit that it then reaches. DEDUCED, log 4. -/
def execJtagCoreDebug (s : State) : Host.Outcome State Fault Refusal :=
  if powered s (activeShore s) ∧ (effectiveDebug s).getLsbD 2 then .refused .debugUnit else jtagStep .bypass s

/-- JTAG_TEST_LOGIC_RESET. -/
def execJtagTestLogicReset (s : State) : Host.Outcome State Fault Refusal := jtagStep .reset s

end Sys2Proof.Machine
end

