-- ==== Sys2Proof/Machine/Ripple.lean ====
section
/-! DEFINITION. The `rpl` messages (R161, R318, R320, R323, R327, R328) and the Spring measurement registers (R94). -/

namespace Sys2Proof.Machine

/-! ### Measurement registers (R94) -/

/-- SMRn extended: SHA-384 of its old value followed by `d`. DEDUCED, log 34. -/
def extendSmr (n : Nat) (d : List Byte) (s : State) : State :=
  { s with sys.spring.smr := nthMod s.sys.spring.smr n fun old => Config.sha384 (bytesBE 48 old.toNat ++ d) }

/-- A digest in its byte order. PRESUMED, log 16. -/
def digestBytes (d : BitVec 384) : List Byte := bytesBE 48 d.toNat

/-! ### Cores -/

/-- Whether a core is within a repeat, which no stop interrupts (R314, R327). DEDUCED, log 32. -/
def inRepeat (s : State) (n : Nat) : Bool := (getCore s n).st == .running && (getCore s n).rep.isSome

/-- Every register of R297 and R298 at its start value; what lies outside them is kept. -/
def Core.startValues (c : Core) : Core :=
  { core0 0 with
    windows := c.windows, slots := c.slots, st := c.st, cause := c.cause, code := c.code, trapPc := c.trapPc
    busyLast := c.busyLast, busy := c.busy, peak := c.peak, ovr := c.ovr, conflict := c.conflict }

/-- A core starts afresh from word 0 (R328). DEDUCED, log 33. -/
def startCore (n : Nat) (s : State) : State :=
  let c := (getCore s n).startValues
  setCore n { c with
    st := .running, busy := 0, peak := 0, ovr := 0
    slots := c.slots.map fun (e : Nat × XSlot) => (e.1, { e.2 with done := false, ready := false }) } s

/-- A core stops at an instruction boundary; a trapped core stays trapped, one never loaded stays so. DEDUCED, log 32. -/
def stopCore (n : Nat) (s : State) : State :=
  let c := getCore s n
  if c.st = .running then setCore n { c with st := .stopped, waiting := none } s else s

/-- A core reset: stopped, its registers and RPL_TRAP cleared, its claims and locks released and what was queued for it discarded (R110, R123, R137, R328). DEDUCED, log 33. -/
def resetCore (n : Nat) (s : State) : State :=
  let c := (getCore s n).startValues
  resetSender (0x100 + n)
    (setCore n { c with st := if c.st = .unloaded then .unloaded else .stopped, cause := 0, code := 0, trapPc := 0 } s)

/-- A program in a core's code pond, the rest of it 0xFFFFFFFF. -/
def placeProgram (n : Nat) (image : List Byte) (s : State) : State := writeBytes (codeAddr n 0) image (clearCode n s)

/-- A program loaded at run time: the core stops, its claims and locks are released, SMR6 takes the program's digest followed by the core's index (R94, R327). DEDUCED, logs 32, 34. -/
def loadCore (n : Nat) (start : Bool) (image : List Byte) (s : State) : State :=
  let s := releaseClaims (0x100 + n) (stopCore n s)
  let s := setCore n { getCore s n with st := .stopped } (placeProgram n image s)
  let s := extendSmr 6 (digestBytes (Config.sha384 image) ++ bytesLE 1 n) s
  if start then startCore n s else s

/-- A core of the member on a powered Tarn. -/
def coreThere (s : State) (n : Nat) : Bool := decide (n < s.member.cores) && powered s (coreDie n)

def rplLoadBody (rq : Request) (s : State) : Reply :=
  let n := byteAt rq.payload 0
  let flags := byteAt rq.payload 1
  if !coreThere s n then badArg 0 s
  else match fetchReference rq 4 s with
    | .error r => r
    | .ok (image, t) =>
      if 65536 < image.length ∨ image.length % 4 ≠ 0 then badArg 12 t
      else
        let t := loadCore n (bit flags 0) image t
        let t := noteWithBytes false 0x0A00 4 [BitVec.ofNat 8 n] rq image t
        replyOk (bytesLE 4 image.length ++ (digestBytes (Config.sha384 image)).take 8) t

/-- `rpl.load`. -/
def rplLoadOp : NcpOp :=
  { opcode := 0x0A00, layout := fun v => [1, 1, 2, refSize v], staged := never, key := noKey, body := rplLoadBody }

/-- Served once the core stands at an instruction boundary. -/
def execRplLoad (rq : Request) (s : State) : Host.Outcome State Fault Refusal :=
  .next (if inRepeat s (byteAt rq.payload 0) then s else serve rplLoadOp rq s)

def rplStartBody (rq : Request) (s : State) : Reply :=
  let n := byteAt rq.payload 0
  if !coreThere s n then badArg 0 s else replyOk [] (startCore n s)

/-- `rpl.start`. -/
def rplStartOp : NcpOp := { opcode := 0x0A01, layout := fun _ => [1], staged := never, key := noKey, body := rplStartBody }

def execRplStart (rq : Request) (s : State) : Host.Outcome State Fault Refusal := .next (serve rplStartOp rq s)

def rplStopBody (rq : Request) (s : State) : Reply :=
  let n := byteAt rq.payload 0
  if !coreThere s n then badArg 0 s else replyOk [] (stopCore n s)

/-- `rpl.stop`. -/
def rplStopOp : NcpOp := { opcode := 0x0A02, layout := fun _ => [1], staged := never, key := noKey, body := rplStopBody }

/-- Served once the core stands at an instruction boundary. -/
def execRplStop (rq : Request) (s : State) : Host.Outcome State Fault Refusal :=
  .next (if inRepeat s (byteAt rq.payload 0) then s else serve rplStopOp rq s)

def rplResetBody (rq : Request) (s : State) : Reply :=
  let n := byteAt rq.payload 0
  if !coreThere s n then badArg 0 s else replyOk [] (resetCore n s)

/-- `rpl.reset`. -/
def rplResetOp : NcpOp := { opcode := 0x0A03, layout := fun _ => [1], staged := never, key := noKey, body := rplResetBody }

def execRplReset (rq : Request) (s : State) : Host.Outcome State Fault Refusal := .next (serve rplResetOp rq s)

/-! ### Grants (R320, R536) -/

/-- Owner code of a global core's banks. -/
def coreOwner (n : Nat) : Nat := 0x40 + n % 16

/-- A granted bank on record, by core and bank. -/
def grantKey (n bank : Nat) : List Byte := [BitVec.ofNat 8 n, BitVec.ofNat 8 bank]
def noteGrant (n bank : Nat) (s : State) : State :=
  noteSetting false { layer := 1, opcode := 0x0A04, flow := 0xFFFF, key := grantKey n bank
                      payload := grantKey n bank ++ bytesLE 1 1 ++ bytesLE 1 0 } s
def forgetGrant (n bank : Nat) (s : State) : State := forgetRecords (fun r => r.opcode == 0x0A04 && r.key == grantKey n bank) s

/-- Banks granted in ascending order, all or none. DEDUCED, log 35. -/
def grantBanks (n : Nat) (banks : List Nat) (s : State) : Reply :=
  let die := coreDie n
  let owner := fun b => (getBank s die b).owner
  let taken := fun b => owner b == 0x60 || (ownerCore die (owner b)).isSome
  if banks.any (fun b => !taken b && !mayHand s die b (coreOwner n)) then refuse codeDenied 0 noField s
  else if banks.any taken ∨ 8 < (getCore s n).windows.length + banks.length then refuse codeNoResource 0 noField s
  else replyOk [] (banks.foldl (fun s b => noteGrant n b (handBank die b (coreOwner n) s)) s)

/-- Banks of a core returned to the pool. DEDUCED, log 35. -/
def returnBanks (n : Nat) (banks : List Nat) (s : State) : Reply :=
  let die := coreDie n
  if banks.any (fun b => (getBank s die b).owner != coreOwner n) then badArg 1 s
  else replyOk [] (banks.foldl (fun s b => forgetGrant n b (handBank die b 0 s)) s)

/-- DEDUCED, log 35. -/
def rplGrantBody (rq : Request) (s : State) : Reply :=
  let n := byteAt rq.payload 0
  let first := byteAt rq.payload 1
  let cnt := byteAt rq.payload 2
  let op := byteAt rq.payload 3
  match firstBad [(0, coreThere s n), (1, decide (224 ≤ first)), (2, decide (first + cnt ≤ 256)), (3, decide (op < 2))] with
  | some f => badArg f s
  | none =>
    let banks := (List.range cnt).map (first + ·)
    if op = 0 then grantBanks n banks s else returnBanks n banks s

/-- `rpl.grant`. -/
def rplGrantOp : NcpOp :=
  { opcode := 0x0A04, layout := fun _ => [1, 1, 1, 1], staged := never, key := noKey, body := rplGrantBody }

def execRplGrant (rq : Request) (s : State) : Host.Outcome State Fault Refusal := .next (serve rplGrantOp rq s)

/-! ### Inserts (R323) -/

/-- The inserts of the staged set: what is in force with the staged changes. -/
def stagedInserts (s : State) : AMap Insert :=
  s.chain.insertStage.foldl (fun (m : AMap Insert) e => match e.2 with
    | some i => mapSet m e.1 i
    | none => mapErase m e.1) s.chain.inserts

/-- The lowest slot of a core free in the staged set, an insert of this key apart. -/
def freeInsertSlot (s : State) (core key : Nat) : Option Nat :=
  (List.range 64).find? fun n => !(stagedInserts s).any fun e => e.1 != key && e.2.core == core && e.2.slot == n

def rplInsertBody (rq : Request) (s : State) : Reply :=
  let point := byteAt rq.payload 0
  let core := byteAt rq.payload 1
  let id := fieldLE rq.payload 2 2
  let there := if point = 0 then (getObj s id).isSome else decide (id < s.member.speakers)
  let key := insertKey point id
  match firstBad [(0, decide (point < 3)), (1, decide (core < s.member.cores) || core == 0xFF), (2, there),
      (1, core == 0xFF || insertDie s key == some (coreDie core))] with
  | some f => badArg f s
  | none =>
    let put := fun (i : Option Insert) => { s with chain.insertStage := mapSet s.chain.insertStage key i }
    if core = 0xFF then replyOk [] (put none)
    else match mapFind (stagedInserts s) key with
      | some i => if i.core = core then replyOk [] (put (some i))
        else match freeInsertSlot s core key with
          | some n => replyOk [] (put (some { core := core, slot := n }))
          | none => refuse codeNoResource 0 noField s
      | none => match freeInsertSlot s core key with
        | some n => replyOk [] (put (some { core := core, slot := n }))
        | none => refuse codeNoResource 0 noField s

/-- `rpl.insert`, staged; keyed by its point and ID. -/
def rplInsertOp : NcpOp :=
  { opcode := 0x0A05, layout := fun _ => [1, 1, 2], staged := always
    key := fun rq => some (rq.payload.take 1 ++ slice rq.payload 2 2), body := rplInsertBody }

def execRplInsert (rq : Request) (s : State) : Host.Outcome State Fault Refusal := .next (serve rplInsertOp rq s)

/-! ### `rpl.measure` (R318) -/

def rplMeasureBody (rq : Request) (s : State) : Reply :=
  let n := byteAt rq.payload 0
  if !coreThere s n then badArg 0 s
  else
    let c := getCore s n
    replyOk (bytesLE 4 c.busyLast ++ bytesLE 4 c.peak ++ bytesLE 4 c.ovr) s

/-- `rpl.measure`. -/
def rplMeasureOp : NcpOp := { opcode := 0x0A06, layout := fun _ => [1], staged := never, key := noKey, body := rplMeasureBody }

def execRplMeasure (rq : Request) (s : State) : Host.Outcome State Fault Refusal := .next (serve rplMeasureOp rq s)

end Sys2Proof.Machine
end

