-- ==== Sys2Proof/Machine/Dump.lean ====
section
/-! DEFINITION. Diagnostic counters as they are read (R197 and the other counter tables), and the state dump: its place, its sections, what a fatal error writes and the `diag.dump` messages (R527, R546 to R549). -/

namespace Sys2Proof.Machine

/-! ### Counters -/

/-- Counter blocks of the catalogue: first ID, stride, number of units and counters of each. -/
def counterBlocks : List (Nat × Nat × Nat × Nat) :=
  [(0x0500, 8, 16, 7), (0x0580, 4, 128, 4), (0x0800, 4, 16, 4), (0x0840, 8, 16, 7), (0x08C0, 8, 4, 5), (0x1000, 1, 512, 1),
   (0x1200, 1, 32, 1), (0x1800, 1, 544, 1), (0x2000, 1, 544, 1), (0x2400, 1, 544, 1), (0x2800, 1, 544, 1), (0x2C00, 1, 544, 1),
   (0x3000, 8, 4, 5), (0x3400, 8, 16, 5), (0x3480, 8, 16, 4), (0x3500, 8, 2, 8), (0x3510, 1, 2, 1), (0x3520, 1, 1, 1),
   (0x3540, 4, 256, 2), (0x3A00, 1, 4, 1), (0x3A10, 1, 16, 1)]
  ++ [(0x4000, 0x40, 4, 64), (0x4200, 0x20, 4, 16), (0x4280, 1, 5, 1), (0x4290, 1, 4, 1), (0x4400, 8, 128, 8), (0x4800, 4, 64, 3),
   (0x5000, 4, 32, 3), (0x5080, 1, 2, 1), (0x5100, 4, 32, 4), (0x5180, 16, 2, 16), (0x5200, 8, 32, 8), (0x5300, 4, 32, 4),
   (0x5380, 1, 32, 1), (0x5400, 4, 8, 3), (0x6000, 4, 32, 4), (0x6080, 1, 3, 1), (0x6100, 4, 10, 3), (0x6140, 1, 12, 1),
   (0x6150, 1, 6, 1), (0x6180, 8, 4, 7), (0x6400, 8, 2, 6), (0x6800, 1, 8, 1)]

/-- The IDs that the catalogue names, in ascending order. DESIGN CHOICE, log 19. -/
def counterIds : List Nat :=
  counterBlocks.flatMap fun b => (List.range b.2.2.1).flatMap fun u => (List.range b.2.2.2).map fun k => b.1 + u * b.2.1 + k

/-- Whether the catalogue names an ID. -/
def isCounter (id : Nat) : Bool :=
  counterBlocks.any fun b => decide (b.1 ≤ id) && decide (id < b.1 + b.2.1 * b.2.2.1) && decide ((id - b.1) % b.2.1 < b.2.2.2)

/-- A counter as `diag.counters.read` gives it; an ID that no chapter names has no stated value. -/
def counterRead (s : State) (id : Nat) : Nat :=
  if isCounter id then counter s id else (Config.unstated 197 id).toNat % 2 ^ 64

def diagCountersReadBody (rq : Request) (s : State) : Reply :=
  let first := fieldLE rq.payload 0 2
  let n := fieldLE rq.payload 2 2
  if n < 1 ∨ 125 < n then badArg 2 s
  else replyOk ((List.range n).flatMap fun i => bytesLE 8 (counterRead s (first + i))) s

/-- `diag.counters.read`. -/
def diagCountersReadOp : NcpOp :=
  { opcode := 0x0E03, layout := fun _ => [2, 2], staged := never, key := noKey, body := diagCountersReadBody }

def execDiagCountersRead (rq : Request) (s : State) : Host.Outcome State Fault Refusal := .next (serve diagCountersReadOp rq s)

/-! ### Where a dump lies (R546) -/

/-- Start of the place in pond: Shore banks 48 to 63 of the active Shore. -/
def pondDump (s : State) : Nat := pondAddr (activeShore s) 48 0
def pondDumpSize : Nat := 0x10_0000

/-- The 6 bytes of the magic. -/
def dumpMagic : List Byte := [0x45, 0x56, 0x44, 0x55, 0x4D, 0x50]

/-- A header at an address is valid: its magic and CRC check (R547). -/
def dumpValid (s : State) (base : Nat) : Bool :=
  let h := readBytes s base 512
  h.take 6 == dumpMagic && (crc32 (h.take 508)).toNat == fieldLE h 508 4

/-- DRAM can be used for a dump. -/
def dramUsable (s : State) : Bool := s.hw.dram.st == 1 && decide (basinOffset + dumpSize ≤ dramSize s)

/-- The dump that is present: its place, 0 DRAM or 1 pond, and its address. -/
def dumpPresent (s : State) : Option (Nat × Nat) :=
  if dramUsable s && dumpValid s (dumpStart s) then some (0, dumpStart s)
  else if dumpValid s (pondDump s) then some (1, pondDump s)
  else none

/-! ### Sections (R548) -/

/-- A register record: address, value, and whether the read failed. -/
def regDump (s : State) (die off : Nat) : List Byte :=
  let up := powered s die
  bytesLE 8 (dieAddr die off) ++ bytesLE 4 (if up then (regRead s die off).toNat else 0) ++ bytesLE 4 (flag (!up))

/-- Registers of `n` blocks of a stride from a base: the offsets within each. -/
def regBlock (base stride n : Nat) (offs : List Nat) : List Nat := (List.range n).flatMap fun i => offs.map fun o => base + i * stride + o
/-- Offsets of `n` words. -/
def words (n : Nat) : List Nat := (List.range n).map (4 * ·)

/-- Registers of the Shore whose chapters list them for the dump: TDM, AES3, network, PTP, media clock, Weir and always-on domain. -/
def shoreDumpRegs (m : Member) : List Nat :=
  regBlock 0x200000 0 1 (words 66) ++ regBlock 0x240000 0 1 (words 6)
    ++ regBlock 0x300000 0x20 m.tdmPorts (words 3) ++ regBlock 0x300400 0x20 m.tdmPorts (words 3)
    ++ regBlock 0x310000 0x100 2 [0, 8, 0x10, 0x14, 0x18, 0x1C, 0x20, 0x24, 0x30, 0x34, 0x38, 0x3C, 0x40, 0x44]
    ++ regBlock 0x340000 0x100 4 (words 8) ++ [0x350000, 0x350004] ++ regBlock 0x360000 0 1 (words 8)
    ++ regBlock 0x360100 0x40 4 (words 8) ++ regBlock 0x370000 0 1 (words 7)

/-- Registers of a Tarn: GEO_, DGM_, RED_, CHN_, PND_ and RPL_. -/
def tarnDumpRegs : List Nat :=
  regBlock 0x400000 0x1000 4 (words 3) ++ regBlock 0x410000 0x1000 4 (words 3) ++ [0x450000] ++ regBlock 0x460000 0 1 (words 3)
    ++ regBlock 0x470000 0 1 (words 256) ++ regBlock 0x470400 0 1 (words 34)
    ++ regBlock 0x500000 0x1000 16 (words 7 ++ (words 8).map (0x20 + ·) ++ (words 192).map (0x400 + ·) ++ [0x704, 0x708])

/-- Registers of an Outlet: DAC_, SNS_, AUX_, AMP_ and BST_. -/
def outletDumpRegs : List Nat :=
  regBlock 0x600000 0x20 16 (words 4) ++ regBlock 0x610000 0x20 16 (words 3) ++ regBlock 0x620000 0 1 (words 16)
    ++ regBlock 0x630000 0x20 16 (words 4) ++ regBlock 0x640000 0x20 4 (words 2)

def regSection (s : State) (die : Nat) (offs : List Nat) : List Byte := offs.flatMap fun o => regDump s die o

/-- A u16 link status entry of R154. -/
def linkEntry (l : Link) : Nat := l.minor % 16 + 16 * (l.major % 16) + 256 * (l.lanes % 32) + 8192 * (l.state % 8)

/-- Registers of the wardens. -/
def wardenSection (s : State) : List Byte :=
  s.member.tarnDies.flatMap fun d => [0x490000, 0x490004, 0x490008].flatMap fun o => regDump s d o

/-- The link entries with their replay counts. -/
def linkSection (s : State) : List Byte :=
  (List.range s.member.links.length).flatMap fun n => bytesLE 2 (linkEntry (getLink s n)) ++ bytesLE 4 (getLink s n).replays

/-- What the model holds of Nerris: outstanding requests, Weir queue depths, a pending commit and negotiated versions. -/
def nerrisSection (s : State) : List Byte :=
  (s.msg.ncp.outstanding.flatMap fun o => bytesLE 4 o.dest ++ bytesLE 2 o.seq ++ bytesLE 2 o.opcode)
    ++ ((List.range 32).flatMap fun q => bytesLE 2 (getQueue s q).items.length)
    ++ (match s.msg.commit with
      | some c => bytesLE 8 c.c
      | none => [])
    ++ (s.msg.ncp.dests.flatMap fun d => bytesLE 4 d.1 ++ bytesLE 1 d.2.version)

/-- Every counter, as ID and value. -/
def counterSection (s : State) : List Byte := counterIds.flatMap fun id => bytesLE 2 id ++ bytesLE 8 (counter s id)

/-- Headers of both mirrors' halves. -/
def journalSection (s : State) : List Byte :=
  if s.member = .evr8 then mirrorTarns.flatMap fun d => readBytes s (mirrorAddr d 0) 24 ++ readBytes s (mirrorAddr d 1) 24 else []

/-- The sections in the order of R548: type, die and contents. Where the spec gives a section no layout its bytes are free. DEDUCED, log 93. -/
def dumpSections (s : State) (inDram : Bool) : List (Nat × Nat × List Byte) :=
  [(1, 0xFF, Config.dumpSection 1 (bytesLE 4 (systemReg s 0x210040) ++ bytesLE 4 (systemReg s 0x210044))),
   (2, 0xFF, Config.dumpSection 2 (linkSection s)), (3, 0xFF, Config.dumpSection 3 (wardenSection s)),
   (4, activeShore s, regSection s (activeShore s) (shoreDumpRegs s.member))]
  ++ s.member.tarnDies.map (fun d => (5, d, regSection s d tarnDumpRegs))
  ++ s.member.outletDies.map (fun d => (6, d, regSection s d outletDumpRegs))
  ++ [(7, 0xFF, Config.dumpSection 7 (nerrisSection s)), (8, 0xFF, counterSection s),
   (9, 0xFF, Config.dumpSection 9 (s.msg.ncp.eventLog.reverse.flatMap (·.bytes))), (10, 0xFF, Config.dumpSection 10 (journalSection s))]
  ++ (if inDram then [(11, 0xFF, Config.dumpSection 11 [])] else [])

/-- Sections with their offsets from 0x1000, each aligned on 4 KiB. -/
def placeSections : Nat → List (Nat × Nat × List Byte) → List (Nat × Nat × Nat × List Byte)
  | _, [] => []
  | off, (t, d, bs) :: rest => (t, d, off, bs) :: placeSections ((off + bs.length + 4095) / 4096 * 4096) rest

/-- The end of the last section. -/
def dumpLength (secs : List (Nat × Nat × Nat × List Byte)) : Nat :=
  match secs.getLast? with
  | some (_, _, off, bs) => off + bs.length
  | none => 0x1000

/-- The section version, which the spec does not number. -/
def sectionVersion (t : Nat) : Nat := (Config.unstated 547 t).toNat % 256

/-- The first 512 bytes, with their CRC (R547). -/
def dumpHeader (s : State) (cause flags later : Nat) (faults : List Byte) (secs : List (Nat × Nat × Nat × List Byte)) : List Byte :=
  let body := dumpMagic ++ bytesLE 2 0x0100 ++ bytesLE 4 (dumpLength secs) ++ bytesLE 4 cause ++ bytesLE 8 s.time.index
    ++ bytesLE 8 s.time.ptp.sec ++ bytesLE 4 s.time.ptp.ns ++ bytesLE 1 s.member.number ++ bytesLE 1 flags ++ bytesLE 1 later ++ bytesLE 1 0
    ++ bytesLE 2 secs.length ++ bytesLE 1 (s.sys.spring.slot.getD 0xFF) ++ bytesLE 1 0 ++ bytesLE 4 s.sys.spring.generation
    ++ serialBytes s ++ bytesLE 4 Config.nerrisVersion ++ bytesLE 4 0
    ++ bytesLE 8 (if s.member = .evr8 then s.sys.red.lastJournal else 0) ++ slice faults 0 192 ++ List.replicate 236 0
  body ++ bytesLE 4 (crc32 body).toNat

/-- The section table. -/
def dumpTable (secs : List (Nat × Nat × Nat × List Byte)) : List Byte :=
  secs.flatMap fun x => bytesLE 2 x.1 ++ bytesLE 1 x.2.1 ++ bytesLE 1 (sectionVersion x.1) ++ bytesLE 4 x.2.2.1
    ++ bytesLE 4 x.2.2.2.length ++ bytesLE 4 (crc32 x.2.2.2).toNat

/-- A dump written at an address whose area is `size` bytes. -/
def putDump (base size : Nat) (header : List Byte) (secs : List (Nat × Nat × Nat × List Byte)) (s : State) : State :=
  let s := writeBytes base (header ++ dumpTable secs) (clearMem base (base + size) s)
  secs.foldl (fun s x => writeBytes (base + x.2.2.1) x.2.2.2 s) s

/-- A new dump: in DRAM whole, or cut after some section by its time limit, or in pond as many sections as fit 1 MiB. DEDUCED, log 93. -/
def writeDump (cause : Nat) (complete : Bool) (extra : Nat) (s : State) : State :=
  let inDram := dramUsable s
  let all := placeSections 0x1000 (dumpSections s inDram)
  let (v, t) := if complete then (0, s) else drawFree s
  let kept := if complete then all else all.take (v.toNat % (all.length + 1))
  let kept := if inDram then kept else kept.takeWhile fun x => decide (x.2.2.1 + x.2.2.2.length ≤ pondDumpSize)
  let flags := flag (complete && inDram) + flagAt (!inDram) 1 + extra + flagAt (bit cause 31) 4
  let h := dumpHeader s cause flags 0 [] kept
  if inDram then putDump (dumpStart s) dumpSize h kept t else putDump (pondDump s) pondDumpSize h kept t

/-- A later fault while a dump is present: the next free entry of its table, or a count when all 16 are full (R549). DEDUCED, log 93. -/
def laterFault (base cause : Nat) (s : State) : State :=
  let h := readBytes s base 512
  let n := byteAt h 38
  if 16 ≤ n then count 0x6807 s
  else
    let body := h.take 38 ++ bytesLE 1 (n + 1) ++ slice h 39 (41 + 12 * n) ++ bytesLE 4 cause ++ bytesLE 8 s.time.index
      ++ slice h (92 + 12 * n) (416 - 12 * n)
    writeBytes base (body ++ bytesLE 4 (crc32 body).toNat) s

/-- A fatal error put on record: a new dump, or a later fault of the one present. DEDUCED, log 100. -/
def recordFatal (cause : Nat) (complete : Bool) (extra : Nat) (s : State) : State :=
  match dumpPresent s with
  | some (_, base) => laterFault base cause s
  | none => writeDump cause complete extra s

/-- What follows the dump of a cause word: on an EVR-8 whose standby is in state 1 the Shore declares itself fatal to the wardens; else the restart is due (R527). -/
def afterDump (word : Nat) (s : State) : State :=
  let me := activeShore s
  if failsOver s (bits word 7 0) (bits word 15 8) then
    let near := s.member.tarnDies.filter fun t => linkUpBetween s me t
    emitAll (near.map fun t => .declaration me t)
      { s with sys.fatal.dumping := none, sys.fatal.restartDue := false, sys.red.hubUp := false, sys.red.declared := some (me, 1) }
  else { s with sys.fatal.dumping := none, sys.fatal.restartDue := true, sys.fatal.announce := true }

/-- DUMP_WRITTEN: the dump ends, whole or cut short. -/
def execDumpWritten (complete : Bool) (s : State) : Host.Outcome State Fault Refusal :=
  .next (match s.sys.fatal.dumping with
    | none => s
    | some word => afterDump word (recordFatal word (complete && !s.sys.fatal.restartDue) 0 s))

/-! ### `diag.dump` (R165, R549) -/

def diagDumpInfoBody (_ : Request) (s : State) : Reply :=
  match dumpPresent s with
  | none => replyOk (List.replicate 20 0) s
  | some (place, base) =>
    let h := readBytes s base 24
    replyOk (bytesLE 1 1 ++ bytesLE 1 place ++ bytesLE 2 (fieldLE h 6 2) ++ bytesLE 4 (fieldLE h 8 4) ++ slice h 16 8 ++ slice h 12 4) s

/-- `diag.dump.info`. -/
def diagDumpInfoOp : NcpOp := { opcode := 0x0E00, layout := fun _ => [], staged := never, key := noKey, body := diagDumpInfoBody }

def execDiagDumpInfo (rq : Request) (s : State) : Host.Outcome State Fault Refusal := .next (serve diagDumpInfoOp rq s)

def diagDumpReadBody (rq : Request) (s : State) : Reply :=
  let off := fieldLE rq.payload 0 4
  let len := fieldLE rq.payload 4 2
  if len < 1 ∨ 1000 < len then badArg 4 s
  else match dumpPresent s with
    | none => badArg 0 s
    | some (_, base) =>
      if fieldLE (readBytes s base 12) 8 4 < off + len then badArg 0 s else replyOk (readBytes s (base + off) len) s

/-- `diag.dump.read`. -/
def diagDumpReadOp : NcpOp := { opcode := 0x0E01, layout := fun _ => [4, 2], staged := never, key := noKey, body := diagDumpReadBody }

def execDiagDumpRead (rq : Request) (s : State) : Host.Outcome State Fault Refusal := .next (serve diagDumpReadOp rq s)

/-- `diag.dump.clear` invalidates the header: its magic goes. DEDUCED, log 93. -/
def diagDumpClearBody (_ : Request) (s : State) : Reply :=
  match dumpPresent s with
  | none => replyOk [] s
  | some (_, base) => replyOk [] (writeBytes base (List.replicate 6 0) s)

def diagDumpClearOp : NcpOp := { opcode := 0x0E02, layout := fun _ => [], staged := never, key := noKey, body := diagDumpClearBody }

def execDiagDumpClear (rq : Request) (s : State) : Host.Outcome State Fault Refusal := .next (serve diagDumpClearOp rq s)

/-! ### Fatal errors from outside the other commands (R526) -/

/-- FATAL_ERROR: a cause of R526 found by the active Shore; cause 8 is recorded by the Shore that takes over. -/
def execFatalError (cause die : Nat) (s : State) : Host.Outcome State Fault Refusal :=
  .next (if 1 ≤ cause ∧ cause ≤ 7 ∧ s.member.has die then fatal cause die s else s)

end Sys2Proof.Machine
end

