-- ==== Sys2Proof/Machine/Image.lean ====
section
/-! DEFINITION. The NV image: header, sections, commit record and overlay (R67 to R76), `cfg.save` and image installation (R77 to R82), `sys.image`, and recovery and the minimal responder (R62, R84). -/

namespace Sys2Proof.Machine

/-! ### Layout (R67 to R71) -/

/-- Start of a slot in flash, its commit sector, and its size. -/
def slotBase (k : Nat) : Nat := k * 0x200_0000
def commitSector : Nat := 0x1FF_F000
def slotSize : Nat := 0x200_0000

/-- Reads `n` bytes at an offset of an image. -/
abbrev ImgReader := Nat → Nat → List Byte

def slotReader (s : State) (k : Nat) : ImgReader := fun off n => flashBytes s (slotBase k + off) n
def bytesReader (bs : List Byte) : ImgReader := fun off n => slice bs off n

/-- An entry of the section table. -/
structure ImgSection where
  kind   : Nat
  number : Nat
  entry  : Nat
  off    : Nat
  len    : Nat
  digest : List Byte
  deriving DecidableEq, Repr

/-- The header of an image. -/
def imgHeader (rd : ImgReader) : List Byte := rd 0 4096
def headerDigest (rd : ImgReader) : List Byte := digestBytes (Config.sha384 (imgHeader rd))
def imgFlags (h : List Byte) : Nat := fieldLE h 8 4
def imgCount (h : List Byte) : Nat := fieldLE h 0xC 2
def imgVersion (h : List Byte) : Nat := byteAt h 7
def hasMagic (h : List Byte) : Bool := h.take 4 == [0x5A, 0x57, 0x54, 0x58]

/-- Entry `k` of the section table. -/
def imgSectionAt (h : List Byte) (k : Nat) : ImgSection :=
  let e := 0x100 + 60 * k
  { kind := fieldLE h e 2, number := fieldLE h (e + 2) 2, entry := k, off := fieldLE h (e + 4) 4, len := fieldLE h (e + 8) 4
    digest := slice h (e + 12) 48 }
def sectionsOf (h : List Byte) : List ImgSection := (List.range (min 64 (imgCount h))).map (imgSectionAt h)

def ImgSection.ends (x : ImgSection) : Nat := x.off + x.len
def apart (x y : ImgSection) : Bool := decide (x.ends ≤ y.off) || decide (y.ends ≤ x.off)

/-- Whether a header is well formed (R69, R70). -/
def wellFormedHeader (h : List Byte) : Bool :=
  let secs := sectionsOf h
  let n := imgCount h
  hasMagic h && decide (imgVersion h ≤ 64) && decide (imgFlags h < 8) && decide (1 ≤ n) && decide (n ≤ 64)
    && ((h.drop (0x100 + 60 * n)).all fun b => b == 0)
    && (secs.all fun x => decide (1 ≤ x.kind) && decide (x.kind ≤ 5) && x.off % 4096 == 0 && decide (x.ends ≤ commitSector))
    && (secs.filter fun x => x.kind == 1).length == 1
    && (secs.all fun x => x.kind != 1 || decide (x.len ≤ 480 * 1024))
    && (secs.all fun x => secs.all fun y => x.entry == y.entry || apart x y)

/-- The member's bit of the member mask. -/
def Member.mask : Member → Nat
  | .evr2 => 0
  | .evr4 => 1
  | .evr8 => 2

/-- End of the last section that the header names. -/
def sectionsEnd (h : List Byte) : Nat := (sectionsOf h).foldl (fun a x => max a x.ends) 4096

/-- The image key (R87) and the IV of a section: its base with the last 4 bytes replaced by the entry index (R71). -/
def imageKey (s : State) : BitVec 256 := BitVec.ofNat 256 (fuseField s 2864 256)
/-- DEDUCED, log 26. -/
def sectionIv (h : List Byte) (k : Nat) : BitVec 96 := BitVec.ofNat 96 (fieldBE (slice h 0x70 8 ++ bytesLE 4 k) 0 12)

/-- Whether a section is stored encrypted. -/
def isEncrypted (h : List Byte) (x : ImgSection) : Bool := bit (imgFlags h) 0 && x.kind != 1

/-- What a section holds, when its stored bytes match their digest and its tag checks. -/
def sectionData (s : State) (rd : ImgReader) (x : ImgSection) : Option (List Byte) :=
  let h := imgHeader rd
  let stored := rd x.off x.len
  if digestBytes (Config.sha384 stored) ≠ x.digest then none
  else if isEncrypted h x then Config.gcmOpen (imageKey s) (sectionIv h x.entry) stored
  else some stored

/-! ### Verification (R72, R73, R77, R78) -/

/-- Owner key hash `k`, and whether it stands: fused and not revoked. -/
def ownerHash (s : State) (k : Nat) : Nat := fuseField s (1696 + 384 * k) 384
def revoked (s : State) (k : Nat) : Bool :=
  decide (4 < ((List.range 8).filter fun i => (fuseField s (2464 + 8 * k + i) 1) == 1).length)
/-- A public key whose hash is an unrevoked owner key hash. -/
def ownerKey (s : State) (pub : List Byte) : Bool :=
  (List.range 2).any fun k => !revoked s k && ownerHash s k == (Config.sha384 pub).toNat

def signedBytes (h : List Byte) : List Byte := h.take 0x80 ++ h.drop 0xE0
/-- The signature of a header verifies under its own key; in MANUFACTURE an all-zero one is not checked. -/
def headerSigned (s : State) (h : List Byte) : Bool :=
  let sig := slice h 0x80 96
  (lifecycle s == 0 && sig.all fun b => b == 0)
    || Config.ecdsaVerify (BitVec.ofNat 768 (fieldBE h 0x10 96)) (signedBytes h) (BitVec.ofNat 768 (fieldBE sig 0 96))

/-- The NERRIS section matches its digest and carries Brodruash's signature. DEDUCED, log 26. -/
def nerrisGood (s : State) (rd : ImgReader) : Bool :=
  (sectionsOf (imgHeader rd)).any fun x => x.kind == 1 && (match sectionData s rd x with
    | some bs => Config.vendorSigned bs
    | none => false)

/-- The commit record is valid (R73). -/
def commitValid (rd : ImgReader) : Bool :=
  let c := rd commitSector 64
  c.take 4 == [0x5A, 0x43, 0x4D, 0x54] && (crc32 (c.take 60)).toNat == fieldLE c 60 4 && slice c 8 48 == headerDigest rd
    && fieldLE c 56 4 == 0
/-- The slot generation. -/
def commitGeneration (rd : ImgReader) : Nat := fieldLE (rd commitSector 64) 4 4

/-- The overlay descriptor (R77). -/
def overlayDescriptor (rd : ImgReader) : List Byte := rd (commitSector + 0x40) 0x44
def overlayPresent (rd : ImgReader) : Bool := (overlayDescriptor rd).take 4 == [0x5A, 0x4F, 0x56, 0x4C]

/-- The HMAC of an overlay's contents under the save key (R78). -/
def overlayMac (s : State) (contents hdr : List Byte) : Option (List Byte) :=
  s.sys.spring.saveKey.map fun k => digestBytes (Config.hmac384 k (contents ++ hdr))

/-- The contents of a valid and authentic overlay. -/
def overlayData (s : State) (rd : ImgReader) : Option (List Byte) :=
  let d := overlayDescriptor rd
  let off := fieldLE d 4 4
  let len := fieldLE d 8 4
  let stored := rd off len
  if (crc32 (d.take 0x40)).toNat ≠ fieldLE d 0x40 4 then none
  else if off % 4096 ≠ 0 ∨ off < sectionsEnd (imgHeader rd) ∨ commitSector < off + len ∨ len < 48 then none
  else if digestBytes (Config.sha384 stored) ≠ slice d 0x10 48 then none
  else if overlayMac s (stored.take (len - 48)) (headerDigest rd) = some (stored.drop (len - 48)) then some (stored.take (len - 48))
  else none

/-- The points of R72 in its order, with whether each holds. DEDUCED, log 26. -/
def bootChecks (s : State) (rd : ImgReader) : List (Nat × Bool) :=
  let h := imgHeader rd
  let life := lifecycle s
  [(1, wellFormedHeader h && bit (byteAt h 6) s.member.mask), (2, life == 0 || life == 3 || ownerKey s (slice h 0x10 96)),
   (3, life == 3 || headerSigned s h), (4, decide (rollbackCount s ≤ imgVersion h)), (5, nerrisGood s rd), (6, commitValid rd),
   (7, !overlayPresent rd || (overlayData s rd).isSome)]

/-- The first point that an image fails: all of R72 for a slot; for an installed or recovered image all but the commit record and the overlay, with every named section against its digest as the eighth (R79, R84). DEDUCED, log 26. -/
def bootFault (s : State) (rd : ImgReader) : Option Nat := firstBad (bootChecks s rd)
/-- DEDUCED, log 26. -/
def installFault (s : State) (rd : ImgReader) : Option Nat :=
  let whole := (sectionsOf (imgHeader rd)).all fun x => (sectionData s rd x).isSome
  firstBad (((bootChecks s rd).filter fun c => c.1 < 6) ++ [(8, whole)])

/-- The number that reports a failing check, which the spec leaves open; point 8 is R75. DEDUCED, log 26. -/
def checkCode (k : Nat) : Nat := (Config.unstated 72 k).toNat % 256

/-! ### Slot states (R76) -/

/-- State of a slot with its failing point. -/
def slotState (s : State) (k : Nat) : Nat × Option Nat :=
  let rd := slotReader s k
  if !hasMagic (rd 0 4) then (0, none)
  else if !commitValid rd then (1, none)
  else match bootFault s rd with
    | some c => (3, some c)
    | none => if s.sys.spring.abandoned.contains k then (3, some 8) else (2, none)

/-- The 16 bytes of a slot in `sys.image`. DEDUCED, log 27. -/
def slotEntryBytes (s : State) (k : Nat) : List Byte :=
  let rd := slotReader s k
  let (st, bad) := slotState s k
  if st = 0 then List.replicate 16 0
  else bytesLE 1 st ++ bytesLE 1 (match bad with
      | some c => checkCode c
      | none => 0) ++ bytesLE 1 (imgVersion (rd 0 8)) ++ bytesLE 1 0
    ++ bytesLE 4 (if 2 ≤ st then commitGeneration rd else 0) ++ (headerDigest rd).take 8

def sysImageBody (_ : Request) (s : State) : Reply :=
  let p := s.sys.spring
  replyOk (slotEntryBytes s 0 ++ slotEntryBytes s 1 ++ bytesLE 1 (p.slot.getD 0) ++ bytesLE 1 (flag p.fallback + 2 * flag p.overlay)
    ++ bytesLE 1 (rollbackCount s) ++ bytesLE 1 0) s

/-- `sys.image`. -/
def sysImageOp : NcpOp := { opcode := 0x0003, layout := fun _ => [], staged := never, key := noKey, body := sysImageBody }

def execSysImage (rq : Request) (s : State) : Host.Outcome State Fault Refusal := .next (serve sysImageOp rq s)

/-- The booted slot's header. -/
def bootedHeader (s : State) : List Byte := match s.sys.spring.slot with
  | some k => imgHeader (slotReader s k)
  | none => []
def allowSave (s : State) : Bool := bit (imgFlags (bootedHeader s)) 1

/-! ### Writing a slot (R77, R79 to R82) -/

/-- Bytes at an offset as cells, erased ones left out. -/
def cellsAt (off : Nat) (bs : List Byte) : List Host.Cell :=
  (bs.zipIdx.map fun e => (off + e.2, e.1)).filter fun c => c.2 != 0xFF

/-- The header and every section that it names. -/
def imageCells (rd : ImgReader) : List Host.Cell :=
  let h := imgHeader rd
  cellsAt 0 h ++ (sectionsOf h).flatMap fun x => cellsAt x.off (rd x.off x.len)

/-- Cells programmed into an erased slot. -/
def program (k : Nat) (cells : List Host.Cell) (s : State) : State :=
  { s with hw.flash := cells.foldl (fun f c => flashPut f (slotBase k + c.1) c.2) s.hw.flash }

/-- A commit record for a header digest and a generation. -/
def commitRecord (digest : List Byte) (gen : Nat) : List Byte :=
  let body := [0x5A, 0x43, 0x4D, 0x54] ++ bytesLE 4 gen ++ digest ++ bytesLE 4 0
  body ++ bytesLE 4 (crc32 body).toNat

/-- Steps 1 and 2 begin: the commit sector is erased. DEDUCED, log 27. -/
def beginSlotWrite (w : SlotWrite) (s : State) : State :=
  { flashErase (slotBase w.slot + commitSector) (slotBase w.slot + slotSize) s with sys.slotWrite := some w }

/-- A write that ended before step 5: the slot is INCOMPLETE, its magic present and the rest of what the header holds undefined (R82). DEDUCED, log 27. -/
def interruptSlotWrite (s : State) : State :=
  match s.sys.slotWrite with
  | none => s
  | some w =>
    let (v, s) := drawFree (flashErase (slotBase w.slot) (slotBase w.slot + slotSize) { s with sys.slotWrite := none })
    flashWrite (slotBase w.slot) ([0x5A, 0x57, 0x54, 0x58] ++ bytesLE 124 v.toNat) s

/-- `cfg.image` (R155). -/
def imageEvent (w : SlotWrite) (outcome : Nat) (s : State) : State :=
  event 18 (activeShore s) 0x0180 0xFFFF (bytesLE 1 w.slot ++ bytesLE 1 outcome ++ bytesLE 2 0 ++ bytesLE 4 w.generation) s

/-- The sequence ends without a commit record. -/
def failSlotWrite (w : SlotWrite) (code outcome : Nat) (s : State) : State :=
  let s := imageEvent w outcome (interruptSlotWrite s)
  if w.opcode = 5 then respondAt 0x10 w.request 5 (refuse code 0 noField s) s
  else respond w.request w.opcode (refuse code 0 noField s) s

/-! ### The overlay (R77) -/

/-- A record as configuration: a header of R129 and its payload. -/
def configRecord (r : Rec) : List Byte := header r.opcode 0 0x32 0 r.payload.length 0x8000 r.flow 0 ++ r.payload
/-- A register record as an address and value pair. -/
def regPair (r : Rec) : List Byte := r.payload.take 8 ++ slice r.payload 16 4

/-- The records of layers 1 and 2 that are not Ripple code, and the records of the objects. -/
def overlayRecords (s : State) : List Rec := s.msg.ncp.records.filter fun r => decide (r.layer ≤ 2) && r.opcode != 0x0A00
def objectRecords (s : State) : List Rec := s.rend.objs.map fun (e : Nat × Obj) =>
  { layer := 1, opcode := 0x0202, flow := e.1, key := [], payload := objCfgPayload e.2.record }

/-- The contents of an OVERLAY section: the length of its register pairs, the pairs, and the configuration records. DEDUCED, log 24. -/
def overlayContents (s : State) : List Byte :=
  let pairs := ((overlayRecords s).filter fun r => r.opcode == 0x0B01).flatMap regPair
  let recs := ((overlayRecords s).filter fun r => r.opcode != 0x0B01) ++ objectRecords s
  bytesLE 4 pairs.length ++ pairs ++ recs.flatMap configRecord

/-- First multiple of 4096 after the end of the last section. -/
def overlayOffset (h : List Byte) : Nat := (sectionsEnd h + 4095) / 4096 * 4096

/-- The OVERLAY section and its descriptor. -/
def overlayCells (off : Nat) (sec : List Byte) : List Host.Cell :=
  let d := [0x5A, 0x4F, 0x56, 0x4C] ++ bytesLE 4 off ++ bytesLE 4 sec.length ++ bytesLE 4 0 ++ digestBytes (Config.sha384 sec)
  cellsAt off sec ++ cellsAt (commitSector + 0x40) (d ++ bytesLE 4 (crc32 d).toNat)

/-- A request for cryptographic work is answered FAULT in Spring's error state and BUSY during a self-test (R103, R104). -/
def cryptoRefusal (s : State) : Option Nat :=
  if s.sys.spring.cryptoErr then some codeFault else if s.sys.spring.selftesting.isSome then some codeBusy else none
def withCrypto (s : State) (r : Reply) : Reply :=
  match cryptoRefusal s with
  | some c => refuse c 0 noField s
  | none => r

def cfgSaveBody (rq : Request) (s : State) : Reply :=
  withCrypto s (match s.sys.spring.slot with
  | none => refuse codeDenied 0 noField s
  | some k =>
    let rd := slotReader s k
    let h := imgHeader rd
    let contents := overlayContents s
    let off := overlayOffset h
    if !allowSave s then refuse codeDenied 0 noField s
    else if s.sys.slotWrite.isSome then refuse codeBusy 0 noField s
    else if commitSector < off + contents.length + 48 then refuse codeNoResource 0 noField s
    else match overlayMac s contents (headerDigest rd) with
      | none => refuse codeFault 0 noField s
      | some mac =>
        replyLater (beginSlotWrite
          { opcode := 0x0102, request := rq, slot := 1 - k, generation := (s.sys.spring.generation + 1) % 2 ^ 32
            image := imageCells rd ++ overlayCells off (contents ++ mac) } s))

/-- `cfg.save`: the booted image with an overlay of the settings in force, into the other slot. -/
def cfgSaveOp : NcpOp := { opcode := 0x0102, layout := fun _ => [], staged := never, key := noKey, body := cfgSaveBody }

def execCfgSave (rq : Request) (s : State) : Host.Outcome State Fault Refusal := .next (serve cfgSaveOp rq s)

def cfgImageInstallBody (rq : Request) (s : State) : Reply :=
  withCrypto s (if s.sys.slotWrite.isSome then refuse codeBusy 0 noField s
  else match fetchReference rq 0 s with
    | .error r => r
    | .ok (bs, s) =>
      let rd := bytesReader bs
      match installFault s rd with
      | some c => refuse codeBadArg (checkCode c) noField s
      | none =>
        replyLater (beginSlotWrite
          { opcode := 0x0103, request := rq, slot := 1 - s.sys.spring.slot.getD 1, generation := (s.sys.spring.generation + 1) % 2 ^ 32
            image := imageCells rd } s))

/-- `cfg.image.install`. -/
def cfgImageInstallOp : NcpOp :=
  { opcode := 0x0103, layout := fun v => [refSize v], staged := never, key := noKey, body := cfgImageInstallBody }

def execCfgImageInstall (rq : Request) (s : State) : Host.Outcome State Fault Refusal := .next (serve cfgImageInstallOp rq s)

/-! ### The minimal responder (R62, R84) -/

/-- Link status of R154: one u16 for each link, 16 entries. -/
def linkStatus (s : State) : List Byte :=
  (List.range 16).flatMap fun n => bytesLE 2 (if n < s.member.links.length then linkEntry (getLink s n) else 0)

/-- The fuses have been sensed (R60). -/
def fusesSensed (s : State) : Bool := s.sys.boot.step != .off && s.sys.boot.step != .rails && s.sys.spring.bootErr != 2

/-- The responder's `sys.hello` payload. -/
def responderHello (s : State) : List Byte :=
  let known := fusesSensed s
  bytesLE 1 0 ++ bytesLE 1 0x10 ++ bytesLE 1 0x32 ++ bytesLE 1 s.sys.spring.stage ++ bytesLE 1 s.sys.spring.bootErr
    ++ bytesLE 1 (if known then s.member.number else 0) ++ bytesLE 1 (activeShore s) ++ bytesLE 1 0xFF ++ bytesLE 4 0
    ++ (if known then steppings s else [0, 0, 0]) ++ bytesLE 1 0 ++ (if known then serialBytes s else List.replicate 16 0)
    ++ bytesLE 4 0 ++ bytesLE 4 0 ++ linkStatus s

/-- A responder's answer: version 1.0 whatever the request's. DEDUCED, log 28. -/
def responderSays (rq : Request) (op code reason : Nat) (body : List Byte) (s : State) : State :=
  respondAt 0x10 rq op { refuse code reason noField s with body := body } s

/-- Where byte `i` of a recovery image is staged: Shore banks 0 to 47, then banks 224 to 239 of Tarn 2. -/
def stagePlace (s : State) (i : Nat) : Nat :=
  if i < 0x30_0000 then pondAddr (activeShore s) 0 i else pondAddr 2 224 (i - 0x30_0000)
def stageChunk (off : Nat) (bs : List Byte) (s : State) : State :=
  { s with hw.mem := bs.zipIdx.foldl (fun m b => memPut m (stagePlace s (off + b.2)) b.1) s.hw.mem }
def stageReader (s : State) : ImgReader := fun off n => (List.range n).map fun i => readByte s (stagePlace s (off + i))

/-- `sys.recover` as the responder answers it: in recovery, from the PCIe and QSPI hosts. DEDUCED, log 28. -/
def recoverMessage (rq : Request) (s : State) : State :=
  let off := fieldLE rq.payload 0 4
  let chunk := rq.payload.drop 8
  if s.sys.boot.step ≠ .recovery then responderSays rq 5 codeBadOpcode 0 [] s
  else if rq.sender ≠ 0x0001 ∧ rq.sender ≠ 0x0010 then responderSays rq 5 codeDenied 0 [] s
  else if s.sys.slotWrite.isSome then responderSays rq 5 codeBusy 0 [] s
  else if rq.payload.length < 8 ∨ off ≠ s.sys.spring.stagedBytes ∨ 1000 < chunk.length then responderSays rq 5 codeBadArg 0 [] s
  else if 0x40_0000 < off + chunk.length then responderSays rq 5 codeNoResource 0 [] s
  else
    let t := { stageChunk off chunk s with sys.spring.stagedBytes := off + chunk.length }
    if !bit (byteAt rq.payload 4) 0 then responderSays rq 5 codeOk 0 [] t
    else match installFault t (stageReader t) with
      | some c => responderSays rq 5 codeBadArg (checkCode c) [] { t with sys.spring.stagedBytes := 0 }
      | none => beginSlotWrite { opcode := 5, request := rq, slot := 0, generation := 1, image := imageCells (stageReader t) } t

/-- SYS_RECOVER: answered by the responder; Nerris does not know the opcode. -/
def execSysRecover (rq : Request) (s : State) : Host.Outcome State Fault Refusal :=
  .next (if responderUp s then recoverMessage rq s
    else if nerrisUp s then respond rq 5 (refuse codeBadOpcode 0 noField s) s
    else s)

/-- The FULL mailbox that holds a message of this sender and sequence. -/
def fullMailbox (rq : Request) (s : State) : Option Nat :=
  (List.range 4).find? fun n =>
    let b := getIn s n
    b.st == .full && b.owner == rq.sender && winWord b.words 1 % 65536 == rq.seq

/-- SPRING_RESPONDER_MESSAGE: a message that the responder takes, from its mailbox where it stands in one: `sys.hello` is answered BUSY, or FAULT once start-up has stopped; `sys.recover` as above; any other BAD_OPCODE. DEDUCED, log 28. -/
def execSpringResponderMessage (rq : Request) (s : State) : Host.Outcome State Fault Refusal :=
  .next (
    if !responderUp s then s
    else
      let (op, s) := match fullMailbox rq s with
        | some n =>
          let b := getIn s n
          (winWord b.words 0 % 65536, setIn n { b with st := .empty, owner := 0, ack := true } s)
        | none => (0, s)
      if op = 0 then responderSays rq 0 (if s.sys.boot.step = .stopped then codeFault else codeBusy) 0 (responderHello s) s
      else if op = 5 then recoverMessage rq s
      else responderSays rq op codeBadOpcode 0 [] s)

end Sys2Proof.Machine
end

