-- ==== Sys2Proof/Machine/Rate.lean ====
section
/-! DEFINITION. `cfg.rate` and the restart of rendering at a new rate (R155, R185, R287, R596), and what a restart of the timeline does to objects and channels. -/

namespace Sys2Proof.Machine

/-! ### What a new timeline leaves of objects and channels -/

/-- An object at the start of a timeline: a change of mode has taken its result, nothing is pending, its pairs ramp in from the first boundary (R182, R185). DEDUCED, log 54. -/
def Obj.restarted (o : Obj) : Obj :=
  let mode := match o.modeChange with
    | some (_, m) => m
    | none => o.record.mode
  { o with record := { o.record with mode := mode }, pend := [], bornAt := 0, modeChange := none, clampRun := [], newSlot := none }

/-- An object released outright, its bindings and records with it. -/
def dropObject (id : Nat) (s : State) : State :=
  forgetRecords (fun r => r.opcode / 256 == 2 && r.flow == id) (releaseObj id (unbindSlots 0 id s))

/-- Every object as a timeline starts: one that was fading out is gone, the rest keep their records, every slot is placed afresh (R185, R252). -/
def restartObjects (s : State) : State :=
  let gone := s.rend.objs.filter fun e => e.2.freeing.isSome
  let s := gone.foldl (fun s e => dropObject e.1 s) s
  let s := { s with rend.objs := s.rend.objs.map fun (e : Nat × Obj) => (e.1, e.2.restarted) }
  (List.range s.member.slices).foldl (fun s sl => replaceSlots sl s) s

/-- Sound cleared, the thermal estimates of every channel kept (R283). DEDUCED, log 65. -/
def clearSoundKeepHeat (s : State) : State :=
  let kept := s.chain.states.map fun (e : Nat × ChanState) =>
    let q := e.2.prot
    (e.1, { chanState0 e.1 with prot := { prot0 with seed := q.seed, coil := q.coil, magnet := q.magnet } })
  { clearSound s with chain.states := kept }

/-! ### Objects that a rate cannot hold (R185) -/

/-- Whether a slice satisfies R179 at the rate in force. -/
def sliceHolds (s : State) (sl : Nat) : Bool :=
  decide (sliceCount s sl ≤ historySlots s sl) && decide (sliceCount s sl * admissionS s * frHz s ≤ pairBudget)

/-- Objects of a slice released in descending ID until the slice satisfies R179; each is reported. DEDUCED, logs 50, 51. -/
def shedObjects (sl : Nat) : Nat → State → State
  | 0, s => s
  | n + 1, s =>
    if sliceHolds s sl then s
    else match (sliceObjs s sl).getLast? with
      | none => s
      | some (id, _) =>
        shedObjects sl n (event 18 (sliceDie sl) 0x0282 id (bytesLE 2 id ++ bytesLE 1 0) (dropObject id s))

/-! ### Chain settings that a rate cannot hold (R287) -/

/-- `chain.rate`. -/
def chainRateEvent (die action n : Nat) (s : State) : State :=
  if n = 0 then s else event 18 die 0x0481 0xFFFF (bytesLE 1 die ++ bytesLE 1 action ++ bytesLE 2 n) s

/-- The channels of a tile rewritten in both banks. -/
def rewriteChannels (die : Nat) (f : ChanSet → ChanSet) (s : State) : State :=
  let on := fun (m : AMap ChanSet) =>
    m.map fun (e : Nat × ChanSet) => if homeTile s.member e.1 == die then (e.1, f e.2) else e
  { s with chain.sets := on s.chain.sets, chain.stage := on s.chain.stage }

/-- Channels of a tile whose settings pass a test in either bank. -/
def channelsWith (s : State) (die : Nat) (p : ChanSet → Bool) : Nat :=
  ((homedChannels s.member die).filter fun c => p (chanSet s false c) || p (chanSet s true c)).length

/-- The chain settings of a tile at a new rate: FIRs truncated, then every FIR or SOS bypassed where the tile would break its budget. DEDUCED, log 51. -/
def rateChain (s : State) (die : Nat) : State :=
  let top := firMax (frHz s)
  let long := channelsWith s die fun x => decide (top < x.fir.length)
  let s := chainRateEvent die 0 long (rewriteChannels die (fun x => { x with fir := x.fir.take top }) s)
  let firs := channelsWith s die fun x => !x.fir.isEmpty && !x.cfg.firBypass
  let s := if tileFir s s.chain.stage die ≤ firLimit then s
    else chainRateEvent die 1 firs (rewriteChannels die (fun x => { x with cfg.firBypass := true }) s)
  let soses := channelsWith s die fun x => decide (0 < x.sosCount) && !x.cfg.sosBypass
  if tileSos s s.chain.stage die ≤ sosLimit then s
  else chainRateEvent die 2 soses (rewriteChannels die (fun x => { x with cfg.sosBypass := true }) s)

/-! ### Taking a rate -/

/-- The presentation offset of a stream at a rate, from its value in ns. -/
def Stream.atRate (fr : Nat) (x : Stream) : Stream :=
  { x with po := (offsetUsed x.poNs (if x.kind = 2 then 0 else x.pkt) (if x.kind = 2 then fr else rateHz x.rate) fr).1 }

/-- The rate set, with everything that depends on it. -/
def takeRate (rate : Nat) (mclk512 : Bool) (s : State) : State :=
  let s := { s with time.rate := rate, time.mclk512 := mclk512 }
  let fr := rateHz rate
  { s with net.rx := s.net.rx.map fun (e : Nat × Stream) => (e.1, e.2.atRate fr)
           net.tx := s.net.tx.map fun (e : Nat × Stream) => (e.1, e.2.atRate fr) }

/-- What each Outlet that holds for a rate change does when rendering restarts: its channels leave the hold of the rate change, its line DAC channels have followed the muted feed to code 0, and their filters start empty (R437, R466). DEDUCED, log 50. -/
def releaseRateHold (s : State) : State :=
  { s with outs.outlets := s.outs.outlets.map fun (e : Nat × Outlet) => (e.1, { e.2 with rate := false })
           outs.dacs := s.outs.dacs.map fun (e : Nat × Dac) =>
             (e.1, if !(getOutlet s (channelDie e.1)).rate then e.2
               else if e.2.pos = 64 then { e.2 with hist := [], code := 0, acc := 0 } else { e.2 with hist := [] }) }

/-! ### `cfg.rate` -/

/-- DEDUCED, logs 50, 91. -/
def cfgRateBody (rq : Request) (s : State) : Reply :=
  let rate := byteAt rq.payload 0
  let mclk := byteAt rq.payload 1
  match firstBad [(0, decide (rate ≤ 5)), (1, decide (mclk ≤ 1))] with
  | some f => badArg f s
  | none =>
    if s.msg.commit.isSome then refuse codeBusy 0 noField s
    else
      let held := s.member.outletDies.foldl (fun (m : AMap Outlet) d => mapMod outlet0 m d fun o => { o with rate := true }) s.outs.outlets
      replyLater { s with
        msg.ncp.rateChange := some { request := rq, rate := rate, mclk512 := mclk == 1, mute := if rendering s then 65 else 0 }
        outs.outlets := held }

/-- `cfg.rate`: the outputs are muted over the next 64 samples, after which every timeline stops; the response comes when rendering has restarted. -/
def cfgRateOp : NcpOp := { opcode := 0x0104, layout := fun _ => [1, 1], staged := never, key := noKey, body := cfgRateBody }

def execCfgRate (rq : Request) (s : State) : Host.Outcome State Fault Refusal := .next (serve cfgRateOp rq s)

/-- The index that a new timeline would start at, for the events of the change. DEDUCED, log 51. -/
def setFreshIndex (s : State) : State := { s with time.index := freshIndex s }

/-- RATE_RESTART: the new rate is in force; objects and chain settings that it cannot hold are released; rendering starts with a fresh index. DEDUCED, logs 50, 51. -/
def execRateRestart (s : State) : Host.Outcome State Fault Refusal :=
  .next (match s.msg.ncp.rateChange with
    | none => s
    | some r =>
      if !nerrisUp s then s
      else
        let s := setFreshIndex (takeRate r.rate r.mclk512 { stopTimeline s with msg.ncp.rateChange := none })
        let s := (List.range s.member.slices).foldl (fun s sl => shedObjects sl (sliceCount s sl) s) (restartObjects s)
        let s := s.member.tarnDies.foldl (fun s d => rateChain s d) s
        let s := releaseRateHold (clearSoundKeepHeat s)
        let s := noteSetting false
          { layer := 1, opcode := 0x0104, flow := r.request.flow, key := [], payload := r.request.payload.take 2 } s
        let s := if s.sys.ao.power = .run then startTimeline false s else s
        respond r.request 0x0104 (replyOk (bytesLE 8 s.time.index) s) s)

end Sys2Proof.Machine
end

