-- ==== Sys2Proof/Machine/Resets.lean ====
section
/-! DEFINITION. The rail sequencer and what each reset keeps and clears (R555, R566, R567), and the steps that the start of every reset shares. -/

namespace Sys2Proof.Machine

/-! ### Rail groups (R554, R555) -/

/-- The used groups in the order in which they are raised. -/
def raiseOrder : Member → List Nat
  | .evr2 => [0, 4, 2]
  | .evr4 => [0, 4, 2, 3, 5]
  | .evr8 => [0, 4, 2, 3, 5]

/-- The die of the Shore that is not active, on the EVR-8. -/
def standbyDie (s : State) : Nat := 1 - activeShore s

/-- The order in which groups fall: the reverse of the raising order, the active Shore's group last; a standby that is on falls first. DEDUCED, log 102. -/
def lowerOrder (s : State) : List Nat := [standbyDie s, 5, 3, 2, 4, activeShore s]

def groupBit (g : Nat) : BitVec 6 := BitVec.ofNat 6 (2 ^ g)
def groupBits (gs : List Nat) : BitVec 6 := BitVec.ofNat 6 (maskOf gs)

/-- An enable falls, and its group with it; the hold of R555 runs from the last one. -/
def dropGroup (g : Nat) (s : State) : State :=
  let en := s.sys.ao.enables &&& ~~~(groupBit g)
  { s with sys.ao.enables := en, sys.ao.inRange := s.sys.ao.inRange &&& ~~~(groupBit g), sys.ao.target := s.sys.ao.target &&& ~~~(groupBit g)
           sys.ao.holdDone := s.sys.ao.holdDone && en != 0 }

/-- An enable rises. -/
def raiseGroup (g : Nat) (s : State) : State :=
  { s with sys.ao.enables := s.sys.ao.enables ||| groupBit g, sys.ao.target := s.sys.ao.target ||| groupBit g }

/-- The next group that is to fall, if any. -/
def nextDrop (s : State) : Option Nat :=
  (lowerOrder s).find? fun g => s.sys.ao.enables.getLsbD g && !s.sys.ao.target.getLsbD g

/-- The next group that is to rise: every earlier group of the order is in range. -/
def nextRaise (s : State) : Option Nat :=
  let wanted := (raiseOrder s.member).filter fun g => s.sys.ao.target.getLsbD g
  match wanted.find? fun g => !s.sys.ao.enables.getLsbD g with
  | none => none
  | some g => if (wanted.filter fun h => s.sys.ao.enables.getLsbD h).all (railUp s) then some g else none

/-- The groups outside a set fall, the first of them at once, the rest each 1 ms later. DEDUCED, log 102. -/
def lowerTo (keep : BitVec 6) (s : State) : State :=
  let s := { s with sys.ao.target := keep }
  match nextDrop s with
  | some g => dropGroup g s
  | none => s

/-- The reference edge of R60: the cold start raises PWR_EN0, the roles of the Shores are those of R530, and what stopped the last start-up is forgotten (R573). -/
def startRails (s : State) : State :=
  { s with
    sys.ao.target := groupBits (raiseOrder s.member), sys.ao.enables := groupBit 0, sys.ao.coldWaiting := false
    sys.ao.startStop := false, sys.boot.step := .rails, sys.red.active := 0 }

/-- A cold start that waits raises PWR_EN0 once every enable has been low for 100 ms, RESET_N is high and nothing holds the enables low. -/
def tryStart (s : State) : State :=
  if s.sys.ao.vdd && s.sys.ao.coldWaiting && s.sys.ao.holdDone && s.sys.ao.resetN && !s.sys.ao.lockedOff && s.sys.ao.enables == 0 then startRails s
  else s

/-! ### The standby under test -/

/-- The links of a die, by number. -/
def linksOf (s : State) (die : Nat) : List Nat :=
  (List.range s.member.links.length).filter fun n => match s.member.links[n]? with
    | some l => l.1 == die || l.2 == die
    | none => false

/-- The hold that the Outlets take while no Shore delivers (R437, R466). -/
def setHub (on : Bool) (s : State) : State :=
  { s with outs.outlets := s.member.outletDies.foldl (fun (m : AMap Outlet) d => mapMod outlet0 m d fun o => { o with hub := on }) s.outs.outlets }

/-- A standby check, or the proof after it, given up: the standby is powered off and stands as before it (R543). -/
def abandonCheck (s : State) : State :=
  if s.sys.red.standbyState ≠ 4 then
    match s.sys.red.check with
    | some (.prove _) => { s with sys.red.check := none }
    | _ => s
  else
    let failed := match s.sys.red.check with
      | some .readmit => true
      | _ => false
    let s := if s.sys.red.proving.isSome then setHub false s else s
    dropGroup (standbyDie s) { s with sys.red.check := none, sys.red.proving := none, sys.red.standbyState := if failed then 3 else 1 }

/-! ### Keys and work in progress -/

/-- A key derived from the unique device secret (R93). -/
def deriveKey (s : State) (n : Nat) : BitVec 384 := Config.hmac384 (BitVec.ofNat 384 (fuseField s 1312 384)) (Config.keyLabel n)

/-- The volatile key store filled; in the error state it stays empty (R104). -/
def deriveKeys (s : State) : State :=
  if s.sys.spring.cryptoErr then { s with sys.spring.attestKey := none, sys.spring.saveKey := none }
  else { s with sys.spring.attestKey := some (deriveKey s 0), sys.spring.saveKey := some (deriveKey s 1) }

/-- The eight fuses of a lifecycle flag, in both copies. DESIGN CHOICE, log 21. -/
def flagFuses (k : Nat) : BitVec 8192 := (0xFF#8192 <<< (1280 + 8 * k)) ||| (0xFF#8192 <<< (4352 + 8 * k))

/-- 8192 free bits. DESIGN CHOICE, log 10. -/
def drawWide (s : State) : BitVec 8192 × State :=
  (List.range 8).foldl (fun a k =>
    let (v, s) := drawFree a.2
    (a.1 ||| (v.setWidth 8192 <<< (1024 * k)), s)) (0, s)

/-- Fuse blowing cut short: any of the fuses may have been blown, none of the RMA flag before all of the DEPLOYED one (R90); the request is lost. -/
def interruptBlow (s : State) : State :=
  match s.sys.spring.blowing with
  | none => s
  | some (_, w) =>
    let (m, s) := drawWide s
    let got := w.bits &&& m
    let got := if w.bits &&& flagFuses 2 &&& ~~~m = 0 then got else got &&& ~~~(flagFuses 3)
    { s with hw.fuses := s.hw.fuses ||| got, sys.spring.blowing := none }

/-- What a reset of the Shore ends: a slot being written stays INCOMPLETE (R82), fuses half blown. -/
def endWork (s : State) : State := interruptBlow (interruptSlotWrite s)

/-! ### Cold reset and fatal restart (R566, R567) -/

/-- What a cold reset leaves: the always-on domain, what lies outside the powered dies, fuses and flash; the rest is as after reset. The address order chosen in DRC_CFG comes into force (R512). DEDUCED, log 89. -/
def coldClear (s : State) : State :=
  let s := endWork s
  { State.reset with
    member := s.member, now := s.now, free := s.free, pending := s.pending, wire := s.wire, bus := s.bus
    hw := { Hw.reset with
      fuses := s.hw.fuses, flash := s.hw.flash
      dram := { Hw.reset.dram with order := regOr s 3 (dieAddr (activeShore s) 0x230000) % 4 } }
    sys := { Sys.reset with
      ao := { s.sys.ao with power := .run, changing := false, aoIntN := false, rstScope := 1, rstDie := 0 }
      temps := s.sys.temps, jtag := s.sys.jtag, red := { Red.reset with active := s.sys.red.active } }
    outs := { Outs.reset with dacClr := s.outs.dacClr } }

/-- A cold reset with its cause and group: every enable falls, and a cold start waits. DEDUCED, log 102. -/
def coldReset (cause group : Nat) (s : State) : State :=
  let s := coldClear s
  tryStart (lowerTo 0 { s with
    sys.ao.cause := cause, sys.ao.group := group, sys.ao.coldWaiting := true, sys.ao.railRestartDue := false, sys.jtag := Sys.reset.jtag })

/-- A cold reset that forces the slot of the start-up that follows. DEDUCED, log 29. -/
def forcedReset (cause : Nat) (slot : Option Nat) (byNerris : Bool) (abandoned : List Nat) (s : State) : State :=
  let s := coldReset cause 0 s
  { s with sys.spring.forcedSlot := slot, sys.spring.forcedByNerris := byNerris, sys.spring.abandoned := abandoned }

/-- Every rail off with no cold start to follow: what the dies held is lost. -/
def shutOff (cause group : Nat) (s : State) : State :=
  let s := coldClear s
  lowerTo 0 { s with sys.ao.cause := cause, sys.ao.group := group, sys.ao.coldWaiting := false, sys.jtag := Sys.reset.jtag }

/-- The memory that a fatal restart keeps: DRAM of the active Shore, and its banks 48 to 63. -/
def keptCell (shore : Nat) (a : Nat) : Bool :=
  a / 2 ^ 36 == shore
    && (decide (dramBase ≤ a % 2 ^ 36) || (decide (pondBase + 0x300000 ≤ a % 2 ^ 36) && decide (a % 2 ^ 36 < pondBase + 0x400000)))

/-- The restart of R527: every die is reset with its rails up; DRAM, the dump and what counts from cold reset to cold reset are kept, and start-up runs from the PLLs. DEDUCED, log 92. -/
def fatalReset (s : State) : State :=
  let s := (s.member.dies.filter (powered s)).foldl (fun s d => interruptTest d s) s
  let recent := s.sys.fatal.restarts.filter fun t => decide (s.now < t + 600 * cyclesPerSecond)
  let safe := thirdRestart s
  let s := dropGroup (standbyDie s) (abandonCheck s)
  let t := coldClear s
  { t with
    hw.mem := s.hw.mem.filter fun c => keptCell (activeShore s) c.1
    hw.dram := { s.hw.dram with st := if s.hw.dram.st = 1 then 2 else s.hw.dram.st, banks := [], limited := [] }
    hw.links := s.hw.links.filter fun e => (linksOf s (standbyDie s)).contains e.1
    sys.ao := { s.sys.ao with
      rstScope := 3, rstDie := 0, power := .run, changing := false
      target := s.sys.ao.target ||| groupBits ((raiseOrder s.member).filter fun g => decide (2 ≤ g)) }
    sys.boot := { step := .rails, cause := .fatal, wakeReport := none, ready := false, safe := safe }
    sys.lockstep := { s.sys.lockstep with fenced := none }
    sys.fatal := { dumping := none, restartDue := false, restarts := s.now :: recent, announce := s.sys.fatal.announce, halted := false }
    sys.red := { Red.reset with
      active := s.sys.red.active, standbyState := s.sys.red.standbyState, standbyCause := s.sys.red.standbyCause
      wardens := s.sys.red.wardens.map fun (e : Nat × Warden) => (e.1, { warden0 e.1 with failovers := e.2.failovers }) } }

/-! ### Counters by die (R567) -/

/-- The die to which a counter belongs: a Tarn or an Outlet, or 0 for the Shore. -/
def counterDie (m : Member) (id : Nat) : Nat :=
  let inside := fun (lo n : Nat) => decide (lo ≤ id) && decide (id < lo + n)
  let chan := [0x1800, 0x2000, 0x2400, 0x2800, 0x2C00].find? fun b => inside b 544
  if inside 0x0500 0x80 then sliceDie ((id - 0x0500) / 8)
  else if inside 0x0800 0x40 then sliceDie ((id - 0x0800) / 4)
  else if inside 0x0840 0x80 then sliceDie ((id - 0x0840) / 8)
  else if inside 0x08C0 0x20 then 2 + (id - 0x08C0) / 8
  else if inside 0x1000 0x200 then homeTile m (id - 0x1000)
  else if inside 0x1200 0x20 then homeTile m (id - 0x1200)
  else if inside 0x3000 0x20 then 2 + (id - 0x3000) / 8
  else if inside 0x5000 0x80 then channelDie ((id - 0x5000) / 4)
  else if inside 0x5080 2 then 6 + (id - 0x5080)
  else if inside 0x5100 0x80 then channelDie ((id - 0x5100) / 4)
  else if inside 0x5180 0x20 then 6 + (id - 0x5180) / 16
  else if inside 0x5200 0x100 then channelDie ((id - 0x5200) / 8)
  else if inside 0x5300 0x80 then channelDie ((id - 0x5300) / 4)
  else if inside 0x5380 0x20 then channelDie (id - 0x5380)
  else if inside 0x5400 0x20 then 6 + (id - 0x5400) / 16
  else if inside 0x6180 0x20 then 2 + (id - 0x6180) / 8
  else if inside 0x12000 0x40 then coreDie (id - 0x12000)
  else match chan with
    | some b => homeTile m (id - b)
    | none => 0

/-- The counters of a die cleared. -/
def clearDieCounters (die : Nat) (s : State) : State := clearCounters (fun id => counterDie s.member id == die) s

/-! ### A Tarn reset (R567, R569) -/

/-- A core's registers cleared; it runs again when it was running. What it holds in its ponds, its grants and its bindings stay. -/
def restartCore (n : Nat) (s : State) : State :=
  let was := (getCore s n).st
  let s := resetCore n s
  let c := getCore s n
  let c := { c with
    busy := 0, busyLast := 0, peak := 0, ovr := 0, conflict := 0
    slots := c.slots.map fun (e : Nat × XSlot) =>
      (e.1, { e.2 with xin := 0, xout := 0, tag := 0, ready := false, done := false, prev := 0, fresh := false }) }
  let s := setCore n c s
  if was = .running then startCore n s else s

/-- The cores of a die that have ever been loaded or hold something. -/
def dieCores (s : State) (die : Nat) : List Nat := (s.cores.map (·.1)).filter fun n => coreDie n == die

/-- History and chain banks read zero with valid parity, their test marks clear (R510, R567). -/
def zeroSound (die : Nat) (s : State) : State :=
  let s := clearMem (pondAddr die 0 0) (pondAddr die 224 0) s
  { s with hw.ponds.banks := s.hw.ponds.banks.map fun (e : Nat × PondBank) =>
      if e.1 / 256 == die && decide (e.1 % 256 < 224) then (e.1, { e.2 with testInt := false }) else e }

/-- The stored registers of a Tarn's blocks that its reset clears: the peaks and the shadow coefficients. -/
def tarnBlockReg (off : Nat) : Bool :=
  (decide (0x400000 ≤ off) && decide (off < 0x414000)) || (decide (0x440000 ≤ off) && decide (off < 0x461000))

/-- What a reset of a Tarn clears: history, chain banks and state, pair stores, core registers and counters; the tile's timeline waits for its next marker. -/
def resetTarn (die : Nat) (s : State) : State :=
  let s := zeroSound die (interruptTest die s)
  let s := regClear (fun a => a / 2 ^ 36 == die && tarnBlockReg (a % 2 ^ 36)) s
  let s := clearDieCounters die ((dieCores s die).foldl (fun s n => restartCore n s) s)
  let mine := fun (sl : Nat) => sliceDie sl == die
  let s := { s with
    rend.slices := s.rend.slices.map fun (e : Nat × Slice) => if mine e.1 then (e.1, { slice0 e.1 with h128set := e.2.h128set }) else e
    rend.objs := s.rend.objs.map fun (e : Nat × Obj) => if mine e.2.slice then (e.1, e.2.restarted) else e
    chain.states := s.chain.states.filter fun e => !(homeTile s.member e.1 == die)
    route.feeds := s.route.feeds.filter fun e => !(decide (epKind e.1 / 16 = 2) && homeTile s.member (epChannel e.1) == die) }
  setTile die { tile0 die with geo := s.rend.geo, chGeo := s.rend.geo } s

/-! ### An Outlet reset (R437, R466, R567) -/

/-- A line DAC channel with its settings restored: it drives its clear code and, when enabled, crossfades to its feed. -/
def Dac.restarted (d : Dac) : Dac :=
  { d with pos := 0, code := d.clear, acc := d.clear * 65536, limiting := false, hist := [], moving := none }
/-- A sense channel with its settings restored. -/
def Sense.restarted (x : Sense) : Sense :=
  { x with histV := [], histI := [], restart := x.order + 31, restartDue := false, v := 0, i := 0, ovlV := false, ovlI := false
           valid := false, conceal := false }
/-- An auxiliary input with its settings restored. -/
def Aux.restarted (x : Aux) : Aux := { x with raw := 0, limit := false, valid := false, inside := 0 }
/-- A power channel with its settings restored and its gate commands low. -/
def Amp.restarted (a : Amp) : Amp :=
  { amp0 0 with
    mode := a.mode, phase := a.phase, retryMs := a.retryMs, cycleLim := a.cycleLim, hardLim := a.hardLim, pilotOn := a.pilotOn
    pilotHz := a.pilotHz, pilotLvl := a.pilotLvl, pilotMs := a.pilotMs, openLim := a.openLim, shortLim := a.shortLim, drift := a.drift }
/-- A boost controller with its settings restored. -/
def Boost.restarted (b : Boost) : Boost :=
  { b with target := 0, outOfReg := false, ocStop := false, vout := 0, floorDue := false, temp := -32768, hot := false }

/-- A power channel after a reset of its Outlet alone: retries and latches come back (R466); it starts again when it was running. -/
def Amp.returned (a : Amp) : Amp :=
  { a.restarted with
    retries := a.retries, cause := a.cause, retryDue := a.retryDue, expired := a.expired
    st := match a.st with
      | .latched => .latched
      | .waiting => .waiting
      | _ => .off }

/-- What a reset of an Outlet leaves, its settings restored by Nerris; `alone` for a die reset, which brings retries and latches back. DEDUCED, log 103. -/
def resetOutlet (alone : Bool) (die : Nat) (s : State) : State :=
  let s := clearDieCounters die s
  let mine := fun (c : Nat) => channelDie c == die
  let s := { s with
    outs.dacs := s.outs.dacs.map fun (e : Nat × Dac) => if mine e.1 then (e.1, e.2.restarted) else e
    outs.senses := s.outs.senses.map fun (e : Nat × Sense) => if mine e.1 then (e.1, e.2.restarted) else e
    outs.auxs := s.outs.auxs.map fun (e : Nat × Aux) => if e.1 / 16 == die then (e.1, e.2.restarted) else e
    outs.amps := s.outs.amps.map fun (e : Nat × Amp) => if mine e.1 then (e.1, if alone then e.2.returned else e.2.restarted) else e
    outs.boosts := s.outs.boosts.map fun (e : Nat × Boost) => if boostDie e.1 == die then (e.1, e.2.restarted) else e }
  let o := getOutlet s die
  let s := setOutlet die { outlet0 die with
    syncExt := o.syncExt, syncHz := o.syncHz, hub := o.hub, rate := o.rate, kept := o.kept, index := (getTile s (parentTarn die)).index } s
  (outletChannels die).foldl (fun s c => ampMayStart c s) s

/-! ### What a restart of Nerris and of the Shore's blocks leaves (R112, R137, R567) -/

/-- FILLING and FULL mailboxes emptied with ABORTED, the claimant of a FILLING one marked (R112). -/
def abortMailboxes (s : State) : State :=
  (List.range 4).foldl (fun s n =>
    let b := getIn s n
    match b.st with
    | .empty => s
    | .filling => setIn n { b with st := .empty, owner := 0, aborted := true, abortMark := some b.owner } s
    | .full => setIn n { b with st := .empty, owner := 0, aborted := true } s) s

/-- Nerris starts anew: every request is lost, versions, masks, queues and event numbers are as at the start; records in force and management settings are kept. -/
def restartNerris (s : State) : State :=
  let s := abandonCheck s
  { s with msg.ncp := { Ncp.reset with mgmt := s.msg.ncp.mgmt, records := s.msg.ncp.records }, msg.commit := none
           sys.spring.attesting := none, sys.spring.selftesting := none, sys.slotWrite := none }

/-- Every crossfade of a route has run, and pending changes are taken. DEDUCED, log 71. -/
def settleRoutes (s : State) : State :=
  (s.route.dsts.filter fun e => e.2.fading).foldl (fun s e =>
    endFade e.1 (setDst e.1 { getDst s e.1 with fadeAt := (getDst s e.1).fadeN } s)) { s with time.rendering := false }

/-- A stream with its settings, as it starts. -/
def Stream.restarted (x : Stream) : Stream :=
  { x with st := 0, seq := none, lastPkt := [], missing := 0, lossAt := none, fade := 0, fadeUp := false, buffer := [], lastOut := []
           gather := [], gatherAt := 0, mac := none, resolvedAt := 0 }
/-- A network port with its settings, its link down. -/
def NetPort.restarted (x : NetPort) : NetPort :=
  { netPort0 0 with mode := x.mode, maxFrame := x.maxFrame, partition := x.partition, flags := x.flags, pfcMask := x.pfcMask
                    pvid := x.pvid, prioMap := x.prioMap, patterns := x.patterns, hash := x.hash }
/-- A port direction with its mask, its clock unknown. -/
def PortState.restarted (p : PortState) : PortState := { port0 0 with mask := p.maskBuf.getD p.mask }

/-- The ports of TDM and AES3 as they start with the settings in force. -/
def restartPorts (s : State) : State :=
  let s := { s with
    route.ports := s.route.ports.map (fun (e : Nat × PortState) => (e.1, e.2.restarted)), route.srcState := [] }
  let s := s.route.tdm.foldl (fun s e => restartPort 0 (e.1 / 16) (e.1 % 16) s) s
  s.route.aes.foldl (fun s e => restartPort 1 (e.1 / 2) (e.1 % 2) s) s

/-- The audio and network blocks of the Shore cleared, with the settings in force applied again. -/
def restartShore (s : State) : State :=
  let s := restartPorts (settleRoutes s)
  { s with
    route.rings := s.route.rings.map fun (e : Nat × Ring) => (e.1, { e.2 with block := [], fill := 0 })
    route.inputs := [], route.feeds := [], route.prevFeeds := [], route.direct := []
    net.ports := s.net.ports.map fun (e : Nat × NetPort) => (e.1, e.2.restarted)
    net.macs := []
    net.rx := (s.net.rx.filter fun e => !e.2.removing).map fun (e : Nat × Stream) => (e.1, e.2.restarted)
    net.tx := (s.net.tx.filter fun e => !e.2.removing).map fun (e : Nat × Stream) => (e.1, e.2.restarted)
    msg.weir := Weir.reset, hw.opens := [] }

/-- Shore counters cleared. -/
def clearShoreCounters (s : State) : State := clearCounters (fun id => counterDie s.member id == 0) s

/-! ### Events of a start -/

/-- The restart cause of `sys.ready`. -/
def RestartCause.code : RestartCause → Nat
  | .cold => 0
  | .warm => 1
  | .fatal => 2
  | .failover => 3

/-- `sys.ready` (R153). -/
def readyEvent (s : State) : State :=
  event 0 0xFF 0x0080 0xFFFF (bytesLE 1 s.time.rate ++ bytesLE 1 (s.sys.spring.slot.getD 0) ++ bytesLE 1 (activeShore s)
    ++ bytesLE 1 s.sys.boot.cause.code) s

/-- `sys.die` (R570): 0 reset started, 1 back in service, 2 failed to return. -/
def dieEvent (die what : Nat) (s : State) : State := event 0 die 0x0081 0xFFFF (bytesLE 1 die ++ bytesLE 1 what ++ bytesLE 2 0) s

/-- `pwr.wake` (R563). -/
def wakeEvent (source : Nat) (s : State) : State := event 20 (activeShore s) 0x0F81 0xFFFF (bytesLE 4 source) s

/-- `diag.dump.ready` (R165, R527): the dump that stands. -/
def dumpEvent (s : State) : State :=
  match dumpPresent s with
  | none => s
  | some (_, base) =>
    let h := readBytes s base 24
    event 1 (activeShore s) 0x0E81 0xFFFF (slice h 12 4 ++ bytesLE 4 0 ++ slice h 16 8) s

end Sys2Proof.Machine
end

