-- ==== Sys2Proof/Machine/Redundancy.lean ====
section
/-! DEFINITION. Redundancy: the lockstep cluster (R522 to R525), the standby and its check, heartbeats, votes and the declaration of a hub failure (R530 to R535), dump hold, `red.prove` and the red group (R164, R542 to R545). -/

namespace Sys2Proof.Machine

/-! ### Lockstep -/

/-- `red.lockstep`. -/
def lockstepEvent (core what : Nat) (s : State) : State :=
  event 2 (activeShore s) 0x0D82 0xFFFF (bytesLE 1 core ++ bytesLE 1 what) s

/-- The fences of a core within the last 24 hours. DEDUCED, log 94. -/
def fencesOf (s : State) (core : Nat) : Nat :=
  (s.sys.lockstep.fences.filter fun (e : Nat × Nat) => e.1 == core && decide (s.now < e.2 + 86400 * cyclesPerSecond)).length

/-- LOCKSTEP_DISAGREE: the voter fences the core that differs; in duplex, or when all three differ, lockstep is lost (R522, R524). DEDUCED, log 94. -/
def execLockstepDisagree (core : Nat) (allDiffer : Bool) (s : State) : Host.Outcome State Fault Refusal :=
  .next (
    if !nerrisUp s then s
    else
      let s := count 0x6800 s
      if allDiffer ∨ s.sys.lockstep.fenced.isSome then fatal 1 (activeShore s) s
      else
        { s with
          sys.lockstep.fenced := some core
          sys.lockstep.fences := (core, s.now) :: s.sys.lockstep.fences.filter fun (e : Nat × Nat) => decide (s.now < e.2 + 86400 * cyclesPerSecond) })

/-- LOCKSTEP_RESYNC: the fenced core is reloaded and rejoins, unless this was its third fence in 24 hours (R523, R525). DEDUCED, log 94. -/
def execLockstepResync (s : State) : Host.Outcome State Fault Refusal :=
  .next (match s.sys.lockstep.fenced with
    | none => s
    | some core =>
      if !nerrisUp s ∨ s.sys.lockstep.duplex then s
      else if 3 ≤ fencesOf s core then lockstepEvent core 1 { s with sys.lockstep.duplex := true }
      else lockstepEvent core 0 (count 0x6801 { s with sys.lockstep.fenced := none }))

/-! ### Wardens (R532, R551) -/

def getWarden (s : State) (die : Nat) : Warden := mapGet warden0 s.sys.red.wardens die
def setWarden (die : Nat) (w : Warden) (s : State) : State := { s with sys.red.wardens := mapSet s.sys.red.wardens die w }

/-- The bit of a Tarn's warden in VOTES. -/
def voteBit (die : Nat) : BitVec 4 := BitVec.ofNat 4 (2 ^ (die - 2))
def votesHeld (w : Warden) : Nat := ((List.range 4).filter fun j => w.votes.getLsbD j).length

/-- A warden works: it stands on the EVR-8, on a powered Tarn that is not in reset (R569). DEDUCED, log 95. -/
def wardenWorks (s : State) (die : Nat) : Bool := s.member == .evr8 && isTarn die && powered s die && !(getTile s die).inReset

/-- The fail-over window in force at a Tarn, in ms (RDN_WINDOW). -/
def wardenWindow (s : State) (die : Nat) : Nat := regOr s 10 (dieAddr die 0x490004) % 64

/-- A warden's own vote taken, and sent to the other three. -/
def castVote (die : Nat) (suspect : Bool) (s : State) : State :=
  let w := getWarden s die
  let others := s.member.tarnDies.filter fun d => d != die && linkUpBetween s die d
  emitAll (others.map fun d => .vote die d suspect)
    (setWarden die { w with suspect := suspect, votes := if suspect then w.votes ||| voteBit die else w.votes &&& ~~~(voteBit die) } s)

/-- HEARTBEAT_SEND: a heartbeat on each Shore–Tarn link; a warden that suspected stops (R532). -/
def execHeartbeatSend (s : State) : Host.Outcome State Fault Refusal :=
  .next (
    if s.member ≠ .evr8 ∨ !nerrisUp s then s
    else
      let near := s.member.tarnDies.filter fun d => powered s d && linkUpBetween s (activeShore s) d
      near.foldl (fun s d =>
        let w := getWarden s d
        let s := setWarden d { w with lastHb := s.now, hbAge := 0 } s
        if w.suspect then castVote d false s else s) (emitAll (near.map fun d => .heartbeat d) s))

/-! ### The declaration of a hub failure (R533, R534) -/

/-- Between a declaration and the takeover. -/
def inGap (s : State) : Bool := s.member == .evr8 && !s.sys.red.hubUp && s.sys.red.standbyState == 2

/-- A declaration can be made: the standby is ready, or under test (R527, R543), and the vote is not suspended (R544). DEDUCED, log 95. -/
def mayDeclare (s : State) : Bool :=
  s.member == .evr8 && !inGap s && !s.sys.fatal.halted && s.sys.red.proving.isNone
    && (s.sys.red.standbyState == 1 || s.sys.red.standbyState == 4)

/-- The links of a die take a state. -/
def setLinksOf (die st : Nat) (s : State) : State :=
  (linksOf s die).foldl (fun s n => setLink s n { getLink s n with state := st, retraining := false }) s

/-- What a die held in its memories is lost with its power. -/
def loseDie (die : Nat) (s : State) : State := clearMem (dieAddr die 0) (dieAddr (die + 1) 0) s

/-- Time since the first marker that Tarn 2 missed, in cycles. -/
def missedFor (s : State) : Nat := (getTile s 2).missing * (cyclesPerSecond / rateHz s.time.rate)

/-- A hub failure declared: the failed Shore isolated and unpowered, or held for its dump; its senders' Tarn locks freed; the Outlets told; the standby powered. -/
def declareHub (self : Bool) (s : State) : State :=
  let failed := activeShore s
  let s := setLinksOf failed 2 (abandonCheck s)
  let s := if self then { s with sys.red.dumpHold := true } else loseDie failed (dropGroup failed s)
  let s := freeLocks (fun k o => decide (128 ≤ k) && (o == 0x0001 || o == 0x0010 || o == 0x0020 || o == 0x8000)) s
  let s := freeLocks (fun k _ => k / 64 == failed) s
  let s := raiseGroup (standbyDie s) (setHub true s)
  let s := s.member.tarnDies.foldl (fun s d =>
    let w := getWarden s d
    setWarden d { w with declared := true, failovers := min 65535 (w.failovers + 1) } s) s
  { s with
    time.rendering := false, sys.fatal.dumping := none, sys.fatal.restartDue := false
    sys.red.hubUp := false, sys.red.standbyState := 2, sys.red.standbyCause := 0
    sys.red.declared := some (failed, flag self), sys.red.declaredAt := s.now
    sys.red.gapStart := s.now - missedFor s, sys.red.dumpCopied := false }

/-- A warden that sees three suspect declares (R533). DEDUCED, log 95. -/
def tryQuorum (die : Nat) (s : State) : State :=
  if 3 ≤ votesHeld (getWarden s die) && mayDeclare s then declareHub false s else s

/-- WARDEN_SUSPECT: the age of the last heartbeat, in 10 µs, exceeds the window. DEDUCED, log 95. -/
def execWardenSuspect (die age : Nat) (s : State) : Host.Outcome State Fault Refusal :=
  .next (
    if !wardenWorks s die ∨ s.sys.red.proving.isSome ∨ inGap s ∨ age ≤ wardenWindow s die * 100 then s
    else
      let s := setWarden die { getWarden s die with hbAge := min 65535 age } s
      tryQuorum die (castVote die true s))

/-- WARDEN_VOTE_RX: a vote from another warden. -/
def execWardenVoteRx (die src : Nat) (suspect : Bool) (s : State) : Host.Outcome State Fault Refusal :=
  .next (
    if !wardenWorks s die ∨ s.sys.red.proving.isSome ∨ src = die ∨ !isTarn src then s
    else
      let w := getWarden s die
      tryQuorum die (setWarden die { w with votes := if suspect then w.votes ||| voteBit src else w.votes &&& ~~~(voteBit src) } s))

/-- FATAL_DECLARATION_RX: the active Shore has declared itself fatal; the warden passes the flit to the other three and declares. -/
def execFatalDeclarationRx (die : Nat) (s : State) : Host.Outcome State Fault Refusal :=
  .next (match s.sys.red.declared with
    | some (_, 1) =>
      if !wardenWorks s die ∨ s.sys.red.hubUp ∨ !mayDeclare s then s
      else
        let others := s.member.tarnDies.filter fun d => d != die && linkUpBetween s die d
        declareHub true (emitAll (others.map fun d => .declaration die d) s)
    | _ => s)

/-- TAKEOVER_TIMEOUT: no marker accepted within 1 s; the wardens stop the part (R542). DEDUCED, log 99. -/
def execTakeoverTimeout (s : State) : Host.Outcome State Fault Refusal :=
  .next (
    if !inGap s then s
    else
      let s := loseDie (standbyDie s) (dropGroup (standbyDie s) (stopTimeline s))
      { s with sys.fatal.halted := true, sys.red.standbyState := 3 })

/-! ### Dump hold (R534) -/

/-- The Shore in dump hold: the standby once the other has taken over. -/
def heldShore (s : State) : Nat := if s.sys.red.hubUp then standbyDie s else activeShore s
/-- The Shore that takes over, or has. -/
def takingShore (s : State) : Nat := if s.sys.red.hubUp then activeShore s else standbyDie s

/-- The dump of the held Shore, with its COPIED flag, put in the other Shore's dump area. -/
def copyDump (s : State) : State :=
  let at_ := fun (die : Nat) => dieAddr die (dumpStart s % 2 ^ 36)
  let pond := fun (die : Nat) => pondAddr die 48 0
  let src := if dumpValid s (at_ (heldShore s)) then some (at_ (heldShore s)) else if dumpValid s (pond (heldShore s)) then some (pond (heldShore s)) else none
  match src with
  | none => s
  | some a =>
    let (dst, room) := if dramUsable s then (at_ (takingShore s), dumpSize) else (pond (takingShore s), pondDumpSize)
    let h := readBytes s a 512
    let body := h.take 37 ++ bytesLE 1 (byteAt h 37 ||| 4) ++ slice h 38 470
    let rest := readBytes s (a + 512) (min (fieldLE h 8 4) room - 512)
    { writeBytes dst (body ++ bytesLE 4 (crc32 body).toNat ++ rest) s with sys.red.dumpCopied := true }

/-- DUMP_HOLD_END: the copy has ended, or 5 s have passed; the failed Shore is powered off. -/
def execDumpHoldEnd (copied : Bool) (s : State) : Host.Outcome State Fault Refusal :=
  .next (
    if !s.sys.red.dumpHold then s
    else
      let s := if copied && railUp s (takingShore s) then copyDump s else s
      let failed := heldShore s
      let s := { loseDie failed (dropGroup failed s) with sys.red.dumpHold := false }
      if s.sys.red.hubUp && s.sys.red.dumpCopied then dumpEvent s else s)

/-! ### The standby check (R531, R543) -/

/-- `red.standby`. -/
def standbyEvent (s : State) : State :=
  event 2 0xFF 0x0D81 0xFFFF (bytesLE 1 s.sys.red.standbyState ++ bytesLE 1 s.sys.red.standbyCause) s

/-- The standby stands in a state with a cause, which is reported. -/
def standbyTo (st cause : Nat) (s : State) : State :=
  standbyEvent { s with sys.red.standbyState := st, sys.red.standbyCause := cause }

/-- The standby's power and what it held go; its links stand unpowered, but for one that has failed. -/
def standbyOff (s : State) : State :=
  let die := standbyDie s
  let s := loseDie die (dropGroup die s)
  (linksOf s die).foldl (fun s n => if (getLink s n).state = 2 then s else setLink s n { getLink s n with state := 3, retraining := false }) s

/-- STANDBY_CHECK: a check that is due begins: the wardens power the standby. -/
def execStandbyCheck (s : State) : Host.Outcome State Fault Refusal :=
  .next (
    if s.member ≠ .evr8 ∨ !nerrisUp s ∨ !partReady s ∨ s.sys.red.check.isNone ∨ s.sys.red.standbyState = 4 then s
    else raiseGroup (standbyDie s) { s with sys.red.standbyState := 4 })

/-- What a result leaves the standby in. -/
def checkState (code : Nat) : Nat := if code = 0 ∨ code = 6 then 1 else 3

/-- The response of `red.prove`. -/
def proveAnswer (rq : Request) (code : Nat) (s : State) : State :=
  respond rq 0x0D02 (replyOk (bytesLE 1 (flag (code != 0)) ++ bytesLE 1 code) s) s

/-- Every Tarn in hold mute. -/
def muteTiles (s : State) : State :=
  (s.member.tarnDies.filter (powered s)).foldl (fun s d => setTile d { getTile s d with holdMute := true } s) s

/-- A timeline is there to be carried: some Tarn ticks. -/
def timelineRuns (s : State) : Bool := s.member.tarnDies.any fun d => (getTile s d).ticking

/-- Step 2 of `red.prove`: a batch, no more markers and delivery, hold mute, and the Outlets hold. DEDUCED, log 96. -/
def beginProof (rq : Request) (s : State) : State :=
  let s := setHub true (muteTiles (writeJournal s))
  { s with sys.red.check := none, sys.red.proving := some rq, time.rendering := false }

/-- STANDBY_CHECK_END: the result of R531; the standby is powered off, unless `red.prove` goes on. DESIGN CHOICE, log 5; DEDUCED, log 96. -/
def execStandbyCheckEnd (code : Nat) (s : State) : Host.Outcome State Fault Refusal :=
  .next (match s.sys.red.check with
    | none => s
    | some who =>
      if s.sys.red.standbyState ≠ 4 ∨ 6 < code ∨ !nerrisUp s then s
      else
        let failed := fun (s : State) => standbyTo (checkState code) code (standbyOff { (if code = 0 then s else count 0x6806 s) with sys.red.check := none })
        match who with
        | .prove rq => if code = 0 then beginProof rq s else proveAnswer rq code (failed s)
        | .startup => failed s
        | .readmit => failed s)

/-- PROVE_TIMELINE_END: the standby stops, and the active Shore sends markers again at the Tarns' index (R544). DEDUCED, log 96. -/
def execProveTimelineEnd (code : Nat) (s : State) : Host.Outcome State Fault Refusal :=
  .next (match s.sys.red.proving with
    | none => s
    | some rq =>
      if !(code = 0 ∨ code = 7 ∨ code = 8) then s
      else
        let s := setHub false (standbyOff { s with sys.red.proving := none })
        let s := if timelineRuns s then { s with time.rendering := true, time.index := (getTile s 2).index } else s
        proveAnswer rq code (standbyTo (if code = 0 then 1 else 3) code (if code = 0 then s else count 0x6806 s)))

/-! ### The red group (R164, R545) -/

/-- DEDUCED, log 94. -/
def redStatusBody (_ : Request) (s : State) : Reply :=
  let r := s.sys.red
  replyOk (bytesLE 1 r.active ++ bytesLE 1 (if s.member = .evr8 then r.standbyState else 0)
    ++ bytesLE 1 (flag (s.sys.lockstep.duplex || s.sys.lockstep.fenced.isSome)) ++ bytesLE 1 0 ++ bytesLE 4 (counter s 0x6800)
    ++ bytesLE 4 (counter s 0x6803) ++ bytesLE 4 0 ++ bytesLE 8 r.lastJournal) s

/-- `red.status`. -/
def redStatusOp : NcpOp := { opcode := 0x0D00, layout := fun _ => [], staged := never, key := noKey, body := redStatusBody }

def execRedStatus (rq : Request) (s : State) : Host.Outcome State Fault Refusal := .next (serve redStatusOp rq s)

def redCfgBody (rq : Request) (s : State) : Reply :=
  let v := byteAt rq.payload 0
  let used := clampNat 1 50 v
  if s.member ≠ .evr8 then badArg noField s
  else
    let s := s.member.tarnDies.foldl (fun s d => regPut (dieAddr d 0x490004) used s) { s with sys.red.window := used }
    replyUsed (if used = v then none else some 0) (bytesLE 1 used) [] s

/-- `red.cfg`: the fail-over window. -/
def redCfgOp : NcpOp := { opcode := 0x0D01, layout := fun _ => [1], staged := never, key := keyBytes 0, body := redCfgBody }

def execRedCfg (rq : Request) (s : State) : Host.Outcome State Fault Refusal := .next (serve redCfgOp rq s)

def redProveBody (rq : Request) (s : State) : Reply :=
  if s.member ≠ .evr8 then badArg noField s
  else if !bit (byteAt rq.payload 0) 0 then badArg 0 s
  else if s.sys.red.check.isSome then refuse codeBusy 0 noField s
  else if s.sys.red.standbyState ≠ 1 then badArg noField s
  else replyLater { s with sys.red.check := some (.prove rq) }

/-- `red.prove`: the check comes first. -/
def redProveOp : NcpOp := { opcode := 0x0D02, layout := fun _ => [1], staged := never, key := noKey, body := redProveBody }

def execRedProve (rq : Request) (s : State) : Host.Outcome State Fault Refusal := .next (serve redProveOp rq s)

def redReadmitBody (_ : Request) (s : State) : Reply :=
  if s.member ≠ .evr8 then badArg noField s
  else if s.sys.red.check.isSome then refuse codeBusy 0 noField s
  else replyOk [] { s with sys.red.check := some .readmit }

/-- `red.readmit`: the result arrives as `red.standby`. -/
def redReadmitOp : NcpOp := { opcode := 0x0D03, layout := fun _ => [], staged := never, key := noKey, body := redReadmitBody }

def execRedReadmit (rq : Request) (s : State) : Host.Outcome State Fault Refusal := .next (serve redReadmitOp rq s)

/-! ### The restart after a fatal error (R527) -/

/-- FATAL_RESTART: a dump still being written ends incomplete, and the part restarts; the standby, if it is ready, takes over in its place. -/
def execFatalRestart (s : State) : Host.Outcome State Fault Refusal :=
  .next (
    if !s.sys.fatal.restartDue then s
    else match s.sys.fatal.dumping with
      | none => fatalReset s
      | some word =>
        let s := afterDump word (recordFatal word false 0 s)
        if s.sys.fatal.restartDue then fatalReset s else s)

end Sys2Proof.Machine
end

