-- ==== Sys2Proof/Machine/System.lean ====
section
/-! DEFINITION. The sys group (R145, R146, R153, R154) and the readings of the pwr group (R166). -/

namespace Sys2Proof.Machine

/-! ### `sys.hello` -/

/-- The capabilities of R154. -/
def capabilities (s : State) : Nat :=
  let h := bootedHeader s
  let r := s.sys.red.standbyState
  flagAt (s.member == .evr8 && (r == 1 || r == 2 || r == 4)) 0 + flagAt (s.member.outlets != 0) 1 + flagAt (s.member.outlets != 0) 2
    + flagAt (s.hw.dram.st == 1) 3 + flagAt s.msg.ncp.mgmt.port.isSome 4 + flagAt true 5 + flagAt true 6 + flagAt true 7 + flagAt true 8
    + flagAt (bit (imgFlags h) 0) 9 + flagAt (allowSave s) 10 + flagAt s.sys.spring.debugGrant 11 + flagAt (!s.sys.spring.cryptoErr) 12
    + flagAt (s.member != .evr8) 13 + flagAt (s.member == .evr8) 14 + flagAt true 15

/-- The nonce of a UDP session, which follows the payload at offset 72 (R168). -/
def helloNonce (s : State) (k : Nat) : List Byte :=
  match mapFind s.msg.ncp.sessions (k - 0x200000) with
  | some se => if k < 0x200000 then [] else bytesLE 16 se.nonce.toNat
  | none => []

/-- The payload of a `sys.hello` response with a chosen version, for a destination. -/
def helloPayload (s : State) (chosen k : Nat) : List Byte :=
  bytesLE 1 chosen ++ bytesLE 1 0x10 ++ bytesLE 1 0x32 ++ bytesLE 1 s.sys.spring.stage ++ bytesLE 1 s.sys.spring.bootErr
    ++ bytesLE 1 s.member.number ++ bytesLE 1 (activeShore s) ++ bytesLE 1 s.time.rate ++ bytesLE 4 (capabilities s) ++ steppings s
    ++ bytesLE 1 0 ++ serialBytes s ++ bytesLE 4 Config.nerrisVersion ++ bytesLE 4 (getDest s k).nextEv ++ linkStatus s
    ++ helloNonce s k

/-- The version chosen between the sender's range and 1.0 to 3.2, if there is one (R145). -/
def chooseVersion (lo hi : Nat) : Option Nat :=
  let v := min 0x32 hi
  if 0x10 ≤ v ∧ lo ≤ v then some v else none

/-- `sys.hello` is answered at the chosen version, or at the one that the sender keeps. -/
def sysHelloBody (rq : Request) (s : State) : Reply :=
  let k := destKey rq
  match chooseVersion (byteAt rq.payload 0) (byteAt rq.payload 1) with
  | some v =>
    let s := setDest k { getDest s k with version := v } s
    replyLater (respondAt v rq 0 (replyOk (helloPayload s v k) s) s)
  | none =>
    replyLater (respondAt (negotiated s rq) rq 0 { refuse codeBadVersion 0x32 noField s with body := helloPayload s 0 k } s)

def sysHelloOp : NcpOp := { opcode := 0x0000, layout := fun _ => [1, 1, 6], staged := never, key := noKey, body := sysHelloBody }

def execSysHello (rq : Request) (s : State) : Host.Outcome State Fault Refusal := .next (serve sysHelloOp rq s)

/-! ### Readings -/

/-- The temperature of each die in 1/16 °C, −32768 for one that is absent or unpowered. DEDUCED, log 104. -/
def dieTemps (s : State) : List Byte :=
  (List.range 8).flatMap fun d => bytesS 2 (if powered s d then mapGet (fun _ => 0) s.sys.temps d else -32768)

def sysStatusBody (_ : Request) (s : State) : Reply :=
  replyOk (bytesLE 8 s.time.index ++ bytesLE 1 s.time.rate ++ bytesLE 1 s.sys.ao.power.code ++ bytesLE 1 s.time.mclk.ref
    ++ bytesLE 1 (flag (s.time.mclk.st == 1)) ++ dieTemps s) s

/-- `sys.status`. -/
def sysStatusOp : NcpOp := { opcode := 0x0002, layout := fun _ => [], staged := never, key := noKey, body := sysStatusBody }

def execSysStatus (rq : Request) (s : State) : Host.Outcome State Fault Refusal := .next (serve sysStatusOp rq s)

/-- `pwr.status`: the estimate of power has no stated rule. -/
def pwrStatusBody (_ : Request) (s : State) : Reply :=
  replyOk (bytesLE 1 s.sys.ao.power.code ++ bytesLE 3 0 ++ bytesLE 4 (Config.powerEstimate s.sys.ao.power.code) ++ dieTemps s) s

def pwrStatusOp : NcpOp := { opcode := 0x0F01, layout := fun _ => [], staged := never, key := noKey, body := pwrStatusBody }

def execPwrStatus (rq : Request) (s : State) : Host.Outcome State Fault Refusal := .next (serve pwrStatusOp rq s)

/-! ### `sys.reset`, `sys.event.mask`, `sys.ping` -/

/-- The slot that a slot byte forces. -/
def forcedBy (b : Nat) : Option Nat := if b = 1 then some 0 else if b = 2 then some 1 else none

def sysResetBody (rq : Request) (s : State) : Reply :=
  let scope := byteAt rq.payload 0
  let die := byteAt rq.payload 1
  let slot := byteAt rq.payload 2
  let target := s.member.has die && !isShore die
  if 2 < scope then badArg 0 s
  else if scope = 2 ∧ !target then badArg 1 s
  else if scope ≠ 1 ∧ slot ≠ 0 then refuse codeBadArg 2 2 s
  else if 2 < slot then badArg 2 s
  else if scope ≠ 1 ∧ s.msg.commit.isSome then refuse codeBusy 0 noField s
  else match forcedBy slot with
    | some k =>
      if (slotState s k).1 = 2 then replyOk [] { s with msg.ncp.resetDue := some (scope, die, slot) } else refuse codeBadArg 1 2 s
    | none => replyOk [] { s with msg.ncp.resetDue := some (scope, die, slot) }

/-- `sys.reset`: answered first; the reset itself is a command of its own. -/
def sysResetOp : NcpOp := { opcode := 0x0004, layout := fun _ => [1, 1, 1, 1], staged := never, key := noKey, body := sysResetBody }

def execSysReset (rq : Request) (s : State) : Host.Outcome State Fault Refusal := .next (serve sysResetOp rq s)

def sysEventMaskBody (rq : Request) (s : State) : Reply :=
  let k := destKey rq
  let ev := fieldLE rq.payload 0 4 % 2 ^ 22
  let db := fieldLE rq.payload 4 4 % 2 ^ 22
  replyOk (bytesLE 4 ev ++ bytesLE 4 db) (setDest k { getDest s k with evMask := ev, dbMask := db } s)

/-- `sys.event.mask`. -/
def sysEventMaskOp : NcpOp := { opcode := 0x0006, layout := fun _ => [4, 4], staged := never, key := noKey, body := sysEventMaskBody }

def execSysEventMask (rq : Request) (s : State) : Host.Outcome State Fault Refusal := .next (serve sysEventMaskOp rq s)

def sysPingBody (rq : Request) (s : State) : Reply := replyOk rq.payload s

/-- `sys.ping`. -/
def sysPingOp : NcpOp := { opcode := 0x0007, layout := fun _ => [], staged := never, key := noKey, body := sysPingBody }

def execSysPing (rq : Request) (s : State) : Host.Outcome State Fault Refusal := .next (serve sysPingOp rq s)

end Sys2Proof.Machine
end

