-- ==== Sys2Proof/Machine/Power.lean ====
section
/-! DEFINITION. The rail sequencer and its faults, the reset pins, temperature, and the power states: entry, wake and return (R552 to R566). -/

namespace Sys2Proof.Machine

/-! ### Reset pins and the supply (R554, R566) -/

/-- VDD_AO_RISE: the always-on domain is reset and a cold reset triggered; WAKE_N low selects the second I²C address (R590). -/
def execVddAoRise (wakeNLow : Bool) (s : State) : Host.Outcome State Fault Refusal :=
  .next (coldReset 0 0 { s with
    hw.regs := []
    sys.ao := { Ao.reset with i2cAddr := if wakeNLow then 0x5D else 0x5C, resetN := s.sys.ao.resetN }, sys.red.active := 0 })

/-- POWER_LOSS: everything but fuses and flash is lost; nothing runs until VDD_AO rises. -/
def execPowerLoss (s : State) : Host.Outcome State Fault Refusal :=
  .next (
    let t := coldClear s
    { t with
      hw.dram.order := 3, sys.jtag := Sys.reset.jtag
      sys.ao := { Ao.reset with vdd := false, coldWaiting := false, resetN := s.sys.ao.resetN }, sys.red.active := 0 })

/-- RESET_N taken: a cold reset, with no start while the pin is low. -/
def takeResetN (s : State) : State := coldReset 1 0 { s with sys.ao.resetN := false }

/-- RESET_N_ASSERT: held low for `ns`: below 100 ns ignored, from 1 µs taken, between the two open. DEDUCED, log 102. -/
def execResetNAssert (ns : Nat) (s : State) : Host.Outcome State Fault Refusal :=
  .next (
    if ns < 100 ∨ !s.sys.ao.vdd then s
    else if 1000 ≤ ns then takeResetN s
    else
      let (b, s) := drawFree s
      if b.getLsbD 0 then takeResetN s else s)

/-- RESET_N_RELEASE: the cold start waits for the hold; what kept the enables low is over. -/
def execResetNRelease (s : State) : Host.Outcome State Fault Refusal :=
  .next (
    if s.sys.ao.resetN then s
    else tryStart { s with sys.ao.resetN := true, sys.ao.lockedOff := false, sys.ao.coldWaiting := true })

/-- ENABLE_HOLD_END: every enable has been low for 100 ms. -/
def execEnableHoldEnd (s : State) : Host.Outcome State Fault Refusal :=
  .next (if s.sys.ao.enables ≠ 0 then s else tryStart { s with sys.ao.holdDone := true })

/-! ### The sequencer (R555, R556) -/

/-- The converters of powered Outlets drive their clear codes once the analogue rail is in range (R434). -/
def releaseDacs (s : State) : State :=
  { s with outs.dacs := s.outs.dacs.map fun (e : Nat × Dac) =>
      (e.1, { e.2 with pos := 0, code := e.2.clear, acc := e.2.clear * 65536 }) }

/-- RAIL_IN_RANGE. DESIGN CHOICE, log 5. -/
def execRailInRange (group : Nat) (s : State) : Host.Outcome State Fault Refusal :=
  .next (
    if !s.sys.ao.enables.getLsbD group ∨ s.sys.ao.inRange.getLsbD group then s
    else
      let s := { s with sys.ao.inRange := s.sys.ao.inRange ||| groupBit group }
      if group = 5 then releaseDacs s else s)

/-- The Shore of a group that falls for DEEP STANDBY stops with it. -/
def stopShore (g : Nat) (s : State) : State :=
  if g = activeShore s ∧ s.sys.ao.power = .deepStandby then { s with sys.boot.step := .off, sys.boot.ready := false } else s

/-- SEQUENCER_STEP: the next enable falls or, when none is to fall, the next rises. -/
def execSequencerStep (s : State) : Host.Outcome State Fault Refusal :=
  .next (match nextDrop s with
    | some g => stopShore g (dropGroup g s)
    | none => match nextRaise s with
      | some g => raiseGroup g s
      | none => s)

/-- A start-up stopped by a rail group: every enable falls and INT_N is asserted by the always-on domain (R63). -/
def stopForRail (group : Nat) (s : State) : State :=
  let s := shutOff s.sys.ao.cause group s
  { s with sys.ao.startStop := true, sys.ao.aoIntN := true, sys.ao.lockedOff := true, sys.spring.bootErr := 1, sys.spring.stage := 7
           sys.boot.step := .stopped }

/-- RAIL_TIMEOUT: a group of the raising order not in range in time. -/
def execRailTimeout (group : Nat) (s : State) : Host.Outcome State Fault Refusal :=
  .next (
    if !s.sys.ao.enables.getLsbD group ∨ s.sys.ao.inRange.getLsbD group ∨ group = standbyDie s then s else stopForRail group s)

/-- The proof of a standby ended with a code. -/
def endProof (code : Nat) (rq : Request) (s : State) : State :=
  let s := setHub false { s with sys.red.proving := none }
  let s := if timelineRuns s then { s with time.rendering := true, time.index := (getTile s 2).index } else s
  proveAnswer rq code (standbyTo 3 code (count 0x6806 s))

/-- A fault of the standby with its code of R531: the standby fails, and what it was doing ends. DEDUCED, log 96. -/
def standbyFault (code : Nat) (s : State) : State :=
  let s := standbyOff { s with sys.red.dumpHold := false }
  let fail := fun (s : State) => standbyTo 3 code { s with sys.red.check := none }
  match s.sys.red.proving with
  | some rq => endProof code rq s
  | none => match s.sys.red.check with
    | some (.prove rq) => proveAnswer rq code (fail s)
    | _ => fail s

/-- RAIL_FAULT: a group in range has left its range. -/
def execRailFault (group : Nat) (s : State) : Host.Outcome State Fault Refusal :=
  .next (
    if !railUp s group then s
    else if s.member = .evr8 ∧ group = standbyDie s ∧ s.sys.red.hubUp then standbyFault 1 s
    else if group = activeShore s ∧ s.sys.red.standbyState = 1 ∧ mayDeclare s then declareHub false s
    else { shutOff 3 group s with sys.ao.railRestartDue := true })

/-- RAIL_FAULT_RESTART: a cold start 500 ms after a rail fault; the third within 60 s leaves every enable low. -/
def execRailFaultRestart (s : State) : Host.Outcome State Fault Refusal :=
  .next (
    if !s.sys.ao.railRestartDue then s
    else
      let times := s.now :: s.sys.ao.railRestarts.filter fun t => decide (s.now < t + 60 * cyclesPerSecond)
      let s := { s with sys.ao.railRestartDue := false, sys.ao.railRestarts := times }
      if 3 ≤ times.length then { s with sys.ao.lockedOff := true } else tryStart { s with sys.ao.coldWaiting := true })

/-! ### Temperature (R557) -/

/-- THERMAL_TRIP: 125 °C on any powered die. DEDUCED, log 102. -/
def execThermalTrip (die : Nat) (s : State) : Host.Outcome State Fault Refusal :=
  .next (if !powered s die then s else { shutOff 4 0 s with sys.ao.lockedOff := true })

/-- A point of the thermal report in 1/16 °C: passed upwards it reports, and it arms again 5 K below. -/
def thermalPoint (die : Nat) (temp : Int) (value : Nat) (point : Int) (s : State) : State :=
  let marks := mapGet (fun _ => 0) s.sys.warned die
  if point < temp ∧ !marks.testBit value then
    event 20 die 0x0F80 0xFFFF (bytesLE 1 die ++ bytesLE 1 value ++ bytesS 2 temp)
      { s with sys.warned := mapSet s.sys.warned die (marks ||| 2 ^ value) }
  else if temp ≤ point - 80 ∧ marks.testBit value then { s with sys.warned := mapSet s.sys.warned die (marks ^^^ 2 ^ value) }
  else s

/-- DIE_TEMPERATURE_CROSSING: a die's temperature in 1/16 °C. DEDUCED, log 104. -/
def execDieTemperatureCrossing (die : Nat) (temp : Int) (s : State) : Host.Outcome State Fault Refusal :=
  .next (
    if !powered s die then s
    else
      let s := { s with sys.temps := mapSet s.sys.temps die temp }
      if nerrisUp s then thermalPoint die temp 1 1760 (thermalPoint die temp 0 1600 s) else s)

/-! ### What power takes away, and the banks of the pool (R558, R560) -/

/-- A Tarn unpowered: its memories and registers are lost. -/
def loseTarn (die : Nat) (s : State) : State := resetTarn die (loseDie die s)

/-- Tarns and Outlets unpowered; the mirrors of the journal go with the Tarns. DEDUCED, log 101. -/
def loseFarDies (s : State) : State :=
  let s := s.member.tarnDies.foldl (fun s d => loseTarn d s) s
  { s.member.outletDies.foldl (fun s d => resetOutlet false d s) s with sys.red.mirrors := [], journal := none }

/-- Every bank of the pool on powered dies takes a mode from another (0 ON, 1 RETENTION). DEDUCED, log 38. -/
def poolBanks (old new : Nat) (s : State) : State :=
  (s.member.dies.filter (powered s)).foldl (fun s die =>
    (List.range (bankCount die)).foldl (fun s b =>
      let x := getBank s die b
      if x.owner = 0 ∧ x.pwr = old then setBank die b { x with pwr := new } s else s) s) s

/-- Gate commands low and line outputs at their clear codes. -/
def quietOutputs (s : State) : State :=
  { releaseDacs s with
    outs.amps := s.outs.amps.map fun (e : Nat × Amp) =>
      (e.1, if e.2.st.switching || e.2.st == .starting then e.2.gatesLow .off else e.2) }

/-! ### `pwr.state` (R559, R560) -/

def powerOf : Nat → PowerState
  | 0 => .run
  | 1 => .idle
  | 2 => .listen
  | 3 => .sleep
  | _ => .deepStandby

/-- The Tarns and Outlets are unpowered in a state. -/
def PowerState.farOff : PowerState → Bool
  | .run => false
  | .idle => false
  | .listen => true
  | .sleep => true
  | .deepStandby => true

def farGroups : List Nat := [2, 3, 5]

/-- Ports that no wake needs go down, the switch and PTP stop, DRAM refreshes itself (R516, R558, R561). -/
def enterSleep (s : State) : State :=
  let keep := s.sys.ao.wakeEn.getLsbD 2
  { s with
    hw.dram.st := if s.hw.dram.st = 1 then 2 else s.hw.dram.st, time.ptp.running := false
    net.ports := s.net.ports.map fun (e : Nat × NetPort) => (e.1, { e.2 with link := e.2.link && keep }) }

/-- Ripple programs copied again into their code ponds, SMR6 as it is. -/
def reloadPrograms (s : State) : State :=
  (s.msg.ncp.records.filter fun r => r.opcode == 0x0A00).foldl (fun s r =>
    let n := byteAt r.payload 0
    if n < s.member.cores then placeProgram n (r.payload.drop 20) s else s) s

/-- Every far group powered again, DRAM out of self-refresh, PTP running, programs reloaded; the EVR-8 writes a fresh base record. DEDUCED, log 101. -/
def returnFar (s : State) : State :=
  let gs := groupBits ((raiseOrder s.member).filter fun g => farGroups.contains g)
  let s := { s with
    sys.ao.target := s.sys.ao.target ||| gs, sys.ao.enables := s.sys.ao.enables ||| gs, sys.ao.inRange := s.sys.ao.inRange ||| gs
    hw.dram.st := if s.hw.dram.st = 2 then 1 else s.hw.dram.st, time.ptp.running := true }
  let s := reloadPrograms (releaseDacs s)
  if s.member = .evr8 then writeJournal { s with sys.red.mirrors := [] } else s

/-- Entry into a state other than RUN from RUN, IDLE or LISTEN. DEDUCED, log 101. -/
def enterPower (target : PowerState) (s : State) : State :=
  let from_ := s.sys.ao.power
  let s := if from_ = .run then quietOutputs (stopTimeline s) else s
  let s := { s with sys.ao.power := target, sys.ao.changing := false }
  let s := if target.farOff && !from_.farOff then loseFarDies s else if from_.farOff && !target.farOff then returnFar s else s
  let s := if target = .idle ∨ target = .sleep then poolBanks 0 1 s else poolBanks 1 0 s
  match target with
  | .run => s
  | .idle => s
  | .listen => lowerTo (s.sys.ao.target &&& ~~~(groupBits farGroups)) s
  | .sleep => lowerTo (s.sys.ao.target &&& ~~~(groupBits farGroups)) (enterSleep s)
  | .deepStandby => lowerTo 0 s

def pwrStateBody (rq : Request) (s : State) : Reply :=
  let st := byteAt rq.payload 0
  let mask := fieldLE rq.payload 4 4
  let proof := match s.sys.red.check with
    | some (.prove _) => true
    | _ => s.sys.red.proving.isSome
  if s.msg.commit.isSome ∨ s.sys.slotWrite.isSome ∨ proof = true then refuse codeBusy 0 noField s
  else if 4 < st then badArg 0 s
  else if 32 ≤ mask then badArg 4 s
  else if st = 4 ∧ !(bit mask 0 || bit mask 1 || bit mask 4) then refuse codeBadArg 1 4 s
  else
    let s := respond rq 0x0F00 (replyOk [] s) { s with sys.ao.wakeEn := BitVec.ofNat 5 mask }
    replyLater (if powerOf st = s.sys.ao.power then s
      else if st = 0 then { s with sys.ao.changing := true }
      else enterPower (powerOf st) s)

/-- `pwr.state`: the response comes first; state 0 from IDLE or LISTEN begins a return. -/
def pwrStateOp : NcpOp := { opcode := 0x0F00, layout := fun _ => [1, 3, 4], staged := never, key := noKey, body := pwrStateBody }

/-- DEDUCED, log 101. -/
def execPwrState (rq : Request) (s : State) : Host.Outcome State Fault Refusal := .next (serve pwrStateOp rq s)

def pwrAlarmBody (rq : Request) (s : State) : Reply :=
  let v := fieldLE rq.payload 0 4
  replyOk [] { s with sys.ao.alarmAt := if v = 0 then none else some (s.now + v * cyclesPerSecond) }

/-- `pwr.alarm`. -/
def pwrAlarmOp : NcpOp := { opcode := 0x0F02, layout := fun _ => [4], staged := never, key := noKey, body := pwrAlarmBody }

def execPwrAlarm (rq : Request) (s : State) : Host.Outcome State Fault Refusal := .next (serve pwrAlarmOp rq s)

/-! ### Wake (R561) -/

/-- ALARM_EXPIRY: in RUN it only sends `pwr.wake`. -/
def execAlarmExpiry (s : State) : Host.Outcome State Fault Refusal :=
  .next (
    if s.sys.ao.alarmAt.isNone then s
    else
      let s := { s with sys.ao.alarmAt := none }
      if s.sys.ao.power = .run then wakeEvent 1 s else wakeBy 0 s)

/-- WAKE_N_LOW: the pin held low for `us`. -/
def execWakeNLow (us : Nat) (s : State) : Host.Outcome State Fault Refusal := .next (if us < 100 then s else wakeBy 1 s)

/-! ### Return to RUN (R563, R564) -/

/-- Every channel that may start does. -/
def startChannels (s : State) : State := (List.range s.member.channels).foldl (fun s c => ampMayStart c s) s

/-- Rendering starts with a fresh index, unless the part is in safe mode: objects keep their records, history starts from zero. -/
def startRendering (s : State) : State :=
  if s.sys.boot.safe then s else startTimeline false (clearSoundKeepHeat (restartObjects s))

/-- WAKE_RETURN: the part is back in RUN, from IDLE, LISTEN or SLEEP; from DEEP STANDBY a cold start follows. DEDUCED, log 101. -/
def execWakeReturn (source : Nat) (s : State) : Host.Outcome State Fault Refusal :=
  .next (
    if !s.sys.ao.changing ∨ s.sys.ao.power = .run ∨ !(source = 0 ∨ source = s.sys.ao.wakeSrc.toNat) then s
    else if s.sys.ao.power = .deepStandby then
      let s := coldReset 5 0 s
      { s with sys.boot.wakeReport := some source }
    else
      let far := s.sys.ao.power.farOff
      let s := { s with sys.ao.power := .run, sys.ao.changing := false }
      let s := if far then returnFar s else s
      wakeEvent source (startChannels (startRendering (poolBanks 1 0 s))))

end Sys2Proof.Machine
end

