-- ==== Sys2Proof/Machine/Security.lean ====
section
/-! DEFINITION. The Spring services behind the sec group: attestation, provisioning, lifecycle, key revocation, debug tokens, self-test and the error state, and the blowing of fuses (R83, R87 to R104, R135, R163). -/

namespace Sys2Proof.Machine

/-! ### The error state (R104) -/

/-- Start-up stops with a code: the Shore stays powered, and BOOT_STOP asserts INT_N (R63). -/
def stopBoot (err : Nat) (s : State) : State :=
  withVectors (fun s => { s with sys.spring.bootErr := err, sys.spring.stage := 7, sys.boot.step := .stopped }) s

/-- `sec.fault`. -/
def faultEvent (test : Nat) (s : State) : State := event 19 (activeShore s) 0x0C80 0xFFFF (bytesLE 1 test) s

/-- Spring's error state: the volatile key store is cleared. -/
def cryptoFault (test : Nat) (s : State) : State :=
  faultEvent test { s with sys.spring.cryptoErr := true, sys.spring.selftestOk := false, sys.spring.attestKey := none, sys.spring.saveKey := none }

/-- The request of a cryptographic work in progress answered FAULT. -/
def dropAttesting (s : State) : State :=
  match s.sys.spring.attesting with
  | none => s
  | some rq => respond rq 0x0C00 (refuse codeFault 0 noField s) { s with sys.spring.attesting := none }

/-- ENTROPY_HEALTH_FAIL: a continuous health test fails; before Nerris has started it stops start-up. DEDUCED, log 105. -/
def execEntropyHealthFail (test : Nat) (s : State) : Host.Outcome State Fault Refusal :=
  .next (
    let s' := dropAttesting (cryptoFault test s)
    match s.sys.boot.step with
    | .off => s
    | .rails => s
    | .selfTest => s
    | .links => stopBoot 3 s'
    | .image => stopBoot 3 s'
    | _ => s')

/-! ### Self-test and attestation -/

def secSelftestBody (rq : Request) (s : State) : Reply :=
  withCrypto s (replyLater { s with sys.spring.selftesting := some rq })

/-- `sec.selftest`. -/
def secSelftestOp : NcpOp := { opcode := 0x0C07, layout := fun _ => [], staged := never, key := noKey, body := secSelftestBody }

def execSecSelftest (rq : Request) (s : State) : Host.Outcome State Fault Refusal := .next (serve secSelftestOp rq s)

/-- SELFTEST_COMPLETE: 0 passed, else the failing test. -/
def execSelftestComplete (failingTest : Nat) (s : State) : Host.Outcome State Fault Refusal :=
  .next (match s.sys.spring.selftesting with
    | none => s
    | some rq =>
      let s := { s with sys.spring.selftesting := none }
      let s := if failingTest = 0 then s else dropAttesting (cryptoFault failingTest s)
      respond rq 0x0C07 (replyOk (bytesLE 1 (flag (failingTest != 0)) ++ bytesLE 1 failingTest) s) s)

/-- The report of R96 up to its signature, over a nonce. -/
def attestReport (s : State) (key : BitVec 384) (nonce : List Byte) : List Byte :=
  let p := s.sys.spring
  bytesLE 2 0x0103 ++ bytesLE 1 (lifecycle s) ++ bytesLE 1 s.member.number ++ steppings s
    ++ bytesLE 1 (flag p.debugGrant + 2 * flag p.overlay + 4 * flag p.fallback + 8 * flag (activeShore s == 1))
    ++ bytesLE 1 (p.slot.getD 0) ++ bytesLE 1 (rollbackCount s) ++ bytesLE 1 nonce.length ++ bytesLE 1 0 ++ bytesLE 4 p.generation
    ++ serialBytes s ++ p.smr.flatMap digestBytes ++ slice (nonce ++ List.replicate 64 0) 0 64 ++ bytesBE 96 (Config.ecdsaPublic key).toNat

def secAttestBody (rq : Request) (s : State) : Reply :=
  let n := rq.payload.length
  if n < 16 ∨ 64 < n then badArg 0 s
  else withCrypto s (if s.sys.spring.attesting.isSome then refuse codeBusy 0 noField s
    else replyLater { s with sys.spring.attesting := some rq })

/-- `sec.attest`. -/
def secAttestOp : NcpOp := { opcode := 0x0C00, layout := fun _ => [], staged := never, key := noKey, body := secAttestBody }

def execSecAttest (rq : Request) (s : State) : Host.Outcome State Fault Refusal := .next (serve secAttestOp rq s)

/-- ATTESTATION_SIGNED. -/
def execAttestationSigned (s : State) : Host.Outcome State Fault Refusal :=
  .next (match s.sys.spring.attesting with
    | none => s
    | some rq =>
      let s := { s with sys.spring.attesting := none }
      match s.sys.spring.attestKey with
      | none => respond rq 0x0C00 (refuse codeFault 0 noField s) s
      | some key =>
        let (v, s) := drawFree s
        let report := attestReport s key rq.payload
        respond rq 0x0C00 (replyOk (report ++ bytesBE 96 (Config.ecdsaSign key report v.toNat).toNat) s) s)

/-! ### Fuses (R87, R135) -/

/-- A field of fuses in both copies. -/
def fuseBits (lo : Nat) (v : Nat) : BitVec 8192 := (BitVec.ofNat 8192 v <<< lo) ||| (BitVec.ofNat 8192 v <<< (lo + 3072))
/-- Every fuse of a field. DESIGN CHOICE, log 21. -/
def fuseOnes (lo n : Nat) : BitVec 8192 := fuseBits lo (2 ^ n - 1)

/-- The work of blowing fuses begins. -/
def blow (rq : Request) (op : Nat) (bits : BitVec 8192) (reply : List Byte) (s : State) : Reply :=
  replyLater { s with sys.spring.blowing := some (rq, { opcode := op, bits := bits, reply := reply }) }

/-- Fuses blown; what a transition of the lifecycle does not hold back takes effect at once (R90). -/
def blowNow (bits : BitVec 8192) (s : State) : State :=
  { s with hw.fuses := s.hw.fuses ||| bits, sys.spring.shadow := s.sys.spring.shadow ||| bits }

/-- FUSES_BLOWN: the response follows. A transition to RMA has destroyed the secrets: the key store is cleared (R92, R93). DEDUCED, log 105. -/
def execFusesBlown (s : State) : Host.Outcome State Fault Refusal :=
  .next (match s.sys.spring.blowing with
    | none => s
    | some (rq, w) =>
      let s := { s with sys.spring.blowing := none }
      let s := if w.opcode = 0x0C03 ∨ w.opcode = 0x0C06 then blowNow w.bits s else { s with hw.fuses := s.hw.fuses ||| w.bits }
      let s := if w.bits &&& flagFuses 3 = 0 then s else { s with sys.spring.attestKey := none, sys.spring.saveKey := none }
      respond rq w.opcode (replyOk w.reply s) s)

/-- ROLLBACK_FUSE_BLOW: rollback fuses up to the booted image's security version, when the image asks for it (R83). -/
def execRollbackFuseBlow (s : State) : Host.Outcome State Fault Refusal :=
  .next (
    if !s.sys.spring.rollbackDue ∨ !partReady s ∨ !nerrisUp s then s
    else blowNow (fuseOnes 3120 (imgVersion (bootedHeader s))) { s with sys.spring.rollbackDue := false })

/-! ### Signed requests (R163) -/

/-- A signature over the bytes before it by the owner key of an index: its public key follows the signature. -/
def ownerSigned (s : State) (index : Nat) (p : List Byte) (at_ : Nat) : Bool :=
  let pub := slice p (at_ + 96) 96
  decide (index < 2) && !revoked s index && ownerHash s index == (Config.sha384 pub).toNat
    && Config.ecdsaVerify (BitVec.ofNat 768 (fieldBE pub 0 96)) (p.take at_) (BitVec.ofNat 768 (fieldBE p at_ 96))

/-- The part's serial number stands at an offset. -/
def namesPart (s : State) (p : List Byte) (at_ : Nat) : Bool := slice p at_ 16 == serialBytes s

def signedLayout (_ : Nat) : List Nat := [1, 1, 14, 16, 96, 96]

def denied (s : State) : Reply := refuse codeDenied 0 noField s

/-- Before a request that blows fuses: Spring serves, and no other such request is in progress. -/
def withFuses (s : State) (r : Reply) : Reply :=
  withCrypto s (if s.sys.spring.blowing.isSome then refuse codeBusy 0 noField s else r)

def secProvisionBody (rq : Request) (s : State) : Reply :=
  let p := rq.payload
  withFuses s (
    if lifecycle s ≠ 0 ∨ !(rq.sender = 0x0001 ∨ rq.sender = 0x0010) then denied s
    else match s.sys.spring.attestKey with
      | none => refuse codeFault 0 noField s
      | some key =>
        blow rq 0x0C01 (fuseBits 1696 (fieldBE p 0 48) ||| fuseBits 2080 (fieldBE p 48 48) ||| fuseBits 2480 (fieldBE p 96 48)
            ||| fuseBits 2864 (fieldBE p 144 32) ||| flagFuses 1)
          (bytesBE 96 (Config.ecdsaPublic key).toNat) s)

/-- `sec.provision` (R91). -/
def secProvisionOp : NcpOp :=
  { opcode := 0x0C01, layout := fun _ => [48, 48, 48, 32], staged := never, key := noKey, body := secProvisionBody }

def execSecProvision (rq : Request) (s : State) : Host.Outcome State Fault Refusal := .next (serve secProvisionOp rq s)

/-- The fuses of a transition: into RMA the DEPLOYED flag comes first and every secret is destroyed (R90, R92). DEDUCED, log 105. -/
def transition (target : Nat) : BitVec 8192 :=
  if target = 2 then flagFuses 2
  else flagFuses 2 ||| flagFuses 3 ||| fuseOnes 1312 384 ||| fuseOnes 2480 384 ||| fuseOnes 2864 256

def secLifecycleBody (rq : Request) (s : State) : Reply :=
  let p := rq.payload
  let target := byteAt p 0
  let allowed := (lifecycle s == 1 && target == 2) || ((lifecycle s == 1 || lifecycle s == 2) && target == 3)
  withFuses s (
    if allowed && namesPart s p 16 && ownerSigned s (byteAt p 1) p 32 then blow rq 0x0C02 (transition target) [] s
    else denied s)

/-- `sec.lifecycle` (R90). -/
def secLifecycleOp : NcpOp := { opcode := 0x0C02, layout := signedLayout, staged := never, key := noKey, body := secLifecycleBody }

def execSecLifecycle (rq : Request) (s : State) : Host.Outcome State Fault Refusal := .next (serve secLifecycleOp rq s)

def secKeyRevokeBody (rq : Request) (s : State) : Reply :=
  let p := rq.payload
  let k := byteAt p 0
  withFuses s (
    if 1 < k then badArg 0 s
    else if byteAt p 1 = 1 - k ∧ namesPart s p 16 ∧ ownerSigned s (1 - k) p 32 then blow rq 0x0C03 (fuseOnes (2464 + 8 * k) 8) [] s
    else denied s)

/-- `sec.key.revoke`: signed with the other, unrevoked, key (R88). -/
def secKeyRevokeOp : NcpOp := { opcode := 0x0C03, layout := signedLayout, staged := never, key := noKey, body := secKeyRevokeBody }

def execSecKeyRevoke (rq : Request) (s : State) : Host.Outcome State Fault Refusal := .next (serve secKeyRevokeOp rq s)

def secDebugEpochBody (rq : Request) (s : State) : Reply :=
  let p := rq.payload
  let n := debugEpoch s
  withFuses s (
    if !(namesPart s p 16 && ownerSigned s (byteAt p 1) p 32) then denied s
    else if 64 ≤ n then refuse codeNoResource 0 noField s
    else blow rq 0x0C06 (fuseBits (3184 + n) 1) (bytesLE 1 (n + 1)) s)

/-- `sec.debug.epoch`: the next epoch fuse (R101). -/
def secDebugEpochOp : NcpOp := { opcode := 0x0C06, layout := signedLayout, staged := never, key := noKey, body := secDebugEpochBody }

def execSecDebugEpoch (rq : Request) (s : State) : Host.Outcome State Fault Refusal := .next (serve secDebugEpochOp rq s)

/-! ### Debug tokens (R100, R101) -/

def secDebugChallengeBody (_ : Request) (s : State) : Reply :=
  withCrypto s (
    let (v, s) := drawFree s
    let c : BitVec 256 := v.setWidth 256
    replyOk (bytesBE 32 c.toNat) { s with sys.spring.challenge := some c })

/-- `sec.debug.challenge`. -/
def secDebugChallengeOp : NcpOp := { opcode := 0x0C04, layout := fun _ => [], staged := never, key := noKey, body := secDebugChallengeBody }

def execSecDebugChallenge (rq : Request) (s : State) : Host.Outcome State Fault Refusal := .next (serve secDebugChallengeOp rq s)

/-- A token is good: state, serial number, challenge, epoch and signature. DEDUCED, log 105. -/
def tokenGood (s : State) (p : List Byte) : Bool :=
  lifecycle s == 2 && namesPart s p 16 && s.sys.spring.challenge == some (BitVec.ofNat 256 (fieldBE p 32 32))
    && decide (debugEpoch s ≤ byteAt p 1) && ownerSigned s (byteAt p 0) p 64

/-- The grant of an accepted token. DEDUCED, log 105. -/
def acceptToken (p : List Byte) (s : State) : State :=
  let s := extendSmr 7 (digestBytes (Config.sha384 (p.take 256))) s
  let s := { s with
    sys.spring.grantedDebug := s.sys.spring.grantedDebug ||| BitVec.ofNat 4 (fieldLE p 2 2), sys.spring.debugGrant := true
    sys.spring.challenge := none }
  event 19 (activeShore s) 0x0C81 0xFFFF (bytesLE 2 (effectiveDebug s).toNat) s

def secDebugUnlockBody (rq : Request) (s : State) : Reply :=
  withCrypto s (
    if tokenGood s rq.payload then
      let s := acceptToken rq.payload s
      replyOk (bytesLE 2 (effectiveDebug s).toNat) s
    else denied s)

/-- `sec.debug.unlock`. -/
def secDebugUnlockOp : NcpOp :=
  { opcode := 0x0C05, layout := fun _ => [1, 1, 2, 12, 16, 32, 96, 96], staged := never, key := noKey, body := secDebugUnlockBody }

def execSecDebugUnlock (rq : Request) (s : State) : Host.Outcome State Fault Refusal := .next (serve secDebugUnlockOp rq s)

end Sys2Proof.Machine
end

