-- ==== Sys2Proof/Machine/Boot.lean ====
section
/-! DEFINITION. Start-up from the PLLs to DRAM and ponds, and the Kyoler links (R28 to R35, R60, R63, R72 to R75, R82, R84, R94, R97, R511, R512). -/

namespace Sys2Proof.Machine

/-- The groups in use: the active Shore's, and those of the raising order beyond the Shores. -/
def usedGroups (s : State) : List Nat := activeShore s :: (raiseOrder s.member).filter fun g => decide (2 ≤ g)

/-! ### Column repair (R511) -/

/-- Entry `k` of the memory-repair field. -/
def repairEntry (s : State) (k : Nat) : Nat := fuseField s (24 * k) 24
/-- Bits `hi` down to `lo` of a value, the highest first. -/
def bitsDown (v hi lo : Nat) : List Bool := (List.range (hi + 1 - lo)).map fun i => v.testBit (hi - i)
/-- DEDUCED, log 88. -/
def repairCheck (e : Nat) : Bool := (crc5 (bitsDown e 23 5)).toNat == bits e 4 0
/-- DEDUCED, log 88. -/
def repairField (s : State) : Bool :=
  (crc16 ((List.range 1008).map fun i => (fuseField s i 1) == 1)).toNat == fuseField s 1008 16

/-- Whether a die has a repairable memory. DEDUCED, log 87. -/
def hasMemory (die mem : Nat) : Bool :=
  (isShore die && decide (mem < 3)) || (decide (0x100 ≤ mem) && decide (mem < 0x100 + bankCount die))

/-- One entry applied to a die, or refused: its check fails, there is no such memory, or the memory has been repaired already. DEDUCED, log 87. -/
def applyRepair (die : Nat) (s : State) (e : Nat) : State :=
  let mem := bits e 19 11
  let key := die * 512 + mem
  let r := mapGet pndRepair0 s.hw.ponds.repairs die
  let good := repairCheck e && hasMemory die mem && !(s.hw.ponds.repaired.any fun x => x.1 == key)
  if good then
    { s with hw.ponds.repairs := mapSet s.hw.ponds.repairs die { r with applied := r.applied + 1 }
             hw.ponds.repaired := s.hw.ponds.repaired ++ [(key, bits e 10 5)] }
  else { s with hw.ponds.repairs := mapSet s.hw.ponds.repairs die { r with refused := r.refused + 1 } }

/-- The valid entries of a die applied in order. DEDUCED, log 88. -/
def repairDie (die : Nat) (s : State) : State :=
  let mine := ((List.range 42).map (repairEntry s)).filter fun e => e.testBit 23 && bits e 22 20 == die
  let s := { s with
    hw.ponds.repaired := s.hw.ponds.repaired.filter fun x => !(x.1 / 512 == die)
    hw.ponds.repairs := mapSet s.hw.ponds.repairs die { pndRepair0 die with fieldErr := !repairField s } }
  mine.foldl (applyRepair die) s

/-! ### PLLs and self-tests -/

/-- The links to the standby Shore that have not trained stand unpowered (R154). -/
def standbyLinks (s : State) : State :=
  if s.member ≠ .evr8 then s
  else (linksOf s (standbyDie s)).foldl (fun s n => if (getLink s n).state = 0 then setLink s n { getLink s n with state := 3 } else s) s

/-- Fuses are sensed and the Shore's memories repaired. -/
def senseFuses (s : State) : State :=
  standbyLinks (repairDie (activeShore s) { s with sys.spring.shadow := s.hw.fuses, sys.spring.stage := 1 })

/-- PLL_LOCK: the power-on self-tests follow, 0 for all passed. DEDUCED, log 107. -/
def execPllLock (locked : Bool) (failingTest : Nat) (s : State) : Host.Outcome State Fault Refusal :=
  .next (
    if s.sys.boot.step ≠ .rails ∨ !(usedGroups s).all (railUp s) then s
    else if !locked then stopBoot 2 s
    else
      let s := senseFuses s
      if failingTest ≠ 0 then stopBoot 3 { s with sys.spring.cryptoErr := true }
      else if lifecycleFault s then stopBoot 4 s
      else deriveKeys { s with sys.spring.selftestOk := true, sys.spring.stage := 2, msg.mbx.pciTraining := true, sys.boot.step := .links })

/-! ### Kyoler links -/

/-- The two ends of a link. -/
def linkEnds (s : State) (n : Nat) : Option (Nat × Nat) := s.member.links[n]?

/-- A link as its training leaves it: the highest common version, at 16 or 8 lanes (R30, R31). DEDUCED, log 106. -/
def trainedLink (lanes loA hiA loB hiB : Nat) (l : Link) : Link :=
  let v := min hiA hiB
  let common := decide (max loA loB ≤ v)
  if common && (lanes == 16 || lanes == 8) then
    { l with state := 1, major := v / 16, minor := v % 16, lanes := lanes, retraining := false, retrains := [], flitFails := 0 }
  else { l with state := 2, major := if common then v / 16 else 0, minor := if common then v % 16 else 0, lanes := lanes, retraining := false }

/-- Links that must come up at this start: all but those of the standby Shore. -/
def dueLinks (s : State) : List Nat :=
  (List.range s.member.links.length).filter fun n => !(s.member == .evr8 && (linksOf s (standbyDie s)).contains n)

/-- A link trained at start-up: a Tarn's repair follows its Shore link; a failed one stops start-up, and the last good one ends the step. DEDUCED, log 106. -/
def linkAtStart (n : Nat) (l : Link) (far : Nat) (s : State) : State :=
  let s := setLink s n l
  if l.state = 2 then stopBoot 5 s
  else
    let s := if isTarn far ∧ (s.member.links[n]? = some (activeShore s, far)) then repairDie far s else s
    if (dueLinks s).all fun k => (getLink s k).state == 1 then { s with sys.spring.stage := 3, sys.boot.step := .image } else s

/-- KYOLER_TRAINING_DONE: at start-up, or of a link to the standby while it is powered; versions are major × 16 + minor. -/
def execKyolerTrainingDone (link lanes loA hiA loB hiB : Nat) (s : State) : Host.Outcome State Fault Refusal :=
  .next (match linkEnds s link with
    | none => s
    | some (a, b) =>
      let l := trainedLink lanes loA hiA loB hiB (getLink s link)
      if !powered s a ∨ !powered s b then s
      else if (dueLinks s).contains link then
        (if s.sys.boot.step = .links ∧ (getLink s link).state ≠ 1 then linkAtStart link l b s else s)
      else if s.sys.red.standbyState = 4 ∨ inGap s then
        setLink s link (if l.state = 2 then { l with major := 0, minor := 0, lanes := 0 } else l)
      else s)

/-- A link that fails in service (R35): to the standby a standby fault, else a fatal error. DEDUCED, log 106. -/
def linkFailed (n : Nat) (ends : Nat × Nat) (s : State) : State :=
  let s := setLink s n { getLink s n with state := 2, retraining := false }
  if s.member = .evr8 ∧ (ends.1 = standbyDie s ∨ ends.2 = standbyDie s) then standbyFault 3 s
  else fatal 4 ends.1 s

/-- KYOLER_FLIT_PARITY_ERROR: the flit is discarded and sent again, in order (R33). -/
def execKyolerFlitParityError (link dir flit : Nat) (s : State) : Host.Outcome State Fault Refusal :=
  .next (
    let l := getLink s link
    if l.state ≠ 1 ∨ l.retraining then s
    else
      let again := l.flitDir == dir && l.flitNo == flit && decide (0 < l.flitFails)
      emit (.replay link dir flit)
        (setLink s link { l with replays := l.replays + 1, flitDir := dir, flitNo := flit, flitFails := if again then l.flitFails + 1 else 1 }))

/-- KYOLER_RETRAIN: the fourth failure of one flit in a row; a third retrain within one second of the first fails the link (R34). DEDUCED, log 106. -/
def execKyolerRetrain (link : Nat) (s : State) : Host.Outcome State Fault Refusal :=
  .next (
    let l := getLink s link
    if l.state ≠ 1 ∨ l.retraining ∨ l.flitFails < 4 then s
    else
      let times := s.now :: l.retrains.filter fun t => decide (s.now < t + cyclesPerSecond)
      if 3 ≤ times.length then
        match linkEnds s link with
        | some ends => linkFailed link ends (setLink s link { l with retrains := times })
        | none => s
      else emit (.retrain link) (setLink s link { l with retraining := true, retrains := times, flitFails := 0 }))

/-- KYOLER_RETRAIN_DONE. -/
def execKyolerRetrainDone (link : Nat) (ok : Bool) (s : State) : Host.Outcome State Fault Refusal :=
  .next (
    let l := getLink s link
    if !l.retraining then s
    else if ok then setLink s link { l with retraining := false }
    else match linkEnds s link with
      | some ends => linkFailed link ends s
      | none => s)

/-! ### The boot slot (R74, R75) -/

/-- The slot whose commit record is valid and whose generation is higher, A when they are equal. -/
def firstChoice (s : State) : Option Nat :=
  let a := commitValid (slotReader s 0)
  let b := commitValid (slotReader s 1)
  if a && b then some (if commitGeneration (slotReader s 0) < commitGeneration (slotReader s 1) then 1 else 0)
  else if a then some 0
  else if b then some 1
  else none

/-- A slot can be booted: R72 holds, and Nerris has not abandoned it. DEDUCED, log 29. -/
def bootable (s : State) (k : Nat) : Bool := (slotState s k).1 == 2

/-- The slot booted and whether FALLBACK is set, from the forced slot or the choice of R74. DEDUCED, log 29. -/
def chooseSlot (s : State) : Option (Nat × Bool) :=
  let first := match s.sys.spring.forcedSlot with
    | some k => some k
    | none => firstChoice s
  match first with
  | none => none
  | some k =>
    if bootable s k then some (k, s.sys.spring.forcedByNerris)
    else if bootable s (1 - k) then some (1 - k, true)
    else none

/-! ### Measurement and the seal (R94, R97, R98) -/

/-- Registers of the protection set-up of a die: firewall regions and pond transfers. -/
def protectOffsets (die : Nat) : List Nat :=
  let region := fun (base : Nat) => (List.range 0x500).map fun i => base + 4 * i
  let xfer := fun (base : Nat) => (List.range 32).map fun i => base + 4 * i
  if isShore die then region 0x211000 ++ xfer 0x220400 else if isTarn die then region 0x481000 ++ xfer 0x470400 else []

/-- The PROTECT section of an image, when it has one that is good. -/
def protectSection (s : State) (k : Nat) : Option (List Byte) :=
  match (sectionsOf (imgHeader (slotReader s k))).find? fun x => x.kind == 2 with
  | some x => sectionData s (slotReader s k) x
  | none => none

/-- The protection set-up of a die written from a PROTECT section, or the closed defaults. DESIGN CHOICE, log 23. -/
def protectDie (sec : Option (List Byte)) (die : Nat) (s : State) : State :=
  let offs := protectOffsets die
  let s := regClear (fun a => a / 2 ^ 36 == die && offs.contains (a % 2 ^ 36)) s
  match sec with
  | none => s
  | some bs => offs.foldl (fun s off => match storedMask s die off with
    | some (m, _) => regPut (dieAddr die off) ((Config.protectWord bs (dieAddr die off)).toNat &&& m) s
    | none => s) s

/-- The sealed debug enables: those of the section, none in DEPLOYED (R89). DESIGN CHOICE, log 23. -/
def sealDebug (s : State) (sec : Option (List Byte)) : BitVec 4 :=
  if lifecycle s = 2 then 0
  else match sec with
    | some bs => Config.protectDebug bs
    | none => 0

/-- The digests of sections that pass a test extend a register, in the order of the section table. -/
def measureSections (n : Nat) (p : ImgSection → Bool) (k : Nat) (s : State) : State :=
  ((sectionsOf (imgHeader (slotReader s k))).filter p).foldl (fun s x => extendSmr n x.digest s) s

/-- SMR0 to SMR5 from the ROM, the fuses and the slot. DEDUCED, log 34. -/
def measureBoot (k : Nat) (s : State) : State :=
  let rd := slotReader s k
  let s := [Config.romVersion, bytesLE 1 (lifecycle s), bytesLE 1 (rollbackCount s), bytesLE 1 (debugEpoch s),
    bytesLE 1 s.sys.spring.sealedDebug.toNat].foldl (fun s d => extendSmr 0 d s) s
  let s := extendSmr 2 (headerDigest rd) (measureSections 1 (fun x => x.kind == 1) k s)
  let s := measureSections 3 (fun x => x.kind == 2 || x.kind == 3 || x.kind == 4) k s
  let s := if overlayPresent rd then extendSmr 4 (slice (overlayDescriptor rd) 0x10 48) s else s
  measureSections 5 (fun x => x.kind == 5) k s

/-- A slot booted: the protection set-up written to some dies and sealed, everything measured. -/
def bootSlot (k : Nat) (fallback : Bool) (dies : List Nat) (s : State) : State :=
  let sec := protectSection s k
  let s := { s with sys.spring.sealedDebug := sealDebug s sec }
  let s := dies.foldl (fun s d => protectDie sec d s) (measureBoot k s)
  { s with
    sys.spring.slot := some k, sys.spring.fallback := fallback, sys.spring.overlay := overlayPresent (slotReader s k)
    sys.spring.generation := commitGeneration (slotReader s k), sys.spring.sealedDies := dies, sys.spring.forcedSlot := none
    sys.spring.stage := 4 }

/-- Start-up enters recovery: neither slot can be booted, or the part is in RMA. -/
def enterRecovery (s : State) : State :=
  withVectors (fun s => { s with sys.spring.bootErr := 6, sys.spring.stage := 6, sys.boot.step := .recovery, sys.spring.stagedBytes := 0 }) s

/-- IMAGE_VERIFIED. -/
def execImageVerified (s : State) : Host.Outcome State Fault Refusal :=
  .next (
    if s.sys.boot.step ≠ .image then s
    else if lifecycle s = 3 then enterRecovery s
    else match chooseSlot s with
      | none => enterRecovery s
      | some (k, fallback) =>
        { bootSlot k fallback (s.member.dies.filter (powered s)) s with sys.boot.step := .dram })

/-! ### DRAM and ponds -/

/-- DRAM_TRAINING_DONE: fitted size in 256 MiB units; contents held in self-refresh are kept. -/
def execDramTrainingDone (ok : Bool) (units : Nat) (s : State) : Host.Outcome State Fault Refusal :=
  .next (
    if s.sys.boot.step ≠ .dram then s
    else if !ok then stopBoot 7 { s with hw.dram.st := 3 }
    else
      { s with
        hw.dram.units := if s.hw.dram.st = 2 then s.hw.dram.units else min 64 units
        hw.dram.st := 1, sys.boot.step := .ponds })

/-- POND_INIT_DONE: every bank of every powered die reads zero; after a fatal restart the dump banks keep what they hold (R527). -/
def execPondInitDone (s : State) : Host.Outcome State Fault Refusal :=
  .next (
    if s.sys.boot.step ≠ .ponds then s
    else
      let clear := fun (s : State) (d : Nat) =>
        if d = activeShore s ∧ s.sys.boot.cause = .fatal then clearMem (pondAddr d 0 0) (pondAddr d 48 0) s else zeroPonds d s
      { (s.member.dies.filter (powered s)).foldl clear s with sys.boot.step := .apply })

/-- NETWORK_START: ports, switch and PTP run, the PTP clock from 0; the media clock starts (R397). -/
def execNetworkStart (s : State) : Host.Outcome State Fault Refusal :=
  .next (
    if s.sys.boot.step ≠ .network then s
    else
      { s with
        time.ptp.sec := 0, time.ptp.ns := 0, time.ptp.sub := 0, time.ptp.dither := 0, time.ptp.running := true
        time.mclk.st := if s.time.mclk.ref = 3 then 3 else 0, sys.boot.step := .render })

/-! ### A slot written (R80 to R82, R84) -/

/-- The slot programmed and committed. -/
def commitSlot (w : SlotWrite) (s : State) : State :=
  let s := program w.slot w.image (flashErase (slotBase w.slot) (slotBase w.slot + slotSize) { s with sys.slotWrite := none })
  flashWrite (slotBase w.slot + commitSector) (commitRecord (headerDigest (slotReader s w.slot)) w.generation) s

/-- SLOT_WRITE_DONE: the commit record is programmed; a recovery image resets the part. -/
def execSlotWriteDone (flashError : Bool) (s : State) : Host.Outcome State Fault Refusal :=
  .next (match s.sys.slotWrite with
    | none => s
    | some w =>
      if flashError then failSlotWrite w codeFault 1 s
      else
        let s := commitSlot w s
        if w.opcode = 5 then coldReset ((Config.unstated 84 0).toNat % 16) 0 (respondAt 0x10 w.request 5 (replyOk [] s) s)
        else respond w.request w.opcode (replyOk (bytesLE 1 w.slot ++ bytesLE 3 0 ++ bytesLE 4 w.generation) s) (imageEvent w 0 s))

/-- SLOT_WRITE_TIMEOUT: more than 20 s. -/
def execSlotWriteTimeout (s : State) : Host.Outcome State Fault Refusal :=
  .next (match s.sys.slotWrite with
    | none => s
    | some w => failSlotWrite w codeTimeout 2 s)

end Sys2Proof.Machine
end

