-- ==== Sys2Proof/Machine/Apply.lean ====
section
/-! DEFINITION. The image applied (R65, R66, R75, R597), the start of rendering, and the warm, cold and die resets (R566 to R570). -/

namespace Sys2Proof.Machine

/-! ### Configuration records -/

/-- The messages that a configuration record can be: settings, and what sets up objects. -/
def configOps : List NcpOp :=
  [objAllocOp, objFreeOp, objCfgOp, objPosOp, objPosBatchOp, objGainOp, objSliceCfgOp, objBedMapOp, objZoneWeightsOp, objUpdateCfgOp,
   objEomsCfgOp, spkTableLoadOp, spkSetOp, spkEnvCfgOp, chainCfgOp, chainSosStageOp, chainFirStageOp, chainProtCfgOp, chainModelOp]
  ++ [routeSetOp, routeClearOp, routeBasinCfgOp, portTdmCfgOp, portTdmMaskOp, portAesCfgOp, portWclkCfgOp, portSrcCfgOp, netPortCfgOp,
   netFilterSetOp, netVlanCfgOp, netMgmtCfgOp, timePtpCfgOp, timeMclkCfgOp, streamRxAddOp, streamTxAddOp, streamRemoveOp, streamOptsOp]
  ++ [outDacCfgOp, outSenseCfgOp, outSenseCoefOp, outAuxCfgOp, ampCfgOp, ampBoostCfgOp, ampPilotCfgOp, ampGuardCfgOp, ampSyncCfgOp,
   rplGrantOp, rplInsertOp, memBasinMapOp, redCfgOp, weirCfgOp]

/-- The records of a CONFIG section: each a header of R129 and its payload. DEDUCED, log 24. -/
def configRecords : Nat → List Byte → List (Nat × Request)
  | 0, _ => []
  | n + 1, bs =>
    if bs.length < 16 then []
    else
      let len := fieldLE bs 6 2
      let rq : Request :=
        { sender := 0x8000, seq := 0, flow := fieldLE bs 10 2, version := byteAt bs 3, flags := 0, session := 0, payload := slice bs 16 len }
      (fieldLE bs 0 2, rq) :: configRecords n (bs.drop (16 + len))

/-- A record applied as its message would be; one that would be refused sets nothing. DEDUCED, logs 25, 107. -/
def applyRecord (layer : Nat) (s : State) (r : Nat × Request) : State :=
  match configOps.find? fun op => op.opcode == r.1 with
  | none => s
  | some op =>
    if (firstMissing (op.layout r.2.version) 0 r.2.payload.length).isSome then s
    else
      let x := performOp op layer r.2 s
      if x.code = codeOk ∨ x.code = codeClamped then x.state else s

/-- What a stage of the replay has noted belongs to its layer. DEDUCED, log 25. -/
def ownLayer (layer : Nat) (s : State) : State :=
  let own := fun (r : Rec) => if r.layer = 1 then { r with layer := layer } else r
  { s with msg.ncp.records := s.msg.ncp.records.map own, msg.ncp.stagedRecs := s.msg.ncp.stagedRecs.map own }

/-- A sequence of configuration records applied in order. -/
def applyConfig (layer : Nat) (bs : List Byte) (s : State) : State :=
  ownLayer layer ((configRecords bs.length bs).foldl (applyRecord layer) s)

/-! ### Register pairs and Ripple programs -/

/-- An address and value pair: only a field whose Image column reads "Yes" takes it (R19). DEDUCED, log 110. -/
def applyPair (layer : Nat) (p : List Byte) (s : State) : State :=
  let a := fieldLE p 0 8
  let d := a / 2 ^ 36
  let die := if d < 2 ∨ d = 0xE then activeShore s else d
  let off := a % 2 ^ 36
  if s.member.has die && imageReg die off then
    noteReg layer die off { regWrite .controlCluster die off (BitVec.ofNat 32 (fieldLE p 8 4)) s with bus := s.bus }
  else s

/-- The pairs of a REGS section. DEDUCED, log 24. -/
def applyPairs (layer : Nat) (bs : List Byte) (s : State) : State :=
  (List.range (bs.length / 12)).foldl (fun s i => applyPair layer (slice bs (12 * i) 12) s) s

/-- A RIPPLE section: the core and flags of `rpl.load`, then the code. Its digest is in SMR5 (R94). DEDUCED, log 24. -/
def applyRipple (layer : Nat) (bs : List Byte) (s : State) : State :=
  let n := byteAt bs 0
  let image := bs.drop 4
  if !coreThere s n ∨ 65536 < image.length ∨ image.length % 4 ≠ 0 then s
  else
    let s := placeProgram n image s
    let s := setCore n { getCore s n with st := .stopped } s
    let s := noteSetting false
      { layer := layer, opcode := 0x0A00, flow := 0xFFFF, key := [BitVec.ofNat 8 n], payload := bs.take 4 ++ List.replicate 16 0 ++ image } s
    if bit (byteAt bs 1) 0 then startCore n s else s

/-! ### The image (R66, R75, R597) -/

/-- The sections of a kind, read from the booted slot; none when one disagrees with its digest. -/
def sectionsRead (s : State) (k kind : Nat) : Option (List (List Byte)) :=
  ((sectionsOf (imgHeader (slotReader s k))).filter fun x => x.kind == kind).mapM (sectionData s (slotReader s k))

/-- What the booted slot gives to apply. -/
structure ImageParts where
  regs    : List (List Byte)
  config  : List (List Byte)
  ripple  : List (List Byte)
  /-- Register pairs and records of the overlay. -/
  overlay : Option (List Byte × List Byte)
  deriving DecidableEq, Repr

/-- The overlay's contents parted. -/
def overlayParts (s : State) (k : Nat) : Option (List Byte × List Byte) :=
  let rd := slotReader s k
  if !overlayPresent rd then none
  else (overlayData s rd).map fun bs =>
    let n := fieldLE bs 0 4
    (slice bs 4 n, bs.drop (4 + n))

/-- The sections that Nerris uses, all checked; in safe mode no CONFIG, RIPPLE or overlay (R529). -/
def readImage (s : State) (k : Nat) : Option ImageParts :=
  match sectionsRead s k 2, sectionsRead s k 3 with
  | some _, some regs =>
    if s.sys.boot.safe then some { regs := regs, config := [], ripple := [], overlay := none }
    else match sectionsRead s k 4, sectionsRead s k 5 with
      | some config, some ripple => some { regs := regs, config := config, ripple := ripple, overlay := overlayParts s k }
      | _, _ => none
  | _, _ => none

/-- The last `cfg.rate` record of some records. -/
def lastRate (bs : List Byte) : Option (List Byte) :=
  ((((configRecords bs.length bs).filter fun r => r.1 == 0x0104 && decide (byteAt r.2.payload 0 ≤ 5)).getLast?).map (·.2.payload))

/-- The starting rate: the overlay's last, else the image's last, else the factory rate. -/
def startRate (p : ImageParts) (s : State) : State :=
  let image := (lastRate p.config.flatten).map fun r => (3, r)
  let fromOverlay := match p.overlay with
    | some o => (lastRate o.2).map fun r => (2, r)
    | none => none
  match fromOverlay.orElse fun _ => image with
  | none => takeRate 1 false s
  | some (layer, r) =>
    noteSetting false { layer := layer, opcode := 0x0104, flow := 0xFFFF, key := [], payload := r.take 2 }
      (takeRate (byteAt r 0) (byteAt r 1 == 1) s)

/-- The CONFIG and RIPPLE sections and the overlay applied in the layers of R65. -/
def applySettings (p : ImageParts) (s : State) : State :=
  let s := p.config.foldl (fun s bs => applyConfig 3 bs s) s
  let s := p.ripple.foldl (fun s bs => applyRipple 3 bs s) s
  match p.overlay with
  | some (pairs, recs) => applyConfig 2 recs (applyPairs 2 pairs s)
  | none => s

/-- The whole image applied: the rate first, then registers and settings. -/
def applyImage (p : ImageParts) (s : State) : State :=
  applySettings p (p.regs.foldl (fun s bs => applyPairs 3 bs s) (startRate p s))

/-- A section that disagrees with its digest: Nerris abandons the slot, or start-up stops when it is the second (R75). DEDUCED, log 29. -/
def abandonSlot (k : Nat) (s : State) : State :=
  if s.sys.spring.forcedByNerris then stopBoot 8 s
  else forcedReset 6 (some (1 - k)) true [k] s

/-- The image has been applied; the network comes next. -/
def toNetwork (s : State) : State := { s with sys.boot.step := .network }

/-- IMAGE_APPLY. DEDUCED, log 107. -/
def execImageApply (s : State) : Host.Outcome State Fault Refusal :=
  .next (
    if s.sys.boot.step ≠ .apply then s
    else match s.sys.spring.slot with
      | none => s
      | some k => match readImage s k with
        | none => abandonSlot k s
        | some p => toNetwork (applyImage p s))

/-! ### The start of rendering (R60) -/

/-- The start-up commit: every staged setting in force together, no crossfade. -/
def commitAll (s : State) : State :=
  let s := swapEgress (swapIngress s)
  let s := (s.member.tarnDies.filter (powered s)).foldl (fun s d => swapChain d 0 (swapMatrix d s)) s
  settleRoutes { s with chain.insertStage := [], chain.states := [] }

/-- The booted image asks for its security version to be fused (R83). -/
def advances (s : State) : Bool :=
  let h := bootedHeader s
  bit (imgFlags h) 2 && decide (rollbackCount s < imgVersion h)

/-- `sys.ready` and what follows it. -/
def announceReady (s : State) : State :=
  let s := readyEvent { s with sys.spring.stage := 5, sys.boot.step := .ready, sys.boot.ready := true }
  let s := match s.sys.boot.wakeReport with
    | some src => wakeEvent src { s with sys.boot.wakeReport := none }
    | none => s
  if s.sys.fatal.announce then dumpEvent { s with sys.fatal.announce := false } else s

/-- Rollback fuses are due when the booted image asks for them. -/
def dueRollback (s : State) : State := { s with sys.spring.rollbackDue := advances s }

/-- After a cold start the standby is to be checked. -/
def dueCheck (s : State) : State :=
  match s.sys.boot.cause with
  | .cold => { s with sys.red.check := some .startup }
  | _ => s

/-- On the EVR-8 the journal begins and the standby is to be checked (R531, R536). -/
def beginGuard (s : State) : State := if s.member = .evr8 then dueCheck (writeJournal s) else s

/-- A timeline with the index of R45, unless the part is in safe mode. -/
def firstTimeline (s : State) : State := if s.sys.boot.safe then s else startTimeline true s

/-- RENDER_START: the start-up commit, rendering, and `sys.ready`. DEDUCED, log 107. -/
def execRenderStart (s : State) : Host.Outcome State Fault Refusal :=
  .next (
    if s.sys.boot.step ≠ .render then s
    else beginGuard (dueRollback (announceReady (startChannels (firstTimeline (commitAll s))))))

/-! ### Resets by `sys.reset` (R566 to R570) -/

/-- COLD_RESET. -/
def execColdReset (s : State) : Host.Outcome State Fault Refusal :=
  .next (match s.msg.ncp.resetDue with
    | some (1, _, slot) => forcedReset 2 (forcedBy slot) false [] s
    | _ => s)

/-- The pins of the test multiplexer released (R591). -/
def releaseTmux (s : State) : State := regClear (fun a => decide (0x250000 ≤ a % 2 ^ 36) && decide (a % 2 ^ 36 < 0x250040)) s

/-- What a warm reset leaves: every block of the Shore but the mailboxes, and every Tarn and Outlet, starts again with layer 1. -/
def warmClear (s : State) : State :=
  let dies := s.member.dies.filter (powered s)
  let s := releaseTmux (endWork (discardStaged (stopTimeline s)))
  let s := freeLocks (fun _ o => o == 0x8000) (abortMailboxes s)
  let s := clearShoreCounters (restartShore (restartNerris s))
  let s := (dies.filter isTarn).foldl (fun s d => resetTarn d s) s
  let s := restartObjects ((dies.filter isOutlet).foldl (fun s d => resetOutlet false d s) s)
  deriveKeys { s with
    sys.ao.rstScope := 0, sys.ao.rstDie := 0
    sys.lockstep.fenced := if s.sys.lockstep.duplex then s.sys.lockstep.fenced else none }

/-- Safe mode ends with the reset: what it left out of the image is applied. DEDUCED, log 92. -/
def leaveSafe (s : State) : State :=
  let s := { s with sys.boot.safe := false }
  match s.sys.spring.slot with
  | none => s
  | some k => match readImage s k with
    | none => s
    | some p => commitAll (applySettings p (startRate p s))

/-- WARM_RESET: `sys.ready` follows with cause 1. DEDUCED, log 103. -/
def execWarmReset (s : State) : Host.Outcome State Fault Refusal :=
  .next (match s.msg.ncp.resetDue with
    | some (0, _, _) =>
      let s := warmClear s
      let fresh := s.sys.boot.safe
      let s := if fresh then leaveSafe s else s
      let s := { s with sys.boot.cause := .warm, sys.boot.step := .ready }
      let s := if s.sys.ao.power = .run then startChannels (startTimeline fresh s) else s
      announceReady s
    | _ => s)

/-- DIE_RESET: an Outlet comes back at once; a Tarn waits for its next marker while a timeline runs. DEDUCED, log 103. -/
def execDieReset (die : Nat) (s : State) : Host.Outcome State Fault Refusal :=
  .next (match s.msg.ncp.resetDue with
    | some (2, d, _) =>
      if d ≠ die then s
      else
        let s := dieEvent die 0 { s with msg.ncp.resetDue := none, sys.ao.rstScope := 2, sys.ao.rstDie := die }
        if isOutlet die then dieEvent die 1 (resetOutlet true die s)
        else
          let was := getTile s die
          let s := resetTarn die s
          if was.ticking then setTile die { getTile s die with inReset := true, index := was.index } s else dieEvent die 1 s
    | _ => s)

/-- DIE_RESET_TIMEOUT: a Tarn that has not rejoined is a fatal error. -/
def execDieResetTimeout (die : Nat) (s : State) : Host.Outcome State Fault Refusal :=
  .next (if isTarn die ∧ (getTile s die).inReset then fatal 4 die (dieEvent die 2 s) else s)

/-! ### Tick markers (R48, R569) -/

/-- A Tarn that was in reset joins the timeline with the tick of its marker. DEDUCED, log 103. -/
def rejoinTarn (die k : Nat) (s : State) : State :=
  let s := setTile die { startTile s k (getTile s die) with inReset := false } s
  dieEvent die 1 ((tileSlices die).foldl (fun s sl => startSlice false k sl s) s)

/-- TICK_MARKER_RX: a marker agrees when it names the period the Tarn is in or, before the Tarn's own tick, the one about to start; any other is a timeline error (R48). -/
def execTickMarkerRx (die index : Nat) (s : State) : Host.Outcome State Fault Refusal :=
  .next (
    let t := getTile s die
    if !s.member.tarnDies.contains die ∨ !powered s die then s
    else if t.inReset then rejoinTarn die index s
    else if !t.ticking then s
    else if index = t.index ∨ index = t.index + 1 then
      let w := getWarden s die
      let s := setTile die { t with markerAt := index, missing := 0, holdover := false } s
      if w.declared then setWarden die { w with declared := false } s else s
    else fatal 5 die s)

end Sys2Proof.Machine
end

