-- ==== Sys2Proof/Machine/Takeover.lean ====
section
/-! DEFINITION. The takeover of the standby Shore on the EVR-8 (R95, R99, R538 to R541, R545). -/

namespace Sys2Proof.Machine

/-! ### Reading the journal (R538) -/

/-- The sequence and index of the last good record read, and whether a batch with a bad CRC ended the reading. -/
structure JournalEnd where
  seq   : Nat
  index : Nat
  bad   : Bool
  deriving DecidableEq, Repr

/-- Whether the trailing CRC of the record of `n` bytes at an address is right. -/
def recordGood (s : State) (a n : Nat) : Bool :=
  (crc32 (readBytes s a (n - 4))).toNat == fieldLE (readBytes s (a + n - 4) 4) 0 4

/-- Batches from `pos` on applied in sequence up to the first bad CRC. -/
def walkBatches (s : State) (half : Nat) : Nat → Nat → JournalEnd → JournalEnd
  | 0, _, e => e
  | fuel + 1, pos, e =>
    let h := readBytes s (half + pos) 24
    let n := fieldLE h 4 4
    if fieldLE h 0 4 ≠ 2 ∨ n < 28 ∨ 0x80000 < pos + n ∨ fieldLE h 8 8 ≤ e.seq then e
    else if recordGood s (half + pos) n then
      walkBatches s half fuel (pos + n) { seq := fieldLE h 8 8, index := fieldLE h 16 8, bad := false }
    else { e with bad := true }

/-- A half read from its base record on. -/
def readHalf (s : State) (die half : Nat) : Option JournalEnd :=
  match baseAt s die half with
  | none => none
  | some seq =>
    let h := readBytes s (mirrorAddr die half) 24
    some (walkBatches s (mirrorAddr die half) 16384 (fieldLE h 4 4) { seq := seq, index := fieldLE h 16 8, bad := false })

/-- The current half: the one whose valid base record has the higher sequence. -/
def readMirror (s : State) (die : Nat) : Option JournalEnd :=
  match baseAt s die 0, baseAt s die 1 with
  | some a, some b => readHalf s die (if a < b then 1 else 0)
  | some _, none => readHalf s die 0
  | none, some _ => readHalf s die 1
  | none, none => none

/-- The mirror that reaches the higher sequence, Tarn 2's when both reach the same. -/
def pickMirror (s : State) : Option (Nat × JournalEnd) :=
  match readMirror s 2, readMirror s 4 with
  | some a, some b => if a.seq < b.seq then some (4, b) else some (2, a)
  | some a, none => some (2, a)
  | none, some b => some (4, b)
  | none, none => none

/-- A mirror whose reading a bad CRC has ended is counted (R550). -/
def countBadMirrors (s : State) : State :=
  mirrorTarns.foldl (fun s d => match readMirror s d with
    | some e => if e.bad then count 0x6805 s else s
    | none => s) s

/-- Where the next record of each mirror goes: on from what was read, or a base record in the other half. -/
def adoptMirrors (s : State) : State :=
  mirrorTarns.foldl (fun s d =>
    let m := getMirror s d
    let whole := match readMirror s d with
      | some e => !e.bad
      | none => false
    if whole then s else { s with sys.red.mirrors := mapSet s.sys.red.mirrors d { half := 1 - m.half, pos := 0 } }) s

/-- What a Shore that takes over reads, when a mirror gives it. DEDUCED, log 97. -/
def journalRead (s : State) : Option Snapshot := if (pickMirror s).isSome then s.journal else none

/-! ### The slot and the seal (R74, R95, R97, R99) -/

/-- The slot of the journal, or the choice of R74 when that is not bootable. -/
def takeoverSlot (s : State) : Option (Nat × Bool) :=
  match (journalRead s).bind (·.slot) with
  | some k => if bootable s k then some (k, false) else chooseSlot s
  | none => chooseSlot s

/-- Every powered Tarn and Outlet has the protection set-up of the standby's own PROTECT section. DEDUCED, log 99. -/
def protectAgrees (k : Nat) (s : State) : Bool :=
  (s.member.dies.filter fun d => !isShore d && powered s d).all fun d => (protectDie (protectSection s k) d s).hw.regs == s.hw.regs

/-- Registers of a Shore that each has from its own image: the mailbox configuration and the addresses of its ports (R393). -/
def ownReg (off : Nat) : Bool :=
  decide (off < 0x15000) || (decide (0x340000 ≤ off) && decide (off < 0x350000) && (off % 0x100 == 4 || off % 0x100 == 8))

/-- A Shore's registers as the one that takes over finds them: the settings go with the role, what no image may set does not (R19, R591). DEDUCED, log 98. -/
def rekeyRegs (old new : Nat) (m : AMap Word) : AMap Word :=
  let goes := fun (off : Nat) => imageReg old off && !ownReg off
  ((m.filter fun e => e.1 / 2 ^ 36 == old && goes (e.1 % 2 ^ 36)).map fun (e : Nat × Word) => (dieAddr new (e.1 % 2 ^ 36), e.2))
    ++ m.filter fun e => decide (2 ≤ e.1 / 2 ^ 36)

/-- A register pair of the image that sets one of those of the Shore's own. -/
def takeOwnPair (s : State) (p : List Byte) : State :=
  let a := fieldLE p 0 8
  let d := a / 2 ^ 36
  let off := a % 2 ^ 36
  if (decide (d < 2) || d == 0xE) && imageReg (activeShore s) off && ownReg off then
    { regWrite .controlCluster (activeShore s) off (BitVec.ofNat 32 (fieldLE p 8 4)) s with bus := s.bus }
  else s

/-- The new Shore's own registers as the slot that it booted sets them. -/
def takeOwnRegs (slot : Nat) (s : State) : State :=
  match sectionsRead s slot 3 with
  | none => s
  | some regs =>
    let pairs := fun (bs : List Byte) => (List.range (bs.length / 12)).map fun i => slice bs (12 * i) 12
    let overlay := match overlayParts s slot with
      | some p => p.1
      | none => []
    (regs.flatMap pairs ++ pairs overlay).foldl takeOwnPair s

/-- The banks, errors and marks of a Shore's ponds and DRAM go with the Shore. -/
def leavePonds (old : Nat) (s : State) : State :=
  { s with
    hw.ponds := { s.hw.ponds with
      banks := s.hw.ponds.banks.filter fun e => !(e.1 / 256 == old)
      errs := s.hw.ponds.errs.filter fun e => !(e.1 == old)
      testing := s.hw.ponds.testing.filter fun e => !(e.1 == old)
      bad := s.hw.ponds.bad.filter fun a => !(a / 2 ^ 36 == old) }
    hw.dram := { s.hw.dram with st := 1, banks := [], limited := [] }
    hw.bmxErr := Hw.reset.bmxErr, hw.opens := [] }

/-- The new Shore's links are up; those of the failed one stay down. -/
def adoptLinks (new : Nat) (s : State) : State :=
  (linksOf s new).foldl (fun s n => if (getLink s n).state = 3 then setLink s n { getLink s n with state := 1 } else s) s

/-- Shore blocks as the new Shore starts them: mailboxes, locks, Weir, ponds, counters and a Spring of its own. -/
def freshShore (old new : Nat) (s : State) : State :=
  let s := clearShoreCounters (leavePonds old (adoptLinks new (endWork s)))
  { s with
    hw.regs := rekeyRegs old new s.hw.regs
    msg.mbx := { Mbx.reset with pciTraining := true }
    msg.locks := { owners := s.msg.locks.owners.filter (fun e => decide (128 ≤ e.1)), errs := s.msg.locks.errs.filter fun e => decide (2 ≤ e.1) }
    msg.weir := Weir.reset
    sys.lockstep := Sys.reset.lockstep
    sys.fatal := Sys.reset.fatal
    sys.slotWrite := none
    sys.jtag := Sys.reset.jtag
    sys.spring := { Spring.reset with shadow := s.hw.fuses, selftestOk := true }
    sys.red := { s.sys.red with active := new } }

/-- The new Shore booted from a slot, sealed and measured. DEDUCED, log 98. -/
def bootNew (old new k : Nat) (fallback : Bool) (s : State) : State :=
  let s := freshShore old new s
  takeOwnRegs k (deriveKeys (repairDie new (bootSlot k fallback (s.member.dies.filter (powered s)) s)))

/-! ### What the journal restores (R539, R541) -/

/-- A host sender's version, which its next messages still use; everything else of its state starts afresh. -/
def keptVersions (s : State) : AMap Dest :=
  [(0x0001, { dest0 0x0001 with version := (getDest s 0x0001).version }), (0x0010, { dest0 0x0010 with version := (getDest s 0x0010).version })]

/-- PTP as configured, reading at B(k) the record's time advanced by the samples since. -/
def adoptPtp (s : State) (x : Snapshot) (k : Nat) : Ptp :=
  let hz := rateHz s.time.rate
  let ns := (k - x.index) * 1000000000
  let t := x.tickSec * 1000000000 + x.tickNs + ns / hz
  { Ptp.reset with
    sec := t / 1000000000, ns := t % 1000000000, sub := ns % hz * 2 ^ 32 / hz, incr := x.ptp.incr, running := true
    profile := x.ptp.profile, domain := x.ptp.domain, clock := x.ptp.clock, twoStep := x.ptp.twoStep, p2p := x.ptp.p2p
    slaveOnly := x.ptp.slaveOnly, mask := x.ptp.mask, prio1 := x.ptp.prio1, prio2 := x.ptp.prio2
    servo := if x.ptp.servo = 3 then 3 else 0 }

/-- The media clock as configured, with Δ of the record. -/
def adoptMclk (m : Mclk) : Mclk :=
  { m with st := if m.ref = 3 then 3 else 0, phase := 0, slewing := false, reanchor := false }

/-- An armed commit as the new Shore finds it: its own die stands for the failed one; the response is lost with its request. -/
def adoptCommit (old new : Nat) (now : Option Commit) (c : Commit) : Commit :=
  let ren := fun (ds : List Nat) => ds.map fun d => if d = old then new else d
  let armed := match now with
    | some d => if d.c = c.c then d.armed else c.dies
    | none => c.dies
  { c with
    dies := ren c.dies, prepared := ren c.prepared, received := ren c.received, reported := []
    armed := new :: (ren armed).filter (fun d => !(d == new)), shore := 0 }

/-- The armed commit in the journal, if there is one. -/
def journalCommit (x : Snapshot) : Option Commit := x.commit.bind fun c => if c.armSent then some c else none

/-- Objects with their journalled records; those that the journal does not have are gone. -/
def adoptObjects (x : Snapshot) (s : State) : State :=
  let gone := s.rend.objs.filter fun e => !mapHas x.objs e.1 || e.2.freeing.isSome
  let s := gone.foldl (fun s e => dropObject e.1 s) s
  { s with rend.objs := s.rend.objs.map fun (e : Nat × Obj) => (e.1, { e.2 with record := mapGet (fun _ => e.2.record) x.objs e.1, pend := [] }) }

/-- Nerris of the new Shore: what the journal has of it, nothing of requests, sessions and queues. -/
def adoptNcp (records : List Rec) (mgmt : Mgmt) (s : State) : State :=
  { s with msg.ncp := { Ncp.reset with dests := keptVersions s, mgmt := mgmt, records := records }, msg.commit := none }

/-- Staged changes not armed are discarded on every die; an armed commit goes on. -/
def adoptStaged (old new : Nat) (now : Option Commit) (x : Snapshot) (s : State) : State :=
  match journalCommit x with
  | none => discardStaged s
  | some c =>
    { s with
      msg.ncp.stagedRecs := x.staged, msg.commit := some (adoptCommit old new now c)
      msg.ncp.discarding := [(destKey c.request, c.request.seq)] }

/-- Settings, routes, streams, clocks and objects from the journal. DEDUCED, log 98. -/
def restoreJournal (old new : Nat) (x : Snapshot) (k : Nat) (s : State) : State :=
  let now := s.msg.commit
  let s := adoptNcp x.records x.mgmt s
  let s := restartShore { s with route := x.route, net := x.net }
  let s := adoptObjects x (adoptStaged old new now x s)
  { s with time.ptp := adoptPtp s x k, time.mclk := adoptMclk x.mclk, sys.red.window := x.window }

/-- With no readable journal: the Shore's settings from the image's CONFIG sections, as at a cold start; the clock starts at 0, and Δ keeps the index. DEDUCED, log 98. -/
def restoreImage (slot k : Nat) (s : State) : State :=
  let s := adoptNcp (s.msg.ncp.records.filter fun r => r.opcode == 0x0A00) Mgmt.off s
  let s := s.rend.objs.foldl (fun s e => dropObject e.1 s) (discardStaged s)
  let s := { s with
    route := Routing.reset, net := Net.reset, msg.weir := Weir.reset
    time.ptp := { Ptp.reset with running := true }, time.mclk := { Mclk.reset with delta := k } }
  match readImage s slot with
  | none => s
  | some p => commitAll (applySettings { p with ripple := [] } s)

/-! ### Ripple programs (R95, R319, R539) -/

/-- A loaded program checked against its journalled digest, and measured; a core whose code differs is reset and reported. DEDUCED, log 34. -/
def checkProgram (s : State) (r : Rec) : State :=
  let n := byteAt r.payload 0
  let image := r.payload.drop 20
  let s := extendSmr 6 (digestBytes (Config.sha384 image) ++ bytesLE 1 n) s
  if readBytes s (codeAddr n 0) image.length = image then s
  else
    let s := resetCore n s
    let s := setCore n { getCore s n with cause := 8 } s
    event 17 (coreDie n) 0x0A80 n (bytesLE 1 n ++ bytesLE 1 8 ++ bytesLE 2 0 ++ bytesLE 4 0) s

def checkPrograms (s : State) : State :=
  (s.msg.ncp.records.filter fun r => r.opcode == 0x0A00 && coreThere s (byteAt r.payload 0)).foldl checkProgram s

/-! ### Events (R539, R545) -/

/-- The gap so far in µs. DEDUCED, log 98. -/
def gapUs (s : State) : Nat := (s.now - s.sys.red.gapStart) * 4 / 625

/-- `red.failover` for one destination: the fields of R164 before version 3.2, those of R545 from it. DESIGN CHOICE, log 11. -/
def failoverTo (cause us : Nat) (copied : Bool) (j : Option (Nat × JournalEnd)) (s : State) (k : Nat) : State :=
  let short := bytesLE 1 (activeShore s) ++ bytesLE 1 cause ++ bytesLE 2 0 ++ bytesLE 4 us
  let (mirror, index) := match j with
    | some (d, e) => (d, e.index)
    | none => ((Config.unstated 545 0).toNat % 256, (Config.unstated 545 1).toNat % 2 ^ 64)
  let long := short ++ bytesLE 1 (flag j.isNone + 2 * flag copied) ++ bytesLE 1 mirror ++ bytesLE 6 0 ++ bytesLE 8 index
  eventTo 2 0xFF 0x0D80 0xFFFF (if 0x32 ≤ (getDest s k).version then long else short) s k

def failoverEvent (cause us : Nat) (copied : Bool) (j : Option (Nat × JournalEnd)) (s : State) : State :=
  (eventDests s).foldl (failoverTo cause us copied j) s

/-- `sys.ready`, `red.failover`, what the Outlets have kept, and the dump that stands. -/
def announceTakeover (cause : Nat) (j : Option (Nat × JournalEnd)) (s : State) : State :=
  dumpEvent (sendKept (failoverEvent cause (gapUs s) s.sys.red.dumpCopied j (readyEvent s)))

/-! ### Service -/

/-- The new Shore is active; the failed one is the standby, failed with cause 9 (R543). DEDUCED, log 98. -/
def standAs (s : State) : State :=
  let s := s.member.tarnDies.foldl (fun s d =>
    setWarden d { getWarden s d with suspect := false, votes := 0, hbAge := 0, lastHb := s.now } s) s
  { s with
    sys.spring.stage := 5, sys.boot := { step := .ready, cause := .failover, wakeReport := none, ready := true, safe := false }
    sys.red := { s.sys.red with
      hubUp := true, standbyState := 3, standbyCause := 9, declared := none, check := none, proving := none, dirty := [] } }

/-- Markers and delivery go on at the Tarns' index; with no timeline to carry, one starts. DEDUCED, log 98. -/
def resumeDelivery (k : Nat) (s : State) : State :=
  let s := setHub false (releaseRateHold s)
  let s := if timelineRuns s then { s with time.rendering := true, time.index := k, time.muted := false }
    else if s.sys.ao.power = .run then startTimeline true s
    else s
  startChannels s

/-- A failure declared by quorum has left no dump of its own; the new Shore writes one that names it (R526, R548). DEDUCED, log 100. -/
def recordHubFailure (old cause : Nat) (s : State) : State := if cause = 0 then count 0x6802 (recordFatal (8 + 256 * old) true 8 s) else s

/-- The takeover, in the order of R539. DEDUCED, log 98. -/
def takeOver (old new cause k slot : Nat) (fallback : Bool) (s : State) : State :=
  let j := pickMirror s
  let x := journalRead s
  let s := bootNew old new slot fallback s
  let s := match x with
    | some x => restoreJournal old new x k s
    | none => restoreImage slot k s
  let s := count 0x6803 (adoptMirrors (countBadMirrors (standAs s)))
  let s := resumeDelivery k (checkPrograms s)
  announceTakeover cause j (recordHubFailure old cause s)

/-- The standby can take over: its rails are on, and no link of it to a powered Tarn has failed. -/
def canTakeOver (s : State) : Bool :=
  let new := standbyDie s
  inGap s && !s.sys.fatal.halted && railUp s new
    && (s.member.tarnDies.filter (powered s)).all fun d => match linkOf s.member new d with
      | some n => (getLink s n).state != 2
      | none => false

/-- STANDBY_TAKEOVER. A protection set-up that differs is fatal to the standby, which then does not take up service. DEDUCED, log 99. -/
def execStandbyTakeover (s : State) : Host.Outcome State Fault Refusal :=
  .next (match s.sys.red.declared with
    | none => s
    | some (old, cause) =>
      if !canTakeOver s then s
      else match takeoverSlot s with
        | none => s
        | some (slot, fallback) =>
          if protectAgrees slot s then takeOver old (standbyDie s) cause (getTile s 2).index slot fallback s else s)

end Sys2Proof.Machine
end

