-- ==== Sys2Proof/Machine/Dispatch.lean ====
section
/-! DEFINITION. The meaning of each command: one arm for each constructor of `Instr`. -/

namespace Sys2Proof.Machine

/-- What a command does to everything but the queue. -/
def exec (i : Instr) (s : State) : Host.Outcome State Fault Refusal :=
  match i with
  | .nop core => Sys2Proof.Machine.execNop core s
  | .repImm core n => Sys2Proof.Machine.execRepImm core n s
  | .repReg core dn => Sys2Proof.Machine.execRepReg core dn s
  | .br core cc target => Sys2Proof.Machine.execBr core cc target s
  | .call core target => Sys2Proof.Machine.execCall core target s
  | .ret core => Sys2Proof.Machine.execRet core s
  | .reti core => Sys2Proof.Machine.execReti core s
  | .dbnz core dn target => Sys2Proof.Machine.execDbnz core dn target s
  | .wait core m => Sys2Proof.Machine.execWait core m s
  | .ei core => Sys2Proof.Machine.execEi core s
  | .di core => Sys2Proof.Machine.execDi core s
  | .clrs core mask => Sys2Proof.Machine.execClrs core mask s
  | .trap core code => Sys2Proof.Machine.execTrap core code s
  | .halt core => Sys2Proof.Machine.execHalt core s
  | .add core dd ds1 ds2 => Sys2Proof.Machine.execAdd core dd ds1 ds2 s
  | .sub core dd ds1 ds2 => Sys2Proof.Machine.execSub core dd ds1 ds2 s
  | .adds core dd ds1 ds2 => Sys2Proof.Machine.execAdds core dd ds1 ds2 s
  | .subs core dd ds1 ds2 => Sys2Proof.Machine.execSubs core dd ds1 ds2 s
  | .and core dd ds1 ds2 => Sys2Proof.Machine.execAnd core dd ds1 ds2 s
  | .or core dd ds1 ds2 => Sys2Proof.Machine.execOr core dd ds1 ds2 s
  | .xor core dd ds1 ds2 => Sys2Proof.Machine.execXor core dd ds1 ds2 s
  | .shl core dd ds1 ds2 => Sys2Proof.Machine.execShl core dd ds1 ds2 s
  | .shr core dd ds1 ds2 => Sys2Proof.Machine.execShr core dd ds1 ds2 s
  | .sar core dd ds1 ds2 => Sys2Proof.Machine.execSar core dd ds1 ds2 s
  | .min core dd ds1 ds2 => Sys2Proof.Machine.execMin core dd ds1 ds2 s
  | .max core dd ds1 ds2 => Sys2Proof.Machine.execMax core dd ds1 ds2 s
  | .abs core dd ds1 => Sys2Proof.Machine.execAbs core dd ds1 s
  | .neg core dd ds1 => Sys2Proof.Machine.execNeg core dd ds1 s
  | .cmp core ds1 ds2 => Sys2Proof.Machine.execCmp core ds1 ds2 s
  | .mul core dd ds1 ds2 => Sys2Proof.Machine.execMul core dd ds1 ds2 s
  | .addi core dd ds1 imm => Sys2Proof.Machine.execAddi core dd ds1 imm s
  | .subi core dd ds1 imm => Sys2Proof.Machine.execSubi core dd ds1 imm s
  | .addsi core dd ds1 imm => Sys2Proof.Machine.execAddsi core dd ds1 imm s
  | .subsi core dd ds1 imm => Sys2Proof.Machine.execSubsi core dd ds1 imm s
  | .andi core dd ds1 imm => Sys2Proof.Machine.execAndi core dd ds1 imm s
  | .ori core dd ds1 imm => Sys2Proof.Machine.execOri core dd ds1 imm s
  | .xori core dd ds1 imm => Sys2Proof.Machine.execXori core dd ds1 imm s
  | .shli core dd ds1 imm => Sys2Proof.Machine.execShli core dd ds1 imm s
  | .shri core dd ds1 imm => Sys2Proof.Machine.execShri core dd ds1 imm s
  | .sari core dd ds1 imm => Sys2Proof.Machine.execSari core dd ds1 imm s
  | .mini core dd ds1 imm => Sys2Proof.Machine.execMini core dd ds1 imm s
  | .maxi core dd ds1 imm => Sys2Proof.Machine.execMaxi core dd ds1 imm s
  | .absi core dd ds1 imm => Sys2Proof.Machine.execAbsi core dd ds1 imm s
  | .negi core dd ds1 imm => Sys2Proof.Machine.execNegi core dd ds1 imm s
  | .cmpi core ds1 imm => Sys2Proof.Machine.execCmpi core ds1 imm s
  | .muli core dd ds1 imm => Sys2Proof.Machine.execMuli core dd ds1 imm s
  | .ld core dd an md => Sys2Proof.Machine.execLd core dd an md s
  | .st core dd an md => Sys2Proof.Machine.execSt core dd an md s
  | .mac core a ds1 ds2 p0 p1 => Sys2Proof.Machine.execMac core a ds1 ds2 p0 p1 s
  | .msu core a ds1 ds2 p0 p1 => Sys2Proof.Machine.execMsu core a ds1 ds2 p0 p1 s
  | .mpy core a ds1 ds2 p0 p1 => Sys2Proof.Machine.execMpy core a ds1 ds2 p0 p1 s
  | .macu core a ds1 ds2 p0 p1 => Sys2Proof.Machine.execMacu core a ds1 ds2 p0 p1 s
  | .clra core a => Sys2Proof.Machine.execClra core a s
  | .lda core a dh dl => Sys2Proof.Machine.execLda core a dh dl s
  | .ext core a dd sh => Sys2Proof.Machine.execExt core a dd sh s
  | .mova core a dd part => Sys2Proof.Machine.execMova core a dd part s
  | .adda core a b => Sys2Proof.Machine.execAdda core a b s
  | .mov core dd ds => Sys2Proof.Machine.execMov core dd ds s
  | .movxTo core xr ds => Sys2Proof.Machine.execMovxTo core xr ds s
  | .movxFrom core dd xr => Sys2Proof.Machine.execMovxFrom core dd xr s
  | .movcTo core cr ds => Sys2Proof.Machine.execMovcTo core cr ds s
  | .movcFrom core dd cr => Sys2Proof.Machine.execMovcFrom core dd cr s
  | .ldi core dd imm => Sys2Proof.Machine.execLdi core dd imm s
  | .ldih core dd imm => Sys2Proof.Machine.execLdih core dd imm s
  | .registerWrite m addr size v => Sys2Proof.Machine.execRegisterWrite m addr size v s
  | .w1sActionDone addr bit again => Sys2Proof.Machine.execW1sActionDone addr bit again s
  | .vddAoRise wakeNLow => Sys2Proof.Machine.execVddAoRise wakeNLow s
  | .resetNAssert ns => Sys2Proof.Machine.execResetNAssert ns s
  | .resetNRelease => Sys2Proof.Machine.execResetNRelease s
  | .enableHoldEnd => Sys2Proof.Machine.execEnableHoldEnd s
  | .railInRange group => Sys2Proof.Machine.execRailInRange group s
  | .sequencerStep => Sys2Proof.Machine.execSequencerStep s
  | .railTimeout group => Sys2Proof.Machine.execRailTimeout group s
  | .railFault group => Sys2Proof.Machine.execRailFault group s
  | .railFaultRestart => Sys2Proof.Machine.execRailFaultRestart s
  | .thermalTrip die => Sys2Proof.Machine.execThermalTrip die s
  | .dieTemperatureCrossing die temp => Sys2Proof.Machine.execDieTemperatureCrossing die temp s
  | .pllLock locked failingTest => Sys2Proof.Machine.execPllLock locked failingTest s
  | .kyolerTrainingDone link lanes loA hiA loB hiB => Sys2Proof.Machine.execKyolerTrainingDone link lanes loA hiA loB hiB s
  | .imageVerified => Sys2Proof.Machine.execImageVerified s
  | .dramTrainingDone ok units => Sys2Proof.Machine.execDramTrainingDone ok units s
  | .pondInitDone => Sys2Proof.Machine.execPondInitDone s
  | .imageApply => Sys2Proof.Machine.execImageApply s
  | .networkStart => Sys2Proof.Machine.execNetworkStart s
  | .renderStart => Sys2Proof.Machine.execRenderStart s
  | .rollbackFuseBlow => Sys2Proof.Machine.execRollbackFuseBlow s
  | .kyolerFlitParityError link dir flit => Sys2Proof.Machine.execKyolerFlitParityError link dir flit s
  | .kyolerRetrain link => Sys2Proof.Machine.execKyolerRetrain link s
  | .kyolerRetrainDone link ok => Sys2Proof.Machine.execKyolerRetrainDone link ok s
  | .masterTick cycles phase => Sys2Proof.Machine.execMasterTick cycles phase s
  | .tarnTick die => Sys2Proof.Machine.execTarnTick die s
  | .tickMarkerRx die index => Sys2Proof.Machine.execTickMarkerRx die index s
  | .holdoverEntry die => Sys2Proof.Machine.execHoldoverEntry die s
  | .stageDeadline die lateInputs lateSlices lateChannels lateFeeds => Sys2Proof.Machine.execStageDeadline die lateInputs lateSlices lateChannels lateFeeds s
  | .partialSumArrival home src index first sums => Sys2Proof.Machine.execPartialSumArrival home src index first sums s
  | .directSampleHandoff source sample => Sys2Proof.Machine.execDirectSampleHandoff source sample s
  | .cfgCommit rq => Sys2Proof.Machine.execCfgCommit rq s
  | .commitPrepare die => Sys2Proof.Machine.execCommitPrepare die s
  | .commitReadyReply die => Sys2Proof.Machine.execCommitReadyReply die s
  | .commitArmDeadline => Sys2Proof.Machine.execCommitArmDeadline s
  | .commitArm die => Sys2Proof.Machine.execCommitArm die s
  | .commitSwapReport die => Sys2Proof.Machine.execCommitSwapReport die s
  | .cfgDiscard rq => Sys2Proof.Machine.execCfgDiscard rq s
  | .cfgSave rq => Sys2Proof.Machine.execCfgSave rq s
  | .cfgImageInstall rq => Sys2Proof.Machine.execCfgImageInstall rq s
  | .slotWriteDone flashError => Sys2Proof.Machine.execSlotWriteDone flashError s
  | .slotWriteTimeout => Sys2Proof.Machine.execSlotWriteTimeout s
  | .cfgRate rq => Sys2Proof.Machine.execCfgRate rq s
  | .rateRestart => Sys2Proof.Machine.execRateRestart s
  | .cfgStaged rq => Sys2Proof.Machine.execCfgStaged rq s
  | .sysHello rq => Sys2Proof.Machine.execSysHello rq s
  | .sysStatus rq => Sys2Proof.Machine.execSysStatus rq s
  | .sysImage rq => Sys2Proof.Machine.execSysImage rq s
  | .sysReset rq => Sys2Proof.Machine.execSysReset rq s
  | .sysRecover rq => Sys2Proof.Machine.execSysRecover rq s
  | .sysEventMask rq => Sys2Proof.Machine.execSysEventMask rq s
  | .sysPing rq => Sys2Proof.Machine.execSysPing rq s
  | .responseDelivery dest => Sys2Proof.Machine.execResponseDelivery dest s
  | .ncpUdpDatagram port srcAddr srcPort fragment bytes => Sys2Proof.Machine.execNcpUdpDatagram port srcAddr srcPort fragment bytes s
  | .udpSessionTimeout session => Sys2Proof.Machine.execUdpSessionTimeout session s
  | .mbxInDataWrite m n off size v => Sys2Proof.Machine.execMbxInDataWrite m n off size v s
  | .mbxInCommitRead m n size => Sys2Proof.Machine.execMbxInCommitRead m n size s
  | .mbxStaleRelease n => Sys2Proof.Machine.execMbxStaleRelease n s
  | .mbxInPop n => Sys2Proof.Machine.execMbxInPop n s
  | .mbxOutPop m n size => Sys2Proof.Machine.execMbxOutPop m n size s
  | .pcieReset flr => Sys2Proof.Machine.execPcieReset flr s
  | .msixVectorUnmask v => Sys2Proof.Machine.execMsixVectorUnmask v s
  | .dblOutDrained m => Sys2Proof.Machine.execDblOutDrained m s
  | .dblHostSuspend m => Sys2Proof.Machine.execDblHostSuspend m s
  | .dblHostResume m => Sys2Proof.Machine.execDblHostResume m s
  | .dblRplRing core bit => Sys2Proof.Machine.execDblRplRing core bit s
  | .dblNerrisAck m mask => Sys2Proof.Machine.execDblNerrisAck m mask s
  | .dblHostClear m mask => Sys2Proof.Machine.execDblHostClear m mask s
  | .lockRead m die n size => Sys2Proof.Machine.execLockRead m die n size s
  | .lockWrite m die n v => Sys2Proof.Machine.execLockWrite m die n v s
  | .lockForce m die v => Sys2Proof.Machine.execLockForce m die v s
  | .qspiWriteWords addr data tornTail => Sys2Proof.Machine.execQspiWriteWords addr data tornTail s
  | .qspiReadWords addr count => Sys2Proof.Machine.execQspiReadWords addr count s
  | .i2cWrite address pointer data => Sys2Proof.Machine.execI2cWrite address pointer data s
  | .i2cWakeWrite address v => Sys2Proof.Machine.execI2cWakeWrite address v s
  | .springResponderMessage rq => Sys2Proof.Machine.execSpringResponderMessage rq s
  | .secAttest rq => Sys2Proof.Machine.execSecAttest rq s
  | .secProvision rq => Sys2Proof.Machine.execSecProvision rq s
  | .secLifecycle rq => Sys2Proof.Machine.execSecLifecycle rq s
  | .secKeyRevoke rq => Sys2Proof.Machine.execSecKeyRevoke rq s
  | .secDebugChallenge rq => Sys2Proof.Machine.execSecDebugChallenge rq s
  | .secDebugUnlock rq => Sys2Proof.Machine.execSecDebugUnlock rq s
  | .secDebugEpoch rq => Sys2Proof.Machine.execSecDebugEpoch rq s
  | .secSelftest rq => Sys2Proof.Machine.execSecSelftest rq s
  | .entropyHealthFail test => Sys2Proof.Machine.execEntropyHealthFail test s
  | .routeSet rq => Sys2Proof.Machine.execRouteSet rq s
  | .routeClear rq => Sys2Proof.Machine.execRouteClear rq s
  | .routeGet rq => Sys2Proof.Machine.execRouteGet rq s
  | .routeList rq => Sys2Proof.Machine.execRouteList rq s
  | .routeBasinCfg rq => Sys2Proof.Machine.execRouteBasinCfg rq s
  | .routeCrossfadeEnd dst => Sys2Proof.Machine.execRouteCrossfadeEnd dst s
  | .portTdmCfg rq => Sys2Proof.Machine.execPortTdmCfg rq s
  | .portTdmMask rq => Sys2Proof.Machine.execPortTdmMask rq s
  | .portAesCfg rq => Sys2Proof.Machine.execPortAesCfg rq s
  | .portWclkCfg rq => Sys2Proof.Machine.execPortWclkCfg rq s
  | .portSrcCfg rq => Sys2Proof.Machine.execPortSrcCfg rq s
  | .portStatus rq => Sys2Proof.Machine.execPortStatus rq s
  | .tdmInputFrame port bits slots ns => Sys2Proof.Machine.execTdmInputFrame port bits slots ns s
  | .aes3InputFrame port f => Sys2Proof.Machine.execAes3InputFrame port f s
  | .clockLoss kind index dir => Sys2Proof.Machine.execClockLoss kind index dir s
  | .clockReturn kind index dir rate bits => Sys2Proof.Machine.execClockReturn kind index dir rate bits s
  | .rateClassChange kind index dir rate => Sys2Proof.Machine.execRateClassChange kind index dir rate s
  | .srcLock conv => Sys2Proof.Machine.execSrcLock conv s
  | .srcUnlock conv => Sys2Proof.Machine.execSrcUnlock conv s
  | .ringFetch ring => Sys2Proof.Machine.execRingFetch ring s
  | .ringCaptureBlock ring => Sys2Proof.Machine.execRingCaptureBlock ring s
  | .netPortCfg rq => Sys2Proof.Machine.execNetPortCfg rq s
  | .netPortStatus rq => Sys2Proof.Machine.execNetPortStatus rq s
  | .netFilterSet rq => Sys2Proof.Machine.execNetFilterSet rq s
  | .netVlanCfg rq => Sys2Proof.Machine.execNetVlanCfg rq s
  | .netMgmtCfg rq => Sys2Proof.Machine.execNetMgmtCfg rq s
  | .netCountersRead rq => Sys2Proof.Machine.execNetCountersRead rq s
  | .linkUp port partner => Sys2Proof.Machine.execLinkUp port partner s
  | .linkDown port => Sys2Proof.Machine.execLinkDown port s
  | .netFrameRx port f => Sys2Proof.Machine.execNetFrameRx port f s
  | .pauseFrameRx port time => Sys2Proof.Machine.execPauseFrameRx port time s
  | .pfcFrameRx port classes times => Sys2Proof.Machine.execPfcFrameRx port classes times s
  | .pauseTimerExpiry port cls => Sys2Proof.Machine.execPauseTimerExpiry port cls s
  | .pauseRefresh port => Sys2Proof.Machine.execPauseRefresh port s
  | .addressAgeOut mac => Sys2Proof.Machine.execAddressAgeOut mac s
  | .hostFrameTx port => Sys2Proof.Machine.execHostFrameTx port s
  | .hostTxStale port id => Sys2Proof.Machine.execHostTxStale port id s
  | .frameErrorReport port => Sys2Proof.Machine.execFrameErrorReport port s
  | .rxDmaComplete port => Sys2Proof.Machine.execRxDmaComplete port s
  | .weirDispatch => Sys2Proof.Machine.execWeirDispatch s
  | .weirDone m index => Sys2Proof.Machine.execWeirDone m index s
  | .weirAgePromotion queue => Sys2Proof.Machine.execWeirAgePromotion queue s
  | .timePtpCfg rq => Sys2Proof.Machine.execTimePtpCfg rq s
  | .timeAdjust rq => Sys2Proof.Machine.execTimeAdjust rq s
  | .timeStatus rq => Sys2Proof.Machine.execTimeStatus rq s
  | .timeMclkCfg rq => Sys2Proof.Machine.execTimeMclkCfg rq s
  | .ptpMessageRx port p => Sys2Proof.Machine.execPtpMessageRx port p s
  | .announceTimeout => Sys2Proof.Machine.execAnnounceTimeout s
  | .ptpTsqSeqRead m port size => Sys2Proof.Machine.execPtpTsqSeqRead m port size s
  | .mclkLock => Sys2Proof.Machine.execMclkLock s
  | .mclkUnlock => Sys2Proof.Machine.execMclkUnlock s
  | .mclkHoldover => Sys2Proof.Machine.execMclkHoldover s
  | .streamRxAdd rq => Sys2Proof.Machine.execStreamRxAdd rq s
  | .streamTxAdd rq => Sys2Proof.Machine.execStreamTxAdd rq s
  | .streamRemove rq => Sys2Proof.Machine.execStreamRemove rq s
  | .streamStatus rq => Sys2Proof.Machine.execStreamStatus rq s
  | .streamOpts rq => Sys2Proof.Machine.execStreamOpts rq s
  | .streamPacketRx handle p => Sys2Proof.Machine.execStreamPacketRx handle p s
  | .streamPacketMissing handle => Sys2Proof.Machine.execStreamPacketMissing handle s
  | .arpRefresh handle mac => Sys2Proof.Machine.execArpRefresh handle mac s
  | .eomsPacket handle p => Sys2Proof.Machine.execEomsPacket handle p s
  | .objAlloc rq => Sys2Proof.Machine.execObjAlloc rq s
  | .objFree rq => Sys2Proof.Machine.execObjFree rq s
  | .objectRelease obj => Sys2Proof.Machine.execObjectRelease obj s
  | .objCfg rq => Sys2Proof.Machine.execObjCfg rq s
  | .objPos rq => Sys2Proof.Machine.execObjPos rq s
  | .objPosBatch rq => Sys2Proof.Machine.execObjPosBatch rq s
  | .objGain rq => Sys2Proof.Machine.execObjGain rq s
  | .objGet rq => Sys2Proof.Machine.execObjGet rq s
  | .objSliceCfg rq => Sys2Proof.Machine.execObjSliceCfg rq s
  | .objSliceStatus rq => Sys2Proof.Machine.execObjSliceStatus rq s
  | .objBedMap rq => Sys2Proof.Machine.execObjBedMap rq s
  | .objZoneWeights rq => Sys2Proof.Machine.execObjZoneWeights rq s
  | .objUpdateCfg rq => Sys2Proof.Machine.execObjUpdateCfg rq s
  | .objEomsCfg rq => Sys2Proof.Machine.execObjEomsCfg rq s
  | .geometryFreeze slice boundary => Sys2Proof.Machine.execGeometryFreeze slice boundary s
  | .geometryWindowEnd slice unfinished => Sys2Proof.Machine.execGeometryWindowEnd slice unfinished s
  | .updateBoundary slice boundary => Sys2Proof.Machine.execUpdateBoundary slice boundary s
  | .slotMigrationDone slice => Sys2Proof.Machine.execSlotMigrationDone slice s
  | .spkTableLoad rq => Sys2Proof.Machine.execSpkTableLoad rq s
  | .spkSet rq => Sys2Proof.Machine.execSpkSet rq s
  | .spkGet rq => Sys2Proof.Machine.execSpkGet rq s
  | .spkEnvCfg rq => Sys2Proof.Machine.execSpkEnvCfg rq s
  | .spkMeshGet rq => Sys2Proof.Machine.execSpkMeshGet rq s
  | .spkPairGet rq => Sys2Proof.Machine.execSpkPairGet rq s
  | .chainCfg rq => Sys2Proof.Machine.execChainCfg rq s
  | .chainSosStage rq => Sys2Proof.Machine.execChainSosStage rq s
  | .chainFirStage rq => Sys2Proof.Machine.execChainFirStage rq s
  | .chainProtCfg rq => Sys2Proof.Machine.execChainProtCfg rq s
  | .chainModel rq => Sys2Proof.Machine.execChainModel rq s
  | .chainGet rq => Sys2Proof.Machine.execChainGet rq s
  | .chainStatus rq => Sys2Proof.Machine.execChainStatus rq s
  | .chainBudget rq => Sys2Proof.Machine.execChainBudget rq s
  | .pondParityError e => Sys2Proof.Machine.execPondParityError e s
  | .pondTestRegion die bank region pass => Sys2Proof.Machine.execPondTestRegion die bank region pass s
  | .pndBankOwnerWrite m die bank v => Sys2Proof.Machine.execPndBankOwnerWrite m die bank v s
  | .pndBankPowerWrite m die bank v => Sys2Proof.Machine.execPndBankPowerWrite m die bank v s
  | .decodeErrorWatchdog m => Sys2Proof.Machine.execDecodeErrorWatchdog m s
  | .busTimeout addr => Sys2Proof.Machine.execBusTimeout addr s
  | .dramParityError addr m second => Sys2Proof.Machine.execDramParityError addr m second s
  | .rowhammerThrottle channel bank row m addr => Sys2Proof.Machine.execRowhammerThrottle channel bank row m addr s
  | .refreshWindowEnd => Sys2Proof.Machine.execRefreshWindowEnd s
  | .dramRowIdleClose channel bank => Sys2Proof.Machine.execDramRowIdleClose channel bank s
  | .diagWeirCfg rq => Sys2Proof.Machine.execDiagWeirCfg rq s
  | .diagDumpInfo rq => Sys2Proof.Machine.execDiagDumpInfo rq s
  | .diagDumpRead rq => Sys2Proof.Machine.execDiagDumpRead rq s
  | .diagDumpClear rq => Sys2Proof.Machine.execDiagDumpClear rq s
  | .diagCountersRead rq => Sys2Proof.Machine.execDiagCountersRead rq s
  | .diagTmux rq => Sys2Proof.Machine.execDiagTmux rq s
  | .diagPondStatus rq => Sys2Proof.Machine.execDiagPondStatus rq s
  | .memRead rq => Sys2Proof.Machine.execMemRead rq s
  | .memWrite rq => Sys2Proof.Machine.execMemWrite rq s
  | .memBasinInfo rq => Sys2Proof.Machine.execMemBasinInfo rq s
  | .memBasinMap rq => Sys2Proof.Machine.execMemBasinMap rq s
  | .memBasinWrite rq => Sys2Proof.Machine.execMemBasinWrite rq s
  | .memBasinRead rq => Sys2Proof.Machine.execMemBasinRead rq s
  | .basinReferenceCopy rq => Sys2Proof.Machine.execBasinReferenceCopy rq s
  | .rplLoad rq => Sys2Proof.Machine.execRplLoad rq s
  | .rplStart rq => Sys2Proof.Machine.execRplStart rq s
  | .rplStop rq => Sys2Proof.Machine.execRplStop rq s
  | .rplReset rq => Sys2Proof.Machine.execRplReset rq s
  | .rplGrant rq => Sys2Proof.Machine.execRplGrant rq s
  | .rplInsert rq => Sys2Proof.Machine.execRplInsert rq s
  | .rplMeasure rq => Sys2Proof.Machine.execRplMeasure rq s
  | .rplXdoneWrite m core v => Sys2Proof.Machine.execRplXdoneWrite m core v s
  | .rippleTick core => Sys2Proof.Machine.execRippleTick core s
  | .interruptEntry core => Sys2Proof.Machine.execInterruptEntry core s
  | .waitEnd core waited => Sys2Proof.Machine.execWaitEnd core waited s
  | .illegalInstruction core w => Sys2Proof.Machine.execIllegalInstruction core w s
  | .outletTick die => Sys2Proof.Machine.execOutletTick die s
  | .outDacCfg rq => Sys2Proof.Machine.execOutDacCfg rq s
  | .outDacStatus rq => Sys2Proof.Machine.execOutDacStatus rq s
  | .dacClrRise ns => Sys2Proof.Machine.execDacClrRise ns s
  | .dacClrFall => Sys2Proof.Machine.execDacClrFall s
  | .feedLoss die => Sys2Proof.Machine.execFeedLoss die s
  | .outSenseCfg rq => Sys2Proof.Machine.execOutSenseCfg rq s
  | .outSenseCoef rq => Sys2Proof.Machine.execOutSenseCoef rq s
  | .outSenseRead rq => Sys2Proof.Machine.execOutSenseRead rq s
  | .senseDecimatorOutput ch v i0 => Sys2Proof.Machine.execSenseDecimatorOutput ch v i0 s
  | .outAuxCfg rq => Sys2Proof.Machine.execOutAuxCfg rq s
  | .outAuxRead rq => Sys2Proof.Machine.execOutAuxRead rq s
  | .auxConversion die input raw => Sys2Proof.Machine.execAuxConversion die input raw s
  | .ampCfg rq => Sys2Proof.Machine.execAmpCfg rq s
  | .ampClear rq => Sys2Proof.Machine.execAmpClear rq s
  | .ampBoostCfg rq => Sys2Proof.Machine.execAmpBoostCfg rq s
  | .ampPilotCfg rq => Sys2Proof.Machine.execAmpPilotCfg rq s
  | .ampStatus rq => Sys2Proof.Machine.execAmpStatus rq s
  | .ampGuardCfg rq => Sys2Proof.Machine.execAmpGuardCfg rq s
  | .ampSyncCfg rq => Sys2Proof.Machine.execAmpSyncCfg rq s
  | .channelStart ch => Sys2Proof.Machine.execChannelStart ch s
  | .startHoldEnd ch kHz refHz => Sys2Proof.Machine.execStartHoldEnd ch kHz refHz s
  | .channelStopComplete ch => Sys2Proof.Machine.execChannelStopComplete ch s
  | .cycleTrip ch consecutive => Sys2Proof.Machine.execCycleTrip ch consecutive s
  | .hardShort ch => Sys2Proof.Machine.execHardShort ch s
  | .clipEpisode ch => Sys2Proof.Machine.execClipEpisode ch s
  | .retryTimer ch => Sys2Proof.Machine.execRetryTimer ch s
  | .retryCheckEnd ch zmag => Sys2Proof.Machine.execRetryCheckEnd ch zmag s
  | .retryCountReset ch => Sys2Proof.Machine.execRetryCountReset ch s
  | .syncRefLost die => Sys2Proof.Machine.execSyncRefLost die s
  | .syncRefReturn die hz => Sys2Proof.Machine.execSyncRefReturn die hz s
  | .dcWindowEnd ch => Sys2Proof.Machine.execDcWindowEnd ch s
  | .pilotIntervalEnd ch vre vim ire iim => Sys2Proof.Machine.execPilotIntervalEnd ch vre vim ire iim s
  | .boostOutOfReg ctl => Sys2Proof.Machine.execBoostOutOfReg ctl s
  | .boostOvercurrent ctl => Sys2Proof.Machine.execBoostOvercurrent ctl s
  | .boostOcRestart ctl => Sys2Proof.Machine.execBoostOcRestart ctl s
  | .boostAtFloor ctl => Sys2Proof.Machine.execBoostAtFloor ctl s
  | .lockstepDisagree core allDiffer => Sys2Proof.Machine.execLockstepDisagree core allDiffer s
  | .lockstepResync => Sys2Proof.Machine.execLockstepResync s
  | .fatalError cause die => Sys2Proof.Machine.execFatalError cause die s
  | .dumpWritten complete => Sys2Proof.Machine.execDumpWritten complete s
  | .fatalRestart => Sys2Proof.Machine.execFatalRestart s
  | .redStatus rq => Sys2Proof.Machine.execRedStatus rq s
  | .redCfg rq => Sys2Proof.Machine.execRedCfg rq s
  | .redProve rq => Sys2Proof.Machine.execRedProve rq s
  | .proveTimelineEnd code => Sys2Proof.Machine.execProveTimelineEnd code s
  | .redReadmit rq => Sys2Proof.Machine.execRedReadmit rq s
  | .standbyCheck => Sys2Proof.Machine.execStandbyCheck s
  | .standbyCheckEnd code => Sys2Proof.Machine.execStandbyCheckEnd code s
  | .heartbeatSend => Sys2Proof.Machine.execHeartbeatSend s
  | .wardenSuspect die age => Sys2Proof.Machine.execWardenSuspect die age s
  | .wardenVoteRx die src suspect => Sys2Proof.Machine.execWardenVoteRx die src suspect s
  | .fatalDeclarationRx die => Sys2Proof.Machine.execFatalDeclarationRx die s
  | .dumpHoldEnd copied => Sys2Proof.Machine.execDumpHoldEnd copied s
  | .journalBatch => Sys2Proof.Machine.execJournalBatch s
  | .standbyTakeover => Sys2Proof.Machine.execStandbyTakeover s
  | .takeoverTimeout => Sys2Proof.Machine.execTakeoverTimeout s
  | .pwrState rq => Sys2Proof.Machine.execPwrState rq s
  | .pwrStatus rq => Sys2Proof.Machine.execPwrStatus rq s
  | .pwrAlarm rq => Sys2Proof.Machine.execPwrAlarm rq s
  | .alarmExpiry => Sys2Proof.Machine.execAlarmExpiry s
  | .wakeNLow us => Sys2Proof.Machine.execWakeNLow us s
  | .wakeReturn source => Sys2Proof.Machine.execWakeReturn source s
  | .warmReset => Sys2Proof.Machine.execWarmReset s
  | .coldReset => Sys2Proof.Machine.execColdReset s
  | .dieReset die => Sys2Proof.Machine.execDieReset die s
  | .dieResetTimeout die => Sys2Proof.Machine.execDieResetTimeout die s
  | .jtagBypass => Sys2Proof.Machine.execJtagBypass s
  | .jtagIdcode => Sys2Proof.Machine.execJtagIdcode s
  | .jtagSamplePreload boundary => Sys2Proof.Machine.execJtagSamplePreload boundary s
  | .jtagExtest => Sys2Proof.Machine.execJtagExtest s
  | .jtagExtestPulse => Sys2Proof.Machine.execJtagExtestPulse s
  | .jtagExtestTrain => Sys2Proof.Machine.execJtagExtestTrain s
  | .jtagClamp => Sys2Proof.Machine.execJtagClamp s
  | .jtagHighz => Sys2Proof.Machine.execJtagHighz s
  | .jtagCoreDebug => Sys2Proof.Machine.execJtagCoreDebug s
  | .jtagTestLogicReset => Sys2Proof.Machine.execJtagTestLogicReset s
  | .powerLoss => Sys2Proof.Machine.execPowerLoss s
  | .ptpMessageInterval port kind => Sys2Proof.Machine.execPtpMessageInterval port kind s
  | .pcieLinkUp speed width => Sys2Proof.Machine.execPcieLinkUp speed width s
  | .attestationSigned => Sys2Proof.Machine.execAttestationSigned s
  | .selftestComplete failingTest => Sys2Proof.Machine.execSelftestComplete failingTest s
  | .fusesBlown => Sys2Proof.Machine.execFusesBlown s

end Sys2Proof.Machine
end

