-- ==== Sys2Proof/Machine/Step.lean ====
section
/-! DEFINITION. One step: the command at the front of the queue is taken and executed; on an empty queue the block idles for one tick of 64 ns. -/

namespace Sys2Proof.Machine

/-- With nothing to do, time passes: 10 cycles of the 156.25 MHz timer clock, and the PTP clock with it while it runs. DESIGN CHOICE, log 3. -/
def idle (s : State) : State := advanceTime 10 s

/-- Take the command at the front of the queue and execute it on the state with the rest of the queue. DESIGN CHOICE, log 2; DEDUCED, log 18. -/
def step (s : State) : Host.Outcome State Fault Refusal :=
  match s.pending with
  | [] => .next (idle s)
  | c :: rest => exec c { s with pending := rest }

/-- The state with the command that a table word spells in front of its queue; the table gives its rows no words, so no word spells one. DEDUCED, log 9. -/
def State.withFetchWord (s : State) (nbits w : Nat) : State :=
  match Sys2Proof.decodeTableWord nbits w with
  | some c => { s with pending := c :: s.pending }
  | none => s

end Sys2Proof.Machine
end

