-- ==== Sys2Proof/Safety.lean ====
section
/-! DEFINITION. The terms that statements use: what a safe step is, when Nerris serves a request and what answering it does, and what completing, branching and trapping mean on a Ripple core. -/

namespace Sys2Proof.Machine

/-- A step goes on: it ends in a next state. -/
def goesOn (s : State) : Prop := ∃ t, step s = .next t

/-! ### Requests -/

/-- Nerris serves the request: it runs, and none of the checks that come before the message's own rules refuses it. -/
def served (op : NcpOp) (rq : Request) (s : State) : Bool := nerrisUp s && (gate op rq s).isNone

/-- `t` with the request answered OK (code 0) with a payload. -/
def answered (rq : Request) (op : Nat) (body : List Byte) (t : State) : State := respond rq op (replyOk body t) t

/-- `t` with the request answered with a refusal: a code and the FIELD at fault. -/
def refusedWith (rq : Request) (op code field : Nat) (t : State) : State := respond rq op (refuse code 0 field t) t

/-- `t` with the setting that a request made on record under its key, staged or in force (R65). -/
def recorded (staged : Bool) (op : Nat) (key : List Byte) (rq : Request) (t : State) : State :=
  noteSetting staged { layer := 1, opcode := op, flow := rq.flow, key := key, payload := rq.payload } t

/-! ### Ripple cores -/

/-- FLAGS made of Z, N, C and V (R298). -/
def flagBits (z n c v : Bool) : BitVec 4 := BitVec.ofBool v ++ BitVec.ofBool c ++ BitVec.ofBool n ++ BitVec.ofBool z

/-- A 32-bit counter of cycles moved on, saturating (R298). -/
def addCycles (c k : Nat) : Nat := min 0xFFFFFFFF (c + k)

/-- The word index after an instruction that does not branch: the same word while iterations of a repeat remain, else the next modulo 16,384 (R314, R328). -/
def Core.nextWord (p : Core) : Nat :=
  match p.rep with
  | some (_ + 2) => p.pc
  | _ => (p.pc + 1) % 16384

/-- The iterations of a repeat that remain after this one. -/
def Core.nextRep (p : Core) : Option Nat :=
  match p.rep with
  | some (k + 2) => some (k + 1)
  | _ => none

/-- Instruction `i` completes on core `n` of `s`: the step answers a next state in which that core alone has changed; its registers are those of `f`, its word index has moved on, it has spent 1 cycle, at most one stall and `extra` more, and the instruction after it sees other producers (R313). -/
def runsAs (i : Instr) (n : Nat) (s : State) (extra : Nat) (f : Core → Core) : Prop :=
  ∃ stall writes, stall ≤ 1 ∧
    exec i s = .next (setCore n { f (getCore s n) with
      pc := (getCore s n).nextWord, rep := (getCore s n).nextRep
      cycles := addCycles (getCore s n).cycles (1 + stall + extra), busy := addCycles (getCore s n).busy (1 + stall + extra)
      hazard := writes } s)

/-- Instruction `i` branches on core `n` of `s` to word `target`, with `extra` cycles, leaving the registers of `f`. -/
def branchesTo (i : Instr) (n : Nat) (s : State) (extra target : Nat) (f : Core → Core) : Prop :=
  ∃ stall, stall ≤ 1 ∧
    exec i s = .next (setCore n { f (getCore s n) with
      pc := target, cycles := addCycles (getCore s n).cycles (1 + stall + extra)
      busy := addCycles (getCore s n).busy (1 + stall + extra), hazard := [] } s)

/-- `s` with core `n` trapped: stopped, its cause, code and word index on record, and `rpl.trap` sent in class 17 (R319). -/
def trapped (n cause code : Nat) (s : State) : State :=
  event 17 (coreDie n) 0x0A80 n (bytesLE 1 n ++ bytesLE 1 cause ++ bytesLE 2 0 ++ bytesLE 4 (getCore s n).pc)
    (setCore n { getCore s n with
      st := .trapped, cause := cause, code := code, trapPc := (getCore s n).pc, rep := none, waiting := none } s)

/-- Dd and the flags after an ALU operation: the result, Z and N of it, C and V as given (R306). -/
def withResult (p : Core) (dd : Nat) (v : Word) (c ov : Bool) : Core :=
  { p with d := mapSet p.d dd v, flags := flagBits (v == 0) v.msb c ov }

/-- C and V of FLAGS. -/
def Core.cFlag (p : Core) : Bool := p.flags.getLsbD 2
def Core.vFlag (p : Core) : Bool := p.flags.getLsbD 3

/-- An exact result lies outside the signed range of a word. -/
def overflows (r : Int) : Bool := decide (r < -2 ^ 31) || decide (2 ^ 31 ≤ r)

/-- An exact result as a saturated word. -/
def satWord (r : Int) : Word :=
  if r < -2 ^ 31 then 0x80000000#32 else if 2 ^ 31 ≤ r then 0x7FFFFFFF#32 else BitVec.ofInt 32 r

/-- Dd and the flags after a saturating operation: V where it saturates, and then SV (R306). -/
def withSat (p : Core) (dd : Nat) (r : Int) : Core :=
  { withResult p dd (satWord r) p.cFlag (overflows r) with
    sticky := if overflows r then p.sticky ||| 1#8 else p.sticky }

/-- Carry out of an addition, and no borrow in a subtraction. -/
def carryOut (x y : Word) : Bool := decide (2 ^ 32 ≤ x.toNat + y.toNat)
def noBorrow (x y : Word) : Bool := decide (y.toNat ≤ x.toNat)

/-- The last bit that a shift to the left, or to the right with zeros or the sign following, moves out; 0 for a shift of 0 (R306). -/
def lastLeft (x : Word) (k : Nat) : Bool := decide (0 < k) && (x.setWidth 128 <<< k).getLsbD 32
def lastRight (x : Word) (k : Nat) : Bool := decide (0 < k) && (x.setWidth 128).getLsbD (k - 1)
def lastSar (x : Word) (k : Nat) : Bool := decide (0 < k) && (x.signExtend 128).getLsbD (k - 1)

/-- A pointer post-modified by `o` bytes: linear modulo 2³² with L = 0, else reduced into L bytes from B (R301). -/
def postModified (a b l : Word) (o : Int) : Word :=
  if l = 0 then BitVec.ofInt 32 (a.toNat + o) else BitVec.ofInt 32 (b.toNat + (a.toNat + o - b.toNat) % l.toNat)

/-- The condition codes of BR (R308). -/
def branchHolds (p : Core) (cc : Nat) : Bool :=
  let z := p.flags.getLsbD 0
  let n := p.flags.getLsbD 1
  let c := p.flags.getLsbD 2
  let v := p.flags.getLsbD 3
  [true, z, !z, n, !n, c, !c, v, !v, !z && n == v, n == v, n != v, z || n != v, p.sticky.getLsbD 0,
    (p.sticky.extractLsb' 1 4) != 0].getD cc false

/-- What the loads of a multiply-accumulate instruction leave: each pointer post-modified, each value in its register. -/
def afterLoads (c : Core) (ls : List (Nat × Nat)) (vals : List (Nat × Word)) : Core :=
  vals.foldl (fun c v => c.setD v.1 v.2) (ls.foldl (fun c l => c.stepA l.2 (c.mreg l.2).toInt) c)

end Sys2Proof.Machine
end

