-- ==== Sys2Proof/Certificates/Slice0/Obligations.lean ====
section
/-! DEFINITION. The statements for the provers. -/

open Sys2Proof Sys2Proof.Machine

/-- A command at the front of the queue is executed on the state with the rest of the queue (model's own form of the queue, log entry 2). -/
def Obligations.StepRunsFrontCommand : Prop :=
  ∀ (c : Instr) (rest : List Instr) (s : State), s.pending = c :: rest →
    step s = exec c { s with pending := rest }

/-- ALU register form (R309) with its flags (R306): ADD, SUB, ADDS, SUBS, AND, OR, XOR, SHL, SHR, SAR, MIN, MAX and MUL complete on every core that issues. ALU immediate form (R309): the immediate, zero-extended for AND, OR and XOR and sign-extended otherwise, stands in place of Ds2, shift counts included. The one-operand and compare forms (R306, R309): ABS, NEG, CMP and their immediate forms. The immediate field of ABSI and NEGI must be 0, any other value traps as illegal (the model's reading, log entry 31). -/
def Obligations.AluForms : Prop :=
  (
    ∀ (n : Nat) (dd a b : Fin 16) (s : State), issues s n = true →
      (runsAs (.add n dd a b) n s 0 fun p => withResult p dd (p.dreg a + p.dreg b) (carryOut (p.dreg a) (p.dreg b))
          (overflows ((p.dreg a).toInt + (p.dreg b).toInt)))
      ∧ (runsAs (.sub n dd a b) n s 0 fun p => withResult p dd (p.dreg a - p.dreg b) (noBorrow (p.dreg a) (p.dreg b))
          (overflows ((p.dreg a).toInt - (p.dreg b).toInt)))
      ∧ (runsAs (.adds n dd a b) n s 0 fun p => withSat p dd ((p.dreg a).toInt + (p.dreg b).toInt))
      ∧ (runsAs (.subs n dd a b) n s 0 fun p => withSat p dd ((p.dreg a).toInt - (p.dreg b).toInt))
      ∧ (runsAs (.and n dd a b) n s 0 fun p => withResult p dd (p.dreg a &&& p.dreg b) p.cFlag p.vFlag)
      ∧ (runsAs (.or n dd a b) n s 0 fun p => withResult p dd (p.dreg a ||| p.dreg b) p.cFlag p.vFlag)
      ∧ (runsAs (.xor n dd a b) n s 0 fun p => withResult p dd (p.dreg a ^^^ p.dreg b) p.cFlag p.vFlag)
      ∧ (runsAs (.shl n dd a b) n s 0 fun p =>
          withResult p dd (p.dreg a <<< ((p.dreg b).toNat % 64)) (lastLeft (p.dreg a) ((p.dreg b).toNat % 64)) p.vFlag)
      ∧ (runsAs (.shr n dd a b) n s 0 fun p =>
          withResult p dd (p.dreg a >>> ((p.dreg b).toNat % 64)) (lastRight (p.dreg a) ((p.dreg b).toNat % 64)) p.vFlag)
      ∧ (runsAs (.sar n dd a b) n s 0 fun p =>
          withResult p dd ((p.dreg a).sshiftRight ((p.dreg b).toNat % 64)) (lastSar (p.dreg a) ((p.dreg b).toNat % 64)) p.vFlag)
      ∧ (runsAs (.min n dd a b) n s 0 fun p =>
          withResult p dd (BitVec.ofInt 32 (min (p.dreg a).toInt (p.dreg b).toInt)) p.cFlag p.vFlag)
      ∧ (runsAs (.max n dd a b) n s 0 fun p =>
          withResult p dd (BitVec.ofInt 32 (max (p.dreg a).toInt (p.dreg b).toInt)) p.cFlag p.vFlag)
      ∧ (runsAs (.mul n dd a b) n s 0 fun p =>
          withResult p dd (BitVec.ofInt 32 ((p.dreg a).toInt * (p.dreg b).toInt)) p.cFlag p.vFlag))
  ∧ (
    ∀ (n : Nat) (dd a : Fin 16) (i : BitVec 16) (s : State), issues s n = true →
      (runsAs (.addi n dd a i) n s 0 fun p => withResult p dd (p.dreg a + i.signExtend 32) (carryOut (p.dreg a) (i.signExtend 32))
          (overflows ((p.dreg a).toInt + i.toInt)))
      ∧ (runsAs (.subi n dd a i) n s 0 fun p => withResult p dd (p.dreg a - i.signExtend 32) (noBorrow (p.dreg a) (i.signExtend 32))
          (overflows ((p.dreg a).toInt - i.toInt)))
      ∧ (runsAs (.addsi n dd a i) n s 0 fun p => withSat p dd ((p.dreg a).toInt + i.toInt))
      ∧ (runsAs (.subsi n dd a i) n s 0 fun p => withSat p dd ((p.dreg a).toInt - i.toInt))
      ∧ (runsAs (.andi n dd a i) n s 0 fun p => withResult p dd (p.dreg a &&& (0#16 ++ i)) p.cFlag p.vFlag)
      ∧ (runsAs (.ori n dd a i) n s 0 fun p => withResult p dd (p.dreg a ||| (0#16 ++ i)) p.cFlag p.vFlag)
      ∧ (runsAs (.xori n dd a i) n s 0 fun p => withResult p dd (p.dreg a ^^^ (0#16 ++ i)) p.cFlag p.vFlag)
      ∧ (runsAs (.shli n dd a i) n s 0 fun p =>
          withResult p dd (p.dreg a <<< (i.toNat % 64)) (lastLeft (p.dreg a) (i.toNat % 64)) p.vFlag)
      ∧ (runsAs (.shri n dd a i) n s 0 fun p =>
          withResult p dd (p.dreg a >>> (i.toNat % 64)) (lastRight (p.dreg a) (i.toNat % 64)) p.vFlag)
      ∧ (runsAs (.sari n dd a i) n s 0 fun p =>
          withResult p dd ((p.dreg a).sshiftRight (i.toNat % 64)) (lastSar (p.dreg a) (i.toNat % 64)) p.vFlag)
      ∧ (runsAs (.mini n dd a i) n s 0 fun p =>
          withResult p dd (BitVec.ofInt 32 (min (p.dreg a).toInt i.toInt)) p.cFlag p.vFlag)
      ∧ (runsAs (.maxi n dd a i) n s 0 fun p =>
          withResult p dd (BitVec.ofInt 32 (max (p.dreg a).toInt i.toInt)) p.cFlag p.vFlag)
      ∧ (runsAs (.muli n dd a i) n s 0 fun p =>
          withResult p dd (BitVec.ofInt 32 ((p.dreg a).toInt * i.toInt)) p.cFlag p.vFlag))
  ∧ (
    ∀ (n : Nat) (dd a b : Fin 16) (i : BitVec 16) (s : State), issues s n = true →
      (runsAs (.abs n dd a) n s 0 fun p => withSat p dd (p.dreg a).toInt.natAbs)
      ∧ (runsAs (.neg n dd a) n s 0 fun p => withSat p dd (-(p.dreg a).toInt))
      ∧ (runsAs (.absi n dd a 0) n s 0 fun p => withSat p dd (p.dreg a).toInt.natAbs)
      ∧ (runsAs (.negi n dd a 0) n s 0 fun p => withSat p dd (-(p.dreg a).toInt))
      ∧ (i ≠ 0 → exec (.absi n dd a i) s = .next (trapped n 1 0 s) ∧ exec (.negi n dd a i) s = .next (trapped n 1 0 s))
      ∧ (runsAs (.cmp n a b) n s 0 fun p =>
          { p with flags := (flagBits (p.dreg a - p.dreg b == 0) (p.dreg a - p.dreg b).msb (noBorrow (p.dreg a) (p.dreg b))
              (overflows ((p.dreg a).toInt - (p.dreg b).toInt))) })
      ∧ (runsAs (.cmpi n a i) n s 0 fun p =>
          { p with flags := (flagBits (p.dreg a - i.signExtend 32 == 0) (p.dreg a - i.signExtend 32).msb
              (noBorrow (p.dreg a) (i.signExtend 32)) (overflows ((p.dreg a).toInt - i.toInt))) }))

/-- The moves (R297, R298, R312): MOV, MOVX, MOVC, LDI and LDIH, with the register fields that ignore writes, the read-only control registers and the values that control registers read as. -/
def Obligations.MoveForms : Prop :=
  ∀ (n : Nat) (dd ds : Fin 16) (x : Fin 32) (cr : Fin 11) (imm : BitVec 16) (s : State), issues s n = true →
    (runsAs (.mov n dd ds) n s 0 fun p => { p with d := mapSet p.d dd (p.dreg ds) })
    ∧ (runsAs (.ldi n dd imm) n s 0 fun p => { p with d := mapSet p.d dd (BitVec.ofInt 32 imm.toInt) })
    ∧ (runsAs (.ldih n dd imm) n s 0 fun p => { p with d := mapSet p.d dd (imm ++ (p.dreg dd).setWidth 16) })
    ∧ (x.val < 8 → runsAs (.movxTo n x ds) n s 0 fun p => { p with a := mapSet p.a x.val (p.dreg ds) })
    ∧ (8 ≤ x.val → x.val < 16 → runsAs (.movxTo n x ds) n s 0 fun p => { p with m := mapSet p.m (x.val - 8) (p.dreg ds) })
    ∧ (16 ≤ x.val → x.val < 24 →
        runsAs (.movxTo n x ds) n s 0 fun p => { p with b := mapSet p.b (x.val - 16) ((p.dreg ds).extractLsb' 2 30 ++ 0#2) })
    ∧ (24 ≤ x.val →
        runsAs (.movxTo n x ds) n s 0 fun p => { p with l := mapSet p.l (x.val - 24) (0#8 ++ (p.dreg ds).extractLsb' 2 22 ++ 0#2) })
    ∧ (runsAs (.movxFrom n dd x) n s 0 fun p =>
        { p with d := (mapSet p.d dd (if x.val < 8 then p.areg x.val else if x.val < 16 then p.mreg (x.val - 8)
            else if x.val < 24 then p.breg (x.val - 16) else p.lreg (x.val - 24))) })
    ∧ (runsAs (.movcTo n 0 ds) n s 0 fun p => { p with flags := (p.dreg ds).setWidth 4 })
    ∧ (runsAs (.movcTo n 2 ds) n s 0 fun p => { p with ctrl := (p.dreg ds).extractLsb' 1 6 })
    ∧ (runsAs (.movcTo n 3 ds) n s 0 fun p => { p with ipc := (p.dreg ds).toNat % 16384 })
    ∧ (runsAs (.movcTo n 7 ds) n s 0 fun p => { p with far := (p.dreg ds).setWidth 16 })
    ∧ (cr.val ≠ 0 → cr.val ≠ 2 → cr.val ≠ 3 → cr.val ≠ 7 → runsAs (.movcTo n cr ds) n s 0 fun p => p)
    ∧ (runsAs (.movcFrom n dd cr) n s 0 fun p => { p with d := (mapSet p.d dd
        ([p.flags.setWidth 32, p.sticky.setWidth 32, (0#25 ++ p.ctrl ++ BitVec.ofBool p.ie).setWidth 32, BitVec.ofNat 32 p.ipc,
          BitVec.ofNat 32 (mapGet tile0 s.rend.tiles (2 + n / 16)).index,
          BitVec.ofNat 32 ((mapGet tile0 s.rend.tiles (2 + n / 16)).index / 2 ^ 32), BitVec.ofNat 32 p.cycles,
          p.far.setWidth 32, BitVec.ofNat 32 n, BitVec.ofNat 32 s.time.rate, BitVec.ofNat 32 p.stack.length].getD cr.val 0)) })

/-- The accumulator instructions (R304, R305, R312): CLRA, LDA, EXT, MOVA and ADDA, with pinning and its trap. -/
def Obligations.AccumulatorForms : Prop :=
  ∀ (n : Nat) (a b : Fin 4) (dh dl dd : Fin 16) (sh : Fin 41) (s : State), issues s n = true →
    (runsAs (.clra n a) n s 0 fun p =>
      { p with acc := mapSet p.acc a.val 0, pinned := p.pinned &&& ~~~(BitVec.ofNat 4 (2 ^ a.val)) })
    ∧ (runsAs (.lda n a dh dl) n s 0 fun p =>
      { p with acc := mapSet p.acc a.val (BitVec.ofInt 72 ((p.dreg dh).toInt * 2 ^ 32 + (p.dreg dl).toNat))
               pinned := p.pinned &&& ~~~(BitVec.ofNat 4 (2 ^ a.val)) })
    ∧ (runsAs (.ext n a dd sh) n s 0 fun p => withSat p dd (((p.accv a).toInt * 2 + 2 ^ sh.val) / 2 ^ (sh.val + 1)))
    ∧ (runsAs (.mova n a dd 0) n s 0 fun p => { p with d := mapSet p.d dd ((p.accv a).extractLsb' 0 32) })
    ∧ (runsAs (.mova n a dd 1) n s 0 fun p => { p with d := mapSet p.d dd ((p.accv a).extractLsb' 32 32) })
    ∧ (runsAs (.mova n a dd 2) n s 0 fun p => { p with d := mapSet p.d dd (((p.accv a).extractLsb' 64 8).signExtend 32) })
    ∧ (let p := getCore s n
       let r := (p.accv a).toInt + (p.accv b).toInt
       (p.pinned.getLsbD a = true → runsAs (.adda n a b) n s 0 fun p => p)
       ∧ (p.pinned.getLsbD a = false → -2 ^ 71 ≤ r → r < 2 ^ 71 →
           runsAs (.adda n a b) n s 0 fun p => { p with acc := mapSet p.acc a.val (BitVec.ofInt 72 r) })
       ∧ (p.pinned.getLsbD a = false → r < -2 ^ 71 ∨ 2 ^ 71 ≤ r → p.ctrl.getLsbD a = false →
           runsAs (.adda n a b) n s 0 fun p =>
             { p with acc := mapSet p.acc a.val (if r < 0 then BitVec.ofInt 72 (-2 ^ 71) else BitVec.ofInt 72 (2 ^ 71 - 1))
                      pinned := p.pinned ||| BitVec.ofNat 4 (2 ^ a.val)
                      sticky := p.sticky ||| BitVec.ofNat 8 (2 ^ (1 + a.val)) })
       ∧ (p.pinned.getLsbD a = false → r < -2 ^ 71 ∨ 2 ^ 71 ≤ r → p.ctrl.getLsbD a = true →
           ∃ stall writes, stall ≤ 1 ∧ exec (.adda n a b) s = .next (trapped n 5 0 (setCore n { p with
             acc := mapSet p.acc a.val (if r < 0 then BitVec.ofInt 72 (-2 ^ 71) else BitVec.ofInt 72 (2 ^ 71 - 1))
             pinned := p.pinned ||| BitVec.ofNat 4 (2 ^ a.val), sticky := p.sticky ||| BitVec.ofNat 8 (2 ^ (1 + a.val))
             cycles := addCycles p.cycles (1 + stall), busy := addCycles p.busy (1 + stall), hazard := writes } s))))

/-- The control class outside a repeat (R308, R313, R314): NOP, REP, BR, CALL, RET, RETI, DBNZ, EI, DI and CLRS. The traps of R319 with causes 1, 4, 6 and 7: the trap instructions, CALL with eight entries, RET with none, an illegal word, REP with 0, and a control instruction under a repeat. -/
def Obligations.ControlAndTraps : Prop :=
  (
    ∀ (n : Nat) (s : State), issues s n = true → (getCore s n).rep = none →
      let p := getCore s n
      (runsAs (.nop n) n s 0 fun p => p)
      ∧ (∀ k : BitVec 16, k ≠ 0 → branchesTo (.repImm n k) n s 0 ((p.pc + 1) % 16384) fun p => { p with rep := some k.toNat })
      ∧ (∀ r : Fin 16, (p.dreg r).toNat % 65536 = 0 → branchesTo (.repReg n r) n s 0 ((p.pc + 2) % 16384) fun p => p)
      ∧ (∀ r : Fin 16, (p.dreg r).toNat % 65536 ≠ 0 → branchesTo (.repReg n r) n s 0 ((p.pc + 1) % 16384) fun p =>
          { p with rep := some ((p.dreg r).toNat % 65536) })
      ∧ (∀ (cc : Fin 15) (w : BitVec 14), branchHolds p cc = true → branchesTo (.br n cc w) n s 2 w.toNat fun p => p)
      ∧ (∀ (cc : Fin 15) (w : BitVec 14), branchHolds p cc = false → runsAs (.br n cc w) n s 0 fun p => p)
      ∧ (∀ w : BitVec 14, p.stack.length < 8 →
          branchesTo (.call n w) n s 2 w.toNat fun p => { p with stack := ((p.pc + 1) % 16384) :: p.stack })
      ∧ (∀ (w : Nat) (rest : List Nat), w < 16384 → p.stack = w :: rest →
          branchesTo (.ret n) n s 2 w fun p => { p with stack := rest })
      ∧ (p.ipc < 16384 → branchesTo (.reti n) n s 2 p.ipc fun p => { p with flags := p.saved, ie := true })
      ∧ (∀ (r : Fin 16) (w : BitVec 14), p.dreg r ≠ 1 → branchesTo (.dbnz n r w) n s 0 w.toNat fun p =>
          { p with d := mapSet p.d r (p.dreg r - 1) })
      ∧ (∀ (r : Fin 16) (w : BitVec 14), p.dreg r = 1 → runsAs (.dbnz n r w) n s 2 fun p => { p with d := mapSet p.d r 0 })
      ∧ (runsAs (.ei n) n s 0 fun p => { p with ie := true })
      ∧ (runsAs (.di n) n s 0 fun p => { p with ie := false })
      ∧ (∀ m : Byte, runsAs (.clrs n m) n s 0 fun p => { p with sticky := p.sticky &&& ~~~m }))
  ∧ (
    ∀ (n : Nat) (s : State), issues s n = true →
      let p := getCore s n
      (p.rep = none →
        (∀ code : Byte, exec (.trap n code) s = .next (trapped n 6 code.toNat s))
        ∧ exec (.halt n) s = .next (trapped n 7 0 s)
        ∧ (∀ w : BitVec 14, 8 ≤ p.stack.length → exec (.call n w) s = .next (trapped n 4 0 s))
        ∧ (p.stack = [] → exec (.ret n) s = .next (trapped n 4 0 s))
        ∧ exec (.repImm n 0) s = .next (trapped n 1 0 s))
      ∧ (∀ w : Word, rippleDecode n w = none → exec (.illegalInstruction n w) s = .next (trapped n 1 0 s))
      ∧ (p.rep ≠ none → ∀ (k : BitVec 16) (r : Fin 16) (cc : Fin 15) (w : BitVec 14) (m : Bool) (b : Byte),
          ∀ i ∈ [Instr.nop n, .repImm n k, .repReg n r, .br n cc w, .call n w, .ret n, .reti n, .dbnz n r w, .wait n m, .ei n,
              .di n, .clrs n b, .trap n b, .halt n],
            exec i s = .next (trapped n 1 0 s)))

/-- WAIT, the tick, interrupt entry and the end of a wait (R315 to R318). -/
def Obligations.TicksAndWaits : Prop :=
  ∀ (n : Nat) (s : State), n < s.member.cores → powered s (coreDie n) = true → (getCore s n).st = .running →
    let p := getCore s n
    let ready := p.slots.any fun e => e.2.ready
    (p.waiting = none → p.rep = none →
      (p.tickPending = true → runsAs (.wait n false) n s 0 fun p => { p with tickPending := false })
      ∧ (ready = true → runsAs (.wait n true) n s 0 fun p => p)
      ∧ (ready = false → p.tickPending = true → runsAs (.wait n true) n s 0 fun p => { p with tickPending := false })
      ∧ (∀ m : Bool, p.tickPending = false → (m && ready) = false →
          exec (.wait n m) s = .next (setCore n { p with waiting := some m, hazard := [] } s)))
    ∧ (p.tickPending = false → exec (.rippleTick n) s = .next (setCore n { p with
        tickPending := true, busyLast := p.busy, peak := max p.peak p.busy, busy := 0, cycles := 0 } s))
    ∧ (p.tickPending = true → exec (.rippleTick n) s = .next (setCore n { p with
        ovr := addCycles p.ovr 1, busyLast := p.busy, peak := max p.peak p.busy, busy := 0, cycles := 0 } s))
    ∧ (p.ie = true → p.tickPending = true → p.rep = none →
        exec (.interruptEntry n) s = .next (setCore n { p with
          ipc := if p.waiting = none then p.pc else (p.pc + 1) % 16384, saved := p.flags, ie := false, pc := 8
          tickPending := false, waiting := none, cycles := addCycles p.cycles 3, busy := addCycles p.busy 3, hazard := [] } s))
    ∧ (p.ie = false ∨ p.tickPending = false ∨ p.rep ≠ none → exec (.interruptEntry n) s = .next s)
    ∧ (∀ waited, p.waiting = some true → ready = true → exec (.waitEnd n waited) s = .next (setCore n { p with
        waiting := none, pc := (p.pc + 1) % 16384, cycles := addCycles p.cycles waited } s))
    ∧ (∀ waited m, p.waiting = some m → (m && ready) = false → p.tickPending = true → p.ie = false →
        exec (.waitEnd n waited) s = .next (setCore n { p with
          waiting := none, pc := (p.pc + 1) % 16384, cycles := addCycles p.cycles waited, tickPending := false } s))

/-- The data space of a core (R299, R300): where each address leads, what a load and a store of a pond word, a register of the core's own block and a register of the own Tarn do, and the traps of the others. LD and ST (R301, R310): the access at An as it stands, then the post-modification by Mm or by the immediate in words; the traps of R299 and of a far bus error leave the registers as they were. -/
def Obligations.DataAccesses : Prop :=
  (
    ∀ (n : Nat) (addr v : Word) (s : State),
      let p := getCore s n
      let a := addr.toNat
      (a % 4 ≠ 0 → loadWord n addr s = (.trap 2 false, s) ∧ storeWord n addr v s = (.trap 2 false, s))
      ∧ (∀ bank, a % 4 = 0 → a < 0x80000 → mapFind p.windows (a / 0x10000) = some bank →
          let at_ := pondAddr (coreDie n) bank (a % 0x10000)
          ((getBank s (coreDie n) bank).pwr = 0 →
            (s.hw.ponds.bad.contains at_ = false → loadWord n addr s = (.done (readWord s at_) 0 false false, s))
            ∧ (s.hw.ponds.bad.contains at_ = true →
                loadWord n addr s = (.done 0 2 false true, { s with hw.ponds.bad := s.hw.ponds.bad.erase at_ }))
            ∧ storeWord n addr v s = (.done 0 0 false false, mendWords at_ 4 (writeWord at_ v s)))
          ∧ ((getBank s (coreDie n) bank).pwr = 1 →
            (s.hw.ponds.bad.contains at_ = false →
              loadWord n addr s = (.done (readWord s at_) 64 false false, wakeBank (coreDie n) bank s))
            ∧ storeWord n addr v s = (.done 0 64 false false, mendWords at_ 4 (writeWord at_ v (wakeBank (coreDie n) bank s))))
          ∧ ((getBank s (coreDie n) bank).pwr = 2 →
            loadWord n addr s = (.done 0 0 true false, s) ∧ storeWord n addr v s = (.done 0 0 true false, s)))
      ∧ (a % 4 = 0 → a < 0x80000 → mapFind p.windows (a / 0x10000) = none →
          loadWord n addr s = (.trap 3 false, s) ∧ storeWord n addr v s = (.trap 3 false, s))
      ∧ (a % 4 = 0 → 0x100000 ≤ a → a < 0x101000 →
          loadWord n addr s = (.done (BitVec.ofNat 32 (rplReg s n (a - 0x100000))) 0 false false, s)
          ∧ storeWord n addr v s = (.done 0 0 false false, rplWrite n (a - 0x100000) v s))
      ∧ (a % 4 = 0 → 0x400000 ≤ a → a < 0x500000 →
          (∃ extra, extra < 20 ∧ loadWord n addr s = (.done (regRead s (coreDie n) a) extra false false, s))
          ∧ storeWord n addr v s = (.trap 3 false, s))
      ∧ (a % 4 = 0 → 0x80000 ≤ a → a < 0x100000 → loadWord n addr s = (.trap 3 false, s) ∧ storeWord n addr v s = (.trap 3 false, s))
      ∧ (a % 4 = 0 → 0x101000 ≤ a → a < 0x400000 → loadWord n addr s = (.trap 3 false, s) ∧ storeWord n addr v s = (.trap 3 false, s))
      ∧ (a % 4 = 0 → 0x500000 ≤ a → a < 0x80000000 → loadWord n addr s = (.trap 3 false, s) ∧ storeWord n addr v s = (.trap 3 false, s))
      ∧ (a % 4 = 0 → 0x81000000 ≤ a → loadWord n addr s = (.trap 3 false, s) ∧ storeWord n addr v s = (.trap 3 false, s))
      ∧ (a % 4 = 0 → 0x80000000 ≤ a → a < 0x81000000 →
          loadWord n addr s = farDone n (p.far.toNat * 2 ^ 24 + a % 2 ^ 24) s (busRead (.ripple n) (p.far.toNat * 2 ^ 24 + a % 2 ^ 24) 4 s)
          ∧ storeWord n addr v s = farDone n (p.far.toNat * 2 ^ 24 + a % 2 ^ 24) s
              (busWrite (.ripple n) (p.far.toNat * 2 ^ 24 + a % 2 ^ 24) 4 v s)))
  ∧ (
    ∀ (n : Nat) (dd : Fin 16) (an : Fin 8) (md : PostMod) (s t : State), issues s n = true →
      let p := getCore s n
      let offset : Core → Int := fun c => match md with
        | .modifier m => (c.mreg m).toInt
        | .imm k => 4 * k.toInt
      let moved : Core → Core := fun c =>
        { c with a := mapSet c.a an (postModified (c.areg an) (c.breg an) (c.lreg an) (offset c)) }
      (∀ v extra berr perr, loadWord n (p.areg an) s = (.done v extra berr perr, t) →
        (perr && (getCore t n).ctrl.getLsbD 5) = false →
        ∃ stall writes, stall ≤ 1 ∧ exec (.ld n dd an md) s = .next (setCore n { moved (getCore t n) with
          d := mapSet (getCore t n).d dd v
          sticky := (getCore t n).sticky ||| (if berr then 0x20#8 else 0) ||| (if perr then 0x40#8 else 0)
          pc := (getCore t n).nextWord, rep := (getCore t n).nextRep
          cycles := addCycles (getCore t n).cycles (1 + stall + extra), busy := addCycles (getCore t n).busy (1 + stall + extra)
          hazard := writes } t))
      ∧ (∀ v extra berr, loadWord n (p.areg an) s = (.done v extra berr true, t) → (getCore t n).ctrl.getLsbD 5 = true →
        ∃ stall writes, stall ≤ 1 ∧ exec (.ld n dd an md) s = .next (trapped n 9 0 (setCore n { moved (getCore t n) with
          d := mapSet (getCore t n).d dd v, sticky := (getCore t n).sticky ||| (if berr then 0x20#8 else 0) ||| 0x40#8
          cycles := addCycles (getCore t n).cycles (1 + stall + extra), busy := addCycles (getCore t n).busy (1 + stall + extra)
          hazard := writes } t)))
      ∧ (∀ v extra berr perr, storeWord n (p.areg an) (p.dreg dd) s = (.done v extra berr perr, t) →
        ∃ stall writes, stall ≤ 1 ∧ exec (.st n dd an md) s = .next (setCore n { moved (getCore t n) with
          sticky := (getCore t n).sticky ||| (if berr then 0x20#8 else 0)
          pc := (getCore t n).nextWord, rep := (getCore t n).nextRep
          cycles := addCycles (getCore t n).cycles (1 + stall + extra), busy := addCycles (getCore t n).busy (1 + stall + extra)
          hazard := writes } t))
      ∧ (∀ cause, loadWord n (p.areg an) s = (.trap cause false, t) → exec (.ld n dd an md) s = .next (trapped n cause 0 t))
      ∧ (∀ cause, storeWord n (p.areg an) (p.dreg dd) s = (.trap cause false, t) →
          exec (.st n dd an md) s = .next (trapped n cause 0 t))
      ∧ (∀ cause, loadWord n (p.areg an) s = (.trap cause true, t) → exec (.ld n dd an md) s =
          .next (trapped n cause 0 (setCore n { getCore t n with sticky := (getCore t n).sticky ||| 0x20#8 } t)))
      ∧ (∀ cause, storeWord n (p.areg an) (p.dreg dd) s = (.trap cause true, t) → exec (.st n dd an md) s =
          .next (trapped n cause 0 (setCore n { getCore t n with sticky := (getCore t n).sticky ||| 0x20#8 } t))))

/-- MAC, MSU, MPY and MACU (R303, R304, R311): Ds1 and Ds2 as they stand before the parallel loads; the exact product added to, subtracted from or put in place of the accumulator; pinning outside 72 bits, and the trap of a pin and of a load. The parallel loads (R311): none, one or two in order, each a load of the data space; an address that none may reach traps before any effect. -/
def Obligations.MacInstructions : Prop :=
  (
    ∀ (n : Nat) (a : Fin 4) (x y : Fin 16) (p0 p1 : Option (Fin 8 × Fin 4)) (s t : State) (ld : Loaded), issues s n = true →
      let p := getCore s n
      let ls := parallelLoads p0 p1
      badLoad p ls = none → runLoads n p ls s = (ld, t) → ld.trap = none →
      let q : Core := { afterLoads (getCore t n) ls ld.vals with
        sticky := (getCore t n).sticky ||| (if ld.berr then 0x20#8 else 0#8) ||| (if ld.perr then 0x40#8 else 0#8)
        conflict := if sameBank (getCore t n) ls then addCycles (getCore t n).conflict 1 else (getCore t n).conflict }
      let spent := fun (r : Core) (stall : Nat) (writes : List Written) => ({ r with
        cycles := addCycles q.cycles (1 + stall + ld.extra + flag (sameBank (getCore t n) ls))
        busy := addCycles q.busy (1 + stall + ld.extra + flag (sameBank (getCore t n) ls)), hazard := writes } : Core)
      let pinTraps := fun (i : Instr) (r : Core) => ∃ stall writes, stall ≤ 1 ∧
        exec i s = .next (trapped n 5 0 (setCore n (spent r stall writes) t))
      let leaves := fun (i : Instr) (r : Core) => ∃ stall writes, stall ≤ 1 ∧
        exec i s = .next (if ld.perr && (getCore t n).ctrl.getLsbD 5 then trapped n 9 0 (setCore n (spent r stall writes) t)
          else setCore n { spent r stall writes with pc := (getCore t n).nextWord, rep := (getCore t n).nextRep } t)
      let sums := fun (i : Instr) (r : Int) =>
        (q.pinned.getLsbD a = true → leaves i q)
        ∧ (q.pinned.getLsbD a = false → -2 ^ 71 ≤ r → r < 2 ^ 71 → leaves i { q with acc := mapSet q.acc a.val (BitVec.ofInt 72 r) })
        ∧ (q.pinned.getLsbD a = false → r < -2 ^ 71 ∨ 2 ^ 71 ≤ r →
            let pins : Core := { q with
              acc := mapSet q.acc a.val (if r < 0 then BitVec.ofInt 72 (-2 ^ 71) else BitVec.ofInt 72 (2 ^ 71 - 1))
              pinned := q.pinned ||| BitVec.ofNat 4 (2 ^ a.val), sticky := q.sticky ||| BitVec.ofNat 8 (2 ^ (1 + a.val)) }
            if q.ctrl.getLsbD a then pinTraps i pins else leaves i pins)
      sums (.mac n a x y p0 p1) ((p.accv a).toInt + (p.dreg x).toInt * (p.dreg y).toInt)
      ∧ sums (.msu n a x y p0 p1) ((p.accv a).toInt - (p.dreg x).toInt * (p.dreg y).toInt)
      ∧ sums (.macu n a x y p0 p1) ((p.accv a).toInt + (p.dreg x).toNat * (p.dreg y).toInt)
      ∧ leaves (.mpy n a x y p0 p1) { q with
          acc := mapSet q.acc a.val (BitVec.ofInt 72 ((p.dreg x).toInt * (p.dreg y).toInt))
          pinned := q.pinned &&& ~~~(BitVec.ofNat 4 (2 ^ a.val)) })
  ∧ (
    ∀ (n : Nat) (c : Core) (d0 d1 : Fin 8) (a0 a1 : Fin 4) (s t u : State) (v0 v1 : Word) (e0 e1 : Nat) (b0 b1 q0 q1 : Bool),
      runLoads n c (parallelLoads none none) s = ({ trap := none, vals := [], extra := 0, berr := false, perr := false }, s)
      ∧ (loadWord n (c.areg a0) s = (.done v0 e0 b0 q0, t) →
          runLoads n c (parallelLoads (some (d0, a0)) none) s =
            ({ trap := none, vals := [(d0.val, v0)], extra := e0, berr := b0, perr := q0 }, t)
          ∧ (loadWord n (c.areg (4 + a1.val)) t = (.done v1 e1 b1 q1, u) →
              runLoads n c (parallelLoads (some (d0, a0)) (some (d1, a1))) s =
                ({ trap := none, vals := [(d0.val, v0), (8 + d1.val, v1)], extra := e0 + e1, berr := b0 || b1, perr := q0 || q1 }, u)))
      ∧ (loadWord n (c.areg (4 + a1.val)) s = (.done v1 e1 b1 q1, t) →
          runLoads n c (parallelLoads none (some (d1, a1))) s =
            ({ trap := none, vals := [(8 + d1.val, v1)], extra := e1, berr := b1, perr := q1 }, t))
      ∧ (∀ cause b, loadWord n (c.areg a0) s = (.trap cause b, t) →
          (runLoads n c (parallelLoads (some (d0, a0)) none) s).1.trap = some (cause, b)
          ∧ (runLoads n c (parallelLoads (some (d0, a0)) (some (d1, a1))) s).1.trap = some (cause, b))
      ∧ (∀ (a : Fin 4) (x y : Fin 16) (p0 p1 : Option (Fin 8 × Fin 4)) (cause : Nat), issues s n = true →
          badLoad (getCore s n) (parallelLoads p0 p1) = some cause →
          ∀ i ∈ [Instr.mac n a x y p0 p1, .msu n a x y p0 p1, .mpy n a x y p0 p1, .macu n a x y p0 p1],
            exec i s = .next (trapped n cause 0 s)))

/-- On an empty queue the block idles: time moves on by 10 cycles and nothing else changes but the running PTP clock (the model's choice of a tick, log entry 3). -/
def Obligations.IdleOnEmptyQueue : Prop :=
  ∀ s : State, s.pending = [] → ∃ t, step s = .next t ∧ t.now = s.now + 10 ∧ t.hw = s.hw ∧ t.sys = s.sys ∧ t.msg = s.msg
    ∧ t.rend = s.rend ∧ t.chain = s.chain ∧ t.cores = s.cores ∧ t.route = s.route ∧ t.net = s.net ∧ t.outs = s.outs
    ∧ t.wire = s.wire ∧ t.bus = s.bus ∧ t.pending = [] ∧ t.time.index = s.time.index ∧ t.time.rate = s.time.rate

/-- The only commands that a step stops on: an access of a size that no bus carries faults, and a core debug instruction of the test access port with its enable granted is refused, the debug unit having no stated behaviour (R594; log entry 4). Every other command goes on. -/
def Obligations.WhatCanStop : Prop :=
  ∀ (c : Instr) (s : State),
    (∀ r, exec c s = .refused r → r = .debugUnit ∧ c = .jtagCoreDebug)
    ∧ (∀ f, exec c s = .fault f → f = .illFormedCommand
        ∧ ∃ (m : Master) (size : Nat), size ≠ 1 ∧ size ≠ 2 ∧ size ≠ 4
          ∧ ((∃ a v, c = .registerWrite m a size v) ∨ (∃ n off v, c = .mbxInDataWrite m n off size v)
            ∨ (∃ n, c = .mbxInCommitRead m n size) ∨ (∃ n, c = .mbxOutPop m n size) ∨ (∃ d n, c = .lockRead m d n size)
            ∨ (∃ p, c = .ptpTsqSeqRead m p size)))

/-- The response (R129, R131, R147): its 16 header bytes in R129's layout with RESP set, the request's version, sequence and flow, the payload's length, sender 0x8000 and the status word, FIELD being present from version 3.2; it is queued for the request's destination and nothing else changes. A request with NORESP done with status OK leaves no response; it is then no longer outstanding (R130, R134). A refusal is sent at the lower of the request's version and the negotiated one (R147), and changes nothing but the queue of its destination (R132). -/
def Obligations.Responses : Prop :=
  (
    ∀ (rq : Request) (op : Nat) (body : List Byte) (t : State), rq.flags.testBit 2 = false →
      t.msg.ncp.discarding.contains (destKey rq, rq.seq) = false →
      answered rq op body t =
        { t with msg.ncp.dests := mapSet t.msg.ncp.dests (destKey rq) { getDest t (destKey rq) with
            queue := (getDest t (destKey rq)).queue ++ [{
              event := false, seq := rq.seq, opcode := op
              bytes := bytesLE 2 op ++ [1] ++ bytesLE 1 rq.version ++ bytesLE 2 rq.seq ++ bytesLE 2 body.length
                ++ [0x00, 0x80] ++ bytesLE 2 rq.flow ++ [0, 0] ++ (if 0x32 ≤ rq.version then [0xFF, 0x03] else [0, 0]) ++ body }] } })
  ∧ (
    ∀ (rq : Request) (op : Nat) (body : List Byte) (t : State), rq.flags.testBit 2 = true →
      t.msg.ncp.discarding.contains (destKey rq, rq.seq) = false →
      answered rq op body t = { t with msg.ncp.outstanding :=
        (t.msg.ncp.outstanding.eraseP fun o => o.dest == destKey rq && o.seq == rq.seq) })
  ∧ (
    ∀ (rq : Request) (op code reason field : Nat) (t : State), code ≠ codeOk → code ≠ codeClamped →
      t.msg.ncp.discarding.contains (destKey rq, rq.seq) = false →
      let ver := min rq.version (getDest t (destKey rq)).version
      respond rq op (refuse code reason field t) t =
        { t with msg.ncp.dests := mapSet t.msg.ncp.dests (destKey rq) { getDest t (destKey rq) with
            queue := (getDest t (destKey rq)).queue ++ [{
              event := false, seq := rq.seq, opcode := op
              bytes := bytesLE 2 op ++ [1] ++ bytesLE 1 ver ++ bytesLE 2 rq.seq ++ [0, 0, 0x00, 0x80] ++ bytesLE 2 rq.flow
                ++ bytesLE 4 (code + reason * 256 + (if 0x32 ≤ ver then field * 65536 else 0)) }] } })

/-- The refusals that come before a message's own rules, in the model's order (log entry 12): the version (R147), permission (R152), BUSY before `sys.ready` (R61), outside RUN with REASON 0x10 (R560), during a rate change with REASON 0x11 (R596), a staged request during a commit (R56), and BAD_ARG with the offset of the first missing field (R149). Each changes nothing but the queue that takes the response. -/
def Obligations.RefusalsBeforeServing : Prop :=
  ∀ (op : NcpOp) (rq : Request) (s : State), nerrisUp s = true →
    let refusing := fun code reason field => serve op rq s = respond rq op.opcode (refuse code reason field s) s
    let high := op.opcode ≠ 0 ∧ negotiated s rq < rq.version
    let low := op.opcode ≠ 0 ∧ rq.version < opVersion op.opcode
    (high → refusing codeBadVersion (negotiated s rq) noField)
    ∧ (¬ high → low → refusing codeBadVersion (opVersion op.opcode) noField)
    ∧ (¬ high → ¬ low →
      (mayRequest rq.sender op.opcode rq.payload = false → refusing codeDenied 0 noField)
      ∧ (mayRequest rq.sender op.opcode rq.payload = true →
        (partReady s = false → earlyOp op.opcode = false → refusing codeBusy 0 noField)
        ∧ (partReady s = true →
          (s.sys.ao.power ≠ .run → runOnly op.opcode (op.staged rq) = true → refusing codeBusy 0x10 noField)
          ∧ (s.sys.ao.power = .run →
            (s.msg.ncp.rateChange.isSome = true → timelineOnly op.opcode (op.staged rq) = true → refusing codeBusy 0x11 noField)
            ∧ (s.msg.ncp.rateChange = none →
              (s.msg.commit.isSome = true → op.staged rq = true → refusing codeBusy 0 noField)
              ∧ (s.msg.commit = none → s.sys.red.proving = none → ∀ f,
                  firstMissing (op.layout rq.version) 0 rq.payload.length = some f → refusing codeBadArg 0 f))))))

/-- Events (R138 to R141, R147) as one destination sees them: a class that is masked, or an opcode newer than the destination's version, is neither queued nor numbered; any other takes the next number, and is queued with its prefix where fewer than 256 events wait, discarded where 256 do; for a host sender whose doorbell mask has the class, DBL_HOST takes its bit. Settings on record (R65): one that is in force replaces the record that set the same thing and is noted for the journal; one that is staged waits apart. -/
def Obligations.EventsAndRecords : Prop :=
  (
    ∀ (cls die op flow : Nat) (fields : List Byte) (s : State) (k : Nat),
      let d := getDest s k
      let pay := bytesLE 4 d.nextEv ++ bytesLE 1 cls ++ bytesLE 1 die ++ [0, 0] ++ bytesLE 8 s.time.index ++ fields
      let m : OutMsg := { event := true, seq := d.nextEv, opcode := op, bytes :=
        (bytesLE 2 op ++ [2] ++ bytesLE 1 d.version ++ bytesLE 2 (d.nextEv % 65536) ++ bytesLE 2 pay.length ++ [0x00, 0x80]
          ++ bytesLE 2 flow ++ [0, 0, 0, 0] ++ pay) }
      let next := if d.nextEv = 0xFFFFFFFF then 1 else d.nextEv + 1
      let rings := fun (t : State) => if (k = 0x0001 ∨ k = 0x0010) ∧ d.dbMask.testBit cls then
          withVectors (fun t => { t with msg.mbx.dblHost := t.msg.mbx.dblHost ||| BitVec.ofNat 22 (2 ^ cls) }) t else t
      (d.evMask.testBit cls = false → eventTo cls die op flow fields s k = s)
      ∧ (d.version < opVersion op → eventTo cls die op flow fields s k = s)
      ∧ (d.evMask.testBit cls = true → opVersion op ≤ d.version → (d.queue.filter (·.event)).length < 256 →
          eventTo cls die op flow fields s k = rings { s with
            msg.ncp.dests := mapSet s.msg.ncp.dests k { d with nextEv := next, queue := d.queue ++ [m] }
            msg.ncp.eventLog := (m :: s.msg.ncp.eventLog).take 1024 })
      ∧ (d.evMask.testBit cls = true → opVersion op ≤ d.version → 256 ≤ (d.queue.filter (·.event)).length →
          eventTo cls die op flow fields s k = rings { s with msg.ncp.dests := mapSet s.msg.ncp.dests k { d with nextEv := next } }))
  ∧ (
    ∀ (op : Nat) (key : List Byte) (rq : Request) (s : State),
      let r : Rec := { layer := 1, opcode := op, flow := rq.flow, key := key, payload := rq.payload }
      recorded false op key rq s = { s with
        msg.ncp.records := (s.msg.ncp.records.filter fun q => !(q.opcode == op && q.flow == rq.flow && q.key == key)) ++ [r]
        sys.red.dirty := (s.sys.red.dirty.filter fun q => !(q.opcode == op && q.flow == rq.flow && q.key == key)) ++ [r] }
      ∧ recorded true op key rq s = { s with
        msg.ncp.stagedRecs := (s.msg.ncp.stagedRecs.filter fun q => !(q.opcode == op && q.flow == rq.flow && q.key == key)) ++ [r] })

/-- The sys group (R145, R146, R153): `sys.hello` with a version both sides know, `sys.status`, `sys.reset`, `sys.event.mask`, `sys.ping`; and `pwr.status` (R166), whose power is not stated. -/
def Obligations.SystemMessages : Prop :=
  ∀ (rq : Request) (s : State),
    (served sysHelloOp rq s = true → ∀ v, v = min 0x32 (byteAt rq.payload 1) → 0x10 ≤ v → byteAt rq.payload 0 ≤ v →
      let t := setDest (destKey rq) { getDest s (destKey rq) with version := v } s
      exec (.sysHello rq) s = .next (respondAt v rq 0 (replyOk (helloPayload t v (destKey rq)) t) t)
      ∧ (helloPayload t v (destKey rq)).take 8 = bytesLE 1 v ++ [0x10, 0x32] ++ bytesLE 1 s.sys.spring.stage
          ++ bytesLE 1 s.sys.spring.bootErr ++ bytesLE 1 s.member.number ++ bytesLE 1 (activeShore s) ++ bytesLE 1 s.time.rate)
    ∧ (served sysHelloOp rq s = true → min 0x32 (byteAt rq.payload 1) < max 0x10 (byteAt rq.payload 0) →
      exec (.sysHello rq) s = .next (respondAt (getDest s (destKey rq)).version rq 0
        { refuse codeBadVersion 0x32 noField s with body := helloPayload s 0 (destKey rq) } s))
    ∧ (served sysStatusOp rq s = true → exec (.sysStatus rq) s = .next (answered rq 0x0002
        (bytesLE 8 s.time.index ++ bytesLE 1 s.time.rate ++ bytesLE 1 s.sys.ao.power.code ++ bytesLE 1 s.time.mclk.ref
          ++ bytesLE 1 (flag (s.time.mclk.st == 1)) ++ dieTemps s) s))
    ∧ (served sysResetOp rq s = true → byteAt rq.payload 0 = 1 → byteAt rq.payload 2 = 0 →
        exec (.sysReset rq) s = .next (answered rq 0x0004 [] { s with msg.ncp.resetDue := some (1, byteAt rq.payload 1, 0) }))
    ∧ (served sysResetOp rq s = true → byteAt rq.payload 0 = 0 → byteAt rq.payload 2 = 0 → s.msg.commit = none →
        exec (.sysReset rq) s = .next (answered rq 0x0004 [] { s with msg.ncp.resetDue := some (0, byteAt rq.payload 1, 0) }))
    ∧ (served sysResetOp rq s = true → byteAt rq.payload 0 = 2 → byteAt rq.payload 2 = 0 → s.msg.commit = none →
        s.member.has (byteAt rq.payload 1) = true → 2 ≤ byteAt rq.payload 1 →
        exec (.sysReset rq) s = .next (answered rq 0x0004 [] { s with msg.ncp.resetDue := some (2, byteAt rq.payload 1, 0) }))
    ∧ (served sysResetOp rq s = true → 3 ≤ byteAt rq.payload 0 →
        exec (.sysReset rq) s = .next (refusedWith rq 0x0004 codeBadArg 0 s))
    ∧ (served sysEventMaskOp rq s = true →
        let ev := fieldLE rq.payload 0 4 % 2 ^ 22
        let db := fieldLE rq.payload 4 4 % 2 ^ 22
        exec (.sysEventMask rq) s = .next (answered rq 0x0006 (bytesLE 4 ev ++ bytesLE 4 db)
          (setDest (destKey rq) { getDest s (destKey rq) with evMask := ev, dbMask := db } s)))
    ∧ (served sysPingOp rq s = true → exec (.sysPing rq) s = .next (answered rq 0x0007 rq.payload s))
    ∧ (served pwrStatusOp rq s = true → ∃ power, exec (.pwrStatus rq) s = .next (answered rq 0x0F01
        (bytesLE 1 s.sys.ao.power.code ++ [0, 0, 0] ++ bytesLE 4 power ++ dieTemps s) s))

/-- `cfg.commit` accepted (R53 to R56): with nothing staged it is answered at once with C and a die mask of 0; with something staged the commit waits and a prepare that names C goes to the active Shore and every present Tarn and Outlet. `cfg.commit` turned away (R55, R56, R155): BUSY while one is pending, BAD_ARG for an index too far ahead, LATE with the index less than 64 samples away or, with a geometry setting staged, less than U + 64 (FIELD 0 of LATE is the model's choice, log entry 14). -/
def Obligations.CommitRequests : Prop :=
  (
    ∀ (rq : Request) (s : State), served cfgCommitOp rq s = true → s.msg.commit = none →
      let c := fieldLE rq.payload 0 8
      let i := s.time.index
      c ≤ i + 2 ^ 31 → i + 64 ≤ c → (geometryStaged s = true → i + commitU s + 64 ≤ c) →
      (stagedDies s = [] → exec (.cfgCommit rq) s = .next (answered rq 0x0100 (bytesLE 8 c ++ [0]) s))
      ∧ (stagedDies s ≠ [] → ∃ mesh, exec (.cfgCommit rq) s = .next { s with
          msg.commit := (some { c := c, request := rq, dies := activeShore s :: (s.member.tarnDies ++ s.member.outletDies), u := commitU s
                                geometry := geometryStaged s, prepared := [], replies := [], received := [], armSent := false, armed := []
                                reported := [], shore := 0, mesh := mesh })
          wire := (((activeShore s :: (s.member.tarnDies ++ s.member.outletDies)).map fun d => Emission.prepare d c).reverse ++ s.wire) }))
  ∧ (
    ∀ (rq : Request) (s : State), served cfgCommitOp rq s = true →
      let c := fieldLE rq.payload 0 8
      let i := s.time.index
      (s.msg.commit.isSome = true → exec (.cfgCommit rq) s = .next (refusedWith rq 0x0100 codeBusy noField s))
      ∧ (s.msg.commit = none → i + 2 ^ 31 < c → exec (.cfgCommit rq) s = .next (refusedWith rq 0x0100 codeBadArg 0 s))
      ∧ (s.msg.commit = none → c < i + 64 → exec (.cfgCommit rq) s = .next (refusedWith rq 0x0100 codeLate 0 s))
      ∧ (s.msg.commit = none → geometryStaged s = true → c < i + commitU s + 64 → c ≤ i + 2 ^ 31 →
          exec (.cfgCommit rq) s = .next (refusedWith rq 0x0100 codeLate 0 s)))

/-- The phases of a commit (R54, R57, R59): a die of the commit answers its prepare with its readiness; the last reply brings the arms, or the cancellation when a die is not ready or the deadline of R54 is past; a die armed in time holds C; one armed too late is a commit split, fatal with cause 6; the last swap report is answered with C and the mask of the dies. What arming and cancelling are (R54): the arm goes to every die of the commit after a batch of the journal; a cancellation ends the commit, tells every die, swaps nothing, and answers ABORTED. `cfg.staged` names the dies whose shadow banks differ from their active ones, and `cfg.discard` reloads every shadow bank from its active bank (R155). -/
def Obligations.CommitRuns : Prop :=
  (
    ∀ (die : Nat) (c : Commit) (s : State), s.msg.commit = some c →
      (c.dies.contains die = true → c.prepared.contains die = false → dieAnswers s die = true → isTarn die = false →
        exec (.commitPrepare die) s = .next { s with
          msg.commit := some { c with prepared := c.prepared ++ [die], replies := mapSet c.replies die (notReady s die) } })
      ∧ (c.dies.contains die = true → c.prepared.contains die = false → dieAnswers s die = true → isTarn die = true → die ≠ 2 →
        let t := setTile die { getTile s die with stage := 0 } s
        exec (.commitPrepare die) s = .next { t with
          msg.commit := some { c with prepared := c.prepared ++ [die], replies := mapSet c.replies die (notReady t die) } })
      ∧ (c.dies.contains 2 = true → c.prepared.contains 2 = false → dieAnswers s 2 = true →
        let t := s.member.tarnDies.foldl (fun s d => copyShadow d s) (setTile 2 { getTile s 2 with stage := 0 } s)
        exec (.commitPrepare 2) s = .next { t with
          msg.commit := some { c with prepared := c.prepared ++ [2], replies := mapSet c.replies 2 (notReady t 2) } })
      ∧ (nerrisUp s = true → c.armSent = false → c.prepared.contains die = true → c.received.contains die = false →
        let c' := { c with received := c.received ++ [die] }
        ((c.dies.all fun d => c'.received.contains d) = false →
          exec (.commitReadyReply die) s = .next { s with msg.commit := some c' })
        ∧ ((c.dies.all fun d => c'.received.contains d) = true →
          ((s.time.index ≤ c.c - 16 - (if c.geometry then c.u else 0) ∧ (c.replies.all fun e => e.2.isNone) = true) →
            exec (.commitReadyReply die) s = .next (sendArms c' s))
          ∧ ((c.c - 16 - (if c.geometry then c.u else 0) < s.time.index ∨ (c.replies.all fun e => e.2.isNone) = false) →
            exec (.commitReadyReply die) s = .next (cancelCommit c' s))))
      ∧ (nerrisUp s = true → c.armSent = false → c.c - 16 - (if c.geometry then c.u else 0) ≤ s.time.index →
          exec .commitArmDeadline s = .next (cancelCommit c s))
      ∧ (c.armSent = true → c.dies.contains die = true → c.armed.contains die = false → powered s die = true →
        let t := { s with msg.commit := some { c with armed := c.armed ++ [die] } }
        (armLate s die c.c = false → isTarn die = true →
          exec (.commitArm die) s = .next (setTile die { getTile s die with armed := some c.c, stage := 0 } t))
        ∧ (armLate s die c.c = false → isTarn die = false → exec (.commitArm die) s = .next t)
        ∧ (armLate s die c.c = true → exec (.commitArm die) s = .next (fatal 6 die s)))
      ∧ (nerrisUp s = true → c.dies.contains die = true → c.reported.contains die = false → hasSwapped s c die = true →
        let c' := { c with reported := c.reported ++ [die] }
        ((c.dies.all fun d => c'.reported.contains d) = false → exec (.commitSwapReport die) s = .next { s with msg.commit := some c' })
        ∧ ((c.dies.all fun d => c'.reported.contains d) = true → c.mesh = false →
          exec (.commitSwapReport die) s = .next (answered c.request 0x0100 (bytesLE 8 c.c ++ bytesLE 1 (maskOf c.dies))
            { s with msg.commit := none, chain.insertStage := [] }))
        ∧ ((c.dies.all fun d => c'.reported.contains d) = true → c.mesh = true →
          exec (.commitSwapReport die) s = .next (answered c.request 0x0100 (bytesLE 8 c.c ++ bytesLE 1 (maskOf c.dies))
            (meshEvent { s with msg.commit := none, chain.insertStage := [] })))))
  ∧ (
    ∀ (c : Commit) (s : State),
      (∃ reason, cancelCommit c s =
        (let t := { s with msg.commit := none, wire := ((c.dies.map fun d => Emission.cancel d c.c).reverse ++ s.wire) }
         respond c.request 0x0100 (refuse codeAborted reason noField t) t))
      ∧ (s.rend.geo.period = s.rend.geoStage.period →
        sendArms c s = (let t := writeJournal { s with msg.commit := some { c with armSent := true } }
          { t with wire := (c.dies.map fun d => Emission.arm d c.c).reverse ++ t.wire })))
  ∧ (
    ∀ (rq : Request) (s : State),
      (served cfgStagedOp rq s = true →
        exec (.cfgStaged rq) s = .next (answered rq 0x0105 (bytesLE 1 (maskOf (stagedDies s))) s))
      ∧ (served cfgDiscardOp rq s = true → s.msg.commit = none →
        exec (.cfgDiscard rq) s = .next (answered rq 0x0101 [] (discardStaged s)))
      ∧ (let t := discardStaged s
         t.chain.stage = t.chain.sets ∧ t.chain.modelStage = t.chain.models ∧ t.chain.insertStage = [] ∧ t.rend.geoStage = t.rend.geo
         ∧ t.rend.bedStage = t.rend.beds ∧ t.rend.zoneStage = t.rend.zones ∧ t.msg.ncp.stagedRecs = [] ∧ t.chain.sets = s.chain.sets
         ∧ t.rend.geo = s.rend.geo ∧ t.hw = s.hw ∧ t.sys = s.sys ∧ t.time = s.time))

/-- `cfg.rate` (R155, R596) is accepted for any rate code to 5 when no commit is pending: the rate change begins with every Outlet held, its response to come; 64 samples of mute run first where a timeline runs (65 egress ticks from the acceptance, the model's count, log entry 91). A rate code above 5 or an MCLK above 1 is BAD_ARG. RATE_RESTART (R155, R185, R287, R596): the change that was accepted is in force and over; objects and chain settings that the rate cannot hold are released, the Outlets leave their hold, rendering restarts where the part is in RUN, and the response gives its index. -/
def Obligations.RateChanges : Prop :=
  (
    ∀ (rq : Request) (s : State), served cfgRateOp rq s = true →
      let rate := byteAt rq.payload 0
      let mclk := byteAt rq.payload 1
      (rate ≤ 5 → mclk ≤ 1 → s.msg.commit = none → ∃ held,
        exec (.cfgRate rq) s = .next { s with
          msg.ncp.rateChange := (some { request := rq, rate := rate, mclk512 := mclk == 1, mute := if s.time.rendering then 65 else 0 })
          outs.outlets := held }
        ∧ ∀ d ∈ s.member.outletDies, (mapGet outlet0 held d).rate = true)
      ∧ (5 < rate → exec (.cfgRate rq) s = .next (refusedWith rq 0x0104 codeBadArg 0 s))
      ∧ (rate ≤ 5 → 1 < mclk → exec (.cfgRate rq) s = .next (refusedWith rq 0x0104 codeBadArg 1 s))
      ∧ (rate ≤ 5 → mclk ≤ 1 → s.msg.commit.isSome = true → exec (.cfgRate rq) s = .next (refusedWith rq 0x0104 codeBusy noField s)))
  ∧ (
    ∀ (r : RateChange) (s : State), s.msg.ncp.rateChange = some r → nerrisUp s = true →
      let a := setFreshIndex (takeRate r.rate r.mclk512 { stopTimeline s with msg.ncp.rateChange := none })
      let b := (List.range a.member.slices).foldl (fun s sl => shedObjects sl (sliceCount s sl) s) (restartObjects a)
      let c := b.member.tarnDies.foldl (fun s d => rateChain s d) b
      let d := noteSetting false { layer := 1, opcode := 0x0104, flow := r.request.flow, key := [], payload := r.request.payload.take 2 }
        (releaseRateHold (clearSoundKeepHeat c))
      let t := if d.sys.ao.power = .run then startTimeline false d else d
      exec .rateRestart s = .next (answered r.request 0x0104 (bytesLE 8 t.time.index) t)
      ∧ a.time.rate = r.rate ∧ a.msg.ncp.rateChange = none)

/-- The slots (R76, R77, R79, R81, R153): `sys.image` reports both; `cfg.save` writes the other slot than the one booted, with the next generation, its response to come; BUSY while one runs, DENIED where the image does not allow it. The end of a slot's write (R80, R82): the slot is programmed and committed and the response names it and its generation, with `cfg.image` before it; a flash error is answered FAULT and a write of more than 20 s TIMEOUT, the slot left without a commit record. Recovery (R62, R84): the responder stages a chunk of an image that follows what it holds, the staged bytes counted, and answers OK; other senders are DENIED, a chunk out of place is BAD_ARG; and it answers `sys.hello` BUSY, or FAULT after a stop, any other message BAD_OPCODE. -/
def Obligations.ImagesAndRecovery : Prop :=
  (
    ∀ (rq : Request) (s : State),
      (served sysImageOp rq s = true → exec (.sysImage rq) s = .next (answered rq 0x0003
        (slotEntryBytes s 0 ++ slotEntryBytes s 1 ++ bytesLE 1 (s.sys.spring.slot.getD 0)
          ++ bytesLE 1 (flag s.sys.spring.fallback + 2 * flag s.sys.spring.overlay) ++ bytesLE 1 (rollbackCount s) ++ [0]) s))
      ∧ (served cfgSaveOp rq s = true → s.sys.spring.cryptoErr = false → s.sys.spring.selftesting = none → ∀ k, s.sys.spring.slot = some k →
        (allowSave s = false → exec (.cfgSave rq) s = .next (refusedWith rq 0x0102 codeDenied noField s))
        ∧ (allowSave s = true → s.sys.slotWrite.isSome = true → exec (.cfgSave rq) s = .next (refusedWith rq 0x0102 codeBusy noField s))
        ∧ (allowSave s = true → s.sys.slotWrite = none →
            overlayOffset (imgHeader (slotReader s k)) + (overlayContents s).length + 48 ≤ commitSector →
            ∀ mac, overlayMac s (overlayContents s) (headerDigest (slotReader s k)) = some mac →
            exec (.cfgSave rq) s = .next { flashErase (slotBase (1 - k) + commitSector) (slotBase (1 - k) + slotSize) s with
              sys.slotWrite := (some { opcode := 0x0102, request := rq, slot := 1 - k, generation := (s.sys.spring.generation + 1) % 2 ^ 32
                                       image := imageCells (slotReader s k)
                                         ++ overlayCells (overlayOffset (imgHeader (slotReader s k))) (overlayContents s ++ mac) }) }))
      ∧ (served cfgImageInstallOp rq s = true → s.sys.spring.cryptoErr = false → s.sys.spring.selftesting = none → s.sys.slotWrite = none →
          ∀ bs t, fetchReference rq 0 s = .ok (bs, t) → installFault t (bytesReader bs) = none →
          exec (.cfgImageInstall rq) s = .next (beginSlotWrite
            { opcode := 0x0103, request := rq, slot := 1 - t.sys.spring.slot.getD 1, generation := (t.sys.spring.generation + 1) % 2 ^ 32
              image := imageCells (bytesReader bs) } t)))
  ∧ (
    ∀ (w : SlotWrite) (s : State), s.sys.slotWrite = some w → w.opcode ≠ 5 →
      exec (.slotWriteDone false) s = .next (answered w.request w.opcode (bytesLE 1 w.slot ++ [0, 0, 0] ++ bytesLE 4 w.generation)
        (imageEvent w 0 (commitSlot w s)))
      ∧ exec (.slotWriteDone true) s = .next (refusedWith w.request w.opcode codeFault noField (imageEvent w 1 (interruptSlotWrite s)))
      ∧ exec .slotWriteTimeout s = .next (refusedWith w.request w.opcode codeTimeout noField (imageEvent w 2 (interruptSlotWrite s)))
      ∧ (commitSlot w s).sys.slotWrite = none ∧ (interruptSlotWrite s).sys.slotWrite = none
      ∧ (∀ a, slotBase w.slot + 128 ≤ a → a < slotBase w.slot + slotSize →
          flashByte (interruptSlotWrite s) a = 0xFF))
  ∧ (
    ∀ (rq : Request) (s : State), responderUp s = true →
      (s.sys.boot.step = .recovery → rq.sender = 0x0001 ∨ rq.sender = 0x0010 → s.sys.slotWrite = none → 8 ≤ rq.payload.length →
        rq.payload.length ≤ 1008 → fieldLE rq.payload 0 4 = s.sys.spring.stagedBytes →
        s.sys.spring.stagedBytes + (rq.payload.drop 8).length ≤ 0x400000 → (byteAt rq.payload 4).testBit 0 = false →
        let t := { stageChunk (fieldLE rq.payload 0 4) (rq.payload.drop 8) s with
          sys.spring.stagedBytes := s.sys.spring.stagedBytes + (rq.payload.drop 8).length }
        exec (.sysRecover rq) s = .next (responderSays rq 5 codeOk 0 [] t))
      ∧ (s.sys.boot.step = .recovery → rq.sender ≠ 0x0001 → rq.sender ≠ 0x0010 →
          exec (.sysRecover rq) s = .next (responderSays rq 5 codeDenied 0 [] s))
      ∧ (s.sys.boot.step = .recovery → rq.sender = 0x0001 → s.sys.slotWrite = none → fieldLE rq.payload 0 4 ≠ s.sys.spring.stagedBytes →
          exec (.sysRecover rq) s = .next (responderSays rq 5 codeBadArg 0 [] s))
      ∧ (s.sys.boot.step ≠ .recovery → exec (.sysRecover rq) s = .next (responderSays rq 5 codeBadOpcode 0 [] s))
      ∧ (fullMailbox rq s = none → s.sys.boot.step ≠ .stopped →
          exec (.springResponderMessage rq) s = .next (responderSays rq 0 codeBusy 0 (responderHello s) s))
      ∧ (fullMailbox rq s = none → s.sys.boot.step = .stopped →
          exec (.springResponderMessage rq) s = .next (responderSays rq 0 codeFault 0 (responderHello s) s))
      ∧ (∀ n, fullMailbox rq s = some n → winWord (getIn s n).words 0 % 65536 ≠ 0 → winWord (getIn s n).words 0 % 65536 ≠ 5 →
          exec (.springResponderMessage rq) s = .next (responderSays rq (winWord (getIn s n).words 0 % 65536) codeBadOpcode 0 []
            (setIn n { getIn s n with st := .empty, owner := 0, ack := true } s))))

/-- The first steps of a start-up (R60, R62, R63): lock of the PLLs with the self-tests passed senses the fuses and waits for the links; no lock, a failed self-test, a link that fails or untrained DRAM stops it with its BOOT_ERR. The last steps of a start-up (R60, R61, R397): the image applied; the PTP clock started from 0 and the media clock with it; rendering begun, then `sys.ready` in stage 5. Kyoler links (R30 to R35): training takes the highest version both ends know at 16 or 8 lanes, or fails; a flit in error is replayed and counted; the fourth failure of one flit in a row retrains the link, whose third retrain within one second fails it; a failed retrain fails it, one that succeeds brings it back. -/
def Obligations.StartUp : Prop :=
  (
    ∀ s : State,
      (s.sys.boot.step = .rails → ((usedGroups s).all (railUp s)) = true →
        (lifecycleFault (senseFuses s) = false → exec (.pllLock true 0) s = .next (deriveKeys { senseFuses s with
            sys.spring.selftestOk := true, sys.spring.stage := 2, msg.mbx.pciTraining := true, sys.boot.step := .links }))
        ∧ exec (.pllLock false 0) s = .next (stopBoot 2 s)
        ∧ (∀ k, k ≠ 0 → exec (.pllLock true k) s = .next (stopBoot 3 { senseFuses s with sys.spring.cryptoErr := true })))
      ∧ (s.sys.boot.step = .image → lifecycle s ≠ 3 → ∀ k fallback, chooseSlot s = some (k, fallback) →
          exec .imageVerified s = .next { bootSlot k fallback (s.member.dies.filter (powered s)) s with sys.boot.step := .dram })
      ∧ (s.sys.boot.step = .image → lifecycle s = 3 ∨ chooseSlot s = none → exec .imageVerified s = .next (enterRecovery s))
      ∧ (s.sys.boot.step = .dram → s.hw.dram.st ≠ 2 → ∀ units, units ≤ 64 → exec (.dramTrainingDone true units) s = .next { s with
          hw.dram.units := units, hw.dram.st := 1, sys.boot.step := .ponds })
      ∧ (s.sys.boot.step = .dram → s.hw.dram.st = 2 → ∀ units, exec (.dramTrainingDone true units) s = .next { s with
          hw.dram.st := 1, sys.boot.step := .ponds })
      ∧ (s.sys.boot.step = .dram → ∀ units, exec (.dramTrainingDone false units) s = .next (stopBoot 7 { s with hw.dram.st := 3 }))
      ∧ (s.sys.boot.step = .ponds → s.sys.boot.cause ≠ .fatal → ∃ t, exec .pondInitDone s = .next t ∧ t.sys.boot.step = .apply
          ∧ t = { s with hw.mem := t.hw.mem, sys.boot.step := .apply }
          ∧ ∀ die ∈ s.member.dies.filter (powered s), ∀ a, pondAddr die 0 0 ≤ a → a < pondAddr die 256 0 → memByte t.hw.mem a = memDefault a))
  ∧ (
    ∀ s : State,
      (s.sys.boot.step = .apply → ∀ k p, s.sys.spring.slot = some k → readImage s k = some p →
        exec .imageApply s = .next { applyImage p s with sys.boot.step := .network })
      ∧ (s.sys.boot.step = .apply → ∀ k, s.sys.spring.slot = some k → readImage s k = none → exec .imageApply s = .next (abandonSlot k s))
      ∧ (s.sys.boot.step = .network → exec .networkStart s = .next { s with
          time.ptp.sec := 0, time.ptp.ns := 0, time.ptp.sub := 0, time.ptp.dither := 0, time.ptp.running := true
          time.mclk.st := if s.time.mclk.ref = 3 then 3 else 0, sys.boot.step := .render })
      ∧ (s.sys.boot.step = .render → exec .renderStart s =
          .next (beginGuard (dueRollback (announceReady (startChannels (firstTimeline (commitAll s))))))))
  ∧ (
    ∀ (n lanes loA hiA loB hiB : Nat) (l : Link) (s : State),
      (max loA loB ≤ min hiA hiB → lanes = 16 ∨ lanes = 8 →
        trainedLink lanes loA hiA loB hiB l = { l with state := 1, major := min hiA hiB / 16, minor := min hiA hiB % 16, lanes := lanes
                                                       retraining := false, retrains := [], flitFails := 0 })
      ∧ (lanes ≠ 16 → lanes ≠ 8 → (trainedLink lanes loA hiA loB hiB l).state = 2)
      ∧ (min hiA hiB < max loA loB → (trainedLink lanes loA hiA loB hiB l).state = 2)
      ∧ (∀ a b, s.member.links[n]? = some (a, b) → powered s a = true → powered s b = true → (dueLinks s).contains n = true →
          s.sys.boot.step = .links → (getLink s n).state ≠ 1 →
          exec (.kyolerTrainingDone n lanes loA hiA loB hiB) s =
            .next (linkAtStart n (trainedLink lanes loA hiA loB hiB (getLink s n)) b s))
      ∧ ((getLink s n).state = 1 → (getLink s n).retraining = false → ∀ dir flit,
          let again := (getLink s n).flitDir = dir ∧ (getLink s n).flitNo = flit ∧ 0 < (getLink s n).flitFails
          exec (.kyolerFlitParityError n dir flit) s = .next { s with
            hw.links := (mapSet s.hw.links n { getLink s n with
              replays := (getLink s n).replays + 1, flitDir := dir, flitNo := flit
              flitFails := if again then (getLink s n).flitFails + 1 else 1 })
            wire := .replay n dir flit :: s.wire })
      ∧ ((getLink s n).state = 1 → (getLink s n).retraining = false → 4 ≤ (getLink s n).flitFails →
          let times := s.now :: (getLink s n).retrains.filter fun t => decide (s.now < t + 156250000)
          (times.length < 3 → exec (.kyolerRetrain n) s = .next { s with
            hw.links := (mapSet s.hw.links n { getLink s n with retraining := true, retrains := times, flitFails := 0 })
            wire := .retrain n :: s.wire })
          ∧ (3 ≤ times.length → ∀ ends, s.member.links[n]? = some ends →
              exec (.kyolerRetrain n) s = .next (linkFailed n ends (setLink s n { getLink s n with retrains := times }))))
      ∧ ((getLink s n).retraining = true →
          exec (.kyolerRetrainDone n true) s = .next { s with hw.links := mapSet s.hw.links n { getLink s n with retraining := false } }
          ∧ (∀ ends, s.member.links[n]? = some ends → exec (.kyolerRetrainDone n false) s = .next (linkFailed n ends s))))

/-- The sequencer (R555, R556): the next enable that is to fall falls before any rises; a group rises once the groups before it are in range; a group in range is noted, the analogue rail bringing the line DACs to their clear codes; a group not in range in time stops the start-up with every rail low and INT_N asserted (R63). A rail group that leaves its range (R527, R531, R556): the standby's is a standby fault; the active Shore's hands over to a standby in service; any other takes every rail down, PWR_CAUSE 3 with its group, and a cold start follows 500 ms later unless it is the third within 60 s. -/
def Obligations.Rails : Prop :=
  (
    ∀ (g : Nat) (s : State),
      (nextDrop s = some g → exec .sequencerStep s = .next (stopShore g (dropGroup g s)))
      ∧ (nextDrop s = none → nextRaise s = some g → exec .sequencerStep s = .next { s with
          sys.ao.enables := s.sys.ao.enables ||| BitVec.ofNat 6 (2 ^ g), sys.ao.target := s.sys.ao.target ||| BitVec.ofNat 6 (2 ^ g) })
      ∧ (s.sys.ao.enables.getLsbD g = true → s.sys.ao.inRange.getLsbD g = false → g ≠ 5 →
          exec (.railInRange g) s = .next { s with sys.ao.inRange := s.sys.ao.inRange ||| BitVec.ofNat 6 (2 ^ g) })
      ∧ (s.sys.ao.enables.getLsbD 5 = true → s.sys.ao.inRange.getLsbD 5 = false →
          exec (.railInRange 5) s = .next (releaseDacs { s with sys.ao.inRange := s.sys.ao.inRange ||| 32#6 }))
      ∧ (s.sys.ao.enables.getLsbD g = true → s.sys.ao.inRange.getLsbD g = false → g ≠ 1 - s.sys.red.active →
          ∃ t, exec (.railTimeout g) s = .next t ∧ t.sys.ao.aoIntN = true ∧ t.sys.ao.startStop = true ∧ t.sys.ao.lockedOff = true
            ∧ t.sys.boot.step = .stopped ∧ t.sys.spring.bootErr = 1 ∧ t.sys.spring.stage = 7 ∧ t.sys.ao.group = g ∧ t.sys.ao.target = 0)
      ∧ (s.sys.ao.enables = 0 → exec .enableHoldEnd s = .next (tryStart { s with sys.ao.holdDone := true })))
  ∧ (
    ∀ (g : Nat) (s : State),
      (railUp s g = true → s.member = .evr8 → g = 1 - s.sys.red.active → s.sys.red.hubUp = true →
        exec (.railFault g) s = .next (standbyFault 1 s))
      ∧ (railUp s g = true → (s.member ≠ .evr8 ∨ g ≠ 1 - s.sys.red.active) → (g ≠ s.sys.red.active ∨ s.sys.red.standbyState ≠ 1) →
        ∃ t, exec (.railFault g) s = .next t ∧ t.sys.ao.cause = 3 ∧ t.sys.ao.group = g ∧ t.sys.ao.target = 0
          ∧ t.sys.ao.railRestartDue = true ∧ t.sys.ao.coldWaiting = false
          ∧ (s.sys.spring.blowing = none → t.hw.fuses = s.hw.fuses))
      ∧ (s.sys.ao.railRestartDue = true →
        let times := s.now :: s.sys.ao.railRestarts.filter fun t => decide (s.now < t + 9375000000)
        (times.length < 3 → exec .railFaultRestart s = .next (tryStart { s with
          sys.ao.railRestartDue := false, sys.ao.railRestarts := times, sys.ao.coldWaiting := true }))
        ∧ (3 ≤ times.length → exec .railFaultRestart s = .next { s with
          sys.ao.railRestartDue := false, sys.ao.railRestarts := times, sys.ao.lockedOff := true })))

/-- The supply, RESET_N and the thermal trip (R554, R557, R566, R590): a rise of VDD_AO resets the always-on domain and triggers a cold reset, WAKE_N choosing the I²C address; its loss leaves fuses and flash; RESET_N held low for at least 1 µs is a full cold reset, below 100 ns ignored, between the two a free choice; its release lets the start follow; 125 °C on a powered die drops every rail with PWR_CAUSE 4 until RESET_N. A cold reset (R566, R567): RST_CAUSE reads scope 1 with its cause and group in PWR_CAUSE, every enable is to fall, registers, memory, cores, objects and settings are as after reset, fuses and flash stay, DRAM takes the address order chosen. The resets of `sys.reset` as commands (R153, R566 to R570): the cold one with its cause 2 and forced slot; the warm one, which answers with `sys.ready`; the die reset of an Outlet, back at once with `sys.die` 0 and 1, and of a Tarn, which waits for its next marker where its timeline runs; a Tarn that does not come back is fatal with cause 4. -/
def Obligations.Resets : Prop :=
  (
    ∀ s : State,
      (∀ low, ∃ t, exec (.vddAoRise low) s = .next t ∧ t.sys.ao.vdd = true ∧ t.sys.ao.i2cAddr = (if low then 0x5D else 0x5C)
        ∧ t.sys.ao.enables = 0 ∧ t.sys.ao.cause = 0 ∧ t.sys.ao.rstScope = 1 ∧ t.sys.ao.coldWaiting = true)
      ∧ (∃ t, exec .powerLoss s = .next t ∧ t.sys.ao.vdd = false ∧ t.sys.ao.enables = 0 ∧ t.sys.boot.step = .off ∧ t.hw.mem = []
          ∧ t.cores = [] ∧ t.rend.objs = [] ∧ (s.sys.spring.blowing = none → t.hw.fuses = s.hw.fuses)
          ∧ (s.sys.slotWrite = none → t.hw.flash = s.hw.flash))
      ∧ (∀ ns, ns < 100 → exec (.resetNAssert ns) s = .next s)
      ∧ (∀ ns, 1000 ≤ ns → s.sys.ao.vdd = true → exec (.resetNAssert ns) s = .next (coldReset 1 0 { s with sys.ao.resetN := false }))
      ∧ (∀ ns, 100 ≤ ns → ns < 1000 → s.sys.ao.vdd = true →
          let t := { s with free := s.free + 1 }
          exec (.resetNAssert ns) s =
            .next (if (Config.freeBits s.free).getLsbD 0 then coldReset 1 0 { t with sys.ao.resetN := false } else t))
      ∧ (s.sys.ao.resetN = false → exec .resetNRelease s = .next (tryStart { s with
          sys.ao.resetN := true, sys.ao.lockedOff := false, sys.ao.coldWaiting := true }))
      ∧ (∀ die, powered s die = true → ∃ t, exec (.thermalTrip die) s = .next t ∧ t.sys.ao.cause = 4 ∧ t.sys.ao.target = 0
          ∧ t.sys.ao.lockedOff = true ∧ t.sys.ao.coldWaiting = false))
  ∧ (
    ∀ (cause group : Nat) (s : State), s.sys.spring.blowing = none → s.sys.slotWrite = none →
      let t := coldReset cause group s
      t.sys.ao.cause = cause ∧ t.sys.ao.group = group ∧ t.sys.ao.rstScope = 1 ∧ t.sys.ao.power = .run ∧ t.sys.ao.railRestartDue = false
      ∧ t.hw.fuses = s.hw.fuses ∧ t.hw.flash = s.hw.flash ∧ t.hw.mem = [] ∧ t.hw.regs = [] ∧ t.hw.counters = [] ∧ t.hw.links = []
      ∧ t.cores = [] ∧ t.rend = Rend.reset ∧ t.chain = Chain.reset ∧ t.route = Routing.reset ∧ t.net = Net.reset ∧ t.msg = Msg.reset
      ∧ t.time = Timeline.reset ∧ t.sys.lockstep = Sys.reset.lockstep ∧ t.sys.fatal = Sys.reset.fatal ∧ t.journal = none
      ∧ t.hw.dram.order = regOr s 3 (dieAddr (activeShore s) 0x230000) % 4)
  ∧ (
    ∀ (die slot : Nat) (s : State),
      (s.msg.ncp.resetDue = some (1, die, slot) → exec .coldReset s = .next (forcedReset 2 (forcedBy slot) false [] s))
      ∧ (s.msg.ncp.resetDue = some (0, die, slot) →
          (warmClear s).sys.boot.safe = false → (warmClear s).sys.ao.power = .run →
          exec .warmReset s = .next (announceReady (startChannels (startTimeline false
            { warmClear s with sys.boot.cause := .warm, sys.boot.step := .ready }))))
      ∧ (s.msg.ncp.resetDue = some (2, die, slot) → isOutlet die = true →
          exec (.dieReset die) s = .next (dieEvent die 1 (resetOutlet true die
            (dieEvent die 0 { s with msg.ncp.resetDue := none, sys.ao.rstScope := 2, sys.ao.rstDie := die }))))
      ∧ (s.msg.ncp.resetDue = some (2, die, slot) → isOutlet die = false →
          let t := dieEvent die 0 { s with msg.ncp.resetDue := none, sys.ao.rstScope := 2, sys.ao.rstDie := die }
          let u := resetTarn die t
          ((getTile t die).ticking = true → exec (.dieReset die) s =
            .next (setTile die { getTile u die with inReset := true, index := (getTile t die).index } u))
          ∧ ((getTile t die).ticking = false → exec (.dieReset die) s = .next (dieEvent die 1 u)))
      ∧ (isTarn die = true → (getTile s die).inReset = true → exec (.dieResetTimeout die) s = .next (fatal 4 die (dieEvent die 2 s)))
      ∧ (forcedBy 0 = none ∧ forcedBy 1 = some 0 ∧ forcedBy 2 = some 1))

/-- Tick markers (R48, R569): one that names the Tarn's period or the next is agreed, and the missing count starts again; any other is a timeline error, fatal with cause 5; a Tarn in reset joins with its marker. Holdover and late work (R48, R51, R254, R262, R288, R528): 64 missing markers, or a declared hub failure, put a ticking Tarn in holdover with its hold mute; at the stage deadline each late input repeats its object's sample, each late slice its last sums, each late channel or feed its last feed, all counted; a partial sum for a feed already in reduction is misaligned and counted, one from ahead is a timeline error, one in time is added to what its source has sent. -/
def Obligations.MarkersAndDeadlines : Prop :=
  (
    ∀ (die k : Nat) (s : State), s.member.tarnDies.contains die = true → powered s die = true →
      let t := getTile s die
      (t.inReset = false → t.ticking = true → k = t.index ∨ k = t.index + 1 → (getWarden s die).declared = false →
        exec (.tickMarkerRx die k) s = .next (setTile die { t with markerAt := k, missing := 0, holdover := false } s))
      ∧ (t.inReset = false → t.ticking = true → k ≠ t.index → k ≠ t.index + 1 → exec (.tickMarkerRx die k) s = .next (fatal 5 die s))
      ∧ (t.inReset = true → exec (.tickMarkerRx die k) s = .next (rejoinTarn die k s)))
  ∧ (
    ∀ (die : Nat) (s : State), s.member.tarnDies.contains die = true → powered s die = true → (getTile s die).ticking = true →
      let t := getTile s die
      (t.holdover = false → 64 ≤ t.missing ∨ (getWarden s die).declared = true →
        exec (.holdoverEntry die) s = .next { s with rend.tiles := mapSet s.rend.tiles die { t with holdover := true, holdMute := true } })
      ∧ (t.inReset = false → exec (.stageDeadline die [] [] [] []) s = .next s)
      ∧ (t.inReset = false → ∀ id o, getObj s id = some o → sliceDie o.slice = die →
          exec (.stageDeadline die [id] [] [] []) s = .next (lateInput t.index id s))
      ∧ (t.inReset = false → ∀ sl, sliceDie sl = die → exec (.stageDeadline die [] [sl] [] []) s = .next (lateSlice sl s))
      ∧ (t.inReset = false → ∀ c, isChannel s.member c = true → homeTile s.member c = die →
          exec (.stageDeadline die [] [] [c] []) s = .next (count (0x3000 + 8 * (die - 2) + 4)
            (setTile die { getTile (repeatFeed c s) die with chnOverrun := true } (repeatFeed c s)))
          ∧ exec (.stageDeadline die [] [] [] [c]) s = .next (count 0x11000 (repeatFeed c s)))
      ∧ (t.inReset = false → ∀ src, s.member.tarnDies.contains src = true → src ≠ die → ∀ index first sums,
          (index < t.ownIndex → exec (.partialSumArrival die src index first sums) s =
            .next (count (0x08C0 + 8 * (die - 2) + 4) (setTile die { t with misalign := true } s)))
          ∧ (t.ownIndex < index → exec (.partialSumArrival die src index first sums) s = .next (fatal 5 die s))
          ∧ (index = t.ownIndex →
            let ids := (List.range s.member.speakers).filter fun i => decide (first ≤ i) && homeTile s.member i == die
            exec (.partialSumArrival die src index first sums) s = .next (setTile die { t with
              arrived := (mapSet t.arrived src (addSums (mapGet (fun _ => []) t.arrived src) (ids.zip sums))) } s))))

/-- `pwr.state` and `pwr.alarm` (R559, R560, R561): the wake mask is stored and the response sent before entry; state 0 from IDLE or LISTEN begins a return; a mask that no wake of DEEP STANDBY could serve, a state above 4 or a mask above 31 is BAD_ARG; the alarm counts seconds and 0 cancels it. Wake, return and temperature reports (R557, R561, R563): an alarm in RUN sends `pwr.wake` and elsewhere wakes as source 0; WAKE_N wakes after 100 µs; a source acts when its bit is set and the state listens to it; the return to RUN ends with `pwr.wake`; a temperature that passes 100 °C or 110 °C reports once until it falls 5 K below. -/
def Obligations.PowerStates : Prop :=
  (
    ∀ (rq : Request) (s : State),
      (served pwrStateOp rq s = true → s.msg.commit = none → s.sys.slotWrite = none → s.sys.red.check = none → s.sys.red.proving = none →
        let st := byteAt rq.payload 0
        let mask := fieldLE rq.payload 4 4
        let t := answered rq 0x0F00 [] { s with sys.ao.wakeEn := BitVec.ofNat 5 mask }
        (4 < st → exec (.pwrState rq) s = .next (refusedWith rq 0x0F00 codeBadArg 0 s))
        ∧ (st ≤ 4 → 32 ≤ mask → exec (.pwrState rq) s = .next (refusedWith rq 0x0F00 codeBadArg 4 s))
        ∧ (st = 0 → mask < 32 → s.sys.ao.power = .run → t.sys.ao.power = .run → exec (.pwrState rq) s = .next t)
        ∧ (st = 0 → mask < 32 → t.sys.ao.power ≠ .run → exec (.pwrState rq) s = .next { t with sys.ao.changing := true })
        ∧ (1 ≤ st → st ≤ 3 → mask < 32 → t.sys.ao.power ≠ powerOf st → exec (.pwrState rq) s = .next (enterPower (powerOf st) t))
        ∧ (st = 4 → mask < 32 → mask.testBit 0 = true ∨ mask.testBit 1 = true ∨ mask.testBit 4 = true → t.sys.ao.power ≠ .deepStandby →
            exec (.pwrState rq) s = .next (enterPower .deepStandby t))
        ∧ (st = 4 → mask < 32 → mask.testBit 0 = false → mask.testBit 1 = false → mask.testBit 4 = false →
            exec (.pwrState rq) s = .next (respond rq 0x0F00 (refuse codeBadArg 1 4 s) s)))
      ∧ (served pwrAlarmOp rq s = true → fieldLE rq.payload 0 4 = 0 →
          exec (.pwrAlarm rq) s = .next (answered rq 0x0F02 [] { s with sys.ao.alarmAt := none }))
      ∧ (served pwrAlarmOp rq s = true → fieldLE rq.payload 0 4 ≠ 0 →
          exec (.pwrAlarm rq) s = .next (answered rq 0x0F02 []
            { s with sys.ao.alarmAt := some (s.now + fieldLE rq.payload 0 4 * 156250000) })))
  ∧ (
    ∀ s : State,
      (∀ a, s.sys.ao.alarmAt = some a → s.sys.ao.power = .run → exec .alarmExpiry s = .next (wakeEvent 1 { s with sys.ao.alarmAt := none }))
      ∧ (∀ a, s.sys.ao.alarmAt = some a → s.sys.ao.power ≠ .run → exec .alarmExpiry s = .next (wakeBy 0 { s with sys.ao.alarmAt := none }))
      ∧ (∀ us, 100 ≤ us → exec (.wakeNLow us) s = .next (wakeBy 1 s))
      ∧ (∀ us, us < 100 → exec (.wakeNLow us) s = .next s)
      ∧ (∀ n, s.sys.ao.wakeEn.getLsbD n = true → wakeActs n s.sys.ao.power = true → s.sys.ao.changing = false →
          wakeBy n s = { s with sys.ao.wakeSrc := 0 ||| BitVec.ofNat 5 (2 ^ n), sys.ao.changing := true })
      ∧ (∀ n, s.sys.ao.wakeEn.getLsbD n = false → wakeBy n s = s)
      ∧ (s.sys.ao.changing = true → s.sys.ao.power = .idle → ∀ src, src = 0 ∨ src = s.sys.ao.wakeSrc.toNat →
          exec (.wakeReturn src) s = .next (wakeEvent src (startChannels (startRendering (poolBanks 1 0
            { s with sys.ao.power := .run, sys.ao.changing := false })))))
      ∧ (s.sys.ao.changing = true → s.sys.ao.power = .listen ∨ s.sys.ao.power = .sleep → ∀ src, src = 0 ∨ src = s.sys.ao.wakeSrc.toNat →
          exec (.wakeReturn src) s = .next (wakeEvent src (startChannels (startRendering (poolBanks 1 0
            (returnFar { s with sys.ao.power := .run, sys.ao.changing := false }))))))
      ∧ (s.sys.ao.changing = true → s.sys.ao.power = .deepStandby → ∀ src, src = 0 ∨ src = s.sys.ao.wakeSrc.toNat →
          exec (.wakeReturn src) s = .next { coldReset 5 0 s with sys.boot.wakeReport := some src })
      ∧ (∀ (die : Nat) (temp : Int), powered s die = true → nerrisUp s = true →
          let t := { s with sys.temps := mapSet s.sys.temps die temp }
          let marks := mapGet (fun _ => 0) s.sys.warned die
          (1600 < temp → temp ≤ 1680 → marks = 0 → exec (.dieTemperatureCrossing die temp) s =
            .next (event 20 die 0x0F80 0xFFFF (bytesLE 1 die ++ [0] ++ bytesS 2 temp) { t with sys.warned := mapSet s.sys.warned die 1 }))
          ∧ (temp ≤ 1600 → marks = 0 → exec (.dieTemperatureCrossing die temp) s = .next t)))

/-- Attestation and self-test (R95, R96, R103, R104, R163): a nonce of 16 to 64 bytes is signed, the response to come with the report and its signature; a second request meanwhile is BUSY, another length BAD_ARG; in Spring's error state both are FAULT; a self-test reports its result, and one that fails clears the key store; so does a failing entropy source, which stops a start-up before Nerris with BOOT_ERR 3. Debug challenge and token (R100, R101, R163): the challenge is a fresh random value that one token answers; a good token adds its grant, extends SMR7 and reports `sec.debug`; any other is DENIED. -/
def Obligations.AttestationAndDebug : Prop :=
  (
    ∀ (rq : Request) (s : State),
      (served secAttestOp rq s = true →
        (rq.payload.length < 16 ∨ 64 < rq.payload.length → exec (.secAttest rq) s = .next (refusedWith rq 0x0C00 codeBadArg 0 s))
        ∧ (16 ≤ rq.payload.length → rq.payload.length ≤ 64 →
          (s.sys.spring.cryptoErr = true → exec (.secAttest rq) s = .next (refusedWith rq 0x0C00 codeFault noField s))
          ∧ (s.sys.spring.cryptoErr = false → s.sys.spring.selftesting = none →
            (s.sys.spring.attesting.isSome = true → exec (.secAttest rq) s = .next (refusedWith rq 0x0C00 codeBusy noField s))
            ∧ (s.sys.spring.attesting = none → exec (.secAttest rq) s = .next { s with sys.spring.attesting := some rq }))))
      ∧ (s.sys.spring.attesting = some rq → ∀ key, s.sys.spring.attestKey = some key →
          let t := { s with sys.spring.attesting := none, free := s.free + 1 }
          let report := attestReport t key rq.payload
          ∃ signature, exec .attestationSigned s = .next (answered rq 0x0C00 (report ++ bytesBE 96 signature) t))
      ∧ (s.sys.spring.attesting = some rq → s.sys.spring.attestKey = none →
          exec .attestationSigned s = .next (refusedWith rq 0x0C00 codeFault noField { s with sys.spring.attesting := none }))
      ∧ (served secSelftestOp rq s = true → s.sys.spring.cryptoErr = false → s.sys.spring.selftesting = none →
          exec (.secSelftest rq) s = .next { s with sys.spring.selftesting := some rq })
      ∧ (s.sys.spring.selftesting = some rq →
          exec (.selftestComplete 0) s = .next (answered rq 0x0C07 [0, 0] { s with sys.spring.selftesting := none })
          ∧ ∀ k, k ≠ 0 → exec (.selftestComplete k) s = .next (answered rq 0x0C07 ([1] ++ bytesLE 1 k)
              (dropAttesting (cryptoFault k { s with sys.spring.selftesting := none }))))
      ∧ (∀ k, s.sys.boot.step = .ready → s.sys.spring.attesting = none → nerrisUp s = true → exec (.entropyHealthFail k) s =
          .next (event 19 (activeShore s) 0x0C80 0xFFFF (bytesLE 1 k) { s with
            sys.spring.cryptoErr := true, sys.spring.selftestOk := false, sys.spring.attestKey := none, sys.spring.saveKey := none }))
      ∧ (∀ k, s.sys.boot.step = .image → exec (.entropyHealthFail k) s = .next (stopBoot 3 (dropAttesting (cryptoFault k s)))))
  ∧ (
    ∀ (rq : Request) (s : State), s.sys.spring.cryptoErr = false → s.sys.spring.selftesting = none →
      (served secDebugChallengeOp rq s = true →
        let c : BitVec 256 := (Config.freeBits s.free).setWidth 256
        exec (.secDebugChallenge rq) s = .next (answered rq 0x0C04 (bytesBE 32 c.toNat) { s with
          free := s.free + 1, sys.spring.challenge := some c }))
      ∧ (served secDebugUnlockOp rq s = true → tokenGood s rq.payload = true →
        let t := acceptToken rq.payload s
        exec (.secDebugUnlock rq) s = .next (answered rq 0x0C05 (bytesLE 2 (effectiveDebug t).toNat) t))
      ∧ (served secDebugUnlockOp rq s = true → tokenGood s rq.payload = false →
        exec (.secDebugUnlock rq) s = .next (refusedWith rq 0x0C05 codeDenied noField s))
      ∧ (lifecycle s ≠ 2 → tokenGood s rq.payload = false)
      ∧ (s.sys.spring.challenge = none → tokenGood s rq.payload = false)
      ∧ (byteAt rq.payload 1 < debugEpoch s → tokenGood s rq.payload = false))

/-- Requests that blow fuses (R87 to R92, R101, R135, R163): provisioning from OPEN, a lifecycle transition, a key revoked by the other key, the next debug epoch; each waits for its fuses, and only when they are blown does it answer; what is not signed by an owner key over this part's serial number is DENIED. Fuses blown (R83, R90, R92, R135): the response follows; revocation and epoch take effect at once, provisioning and the lifecycle at the next cold reset; a transition to RMA clears the key store. The rollback fuses are blown once after `sys.ready` where the image asks. A set fuse never clears. -/
def Obligations.Fuses : Prop :=
  (
    ∀ (rq : Request) (s : State), s.sys.spring.cryptoErr = false → s.sys.spring.selftesting = none → s.sys.spring.blowing = none →
      let waits := fun (op : Nat) (bits : BitVec 8192) (reply : List Byte) =>
        { s with sys.spring.blowing := some (rq, { opcode := op, bits := bits, reply := reply }) }
      let signed := namesPart s rq.payload 16 = true ∧ ownerSigned s (byteAt rq.payload 1) rq.payload 32 = true
      (served secProvisionOp rq s = true → lifecycle s = 0 → rq.sender = 0x0001 ∨ rq.sender = 0x0010 → ∀ key, s.sys.spring.attestKey = some key →
        exec (.secProvision rq) s = .next (waits 0x0C01 (fuseBits 1696 (fieldBE rq.payload 0 48) ||| fuseBits 2080 (fieldBE rq.payload 48 48)
          ||| fuseBits 2480 (fieldBE rq.payload 96 48) ||| fuseBits 2864 (fieldBE rq.payload 144 32) ||| flagFuses 1)
          (bytesBE 96 (Config.ecdsaPublic key).toNat)))
      ∧ (served secProvisionOp rq s = true → lifecycle s ≠ 0 → exec (.secProvision rq) s = .next (refusedWith rq 0x0C01 codeDenied noField s))
      ∧ (served secLifecycleOp rq s = true → signed →
        (lifecycle s = 1 → byteAt rq.payload 0 = 2 → exec (.secLifecycle rq) s = .next (waits 0x0C02 (flagFuses 2) []))
        ∧ (lifecycle s = 1 ∨ lifecycle s = 2 → byteAt rq.payload 0 = 3 → exec (.secLifecycle rq) s = .next (waits 0x0C02
            (flagFuses 2 ||| flagFuses 3 ||| fuseOnes 1312 384 ||| fuseOnes 2480 384 ||| fuseOnes 2864 256) []))
        ∧ (byteAt rq.payload 0 < 2 ∨ 3 < byteAt rq.payload 0 → exec (.secLifecycle rq) s = .next (refusedWith rq 0x0C02 codeDenied noField s)))
      ∧ (served secLifecycleOp rq s = true → ¬ signed → exec (.secLifecycle rq) s = .next (refusedWith rq 0x0C02 codeDenied noField s))
      ∧ (served secKeyRevokeOp rq s = true → signed → byteAt rq.payload 0 ≤ 1 → byteAt rq.payload 1 = 1 - byteAt rq.payload 0 →
          exec (.secKeyRevoke rq) s = .next (waits 0x0C03 (fuseOnes (2464 + 8 * byteAt rq.payload 0) 8) []))
      ∧ (served secKeyRevokeOp rq s = true → byteAt rq.payload 0 ≤ 1 → byteAt rq.payload 1 ≠ 1 - byteAt rq.payload 0 →
          exec (.secKeyRevoke rq) s = .next (refusedWith rq 0x0C03 codeDenied noField s))
      ∧ (served secDebugEpochOp rq s = true → signed →
        (debugEpoch s < 64 → exec (.secDebugEpoch rq) s =
          .next (waits 0x0C06 (fuseBits (3184 + debugEpoch s) 1) (bytesLE 1 (debugEpoch s + 1))))
        ∧ (64 ≤ debugEpoch s → exec (.secDebugEpoch rq) s = .next (refusedWith rq 0x0C06 codeNoResource noField s))))
  ∧ (
    ∀ (s : State),
      (∀ rq w, s.sys.spring.blowing = some (rq, w) → w.bits &&& flagFuses 3 = 0 →
        (w.opcode = 0x0C03 ∨ w.opcode = 0x0C06 → exec .fusesBlown s = .next (answered rq w.opcode w.reply { s with
          sys.spring.blowing := none, hw.fuses := s.hw.fuses ||| w.bits, sys.spring.shadow := s.sys.spring.shadow ||| w.bits }))
        ∧ (w.opcode ≠ 0x0C03 → w.opcode ≠ 0x0C06 → exec .fusesBlown s = .next (answered rq w.opcode w.reply { s with
          sys.spring.blowing := none, hw.fuses := s.hw.fuses ||| w.bits })))
      ∧ (∀ rq w, s.sys.spring.blowing = some (rq, w) → w.bits &&& flagFuses 3 ≠ 0 → w.opcode = 0x0C02 →
        exec .fusesBlown s = .next (answered rq 0x0C02 w.reply { s with
          sys.spring.blowing := none, hw.fuses := s.hw.fuses ||| w.bits, sys.spring.attestKey := none, sys.spring.saveKey := none }))
      ∧ (s.sys.spring.rollbackDue = true → partReady s = true → nerrisUp s = true → exec .rollbackFuseBlow s = .next { s with
          sys.spring.rollbackDue := false, hw.fuses := s.hw.fuses ||| fuseOnes 3120 (imgVersion (bootedHeader s))
          sys.spring.shadow := s.sys.spring.shadow ||| fuseOnes 3120 (imgVersion (bootedHeader s)) })
      ∧ (s.sys.spring.rollbackDue = false → exec .rollbackFuseBlow s = .next s))

/-- MASTER_TICK (R45, R46, R49): at B(k) the active Shore's index is one higher and its tick's time is the PTP clock's; markers name k on every link to a Tarn; the swaps, crossfades, converters, ingress, delivery, egress and outputs of the tick follow in this order; nothing ticks without a timeline. TARN_TICK (R46 to R50, R528): the tile's index is one higher, a marker not yet received counts as missing, the hold mute moves one sample of its 64, and the stages of the tick follow in the order of R49: swaps, the end of the reduction of feed k, its chain, the start of the reduction of feed k + 1, the matrix of feed k + 2, the delivery of input k, the geometry. -/
def Obligations.Ticks : Prop :=
  (
    ∀ (cycles : Nat) (phase : Int) (s : State),
      (rendering s = true → nerrisUp s = true →
        let t := advanceTime cycles s
        let k := t.time.index + 1
        let m := mclkTick k phase (forceBuses (k - 1) t)
        exec (.masterTick cycles phase) s = .next (muteRate (tickWork k (slipStreams k m.2 m.1))))
      ∧ (rendering s = false → exec (.masterTick cycles phase) s = .next s)
      ∧ (∀ k, let t := { s with time.index := k, time.tickSec := s.time.ptp.sec, time.tickNs := s.time.ptp.ns }
          tickWork k s = sendOutputs (k - 1) (takeFeeds (deliverInputs (ingressInputs k (sendMarkers k
            (stepSrcs (endFades (fun _ => true) (shoreSwaps k t))))))))
      ∧ (∀ k, sendMarkers k s = { s with wire := (((s.member.tarnDies.filter fun d => powered s d && linkUpBetween s (activeShore s) d).map
          fun d => Emission.marker d k).reverse ++ s.wire) }))
  ∧ (
    ∀ (die : Nat) (s : State), s.member.tarnDies.contains die = true → powered s die = true → (getTile s die).ticking = true →
      (getTile s die).inReset = false →
      let u := forceBuses (getTile s die).index s
      let t := getTile u die
      let k := t.index + 1
      let t' : Tile := { t with
        index := k, missing := if t.markerAt < t.index then t.missing + 1 else 0
        mutePos := if t.holdMute then t.mutePos - 1 else min 64 (t.mutePos + 1) }
      let v := tileSwaps die k (setTile die t' u)
      let r := finishReduction die k v
      exec (.tarnTick die) s = .next (
        (tileSlices die).foldl (fun s sl => computeDue sl k s)
          (deliverTile die k ((tileSlices die).foldl (fun s sl => matrixSlice sl (k + 2) s)
            (startReduction die (k + 1) (chainTile die k r.1 r.2))))))

/-- The `route` messages (R156, R331, R338, R361, R598): `route.set` gives the lowest free handle of 4,096 to a source and a destination of the member, at once or in the shadow bank; `route.clear` takes a route away; `route.get` and `route.list` report; `route.basin.cfg` gives a ring its place in Basin from a start at least 256 samples ahead, or frees it; a place in the dump area is BAD_ARG with field 8. A source or destination that the member does not have is BAD_ARG, with every handle in use NO_RESOURCE. Route changes and crossfades (R334, R336 to R338): a change takes effect at once without a fade, fades when one is given while rendering, and waits behind a crossfade in progress, replacing the change that waited before it; the end of a crossfade frees the old handle and starts the change that waits; a sample is the source's times the gain, rounded to nearest and saturated, and a crossfade weights the old and the new one. Basin rings (R361 to R364): a playback ring fetches blocks of 64 samples of each channel with the fill index read then, samples beyond it 0, and moves its device index past them; a capture ring whose block of 64 is complete writes it to DRAM and moves its device index; a ring that is not configured, or goes the other way, does nothing. -/
def Obligations.Routes : Prop :=
  (
    ∀ (rq : Request) (s : State),
      (served routeSetOp rq s = true →
        let src := fieldLE rq.payload 0 4
        let dst := fieldLE rq.payload 4 4
        let gain := fieldS rq.payload 8 2
        let fade := fieldLE rq.payload 10 2
        let r : Route := { src := src, dst := dst, gain := gain, invert := (byteAt rq.payload 12).testBit 1, fade := fade
                           staged := (byteAt rq.payload 12).testBit 0 }
        (isSource s.member src = false → exec (.routeSet rq) s = .next (refusedWith rq 0x0500 codeBadArg 0 s))
        ∧ (isSource s.member src = true → isDestination s.member dst = false →
            exec (.routeSet rq) s = .next (refusedWith rq 0x0500 codeBadArg 4 s))
        ∧ (isSource s.member src = true → isDestination s.member dst = true → isIngress src = true ∨ isObjectInput dst = false →
            (r.staged = false → stageLocked s dst = false → mapFree s.route.routes 4096 = none →
              exec (.routeSet rq) s = .next (respond rq 0x0500 (refuse codeNoResource 1 noField s) s))
            ∧ (gain ≤ 3072 → fade ≤ 1024 → ∀ h, mapFree s.route.routes 4096 = some h →
              let t := { s with route.routes := mapSet s.route.routes h r }
              (r.staged = false → stageLocked s dst = false → exec (.routeSet rq) s = .next (answered rq 0x0500 (bytesLE 2 h ++ bytesLE 2 fade)
                (recorded false 0x0500 (bytesLE 4 dst) rq (changeRoute dst (some h) fade (withdrawClear dst t)))))
              ∧ (r.staged = true → mapFind s.route.stage dst = none → exec (.routeSet rq) s = .next (answered rq 0x0500
                  (bytesLE 2 h ++ bytesLE 2 fade) (recorded true 0x0500 (bytesLE 4 dst) rq (forgetStagedRoute dst
                    { t with route.stage := mapSet s.route.stage dst { handle := some h, clears := none, fade := fade } })))))))
      ∧ (served routeClearOp rq s = true →
        let h := fieldLE rq.payload 0 2
        let fade := fieldLE rq.payload 2 2
        (getRoute s h = none → exec (.routeClear rq) s = .next (refusedWith rq 0x0501 codeBadArg 0 s))
        ∧ (∀ r, getRoute s h = some r → r.staged = false → (byteAt rq.payload 4).testBit 0 = false → stageLocked s r.dst = false →
            fade ≤ 1024 → exec (.routeClear rq) s = .next (answered rq 0x0501 [] (clearRoute h r fade s)))
        ∧ (∀ r, getRoute s h = some r → r.staged = true → s.msg.commit = none → fade ≤ 1024 →
            exec (.routeClear rq) s = .next (answered rq 0x0501 [] (forgetStagedRoute r.dst (unstage r.dst s)))))
      ∧ (served routeGetOp rq s = true → ∀ r, getRoute s (fieldLE rq.payload 0 2) = some r →
          exec (.routeGet rq) s = .next (answered rq 0x0502 (bytesLE 4 r.src ++ bytesLE 4 r.dst ++ bytesS 2 r.gain ++ bytesLE 2 r.fade
            ++ bytesLE 1 (flag r.staged + 2 * flag r.invert) ++ [0, 0, 0] ++ bytesLE 1 (routeState s (fieldLE rq.payload 0 2) r)) s))
      ∧ (served routeListOp rq s = true →
          let hs := ((s.route.routes.map (·.1)).filter fun h => decide (fieldLE rq.payload 0 2 ≤ h)).take 500
          exec (.routeList rq) s = .next (answered rq 0x0503 (bytesLE 2 hs.length ++ hs.flatMap (bytesLE 2)) s))
      ∧ (served routeBasinCfgOp rq s = true →
        let ring := byteAt rq.payload 0
        let dir := byteAt rq.payload 1
        let ch := byteAt rq.payload 2
        let len := fieldLE rq.payload 4 4
        let off := fieldLE rq.payload 8 8
        let start := fieldLE rq.payload 16 8
        (ring ≤ 15 → ch = 0 → exec (.routeBasinCfg rq) s = .next (answered rq 0x0504 (bytesLE 8 start)
          (recorded false 0x0504 (rq.payload.take 1) rq { s with route.rings := mapErase s.route.rings ring })))
        ∧ (ring ≤ 15 → ch ≠ 0 → dir < 2 → ch ≤ 64 → 256 ≤ len → len ≤ 16777216 → off % 4096 = 0 →
            off + (64 + len * ch * 4) ≤ basinSize s → ringOverlaps s ring off (64 + len * ch * 4) = false →
            dumpOverlaps s off (64 + len * ch * 4) = false →
            ringChannels s (dir == 1) ring + ch ≤ (if dir = 1 then 512 else 2048) → (s.time.rendering = true → s.time.index + 256 ≤ start) →
            exec (.routeBasinCfg rq) s = .next (answered rq 0x0504 (bytesLE 8 start)
              (recorded false 0x0504 (rq.payload.take 1) rq { s with route.rings := (mapSet s.route.rings ring
                { capture := dir == 1, channels := ch, length := len, offset := off, start := start, device := start
                  fill := 0, block := [] }) })))
        ∧ (ring ≤ 15 → ch ≠ 0 → dir < 2 → ch ≤ 64 → 256 ≤ len → len ≤ 16777216 → dumpOverlaps s off (64 + len * ch * 4) = true →
            exec (.routeBasinCfg rq) s = .next (refusedWith rq 0x0504 codeBadArg 8 s))
        ∧ (15 < ring → exec (.routeBasinCfg rq) s = .next (refusedWith rq 0x0504 codeBadArg 0 s))))
  ∧ (
    ∀ (e n : Nat) (new : Option Nat) (s : State),
      let d := getDst s e
      (d.fading = false → n ≠ 0 → s.time.rendering = true → changeRoute e new n s =
        setDst e { d with route := new, old := d.route, fading := true, fadeN := n, fadeAt := 0 } (count 0x3A00 s))
      ∧ (d.fading = false → n = 0 ∨ s.time.rendering = false → d.route = none → changeRoute e new n s =
        setDst e { d with route := new, old := none, fading := false, fadeN := 0, fadeAt := 0 } (count 0x3A00 s))
      ∧ (d.fading = true → d.pending = none → changeRoute e new n s = setDst e { d with pending := some (new, n) } s)
      ∧ (∀ h m, d.fading = true → d.pending = some (some h, m) →
          changeRoute e new n s = setDst e { d with pending := some (new, n) } (count 0x3A01 (freeRoute h s)))
      ∧ (d.fading = true → d.fadeN ≤ d.fadeAt → d.pending = none → ∀ h, d.old = some h →
          exec (.routeCrossfadeEnd e) s = .next (setDst e { d with fading := false, old := none, fadeN := 0, fadeAt := 0 } (freeRoute h s)))
      ∧ (d.fading = true → d.fadeN ≤ d.fadeAt → ∀ h m, d.old = some h → d.pending = some (new, m) →
          exec (.routeCrossfadeEnd e) s = .next (startFade e new m
            (setDst e { d with fading := false, old := none, fadeN := 0, fadeAt := 0, pending := none } (freeRoute h s))))
      ∧ (d.fading = false ∨ d.fadeAt < d.fadeN → exec (.routeCrossfadeEnd e) s = .next s)
      ∧ (∀ (get : Nat → Int) (h : Nat) (r : Route), getRoute s h = some r →
          let v := roundDiv (get r.src * gainQ r.gain * (if r.invert then -1 else 1)) (2 ^ 20)
          (-2 ^ 31 ≤ v → v < 2 ^ 31 → routeSample get (some h) s = (v, s))
          ∧ (2 ^ 31 ≤ v → routeSample get (some h) s = (2 ^ 31 - 1, count (gainCounter r.src) s))
          ∧ (v < -2 ^ 31 → routeSample get (some h) s = (-2 ^ 31, count (gainCounter r.src) s)))
      ∧ (∀ get : Nat → Int, routeSample get none s = (0, s))
      ∧ (∀ (get : Nat → Int) (a b : Nat) (ra rb : Route), d.route = some a → d.old = some b → getRoute s a = some ra → getRoute s b = some rb →
          d.fading = true → d.fadeAt < d.fadeN →
          let x := roundDiv (get ra.src * gainQ ra.gain * (if ra.invert then -1 else 1)) (2 ^ 20)
          let y := roundDiv (get rb.src * gainQ rb.gain * (if rb.invert then -1 else 1)) (2 ^ 20)
          let v := roundDiv (y * (d.fadeN - 1 - d.fadeAt : Nat) + x * (d.fadeAt + 1 : Nat)) d.fadeN
          (-2 ^ 31 ≤ x) → x < 2 ^ 31 → -2 ^ 31 ≤ y → y < 2 ^ 31 → -2 ^ 31 ≤ v → v < 2 ^ 31 →
          dstSample get e s = (v, setDst e { d with fadeAt := d.fadeAt + 1, last := v } s))
      ∧ (∀ source sample h r, isSource s.member source = true → isIngress source = true → nerrisUp s = true → s.time.rendering = true →
          isObjectInput e = false → d.route = some h → getRoute s h = some r → r.src = source → (mapFind s.route.dsts e).isSome = true →
          let v := if epKind source < 0x12 then satInt 32 sample else mapGet (fun _ => 0) s.route.inputs source
          exec (.directSampleHandoff source sample) s = .next { s with
            route.direct := mapSet s.route.direct source v, wire := .direct source v :: s.wire }))
  ∧ (
    ∀ (ring : Nat) (s : State),
      (mapFind s.route.rings ring = none → exec (.ringFetch ring) s = .next s ∧ exec (.ringCaptureBlock ring) s = .next s)
      ∧ (∀ r, mapFind s.route.rings ring = some r → r.capture = true → exec (.ringFetch ring) s = .next s)
      ∧ (∀ r, mapFind s.route.rings ring = some r → r.capture = false → exec (.ringCaptureBlock ring) s = .next s)
      ∧ (∀ r, mapFind s.route.rings ring = some r → r.capture = false → s.time.rendering = true → nerrisUp s = true →
          r.next s.time.index ≤ s.time.index + 128 →
          let i0 := r.next s.time.index
          let fill := fieldLE (readBytes s (basinStart s + r.offset) 8) 0 8
          ∃ t r', exec (.ringFetch ring) s = .next t ∧ mapFind t.route.rings ring = some r' ∧ r'.device = i0 + 64 ∧ r'.fill = fill
            ∧ r'.capture = false ∧ r'.channels = r.channels ∧ r'.length = r.length ∧ r'.offset = r.offset ∧ r'.start = r.start
            ∧ readBytes t (basinStart s + r.offset + 8) 8 = bytesLE 8 (i0 + 64)
            ∧ t.msg = s.msg ∧ t.sys = s.sys ∧ t.rend = s.rend ∧ t.time = s.time ∧ t.chain = s.chain ∧ t.outs = s.outs
            ∧ (∀ j c, j < 64 → c < r.channels → ((i0 + j) * 64 + c,
                (if i0 + j < fill ∧ fill ≤ i0 + j + r.length ∧ ∀ c', c' < r.channels → dramBad s (basinStart s + r.place (i0 + j) c') = false
                  then signed 32 (fieldLE (readBytes s (basinStart s + r.place (i0 + j) c) 4) 0 4) else 0)) ∈ r'.block))
      ∧ (∀ r, mapFind s.route.rings ring = some r → r.capture = true → ∀ i v rest, r.block = (i, v) :: rest → i / 64 = r.device →
          r.start ≤ r.device → (r.device - r.start) % 64 = 0 → (∃ e ∈ r.block, r.device + 63 ≤ e.1 / 64) →
          ∃ t, exec (.ringCaptureBlock ring) s = .next t
            ∧ t.route.rings = mapSet s.route.rings ring { r with
                device := (r.device + 64), block := (r.block.filter fun e => decide (r.device + 64 ≤ e.1 / 64)) }
            ∧ readBytes t (basinStart s + r.offset + 8) 8 = bytesLE 8 (r.device + 64)
            ∧ t.msg = s.msg ∧ t.sys = s.sys ∧ t.rend = s.rend ∧ t.time = s.time ∧ t.chain = s.chain ∧ t.outs = s.outs))

/-- Register writes (R15 to R17, R40 to R43, R98, R498 to R501): a write of a word that the firewall lets through has the register's own effect, a plain register taking the bits that its fields have and a sealed one keeping its value with SEAL_VIOL set; another size does nothing to a register but a bus error; a refused write has no effect but its record; a die that does not answer gives a bus error; a bank takes a write of its owner alone. The actions of W1S bits, the outputs of external slots and the memory messages (R16, R162, R325): a W1S bit clears when its action is done unless it is set again in the same cycle; RPL_XDONE with the slot's tag marks it done, with another it is stale; `mem.read` and `mem.write` make the control cluster's accesses one after the other, `mem.basin.read`, `mem.basin.write` and `mem.basin.map` keep to Basin, `mem.basin.info` says where it lies. -/
def Obligations.RegistersAndMemory : Prop :=
  (
    ∀ (m : Master) (addr size : Nat) (v : Word) (s : State), size = 1 ∨ size = 2 ∨ size = 4 → powered s (masterDie s m) = true →
      mapHas s.hw.opens (masterKey m) = false → m ≠ .pcie →
      let a := addr % 2 ^ 40
      (∀ die off, placeOf s (masterDie s m) a = .reg die off → a % size = 0 → permitted s m (.reg die off) true = true →
        (size = 4 → exec (.registerWrite m addr size v) s = .next (noteReg 1 die off (regWrite m die off v s)))
        ∧ (size ≠ 4 → exec (.registerWrite m addr size v) s = .next (busErr s)))
      ∧ (∀ die off mask, storedMask s die off = some (mask, false) → mayStore m die off = true →
          (isTarn die = false ∨ off < 0x442000 ∨ 0x444000 ≤ off ∨ controls m = true) →
          regWrite m die off v s = busOk [] (regPut (dieAddr die off) (v.toNat &&& mask) s))
      ∧ (∀ die off mask, storedMask s die off = some (mask, true) → isSealed s die = true →
          regWrite m die off v s = busOk [] { s with sys.spring.sealViol := true })
      ∧ (∀ die off, placeOf s (masterDie s m) a = .reg die off → a % size = 0 → permitted s m (.reg die off) true = false →
          exec (.registerWrite m addr size v) s = .next (firewallRefuse m (.reg die off) true a s))
      ∧ (placeOf s (masterDie s m) a = .dead → exec (.registerWrite m addr size v) s = .next (busErr s))
      ∧ (placeOf s (masterDie s m) a = .nothing → exec (.registerWrite m addr size v) s = .next (openAccess m a true s))
      ∧ (∀ die bank off, placeOf s (masterDie s m) a = .pond die bank off → a % size = 0 → permitted s m (.pond die bank off) true = true →
          ownsBank s m die bank = true → (getBank s die bank).pwr ≠ 2 →
          exec (.registerWrite m addr size v) s = .next (busOk [] (mendWords (pondAddr die bank off) size
            (writeBytes (pondAddr die bank off) (bytesLE size v.toNat) (wakeBank die bank s)))))
      ∧ (∀ core off, placeOf s (masterDie s m) a = .code core off → a % size = 0 → permitted s m (.code core off) true = true →
          exec (.registerWrite m addr size v) s = .next (busOk [] (writeBytes (codeAddr core 0 + off) (bytesLE size v.toNat) s)))
      ∧ (∀ d, placeOf s (masterDie s m) a = .dram d → a % size = 0 → permitted s m (.dram d) true = true → s.hw.dram.st = 1 →
          exec (.registerWrite m addr size v) s = .next (busOk [] (dramWrite (dramAddr s d) (bytesLE size v.toNat) s))))
  ∧ (
    ∀ (rq : Request) (m : Master) (addr bit core : Nat) (v : Word) (s : State),
      (∀ die, placeOf s (activeShore s) (addr % 2 ^ 40) = .reg die 0x15000 → isShore die = true → (bit < 3 ∨ 16 ≤ bit) → bit < 32 →
        exec (.w1sActionDone addr bit false) s = .next { s with
          msg.mbx.dblNerris := s.msg.mbx.dblNerris &&& ~~~(BitVec.ofNat 32 (2 ^ bit)) }
        ∧ exec (.w1sActionDone addr bit true) s = .next s)
      ∧ (let die := coreDie core
         let p := Place.reg die (0x500700 + (core % 16) * 0x1000)
         let c := getCore s core
         let x := mapGet xslot0 c.slots (v.toNat % 64)
         core < s.member.cores → powered s (masterDie s m) = true →
         placeOf s (masterDie s m) (dieAddr die (0x500700 + (core % 16) * 0x1000)) = p → permitted s m p true = true → x.bound = true →
         (v.toNat / 256 % 256 = x.tag → exec (.rplXdoneWrite m core v) s = .next (busOk [] (setCore core { c with
            slots := mapSet c.slots (v.toNat % 64) { x with done := true, ready := false } } s)))
         ∧ (v.toNat / 256 % 256 ≠ x.tag → exec (.rplXdoneWrite m core v) s =
            .next (busOk [] (count (0x12000 + core) (setCore core { c with sticky := c.sticky ||| 0x80#8 } s)))))
      ∧ (let a := fieldLE rq.payload 0 8
         let len := fieldLE rq.payload 8 2
         (served memReadOp rq s = true → 4 ≤ len → len ≤ 1000 → len % 4 = 0 → memRefused s a len false = none →
           exec (.memRead rq) s = .next (answered rq 0x0B00 (readRange a len s).1 (readRange a len s).2))
         ∧ (served memReadOp rq s = true → (len < 4 ∨ 1000 < len ∨ len % 4 ≠ 0) →
           exec (.memRead rq) s = .next (refusedWith rq 0x0B00 codeBadArg 8 s))
         ∧ (served memWriteOp rq s = true → len = 4 → a % 4 = 0 → 20 ≤ rq.payload.length → memRefused s a len true = none →
           let t := busWrite .controlCluster a 4 (BitVec.ofNat 32 (fieldLE rq.payload 16 4)) s
           (t.bus.error = false → exec (.memWrite rq) s = .next (answered rq 0x0B01 [] t))
           ∧ (t.bus.error = true → exec (.memWrite rq) s = .next (respond rq 0x0B01 (refuse codeDenied 0 noField t) t)))
         ∧ (served memBasinReadOp rq s = true → 1 ≤ len → len ≤ 1000 → a + len ≤ basinSize s →
           exec (.memBasinRead rq) s = .next (answered rq 0x0B05 (readBytes s (basinStart s + a) len) (touchDram (basinStart s + a) len s)))
         ∧ (served memBasinWriteOp rq s = true → 1 ≤ len → len ≤ 992 → 16 + len ≤ rq.payload.length → a + len ≤ basinSize s →
           exec (.memBasinWrite rq) s = .next (answered rq 0x0B04 [] (dramWrite (basinStart s + a) ((rq.payload.drop 16).take len) s)))
         ∧ (served memBasinMapOp rq s = true → a % 0x10_0000 = 0 → a + 0x1000_0000 ≤ basinSize s → exec (.memBasinMap rq) s = .next
           (answered rq 0x0B03 [] (recorded false 0x0B03 [] rq { s with msg.mbx.bar2 := a / 0x10_0000 })))
         ∧ (served memBasinMapOp rq s = true → a % 0x10_0000 ≠ 0 → exec (.memBasinMap rq) s = .next (refusedWith rq 0x0B03 codeBadArg 0 s))
         ∧ (served memBasinInfoOp rq s = true → exec (.memBasinInfo rq) s = .next (answered rq 0x0B02
           (bytesLE 8 (0xE * 2 ^ 36 + basinStart s % 2 ^ 36) ++ bytesLE 8 (basinSize s) ++ bytesLE 8 (0xE * 2 ^ 36 + dumpStart s % 2 ^ 36)
             ++ bytesLE 8 (s.msg.mbx.bar2 * 0x10_0000)) s)))
      ∧ (nerrisUp s = true → ∀ o, (s.msg.ncp.outstanding.find? fun o => o.dest == destKey rq && o.seq == rq.seq) = some o →
          ∀ k, referencePlace o.opcode = some k → refLength rq.payload k ≤ 0x200_0000 →
          refOffset rq.payload k + refLength rq.payload k ≤ basinSize s →
          let data := readBytes s (basinStart s + refOffset rq.payload k) (refLength rq.payload k)
          let good := decide (rq.version < 0x30) || (crc32 data).toNat == refCrc rq.payload k
          exec (.basinReferenceCopy rq) s = .next { s with msg.ncp.copies := s.msg.ncp.copies ++ [{
            dest := destKey rq, seq := rq.seq, ok := good, data := if good then data else [] }] }))

/-- The inbound mailboxes (R106 to R113): the first write claims an empty mailbox, the claimant fills it, any other is refused; the commit read stamps the owner, makes the mailbox FULL and queues it to Nerris; a message too long empties it with RESULT 3; 1 ms without an access makes a claim stale; Nerris takes a full one with ACK and checks the request. The outbound mailboxes, and NCP over UDP (R114, R115, R141, R142, R167 to R171): the oldest message for a destination goes to the lowest-numbered mailbox that admits it when that one is empty, and its destination pops it with its first word; nothing leaves for a suspended host; a datagram from a new source opens a session with `sys.hello`, one that is no whole message is discarded, a session silent for 300 s ends. -/
def Obligations.Mailboxes : Prop :=
  (
    ∀ (m : Master) (n off id : Nat) (v : Word) (s : State), shoreUp s = true → n < 4 → senderId m = some id →
      let b := getIn s n
      (off < 1024 → off % 4 = 0 → allowed b.allow id = true → b.abortMark ≠ some id →
        (b.st = .empty → exec (.mbxInDataWrite m n off 4 v) s = .next (busOk [] (setIn n { b with
          words := mapSet b.words (off / 4) v, st := .filling, owner := id, ack := false, lastAccess := s.now } s)))
        ∧ (b.st = .filling → b.owner = id → exec (.mbxInDataWrite m n off 4 v) s =
            .next (busOk [] (setIn n { b with words := mapSet b.words (off / 4) v, lastAccess := s.now } s)))
        ∧ ((b.st = .full ∨ (b.st = .filling ∧ b.owner ≠ id)) →
            exec (.mbxInDataWrite m n off 4 v) s = .next (match m with
              | .pcie => busOk [] (setIn n { getIn (mbxErr (2 ^ n) s) n with dropMark := true } (mbxErr (2 ^ n) s))
              | .qspi => answer true 1 [] s
              | _ => busErr s)))
      ∧ (off < 1024 → off % 4 = 0 → allowed b.allow id = false → m ≠ .pcie → m ≠ .qspi →
          exec (.mbxInDataWrite m n off 4 v) s = .next (busErr s))
      ∧ (b.abortMark ≠ some id → (m = .pcie → b.dropMark = false) →
        (b.st = .filling → b.owner = id → winWord b.words 1 / 65536 ≤ 1008 →
          let w := winWord b.words 2
          let full := (weirPush (8 + n) (requestFlow id (winWord b.words 0 % 65536) (w / 65536)) 1 0 (0x10 + n) n (setIn n { b with
            words := mapSet b.words 2 (BitVec.ofNat 32 (w / 65536 * 65536 + id)), st := .full, lastAccess := s.now } s))
          exec (.mbxInCommitRead m n 4) s = .next (busOk [BitVec.ofNat 32 (id * 65536)] (wakeOnCommit full)))
        ∧ (b.st = .filling → b.owner = id → 1008 < winWord b.words 1 / 65536 →
            exec (.mbxInCommitRead m n 4) s = .next (busOk [BitVec.ofNat 32 (3 + id * 65536)]
              (mbxErr (2 ^ (8 + n)) (setIn n { b with st := .empty, owner := 0, lastAccess := s.now } s))))
        ∧ (b.st = .empty → exec (.mbxInCommitRead m n 4) s = .next (busOk [BitVec.ofNat 32 (3 + b.owner * 65536)] s))
        ∧ ((b.st = .full ∨ (b.st = .filling ∧ b.owner ≠ id)) →
            exec (.mbxInCommitRead m n 4) s = .next (busOk [BitVec.ofNat 32 (1 + b.owner * 65536)] s)))
      ∧ (b.st = .filling → exec (.mbxStaleRelease n) s =
          .next (mbxErr (2 ^ (12 + n)) (setIn n { b with st := .empty, owner := 0, aborted := true } s)))
      ∧ (b.st ≠ .filling → exec (.mbxStaleRelease n) s = .next s)
      ∧ (nerrisUp s = true → b.st = .full →
          let bs := winBytes b.words 1024
          exec (.mbxInPop n) s = .next (acceptRequest (fieldLE bs 0 2) (requestOf b.owner 0 bs)
            (setIn n { b with st := .empty, owner := 0, ack := true } s)))
      ∧ (∀ op rq, knownOp op = true → rq.version ≤ negotiated s rq → opVersion op ≤ rq.version → mayRequest rq.sender op rq.payload = true →
          outstandingOf s (destKey rq) < outstandingLimit (destKey rq) → acceptRequest op rq s =
            { s with msg.ncp.outstanding := s.msg.ncp.outstanding ++ [{ dest := destKey rq, seq := rq.seq, opcode := op }] })
      ∧ (∀ op rq, knownOp op = false → acceptRequest op rq s = respond rq op (refuse codeBadOpcode 0 noField s) s)
      ∧ (∀ op rq, knownOp op = true → rq.version ≤ negotiated s rq → opVersion op ≤ rq.version → mayRequest rq.sender op rq.payload = true →
          outstandingLimit (destKey rq) ≤ outstandingOf s (destKey rq) →
          acceptRequest op rq s = respond rq op (refuse codeBusy 0 noField s) s))
  ∧ (
    ∀ (m : Master) (n dest id : Nat) (s : State), shoreUp s = true →
      let d := getDest s dest
      (nerrisUp s = true → (s.msg.ncp.suspended = false ∨ (dest ≠ 1 ∧ dest ≠ 0x10)) → dest < 0x200000 → ∀ o rest, d.queue = o :: rest →
        ((List.range 4).find? fun n => allowed (getOut s n).allow dest) = some n → (getOut s n).full = false →
        let t := setOut n { getOut s n with words := wordsOf o.bytes, full := true, dest := dest } s
        let u := setDest dest { getDest t dest with queue := rest } t
        exec (.responseDelivery dest) s = .next (if o.event then u else dropOutstanding dest o.seq u))
      ∧ (d.queue = [] → exec (.responseDelivery dest) s = .next s)
      ∧ (s.msg.ncp.suspended = true → (dest = 1 ∨ dest = 0x10) → exec (.responseDelivery dest) s = .next s)
      ∧ (n < 4 → senderId m = some id →
        let b := getOut s n
        (b.full = true → b.dest = id → exec (.mbxOutPop m n 4) s = .next (busOk [BitVec.ofNat 32 (winWord b.words 0)]
          (setOut n { b with words := [], full := false, dest := 0 } s)))
        ∧ (b.full = false ∨ b.dest ≠ id → exec (.mbxOutPop m n 4) s = .next (match m with
            | .pcie => busOk [0] s
            | .qspi => answer true 3 [0] s
            | _ => busErr s)))
      ∧ (∀ (port srcPort : Nat) (addr : BitVec 128) (bs : List Byte), nerrisUp s = true → s.msg.ncp.mgmt.port = some port →
        (exec (.ncpUdpDatagram port addr srcPort true bs) s = .next (udpDiscard port s))
        ∧ (bs.length < 16 ∨ 1080 < bs.length → exec (.ncpUdpDatagram port addr srcPort false bs) s = .next (udpDiscard port s))
        ∧ (16 ≤ bs.length → bs.length ≤ 1080 → bs.length = 16 + fieldLE bs 6 2 → bit (byteAt bs 2) 3 = false → fieldLE bs 0 2 = 0 →
            sessionOf s addr srcPort = none → ∀ k, mapFree s.msg.ncp.sessions 4 = some k →
            exec (.ncpUdpDatagram port addr srcPort false bs) s =
              .next (acceptRequest 0 (requestOf 0x20 k bs) (openSession k addr srcPort s)))
        ∧ (16 ≤ bs.length → bs.length ≤ 1080 → bs.length = 16 + fieldLE bs 6 2 + 56 → bit (byteAt bs 2) 3 = true →
            s.sys.spring.cryptoErr = false → fieldLE bs 0 2 ≠ 0 → fieldLE bs 0 2 ≠ 0x0C00 → ∀ k se, sessionOf s addr srcPort = some k →
            mapFind s.msg.ncp.sessions k = some se →
            let ctr := fieldLE bs (16 + fieldLE bs 6 2) 8
            let good := (udpMac s se.nonce ctr (bs.take (16 + fieldLE bs 6 2))).toNat = fieldBE bs (16 + fieldLE bs 6 2 + 8) 48 ∧ se.lastIn < ctr
            (good → exec (.ncpUdpDatagram port addr srcPort false bs) s = .next (acceptRequest (fieldLE bs 0 2) (requestOf 0x20 k bs)
              { s with msg.ncp.sessions := mapSet s.msg.ncp.sessions k { se with lastIn := ctr, lastValid := s.now } }))
            ∧ (¬ good → exec (.ncpUdpDatagram port addr srcPort false bs) s = .next (udpAuthFailed port s))))
      ∧ (nerrisUp s = true → mapHas s.msg.ncp.sessions n = true → exec (.udpSessionTimeout n) s = .next { s with
          msg.ncp.sessions := mapErase s.msg.ncp.sessions n, msg.ncp.dests := mapErase s.msg.ncp.dests (0x200000 + n)
          msg.ncp.outstanding := s.msg.ncp.outstanding.filter fun o => o.dest != 0x200000 + n }))

/-- Doorbells, PCIe and vectors (R120, R126, R137, R141, R599): a ring of DBL_NERRIS by any sender sets its bit, suspend and resume holding and releasing what goes to the hosts; only the control cluster acknowledges; the host clears its own bits; a PCIe reset releases what sender 0x0001 held and is counted; training that completes gives speed and width; an unmasked vector that is pending fires while its cause stands. The lock registers (R121 to R123): a read takes a free lock and returns 0, of a taken one bit 31 and its owner; the owner frees it by writing its own ID, any other write is recorded in LOCK_ERR once; Nerris frees any lock by force. -/
def Obligations.DoorbellsAndLocks : Prop :=
  (
    ∀ (m : Master) (id core bit : Nat) (mask : Word) (s : State), shoreUp s = true → senderId m = some id →
      exec (.dblOutDrained m) s = .next (busOk [] (ringNerris 1 s))
      ∧ exec (.dblHostSuspend m) s = .next (busOk [] { ringNerris 2 s with msg.ncp.suspended := true })
      ∧ exec (.dblHostResume m) s = .next (busOk [] { ringNerris 4 s with msg.ncp.suspended := false })
      ∧ (core < s.member.cores → powered s (coreDie core) = true → bit < 16 →
          exec (.dblRplRing core bit) s = .next (busOk [] (ringNerris (2 ^ (16 + bit)) s)))
      ∧ (∀ b, b < 32 → s.msg.mbx.dblNerris.getLsbD b = false → ringNerris (2 ^ b) s =
          weirPush 12 2793 1 b 0 b { s with msg.mbx.dblNerris := s.msg.mbx.dblNerris ||| BitVec.ofNat 32 (2 ^ b) })
      ∧ (∀ b, b < 32 → s.msg.mbx.dblNerris.getLsbD b = true → ringNerris (2 ^ b) s = s)
      ∧ (id = 0x8000 → exec (.dblNerrisAck m mask) s = .next (busOk [] { s with msg.mbx.dblNerris := s.msg.mbx.dblNerris &&& ~~~mask }))
      ∧ (id ≠ 0x8000 → exec (.dblNerrisAck m mask) s = .next (busErr s))
      ∧ (exec (.dblHostClear m mask) s = .next (busOk [] (clearHostBits mask s)))
      ∧ (clearHostBits mask s).msg.mbx.dblHost = s.msg.mbx.dblHost &&& ~~~(mask.setWidth 22)
      ∧ (let t := forgetDest 1 (releaseClaims 1 s)
         exec (.pcieReset true) s = .next { t with msg.mbx.flrs := min 65535 (t.msg.mbx.flrs + 1) }
         ∧ exec (.pcieReset false) s = .next { t with msg.mbx.hotResets := min 65535 (t.msg.mbx.hotResets + 1) })
      ∧ (∀ speed width, s.msg.mbx.pciTraining = true → pinsDriven s = false → 1 ≤ speed → speed ≤ 4 → 1 ≤ width → width ≤ 2 →
          exec (.pcieLinkUp speed width) s = .next { s with
            msg.mbx.pciSpeed := speed, msg.mbx.pciWidth := width, msg.mbx.pciTraining := false })
      ∧ (∀ v, v < 32 →
        let b : Word := BitVec.ofNat 32 (2 ^ v)
        let t := { s with msg.mbx.msixMask := s.msg.mbx.msixMask &&& ~~~b }
        let u := { t with msg.mbx.msixPba := t.msg.mbx.msixPba &&& ~~~b }
        (s.msg.mbx.msixPba.getLsbD v = false ∨ s.msg.mbx.msixFmask = true → exec (.msixVectorUnmask v) s = .next t)
        ∧ (s.msg.mbx.msixPba.getLsbD v = true → s.msg.mbx.msixFmask = false → msixCause t v = true →
            exec (.msixVectorUnmask v) s = .next { u with wire := .msix v :: u.wire })
        ∧ (s.msg.mbx.msixPba.getLsbD v = true → s.msg.mbx.msixFmask = false → msixCause t v = false →
            exec (.msixVectorUnmask v) s = .next u)))
  ∧ (
    ∀ (m : Master) (die n id : Nat) (v : Word) (s : State), reachesRegs s m die = true → n < lockCount die → senderId m = some id →
      let o := mapGet (fun _ => 0) s.msg.locks.owners (die * 64 + n)
      (o = 0 → exec (.lockRead m die n 4) s = .next (busOk [0] { s with msg.locks.owners := mapSet s.msg.locks.owners (die * 64 + n) id }))
      ∧ (o ≠ 0 → exec (.lockRead m die n 4) s = .next (busOk [BitVec.ofNat 32 (0x80000000 + o)] s))
      ∧ (o = id → v.toNat % 65536 = id → exec (.lockWrite m die n v) s =
          .next (busOk [] { s with msg.locks.owners := mapErase s.msg.locks.owners (die * 64 + n) }))
      ∧ (o ≠ id ∨ v.toNat % 65536 ≠ id → exec (.lockWrite m die n v) s = .next (busOk [] (lockFail die n id s)))
      ∧ (id = 0x8000 → exec (.lockForce m die v) s =
          .next (busOk [] { s with msg.locks.owners := mapErase s.msg.locks.owners (die * 64 + v.toNat % 64) }))
      ∧ (id ≠ 0x8000 → exec (.lockForce m die v) s = .next (busOk [] (lockFail die (v.toNat % 64) id s)))
      ∧ ((getLockErr s die).valid = false →
          getLockErr (lockFail die n id s) die = { index := n, sender := id % 32768, valid := true })
      ∧ ((getLockErr s die).valid = true → getLockErr (lockFail die n id s) die = getLockErr s die))

/-- The QSPI and I²C targets, the test multiplexer and the test access port (R119, R588 to R595): QSPI words go to BAR0 offsets one after the other and the status is that of the first word refused, a read whose first word is refused reading 0 throughout; I²C sets its pointer, and bit 0 written to the wake register wakes; `diag.tmux` needs its enable; an instruction of the test port that drives the pins takes the links down, BYPASS and IDCODE do not. -/
def Obligations.PinInterfaces : Prop :=
  ∀ (s : State),
    (aoAnswersQspi s = false → shoreUp s = true → ∀ addr, addr % 4 = 0 →
      exec (.qspiWriteWords addr [] false) s = .next (busOk [] s)
      ∧ (∀ w, let t := busWrite .qspi (0xE * 2 ^ 36 + addr % 2 ^ 24) 4 w (busOk [] s)
          exec (.qspiWriteWords addr [w] false) s = .next (answer t.bus.error t.bus.status [] t))
      ∧ (∀ w v rest, let t := busWrite .qspi (0xE * 2 ^ 36 + addr % 2 ^ 24) 4 w (busOk [] s)
          t.bus.status ≠ 0 → exec (.qspiWriteWords addr (w :: v :: rest) false) s = .next (answer t.bus.error t.bus.status [] t))
      ∧ (let t := busRead .qspi (0xE * 2 ^ 36 + addr % 2 ^ 24) 4 s
         (t.bus.status = 0 → exec (.qspiReadWords addr 1) s = .next (busOk [nth 0 t.bus.data 0] t))
         ∧ (∀ n, n ≠ 0 → t.bus.status ≠ 0 →
              exec (.qspiReadWords addr n) s = .next (answer true t.bus.status (List.replicate n 0) t))))
    ∧ (aoAnswersQspi s = true → ∀ addr n data, exec (.qspiWriteWords addr data false) s = .next (answer true 2 [] s)
        ∧ exec (.qspiReadWords addr n) s = .next (answer true 2 (List.replicate n 0) s))
    ∧ (s.sys.ao.vdd = true → ∀ ptr data,
        let t := { s with sys.ao.i2cPtr := ptr % 256 }
        (ptr % 256 ≠ 0x10 ∨ data = [] → exec (.i2cWrite s.sys.ao.i2cAddr ptr data) s = .next t)
        ∧ (ptr % 256 = 0x10 → ∀ b : Byte, b.getLsbD 0 = true → exec (.i2cWrite s.sys.ao.i2cAddr ptr [b]) s = .next (wakeBy 4 t)
            ∧ exec (.i2cWakeWrite s.sys.ao.i2cAddr b) s = .next (wakeBy 4 { s with sys.ao.i2cPtr := 0x10 }))
        ∧ (∀ a, a ≠ s.sys.ao.i2cAddr → exec (.i2cWrite a ptr data) s = .next s))
    ∧ (∀ rq, served diagTmuxOp rq s = true →
        let pin := byteAt rq.payload 0
        let die := byteAt rq.payload 1
        let sig := fieldLE rq.payload 2 2
        ((effectiveDebug s).getLsbD 0 = false → exec (.diagTmux rq) s = .next (refusedWith rq 0x0E04 codeDenied noField s))
        ∧ ((effectiveDebug s).getLsbD 0 = true → pin < 16 → s.member.has die = true → sig < 4096 →
            exec (.diagTmux rq) s = .next (answered rq 0x0E04 []
              (regPut (dieAddr (activeShore s) (0x250000 + 4 * pin)) (sig + 4096 * die + 32768) s)))
        ∧ ((effectiveDebug s).getLsbD 0 = true → pin < 16 → sig = 0xFFFF →
            exec (.diagTmux rq) s = .next (answered rq 0x0E04 [] (regPut (dieAddr (activeShore s) (0x250000 + 4 * pin)) 0 s))))
    ∧ (powered s (activeShore s) = true →
      exec .jtagBypass s = .next (jtagLoad .bypass s) ∧ exec .jtagTestLogicReset s = .next (jtagLoad .reset s)
      ∧ exec .jtagIdcode s = .next (busOk [idCode s] (jtagLoad .idcode s))
      ∧ (∀ b, exec (.jtagSamplePreload b) s = .next (jtagLoad .sample { s with sys.jtag.boundary := b }))
      ∧ ((effectiveDebug s).getLsbD 2 = false → exec .jtagCoreDebug s = .next (jtagLoad .bypass s))
      ∧ (∀ i c, (i, c) ∈ [(JtagInstr.extest, Instr.jtagExtest), (.extestPulse, .jtagExtestPulse), (.extestTrain, .jtagExtestTrain),
            (.clamp, .jtagClamp), (.highz, .jtagHighz)] →
          exec c s = .next (jtagLoad i s) ∧ pinsDriven (jtagLoad i s) = true
          ∧ (pinsDriven s = false → (jtagLoad i s).msg.mbx.pciSpeed = 0 ∧ (jtagLoad i s).msg.mbx.pciTraining = false))
      ∧ (pinsDriven s = false → jtagLoad .bypass s = { s with sys.jtag.instr := .bypass }
          ∧ jtagLoad .sample s = { s with sys.jtag.instr := .sample } ∧ jtagLoad .idcode s = { s with sys.jtag.instr := .idcode }))
    ∧ ((idCode s).getLsbD 0 = true ∧ (idCode s).toNat / 4096 % 65536 = (match s.member with
        | .evr2 => 0xE202
        | .evr4 => 0xE204
        | .evr8 => 0xE208))

/-- Clocks and frames of ports (R342, R345, R349 to R354, R357, R358): loss of a watched clock fades its samples out, is counted and reported; a clock that returns and matches is admitted, one that does not match is refused; a change of rate class is reported; a converter locks and unlocks; a frame of enough bit clocks gives its enabled slots' words, a short one counts, two in a row lose the clock; an AES3 frame gives both words, the last good one in place of one in error. The `port` messages (R157, R341, R343 to R346, R355, R359, R360): TDM and AES3 settings and converters are staged, the slot mask waits in the buffer for the next frame, word clock is set at once, `port.status` reports; a port, direction, slot count, width or rate beyond the part is BAD_ARG with its field. -/
def Obligations.Ports : Prop :=
  (
    ∀ (kind index dir : Nat) (s : State),
      let k := portKey kind dir index
      let p := getPort s k
      let i := convOf kind dir index
      (kind < 2 → isWatched s kind index dir = true → p.st = 2 → 0 < p.fade → exec (.clockLoss kind index dir) s = .next (
          clockRefLost kind index dir (portClock kind index dir 0 (count (lossCounter kind dir index) (setPort k { p with
            st := 3, fadeUp := false, errRun := 0, losses := p.losses + 1, frames := 0, queue := [], skip := 0, block := 192 }
            (setSrcState i { getSrcState s i with locked := false } s))))))
      ∧ (isWatched s kind index dir = false ∨ p.st = 0 → exec (.clockLoss kind index dir) s = .next s)
      ∧ (nerrisUp s = true → isWatched s kind index dir = true → p.st = 0 → ∀ rate bits,
          let q : PortState := { p with
            rate := rate, frameLen := if kind = 0 then bits % 2048 else 0, errRun := 0, frames := 0, queue := [], skip := 0 }
          (clockMatches s kind dir index rate bits = true → kind < 2 → portMode s kind dir index < 2 →
            exec (.clockReturn kind index dir rate bits) s = .next (portClock kind index dir 1 (setPort k { q with st := 3, fadeUp := true } s)))
          ∧ (clockMatches s kind dir index rate bits = false → exec (.clockReturn kind index dir rate bits) s =
              .next (portClock kind index dir 2 (setPort k { q with st := 1, fadeUp := false } s))))
      ∧ (nerrisUp s = true → isWatched s kind index dir = true → kind < 2 → ∀ rate,
          let t := setPort k { p with rate := rate, cls := rateClass rate } s
          (rateClass rate = p.cls → exec (.rateClassChange kind index dir rate) s = .next t)
          ∧ (rateClass rate ≠ p.cls → exec (.rateClassChange kind index dir rate) s = .next (event 3 (activeShore t) 0x0681 0xFFFF
              (bytesLE 1 kind ++ bytesLE 1 index ++ bytesLE 1 dir ++ bytesLE 1 0 ++ bytesLE 4 rate) t)))
      ∧ (∀ c, (getSrc s c).enable = true → 64 ≤ c →
          ((getSrcState s c).locked = false → exec (.srcLock c) s = .next (setSrcState c { getSrcState s c with locked := true } s))
          ∧ ((getSrcState s c).locked = true → exec (.srcUnlock c) s =
              .next (count (0x3540 + 4 * c) (setSrcState c { getSrcState s c with locked := false } s))))
      ∧ (∀ c, mapFind s.route.tdm index = some c → index < 16 → nerrisUp s = true → kind = 0 → dir = 0 → ∀ bits slots ns,
          (bits < c.slots * c.width ∨ 2047 < bits →
            let t := count (0x3400 + 8 * index + 1) (setPort k { loadMask p with
              frameLen := bits % 2048, errRun := (loadMask p).errRun + 1 } s)
            ((loadMask p).errRun = 0 → exec (.tdmInputFrame index bits slots ns) s = .next t)
            ∧ (1 ≤ (loadMask p).errRun → exec (.tdmInputFrame index bits slots ns) s = .next (loseClock 0 index 0 t)))
          ∧ (c.slots * c.width ≤ bits → bits ≤ 2047 → portMode s 0 0 index = 0 → p.st = 2 →
            let frame := (List.range c.slots).map fun i => if p.mask.testBit i then wordIn c.width (slots.getD i 0) else 0
            exec (.tdmInputFrame index bits slots ns) s = .next (setPort k (loadMask { p with
              frameLen := bits, errRun := 0, queue := [frame], hist := (frame :: p.hist).take 66, frames := p.frames + 1 }) s)))
      ∧ (∀ c, mapFind s.route.aes index = some c → index < 2 → nerrisUp s = true → kind = 1 → dir = 0 → ∀ f : AesFrame,
          portMode s 1 0 index = 2 → p.st = 2 → 2 ≤ p.block → p.block < 191 → f.zPreamble = false → f.biphaseOk = true →
          let last := p.queue.getLast?.getD p.held
          let word := fun (ok mute : Bool) (v : Int) (j : Nat) => if mute then 0 else if ok then wordIn 24 v else last.getD j 0
          ∃ t, exec (.aes3InputFrame index f) s = .next t ∧ (getPort t k).st = 2 ∧ (getPort t k).block = p.block + 1
            ∧ (getPort t k).queue = [[word f.parityOkL (p.nonAudio.getLsbD 0) f.left 0, word f.parityOkR (p.nonAudio.getLsbD 1) f.right 1]]
            ∧ (getPort t k).errRun = 0 ∧ counter t (0x3500 + 8 * index) = counter s (0x3500 + 8 * index) + flag (!f.parityOkL) + flag (!f.parityOkR)
            ∧ t.msg = s.msg ∧ t.sys = s.sys ∧ t.rend = s.rend ∧ t.route.routes = s.route.routes))
  ∧ (
    ∀ (rq : Request) (s : State),
      let p := rq.payload
      let port := byteAt p 0
      let dir := byteAt p 1
      (served portTdmCfgOp rq s = true →
        let slots := byteAt p 2
        let w := byteAt p 3
        let rate := byteAt p 6
        (port < s.member.tdmPorts → dir < 2 → 1 ≤ slots → slots ≤ 32 → w = 16 ∨ w = 20 ∨ w = 24 ∨ w = 32 → byteAt p 4 ≤ 31 → rate ≤ 5 →
          slots * w * rateHz rate ≤ 50000000 →
          (byteAt p 5 = 0 ∨ (byteAt p 5 = 1 ∧ sameFamily rate s.time.rate = true ∧ masterFrame (slots * w) * rateHz rate ≤ 50000000)) →
          exec (.portTdmCfg rq) s = .next (answered rq 0x0600 [] (recorded true 0x0600 (p.take 2) rq { s with
            route.tdmStage := (mapSet s.route.tdmStage (dir * 16 + port) { slots := slots, width := w, offset := byteAt p 4
                                                                           master := byteAt p 5 == 1, rate := rate
                                                                           hiZ := (byteAt p 7).testBit 0, mask := fieldLE p 8 4 }) })))
        ∧ (s.member.tdmPorts ≤ port → exec (.portTdmCfg rq) s = .next (refusedWith rq 0x0600 codeBadArg 0 s))
        ∧ (port < s.member.tdmPorts → dir < 2 → slots = 0 ∨ 32 < slots → exec (.portTdmCfg rq) s = .next (refusedWith rq 0x0600 codeBadArg 2 s)))
      ∧ (served portTdmMaskOp rq s = true → port < s.member.tdmPorts → dir < 2 → s.time.rendering = false →
          exec (.portTdmMask rq) s = .next (answered rq 0x0601 [] (recorded false 0x0601 (p.take 2) rq (setPort (portKey 0 dir port)
            { getPort s (portKey 0 dir port) with maskBuf := some (fieldLE p 4 4), maskLate := false } s))))
      ∧ (served portAesCfgOp rq s = true → port < 2 → dir < 2 → byteAt p 2 ≤ 5 → (dir = 0 ∨ sameFamily (byteAt p 2) s.time.rate = true) →
          let c24 := if (byteAt p 3).testBit 0 then (slice p 4 24).take 23 ++ [crcc ((slice p 4 24).take 23)] else slice p 4 24
          exec (.portAesCfg rq) s = .next (answered rq 0x0602 [] (recorded true 0x0602 (p.take 2) rq { s with
            route.aesStage := (mapSet s.route.aesStage (dir * 2 + port) { rate := byteAt p 2, pro := (byteAt p 3).testBit 0
                                                                          valid := (byteAt p 3).testBit 1, status := c24 }) })))
      ∧ (served portWclkCfgOp rq s = true → dir ≤ 5 → sameFamily dir s.time.rate = true →
          exec (.portWclkCfg rq) s = .next (answered rq 0x0603 [] (recorded false 0x0603 [] rq { s with
            route.wclkOut := port.testBit 0, route.wclkRef := port.testBit 1, route.wclkRate := dir })))
      ∧ (served portWclkCfgOp rq s = true → 5 < dir → exec (.portWclkCfg rq) s = .next (refusedWith rq 0x0603 codeBadArg 1 s))
      ∧ (served portSrcCfgOp rq s = true → port < 2 → dir < 2 → byteAt p 2 ≤ 1 → byteAt p 3 = 0 → byteAt p 4 ≤ 1 →
          exec (.portSrcCfg rq) s = .next (answered rq 0x0604 [0, 0, 0, 0] (recorded true 0x0604 (p.take 3) rq { s with
            route.srcStage := mapSet s.route.srcStage (convOf port (byteAt p 2) dir) { enable := false, set := byteAt p 4 } })))
      ∧ (served portSrcCfgOp rq s = true → 2 < port → exec (.portSrcCfg rq) s = .next (refusedWith rq 0x0604 codeBadArg 0 s))
      ∧ (served portStatusOp rq s = true → port < 2 → dir < 2 → byteAt p 2 ≤ 1 → (port = 0 ∨ byteAt p 2 = 0) →
          exec (.portStatus rq) s = .next (answered rq 0x0605 (bytesLE 4 (portMeasured s port (byteAt p 2) dir)
            ++ bytesLE 1 (portSt s port (byteAt p 2) dir) ++ [0, 0, 0] ++ bytesLE 4 (counter s (lossCounter port (byteAt p 2) dir))) s)))

/-- Links, flow control and addresses of the switch (R370, R371, R377, R384 to R392, R395): a link comes up with its report and falls with what was queued on it discarded; PAUSE and PFC frames are counted and obeyed as set; refreshes, expiries, ageing and stale host frames have their effect; each frame-error counter that has risen is reported once a second. Frames through the switch (R373, R377 to R385, R389, R414, R492): a frame that fails a check is counted as what it fails and goes nowhere but on ports that cut it through; a good one is counted, learned, classified and sent where its address leads; a frame that leaves a port is given out; the receive DMA puts the oldest frame of the highest waiting class in DRAM with a descriptor in the Weir queue of its class. -/
def Obligations.Switch : Prop :=
  (
    ∀ (port : Nat) (s : State), port < 4 → shoreUp s = true →
      let x := getNet s port
      (x.mode ≠ 0 → x.link = false → pinsDriven s = false → ∀ partner, exec (.linkUp port partner) s = .next
          (joinAll port (netLink port 1 (setNet port { x with link := true, partner := if x.mode = 1 then partner % 4 else 0xFF } s))))
      ∧ (exec (.linkDown port) s = .next (dropLink port s))
      ∧ (x.link = false → dropLink port s = s)
      ∧ (x.link = true → (getNet (dropLink port s) port).link = false ∧ (getNet (dropLink port s) port).txQ = []
          ∧ (getNet (dropLink port s) port).hostQ = [] ∧ (getNet (dropLink port s) port).linkDowns = x.linkDowns + 1)
      ∧ (x.link = true → ∀ time, time < 65536 →
        let c := count (0x4000 + 0x40 * port + 11) s
        (x.flags.testBit 2 = true → netCounter s port 11 % 2 ^ 31 ≠ 2 ^ 31 - 1 → netCounter s port 13 % 2 ^ 31 ≠ 2 ^ 31 - 1 →
          exec (.pauseFrameRx port time) s = .next (count (0x4000 + 0x40 * port + 13) c))
        ∧ (x.flags.testBit 2 = false → x.flags.testBit 0 = false → netCounter s port 11 % 2 ^ 31 ≠ 2 ^ 31 - 1 →
          exec (.pauseFrameRx port time) s = .next c)
        ∧ (obeysPause x = true → time ≠ 0 → ∃ t, exec (.pauseFrameRx port time) s = .next t ∧ getNet t port = { x with pauseEnd := some time })
        ∧ (obeysPause x = true → ∃ t, exec (.pauseFrameRx port 0) s = .next t ∧ getNet t port = { x with pauseEnd := none }))
      ∧ (x.link = true → x.flags.testBit 2 = true → ∀ classes times, ∃ t, exec (.pfcFrameRx port classes times) s = .next t
          ∧ (∀ c, c < 8 → classes.testBit c = true → x.pfcMask.testBit c = true → times.getD c 0 % 65536 ≠ 0 →
              mapFind (getNet t port).pfcEnd c = some (times.getD c 0 % 65536)) ∧ (getNet t port).pauseEnd = x.pauseEnd)
      ∧ (exec (.pauseTimerExpiry port none) s = .next (setNet port { x with pauseEnd := none } s)
          ∧ ∀ c, exec (.pauseTimerExpiry port (some c)) s = .next (setNet port { x with pfcEnd := mapErase x.pfcEnd c } s))
      ∧ (x.xoff = true → exec (.pauseRefresh port) s = .next (sendPause port 0xFFFF s))
      ∧ (x.xoff = false → exec (.pauseRefresh port) s = .next s)
      ∧ (∀ (mac : BitVec 48) e, mapFind s.net.macs mac.toNat = some e →
          (swCfg s ≠ 0 → exec (.addressAgeOut mac) s = .next (netCount e.port 31 { s with net.macs := mapErase s.net.macs mac.toNat }))
          ∧ (swCfg s = 0 → exec (.addressAgeOut mac) s = .next s))
      ∧ (∀ f, f ∈ x.txQ → f.host = true → (x.txQ.find? fun g => g.host && g.id == f.id) = some f →
          exec (.hostTxStale port f.id) s = .next (netCount port 35 (setNet port { x with txQ := x.txQ.erase f } s)))
      ∧ (nerrisUp s = true → mapFind s.msg.ncp.lastSent (0x60000 + port) = none → mapGet (fun _ => 0) x.lastErr 5 < netCounter s port 5 →
          (∀ n, n ∈ [6, 7, 8, 40, 41, 42, 43, 44, 45, 46, 47] → netCounter s port n ≤ mapGet (fun _ => 0) x.lastErr n) →
          let t := counterEvent 13 (0x4000 + 0x40 * port + 5)
            { s with msg.ncp.lastSent := mapSet s.msg.ncp.lastSent (0x60000 + port) s.now }
          exec (.frameErrorReport port) s = .next (setNet port { getNet t port with
            lastErr := ([5, 6, 7, 8, 40, 41, 42, 43, 44, 45, 46, 47].map fun n => (n, netCounter t port n)) } t)))
  ∧ (
    ∀ (port : Nat) (s : State), port < 4 → shoreUp s = true → (getNet s port).link = true →
      let x := getNet s port
      (∀ f n, frameFault x f = some n → exec (.netFrameRx port f) s = .next (stomp port f.bytes (netCount port n s)))
      ∧ (∀ f : Frame,
          (f.codingOk = false → frameFault x f = some 8)
          ∧ (f.codingOk = true → frameLength f.bytes < 64 → frameFault x f = some 6)
          ∧ (f.codingOk = true → 64 ≤ frameLength f.bytes → x.maxFrame < frameLength f.bytes → frameFault x f = some 7)
          ∧ (f.codingOk = true → 64 ≤ frameLength f.bytes → frameLength f.bytes ≤ x.maxFrame → f.fcsOk = false → frameFault x f = some 5)
          ∧ (f.codingOk = true → 64 ≤ frameLength f.bytes → frameLength f.bytes ≤ x.maxFrame → f.fcsOk = true → frameFault x f = none))
      ∧ (∀ f, frameFault x f = none → wakesPart s port f.bytes = false → s.sys.ao.power ≠ .sleep →
          let d := dstMac f.bytes
          let t := netCount port (if d = macBroadcast then 4 else if macGroup d then 3 else 2)
            (netCountBy port 1 (frameLength f.bytes) (netCount port 0 s))
          let u := if isTagged f.bytes then netCount port 14 t else t
          exec (.netFrameRx port f) s = .next (if isMacControl f.bytes then macControl port f.bytes u else switchFrame port f.bytes u))
      ∧ (∀ f, frameFault x f = none → s.sys.ao.power = .sleep → wakesPart s port f.bytes = false → exec (.netFrameRx port f) s = .next s)
      ∧ (∀ f, nextFrame x = some f → f.host = true → f.ptp = none → f.stamp = false →
          exec (.hostFrameTx port) s = .next (checkFills (sendFrame port f.cls f.bytes (setNet port { x with
            txQ := x.txQ.erase f, hostNext := x.hostNext.filter (· != f.cls) } s))))
      ∧ (nextFrame x = none → exec (.hostFrameTx port) s = .next s)
      ∧ (x.pauseEnd.isSome = true → nextFrame x = none)
      ∧ (nerrisUp s = true → ∀ f, x.hostQ = [f] → (∀ p, p < 4 → p ≠ port → (getNet s p).hostQ = []) →
          classifyFrame s port f.bytes = none → exec (.rxDmaComplete port) s = .next (checkFill port
            (count (if macGroup (dstMac f.bytes) then 0x4291 else 0x4290) (setNet port { x with hostQ := [] } s))))
      ∧ (nerrisUp s = true → ∀ f flow slot u, x.hostQ = [f] → (∀ p, p < 4 → p ≠ port → (getNet s p).hostQ = []) →
          classifyFrame s port f.bytes = some flow → freeSlots s ((f.bytes.length + 2047) / 2048) = some slot →
          weirOffer f.cls flow 0 (frameLength f.bytes) port (slotAddr s slot) (setNet port { x with hostQ := [] } s) = (u, true) →
          ∃ t, exec (.rxDmaComplete port) s = .next t ∧ t.hw.mem = memPuts u.hw.mem (slotAddr s slot) f.bytes ∧ (getNet t port).hostQ = []
            ∧ ∃ index, t.msg.weir.buffers = mapSet u.msg.weir.buffers index (slot, (f.bytes.length + 2047) / 2048))
      ∧ (x.hostQ = [] → exec (.rxDmaComplete port) s = .next s))

/-- The `net` messages (R158, R372, R378): `net.port.cfg` gives a port its mode, frame length and partition within 1,792 KiB in all, taking the link down where mode or partition change; filters, VLAN and management are set; status and counters are read. What is beyond the part is BAD_ARG. -/
def Obligations.NetworkMessages : Prop :=
  ∀ (rq : Request) (s : State),
    let p := rq.payload
    let port := byteAt p 0
    let x := getNet s port
    (served netPortCfgOp rq s = true → port < 4 → byteAt p 1 ≤ 4 →
      let maxF := fieldLE p 2 2
      let part := fieldLE p 4 2
      let flags := byteAt p 6
      64 ≤ maxF → maxF ≤ 9216 → 4 ≤ part → part ≤ 1024 → portSizes s port part maxF flags = (part, maxF) →
      let t := if byteAt p 1 ≠ x.mode ∨ part ≠ x.partition then dropLink port s else s
      let y : NetPort := { getNet t port with
        mode := byteAt p 1, maxFrame := maxF, partition := part, flags := flags % 16, pfcMask := byteAt p 7 }
      let z : NetPort := if obeysPause y then y else { y with pauseEnd := none }
      exec (.netPortCfg rq) s = .next (answered rq 0x0700 (bytesLE 2 maxF ++ bytesLE 2 part) (recorded false 0x0700 (p.take 1) rq
        (checkFill port (setNet port (if flags.testBit 2 then z else { z with pfcEnd := [] }) t)))))
    ∧ (served netPortCfgOp rq s = true → 4 ≤ port → exec (.netPortCfg rq) s = .next (refusedWith rq 0x0700 codeBadArg 0 s))
    ∧ (∀ part maxF flags, (portSizes s port part maxF flags).1 ≤ part ∧ (portSizes s port part maxF flags).2 ≤ maxF)
    ∧ (served netPortStatusOp rq s = true → port < 4 → exec (.netPortStatus rq) s = .next (answered rq 0x0701 (bytesLE 1 (flag x.link)
        ++ bytesLE 1 x.mode ++ bytesLE 1 (if x.mode = 1 then x.partner else 0xFF) ++ [0] ++ bytesLE 4 x.linkDowns) s))
    ∧ (served netFilterSetOp rq s = true → port < 4 → s.member = .evr8 → byteAt p 1 = 1 → 72 ≤ p.length →
        exec (.netFilterSet rq) s = .next (answered rq 0x0702 [] (recorded false 0x0702 (p.take 3) rq
          (setNet port { x with hash := slice p 8 64 } s))))
    ∧ (served netFilterSetOp rq s = true → port < 4 → s.member ≠ .evr8 → byteAt p 1 = 0 → byteAt p 2 ≤ 15 → 136 ≤ p.length →
        ((slice p 8 128).all (· == 0)) = false →
        exec (.netFilterSet rq) s = .next (answered rq 0x0702 [] (recorded false 0x0702 (p.take 3) rq (setNet port { x with
          patterns := mapSet x.patterns (byteAt p 2) (slice p 8 128, BitVec.ofNat 32 (fieldLE p 4 4)) } s))))
    ∧ (served netVlanCfgOp rq s = true → port < 4 → fieldLE p 2 2 ≤ 4095 → (∀ i, i < 8 → byteAt p (4 + i) ≤ 7) →
        exec (.netVlanCfg rq) s = .next (answered rq 0x0703 [] (recorded false 0x0703 (p.take 1) rq (setNet port { x with
          pvid := fieldLE p 2 2, prioMap := ((List.range 8).map fun i => byteAt p (4 + i)) } s))))
    ∧ (served netMgmtCfgOp rq s = true → rq.sender ≠ 0x20 → rq.sender ≠ 0x8000 → port = 0xFF →
        exec (.netMgmtCfg rq) s = .next (applyMgmt (mgmtOf p) (answered rq 0x0704 [] (recorded false 0x0704 [] rq s))))
    ∧ (served netMgmtCfgOp rq s = true → port ≠ 0xFF → 4 ≤ port → exec (.netMgmtCfg rq) s = .next (refusedWith rq 0x0704 codeBadArg 0 s))
    ∧ (∀ m, (applyMgmt m s).msg.ncp.mgmt = m)
    ∧ (served netCountersReadOp rq s = true → port < 4 → 1 ≤ byteAt p 2 → byteAt p 1 + byteAt p 2 ≤ 64 →
        exec (.netCountersRead rq) s = .next (answered rq 0x0705
          ((List.range (byteAt p 2)).flatMap fun i => bytesLE 8 (counter s (0x4000 + 0x40 * port + (byteAt p 1 + i)))) s))

/-- The Weir (R487 to R493): a queue below its limit takes a descriptor where the other queues' unused reserve stays, else its source is held back; dispatch gives the oldest ready flow's oldest item of the queue chosen to its server, priority 7 before any other; WEIR_DONE of a server frees the descriptor and makes the flow ready again, another master's is refused; a queue whose oldest ready flow waited too long is promoted; `diag.weir.cfg` sets a queue's priority, limit and reserve and the age limit. -/
def Obligations.WeirQueues : Prop :=
  ∀ (q : Nat) (s : State),
    (∀ flow kind len src data, weirMayTake s q = true →
      (weirOffer q flow kind len src data s).2 = true
      ∧ ∃ it, (getQueue (weirOffer q flow kind len src data s).1 q).items = (getQueue s q).items ++ [it] ∧ it.flow = flow ∧ it.kind = kind
          ∧ it.len = len ∧ it.src = src ∧ it.data = data)
    ∧ (∀ flow kind len src data, weirMayTake s q = false →
      (weirOffer q flow kind len src data s).2 = false
      ∧ (getQueue (weirOffer q flow kind len src data s).1 q).items = (getQueue s q).items
      ∧ (getQueue (weirOffer q flow kind len src data s).1 q).bp = true)
    ∧ (weirNext s = some q → ∀ flow t rest it, (getQueue s q).ready = (flow, t) :: rest →
        ((getQueue s q).items.find? fun i => i.flow == flow) = some it →
        let u := setQueue q { getQueue s q with ready := rest, items := (getQueue s q).items.erase it, bp := false } s
        exec .weirDispatch s = .next { u with
          msg.weir.inService := s.msg.weir.inService ++ [(it.index, flow, q)]
          msg.weir.lastAt := mapSet s.msg.weir.lastAt (weirPrio u q) q
          msg.weir.promoted := s.msg.weir.promoted.erase q })
    ∧ (weirNext s = none → exec .weirDispatch s = .next s)
    ∧ (∀ p, p < 32 → (getQueue s p).ready ≠ [] → weirPrio s p = 7 → weirNext s = some q → weirPrio s q = 7)
    ∧ (∀ index e, index < 16384 → (s.msg.weir.inService.find? fun x => x.1 == index) = some e →
        let u := { s with
          msg.weir.inService := s.msg.weir.inService.erase e, msg.weir.buffers := mapErase s.msg.weir.buffers index }
        (weirOldest u e.2.1 = none → exec (.weirDone .controlCluster index) s = .next (busOk [] u) ∧ exec (.weirDone .weirDma index) s = .next u)
        ∧ (∀ r, weirOldest u e.2.1 = some r → exec (.weirDone .controlCluster index) s = .next (busOk [] (weirReady r e.2.1 u))))
    ∧ (∀ m index, m ≠ .controlCluster → m ≠ .weirDma → exec (.weirDone m index) s = .next (busErr s))
    ∧ (weirAge s ≠ 0 → q < 32 → (getQueue s q).ready ≠ [] → s.msg.weir.promoted.contains q = false →
        exec (.weirAgePromotion q) s = .next (count (0x6003 + 4 * q) { s with msg.weir.promoted := s.msg.weir.promoted ++ [q] }))
    ∧ (weirAge s = 0 → exec (.weirAgePromotion q) s = .next s)
    ∧ (∀ rq, served weirCfgOp rq s = true → byteAt rq.payload 0 = q →
        let prio := byteAt rq.payload 1
        let limit := fieldLE rq.payload 2 2
        let reserve := fieldLE rq.payload 4 2
        let age := fieldLE rq.payload 6 2
        (q < 32 → q ≠ 14 → q ≠ 15 → prio ≤ 7 → 1 ≤ limit → limit ≤ 16384 → reserve ≤ 2047 → age = 0 ∨ (100 ≤ age ∧ age ≤ 10000) →
          (((List.range 32).filter (· ≠ q)).map (weirReserve s)).sum + reserve ≤ 16384 →
          exec (.diagWeirCfg rq) s = .next (answered rq 0x0E06 (bytesLE 1 q ++ bytesLE 1 prio ++ bytesLE 2 limit ++ bytesLE 2 reserve ++ bytesLE 2 age)
            (recorded false 0x0E06 (rq.payload.take 1) rq (regPut (weirAgeAddr s) age
              (regPut (weirCfgAddr s q) (prio + limit * 16 + reserve * 2 ^ 19) s)))))
        ∧ (32 ≤ q → exec (.diagWeirCfg rq) s = .next (refusedWith rq 0x0E06 codeBadArg 0 s)))

/-- PTP and the media clock (R397, R400, R402 to R406, R409 to R412): settings of the instance restart its servo; `time.adjust` sets the increment, an offset or the time where no grandmaster rules; a message of another domain is discarded and counted; no valid master gives holdover; an interval that the port's role sends queues its message; the time-stamp queue pops for the control cluster; the synthesiser's states are counted and reported, none with the local reference. -/
def Obligations.Clocks : Prop :=
  ∀ (rq : Request) (s : State),
    let p := rq.payload
    let c := s.time.ptp
    let m := s.time.mclk
    (served timePtpCfgOp rq s = true →
      let mask := byteAt p 4
      (byteAt p 0 = 0 → byteAt p 2 ≤ 2 → mask < 16 → mask = 0 ∨ byteAt p 2 ≠ 0 ∨ maskCount mask = 1 → c.servo ≠ 1 → c.servo ≠ 2 →
        exec (.timePtpCfg rq) s = .next (answered rq 0x0800 [] (recorded false 0x0800 [] rq (setPtp { c with
          profile := 0, domain := byteAt p 1, clock := byteAt p 2, twoStep := (byteAt p 3).testBit 0, p2p := (byteAt p 3).testBit 1
          slaveOnly := (byteAt p 3).testBit 2, mask := mask, prio1 := byteAt p 5, prio2 := byteAt p 6
          servo := (if mask = 0 then 3 else 0), gm := false, pstate := (if mask = 0 then 3 else 1), gmId := 0, offset := 0
          okRun := 0, badRun := 0, seqs := [], sent := [], sync := none, syncDiff := 0, peer := [], pathDelay := 0, gmKey := [] } s))))
      ∧ (3 < byteAt p 0 → exec (.timePtpCfg rq) s = .next (refusedWith rq 0x0800 codeBadArg 0 s)))
    ∧ (served timeAdjustOp rq s = true →
      (c.mask ≠ 0 → c.gm = false → exec (.timeAdjust rq) s = .next (respond rq 0x0801 (refuse codeDenied 1 noField s) s))
      ∧ (c.mask = 0 ∨ c.gm = true →
        (byteAt p 0 = 0 → 27460302904 ≤ fieldLE p 8 8 → fieldLE p 8 8 ≤ 27515278485 →
          exec (.timeAdjust rq) s = .next (answered rq 0x0801 [] (setPtp { c with incr := fieldLE p 8 8 } s)))
        ∧ (byteAt p 0 = 1 → (fieldS p 8 8).natAbs < 1000000000 → 0 ≤ (c.sec * 1000000000 + c.ns : Nat) + fieldS p 8 8 →
          let t := (((c.sec * 1000000000 + c.ns : Nat) : Int) + fieldS p 8 8).toNat
          exec (.timeAdjust rq) s = .next (answered rq 0x0801 [] (setPtp { c with sec := t / 1000000000, ns := t % 1000000000 } s)))
        ∧ (byteAt p 0 = 2 → fieldLE p 16 4 < 1000000000 → exec (.timeAdjust rq) s =
          .next (answered rq 0x0801 [] (setPtp { c with sec := fieldLE p 8 8, ns := fieldLE p 16 4, sub := 0 } s)))
        ∧ (2 < byteAt p 0 → exec (.timeAdjust rq) s = .next (refusedWith rq 0x0801 codeBadArg 0 s))))
    ∧ (served timeStatusOp rq s = true → exec (.timeStatus rq) s = .next (answered rq 0x0802 (bytesLE 8 c.sec ++ bytesLE 4 c.ns
        ++ bytesLE 1 c.pstate ++ [0, 0, 0] ++ bytesS 8 c.offset ++ bytesBE 8 c.gmId.toNat ++ bytesLE 8 s.time.index) s))
    ∧ (served timeMclkCfgOp rq s = true → byteAt p 0 = 3 → exec (.timeMclkCfg rq) s = .next (answered rq 0x0803 []
        (recorded false 0x0803 [] rq (setMclk { m with ref := 3, tdmPort := byteAt p 1, mclkOut := (byteAt p 2).testBit 0, st := 3 } s))))
    ∧ (served timeMclkCfgOp rq s = true → byteAt p 0 = 0 → m.st = 0 → exec (.timeMclkCfg rq) s = .next (answered rq 0x0803 []
        (recorded false 0x0803 [] rq (setMclk { m with ref := 0, tdmPort := byteAt p 1, mclkOut := (byteAt p 2).testBit 0, st := 0 } s))))
    ∧ (served timeMclkCfgOp rq s = true → 3 < byteAt p 0 → exec (.timeMclkCfg rq) s = .next (refusedWith rq 0x0803 codeBadArg 0 s))
    ∧ (nerrisUp s = true → c.running = true → ∀ port msg, port < 4 →
        (msg.domain ≠ c.domain → exec (.ptpMessageRx port msg) s = .next (count (0x4200 + 0x20 * port + 10) s))
        ∧ (msg.domain = c.domain → msg.msgType = 2 → c.mask.testBit port = true → c.p2p = true → exec (.ptpMessageRx port msg) s =
            .next { count (0x4200 + 0x20 * port + 6) s with wire := .ptp port 5 msg.seq :: s.wire })
        ∧ (msg.domain = c.domain → msg.msgType = 0 → c.mask.testBit port = true → c.pstate = 9 → c.slavePort = port → msg.twoStep = true →
            let t := count (0x4200 + 0x20 * port) s
            exec (.ptpMessageRx port msg) s = .next (setPtp { c with
              sync := some (msg.seq, (msg.rxSec * 1000000000 + msg.rxNs : Nat) - msg.correction / 65536) } t)))
    ∧ (nerrisUp s = true → c.mask ≠ 0 → c.gm = false → c.servo = 2 → c.slaveOnly = true →
        exec .announceTimeout s = .next (setPtp { c with pstate := 4, gm := false, gmKey := [] } (refLost 0 0 s)))
    ∧ (nerrisUp s = true → c.mask ≠ 0 → c.gm = false → c.servo ≠ 2 → ∃ t, exec .announceTimeout s = .next t
        ∧ t.time.ptp.servo = 2 ∧ t.time.ptp.incr = c.incr)
    ∧ (∀ port kind, nerrisUp s = true → port < 4 → sendsPtp c port kind = true →
        let n := mapGet (fun _ => 0) c.seqs (kind * 4 + port)
        exec (.ptpMessageInterval port kind) s =
          .next (queuePtp port kind n (setPtp { c with seqs := mapSet c.seqs (kind * 4 + port) ((n + 1) % 65536) } s)))
    ∧ (∀ port, port < 4 → shoreUp s = true → ∀ e rest, (getNet s port).tsq = e :: rest →
        exec (.ptpTsqSeqRead .controlCluster port 4) s = .next (busOk [BitVec.ofNat 32 (e.1 + 65536)]
          (setNet port { getNet s port with tsq := rest, tsqPopped := e, tsqValid := true } s))
        ∧ exec (.ptpTsqSeqRead .pcie port 4) s = .next (busOk [0] s))
    ∧ (nerrisUp s = true → m.ref ≠ 3 →
        (m.st ≠ 1 → (m.ref = 0 → c.servo = 1) →
          exec .mclkLock s = .next (timeLock m.ref 1 (setMclk { m with st := 1, slewing := false } s)))
        ∧ (m.st ≠ 0 → exec .mclkUnlock s = .next (timeLock m.ref 0 (count 0x4282 (setMclk { m with st := 0 } s))))
        ∧ (m.st ≠ 2 → exec .mclkHoldover s = .next (timeLock m.ref 2 (count 0x4281 (setMclk { m with st := 2 } s)))))
    ∧ (m.ref = 3 → exec .mclkLock s = .next s ∧ exec .mclkUnlock s = .next s ∧ exec .mclkHoldover s = .next s)
    ∧ (∀ n, c.running = false → ptpAdvance n c = c)

/-- The `stream` messages (R159, R415, R421 to R427): a stream with a legal format takes the lowest free handle and run of channels and its presentation offset, limited to what packets need and 20 ms; a receive stream with a key that another has, or an offence of the layout, is BAD_ARG; a stream is removed at once or under its fade; `stream.status` and `stream.opts` act on a stream in use. Packets of streams (R198 to R202, R416 to R420, R425): a packet that does not fit its stream is counted and discarded, one whose place is past is late, one that is there already is a duplicate; another is held from its place on, and a stream that had none runs again with its report; at a missing packet's deadline the packet before it plays again and the stream has failed; an EOMS packet that is not whole is skipped whole; a unicast destination resolved is used. -/
def Obligations.Streams : Prop :=
  (
    ∀ (rq : Request) (s : State),
      let p := rq.payload
      let x := streamOf p
      let fr := rateHz s.time.rate
      let o := offsetUsed (fieldLE p 8 4) x.pkt (rateHz x.rate) fr
      let y : Nat → Stream := fun first => { x with first := first, po := o.1, poNs := samplesNs o.1 fr }
      (served streamRxAddOp rq s = true → firstBad (streamChecks x) = none → x.kind ≠ 2 →
        ((s.net.rx.any fun e => streamKey e.2 == streamKey x) = true →
          exec (.streamRxAdd rq) s = .next (respond rq 0x0810 (refuse codeBadArg 4 16 s) s))
        ∧ ((s.net.rx.any fun e => streamKey e.2 == streamKey x) = false → x.group = 0xFFFF → o.2 = false → ∀ h first,
            mapFree s.net.rx 128 = some h → ((usedRuns s.net.rx).map (·.2)).sum + x.channels ≤ 2048 →
            freeRun (usedRuns s.net.rx) 2048 x.channels = some first → (x.kind = 1 ∨ ipIsGroup x.ipv x.addr.toNat = false) →
            exec (.streamRxAdd rq) s = .next (answered rq 0x0810 (bytesLE 2 h ++ bytesLE 2 first ++ bytesLE 4 (samplesNs o.1 fr))
              (recorded false 0x0810 (p.take 1 ++ slice p 14 46) rq (setRx h (y first) s)))))
      ∧ (served streamRxAddOp rq s = true → ∀ f, firstBad (streamChecks x) = some f →
          exec (.streamRxAdd rq) s = .next (refusedWith rq 0x0810 codeBadArg f s))
      ∧ (served streamTxAddOp rq s = true → x.kind ≠ 2 → firstBad (streamChecks x) = none → o.2 = false → ∀ h first,
          (∀ q, q < 4 → (getNet s q).mode = 0 ∨ streamFrameSize x ≤ (getNet s q).maxFrame) → mapFree s.net.tx 64 = some h →
          ((usedRuns s.net.tx).map (·.2)).sum + x.channels ≤ 512 → freeRun (usedRuns s.net.tx) 512 x.channels = some first →
          (x.kind = 1 ∨ ipIsGroup x.ipv x.addr.toNat = true) →
          let r := Config.freeBits s.free
          exec (.streamTxAdd rq) s = .next (answered rq 0x0811 (bytesLE 2 h ++ bytesLE 2 first)
            (recorded false 0x0811 (p.take 1 ++ slice p 14 46) rq (setTx h { y first with
              seq := some (r.toNat % 65536), ssrc := r.toNat / 65536 % 2 ^ 32, fade := 64, fadeUp := true }
              { s with free := s.free + 1 }))))
      ∧ (served streamTxAddOp rq s = true → x.kind = 2 → exec (.streamTxAdd rq) s = .next (refusedWith rq 0x0811 codeBadArg 0 s))
      ∧ (let dir := byteAt p 0
         let h := fieldLE p 2 2
         ∀ z, dir ≤ 1 → mapFind (if dir = 0 then s.net.rx else s.net.tx) h = some z →
         (served streamRemoveOp rq s = true → z.removing = false → s.time.rendering = true → z.fade ≠ 0 →
           let t := forgetStream dir h z s
           let w : Stream := { z with removing := true, fadeUp := false }
           exec (.streamRemove rq) s = .next (answered rq 0x0812 [] (if dir = 0 then setRx h w t else setTx h w t)))
         ∧ (served streamRemoveOp rq s = true → z.removing = false → s.time.rendering = false →
           let t := forgetStream dir h z s
           exec (.streamRemove rq) s = .next (answered rq 0x0812 [] (if dir = 0 then freeRx h t else { t with net.tx := mapErase t.net.tx h })))
         ∧ (served streamRemoveOp rq s = true → z.removing = true → exec (.streamRemove rq) s = .next (refusedWith rq 0x0812 codeBadArg 2 s))
         ∧ (served streamStatusOp rq s = true → dir = 0 → exec (.streamStatus rq) s = .next (answered rq 0x0813 (bytesLE 1 z.st ++ [0, 0, 0]
             ++ bytesLE 4 (counter s (0x4400 + 8 * h)) ++ bytesLE 4 (counter s (0x4400 + 8 * h + 1)) ++ bytesLE 4 (counter s (0x4400 + 8 * h + 2))) s))
         ∧ (served streamOptsOp rq s = true → dir = 1 → byteAt p 8 % 16 ≠ 0 → byteAt p 9 ≤ 63 → byteAt p 10 ≤ 7 → 1 ≤ byteAt p 11 →
           exec (.streamOpts rq) s = .next (answered rq 0x0814
             (p.take 8 ++ bytesLE 1 (byteAt p 8 % 16) ++ bytesLE 1 (byteAt p 9) ++ bytesLE 1 (byteAt p 10) ++ bytesLE 1 (byteAt p 11)
               ++ slice p 12 2 ++ [0, 0])
             (recorded false 0x0814 (p.take 4) rq (setTx h { z with
               clockOff := fieldLE p 4 4, portMask := byteAt p 8 % 16, dscp := byteAt p 9
               pcp := byteAt p 10, ttl := byteAt p 11, srcPort := fieldLE p 12 2 } s)))))
      ∧ (served streamRemoveOp rq s = true → 1 < byteAt p 0 → exec (.streamRemove rq) s = .next (refusedWith rq 0x0812 codeBadArg 0 s)))
  ∧ (
    ∀ (h : Nat) (p : StreamPacket) (x : Stream) (s : State), nerrisUp s = true → s.sys.ao.power = .run →
      let size := x.format / 8 * x.channels
      let n := p.payload.length / size
      let id := 0x4400 + 8 * h
      let i0 := packetPlace s x p
      (getRx s h = some x → x.kind ≠ 2 → x.removing = false →
        ((x.kind = 0 ∧ p.payloadType ≠ x.ptype) ∨ p.payload.length % size ≠ 0 ∨ n < 1 ∨ 2 * x.pkt < n →
          exec (.streamPacketRx h p) s = .next (count (if x.kind = 1 then 0x4293 else 0x4292) s))
        ∧ (p.payloadType = x.ptype → p.payload.length % size = 0 → 1 ≤ n → n ≤ 2 * x.pkt →
          (i0 ≤ streamPos s x s.time.index → exec (.streamPacketRx h p) s = .next (count (id + 2) (count id s)))
          ∧ (s.time.rendering = true → streamPos s x s.time.index < i0 → ∀ fs, mapFind x.buffer i0.toNat = some (true, fs) →
              exec (.streamPacketRx h p) s = .next (count (id + 3) (count id s)))
          ∧ (s.time.rendering = true → streamPos s x s.time.index < i0 → mapFind x.buffer i0.toNat = none → sameRate s x = true →
              i0 ≤ streamPos s x s.time.index + (x.po + 2 * x.pkt + (rateHz x.rate + 999) / 1000 : Nat) → x.st = 1 →
              exec (.streamPacketRx h p) s = .next (setRx h { x with
                buffer := placeFrames true i0.toNat (packetFrames x p.payload) x.buffer, lastPkt := packetFrames x p.payload
                missing := 0, lossAt := none, st := 1, fadeUp := true } (count id s)))
          ∧ (s.time.rendering = true → streamPos s x s.time.index < i0 → mapFind x.buffer i0.toNat = none → sameRate s x = true →
              i0 ≤ streamPos s x s.time.index + (x.po + 2 * x.pkt + (rateHz x.rate + 999) / 1000 : Nat) → x.st = 0 →
              exec (.streamPacketRx h p) s = .next (streamEvent 0 h 1 (setRx h { x with
                buffer := placeFrames true i0.toNat (packetFrames x p.payload) x.buffer, lastPkt := packetFrames x p.payload
                missing := 0, lossAt := none, st := 1, fade := 0, fadeUp := true } (count id s))))))
      ∧ (getRx s h = none → exec (.streamPacketRx h p) s = .next s ∧ exec (.streamPacketMissing h) s = .next s
          ∧ exec (.eomsPacket h p) s = .next s)
      ∧ (getRx s h = some x → s.time.rendering = true → x.kind ≠ 2 → x.st = 1 → x.missing < 7 → x.lastPkt ≠ [] →
          ∃ t y, exec (.streamPacketMissing h) s = .next t ∧ getRx t h = some y ∧ y.st = 2 ∧ y.missing = x.missing + 1 ∧ y.lossAt = none
            ∧ y.lastPkt = x.lastPkt ∧ y.fade = x.fade ∧ counter t (id + 5) = counter s (id + 5) + 1
            ∧ (∀ k e, mapFind x.buffer k = some e → mapFind y.buffer k = some e))
      ∧ (getRx s h = some x → x.kind = 2 → x.removing = false →
          (p.payloadType ≠ x.ptype → exec (.eomsPacket h p) s = .next (count 0x4292 s))
          ∧ (p.payloadType = x.ptype → p.payload.length < 16 → exec (.eomsPacket h p) s = .next (count 0x4292 (eomsSequence h x (p.seq % 65536) s)))
          ∧ (p.payloadType = x.ptype → 16 ≤ p.payload.length → p.payload.length ≤ 8192 → byteAt p.payload 0 / 16 = 1 →
              eomsElements p.payload (fieldBE p.payload 2 2) 16 = none → ¬ ((byteAt p.payload 1).testBit 0 = true ∧ (byteAt p.payload 1).testBit 1 = true) →
              exec (.eomsPacket h p) s = .next (countBy (0x0580 + 4 * h + 2) (fieldBE p.payload 2 2)
                (count 0x4292 (eomsSequence h x (p.seq % 65536) s)))))
      ∧ (∀ mac, getTx s h = some x → x.kind ≠ 1 → ipIsGroup x.ipv x.addr.toNat = false → exec (.arpRefresh h mac) s =
          .next { setTx h { x with mac := mac, resolvedAt := s.now } s with wire := .arp h :: s.wire }))

/-- Objects and slices (R174, R179 to R183, R194 to R196, R198): `obj.alloc` gives an object its slice and slot where the budgets allow, `obj.free` begins its release, timed updates are accepted for a boundary, `obj.get`, `obj.slice.cfg` and `obj.slice.status` report and set; bed maps, zone weights and the update period are staged; `obj.eoms.cfg` names the objects of an EOMS stream. An object that is not allocated, a mode above 3, a slice beyond the member are BAD_ARG. Updates, boundaries and releases (R187 to R189, R193, R228, R251, R597): an update accepted while rendering waits for its boundary, the first whose deadline it meets, at once before rendering; a boundary's records freeze in order; the end of the fade-out releases an object; a migration that is done moves the object's history. -/
def Obligations.Objects : Prop :=
  (
    ∀ (rq : Request) (s : State),
      let p := rq.payload
      let id := rq.flow
      (served objAllocOp rq s = true → id < 2048 →
        let sl := byteAt p 0
        let mode := byteAt p 1
        (getObj s id = none → mode ≤ 3 → sl < s.member.slices → sl ≠ 0xFF → refusesObject s sl = 0 →
          exec (.objAlloc rq) s = .next (answered rq 0x0200 (bytesLE 1 sl ++ bytesLE 1 (flag (sliceH128 s sl)) ++ [0, 0]
            ++ bytesLE 4 (pairRate s (sliceCount s sl + 1)))
            (recorded false 0x0200 [] rq (noteObject id (setObj id (newObj s sl mode) s)))))
        ∧ (getObj s id = none → mode ≤ 3 → sl = 0xFF → ∀ c, chooseSlice s = some c → exec (.objAlloc rq) s = .next (answered rq 0x0200
            (bytesLE 1 c ++ bytesLE 1 (flag (sliceH128 s c)) ++ [0, 0] ++ bytesLE 4 (pairRate s (sliceCount s c + 1)))
            (recorded false 0x0200 [] rq (noteObject id (setObj id (newObj s c mode) s)))))
        ∧ (getObj s id = none → mode ≤ 3 → sl < s.member.slices → sl ≠ 0xFF → refusesObject s sl ≠ 0 →
            exec (.objAlloc rq) s = .next (respond rq 0x0200 (refuse codeNoResource (refusesObject s sl) noField s) s))
        ∧ (getObj s id = none → 3 < mode → exec (.objAlloc rq) s = .next (refusedWith rq 0x0200 codeBadArg 1 s)))
      ∧ (served objFreeOp rq s = true → ∀ o, activeObj s id = some o →
          let forget := forgetRecords fun r => r.opcode / 256 == 2 && r.flow == id
          let b := firstDeadline s s.time.index
          (s.time.rendering = true → exec (.objFree rq) s = .next (answered rq 0x0201 (bytesLE 8 b)
            (recorded false 0x0201 [] rq (forget (setObj id { o with freeing := some b } s)))))
          ∧ (s.time.rendering = false → exec (.objFree rq) s = .next (answered rq 0x0201 (bytesLE 8 0)
            (recorded false 0x0201 [] rq (forget (releaseObj id (unbindSlots 0 id s)))))))
      ∧ (served objFreeOp rq s = true → activeObj s id = none → exec (.objFree rq) s = .next (refusedWith rq 0x0201 codeBadArg noField s))
      ∧ (∀ o, activeObj s id = some o → s.time.rendering = true → o.pend.length < 8 → fieldLE p 0 8 ≤ s.time.index + 2 ^ 31 →
        let t := fieldLE p 0 8
        let done := fun (a : Nat × Bool × State) => bytesLE 8 a.1 ++ bytesLE 1 (flag a.2.1)
        (served objPosOp rq s = true →
          let a := acceptUpdate 0 id { Update.empty with pos := some (fieldS p 8 4, fieldS p 12 4, fieldS p 16 4) } t (bit (byteAt p 20) 0) s
          exec (.objPos rq) s = .next (answered rq 0x0203 (done a) a.2.2))
        ∧ (served objGainOp rq s = true → byteAt p 9 ≤ 1 → fieldS p 10 2 ≤ 6144 →
          let a := acceptUpdate 0 id { Update.empty with gain := some (fieldS p 10 2), mute := some (byteAt p 9 == 1) } t (bit (byteAt p 8) 0) s
          exec (.objGain rq) s = .next (answered rq 0x0205 (done a ++ List.replicate 7 0 ++ (p.take 9 ++ bytesLE 1 (byteAt p 9)
            ++ bytesS 2 (fieldS p 10 2) ++ (p.take 16).drop 12)) a.2.2))
        ∧ (served objCfgOp rq s = true → byteAt p 9 ≤ 3 → fieldS p 10 2 ≤ 6144 → byteAt p 12 ≤ 1 → fieldLE p 16 4 ≤ 4194303 → byteAt p 28 ≤ 16 →
            1 ≤ fieldLE p 30 2 → fieldLE p 30 2 ≤ 4096 →
          let a := acceptUpdate 0 id { Update.empty with
            mode := some (byteAt p 9), gain := some (fieldS p 10 2), mute := some (byteAt p 12 == 1)
            pos := some (fieldS p 32 4, fieldS p 36 4, fieldS p 40 4), size := some (fieldLE p 14 2)
            options := some (bit (byteAt p 13) 0, bit (byteAt p 13) 1, bit (byteAt p 13) 2), base := some (fieldLE p 16 4)
            group := some (fieldLE p 20 4), refDist := some (fieldLE p 24 4), k := some (byteAt p 28)
            slew := some (fieldLE p 30 2) } t (bit (byteAt p 8) 0) s
          exec (.objCfg rq) s = .next (answered rq 0x0202 (done a ++ List.replicate 7 0 ++ p.take 44) a.2.2))
        ∧ (served objPosBatchOp rq s = true → fieldLE p 10 2 = 1 → 32 ≤ p.length → fieldLE p 16 2 = id →
          let a := acceptUpdate 0 id { Update.empty with pos := some (fieldS p 20 4, fieldS p 24 4, fieldS p 28 4) } t (bit (byteAt p 8) 0) s
          exec (.objPosBatch rq) s = .next (answered rq 0x0204 (done a) a.2.2)))
      ∧ (served objPosOp rq s = true → activeObj s id = none → exec (.objPos rq) s = .next (refusedWith rq 0x0203 codeBadArg noField s))
      ∧ (∀ o, served objPosOp rq s = true → activeObj s id = some o → s.time.rendering = true → 8 ≤ o.pend.length →
          fieldLE p 0 8 ≤ s.time.index + 2 ^ 31 → exec (.objPos rq) s = .next (refusedWith rq 0x0203 codeNoResource noField s))
      ∧ (served objGetOp rq s = true → id < 2048 → ∀ o, getObj s id = some o → exec (.objGet rq) s = .next (answered rq 0x0206
          (bytesLE 1 (if o.freeing.isSome then 2 else 1) ++ bytesLE 1 o.slice ++ bytesLE 1 o.pend.length ++ [0]
            ++ bytesLE 4 (min o.late 0xFFFFFFFF) ++ bytesLE 4 (min o.clamped 0xFFFFFFFF) ++ [0, 0, 0, 0] ++ (objCfgPayload o.record).drop 9) s))
      ∧ (served objSliceCfgOp rq s = true → byteAt p 0 < s.member.slices → byteAt p 1 ≤ 1 → sliceCount s (byteAt p 0) = 0 →
          exec (.objSliceCfg rq) s = .next (answered rq 0x0207 [] (recorded false 0x0207 (p.take 1) rq
            (setSlice (byteAt p 0) { getSlice s (byteAt p 0) with h128set := some (byteAt p 1 == 1) } s))))
      ∧ (served objSliceCfgOp rq s = true → byteAt p 0 < s.member.slices → byteAt p 1 ≤ 1 → sliceCount s (byteAt p 0) ≠ 0 →
          exec (.objSliceCfg rq) s = .next (respond rq 0x0207 (refuse codeBadArg 2 0 s) s))
      ∧ (served objSliceStatusOp rq s = true → byteAt p 0 < s.member.slices →
          let n := sliceCount s (byteAt p 0)
          ∃ tail, exec (.objSliceStatus rq) s = .next (answered rq 0x0208 (bytesLE 1 n ++ bytesLE 1 (flag (sliceH128 s (byteAt p 0))) ++ [0, 0]
            ++ bytesLE 4 (pairRate s n) ++ tail) s) ∧ tail.length = 16)
      ∧ (∀ o, activeObj s id = some o →
        (served objBedMapOp rq s = true → byteAt p 0 ≤ 16 → gainEntryRefusal s p (byteAt p 0) = none →
          exec (.objBedMap rq) s = .next (answered rq 0x0209 [] (recorded true 0x0209 [] rq
            { s with rend.bedStage := mapSet s.rend.bedStage id (gainEntries p (byteAt p 0)) })))
        ∧ (served objZoneWeightsOp rq s = true → fieldLE p 0 2 ≤ 251 → gainEntryRefusal s p (fieldLE p 0 2) = none →
          exec (.objZoneWeights rq) s = .next (answered rq 0x020A [] (recorded true 0x020A [] rq
            { s with rend.zoneStage := mapSet s.rend.zoneStage id (gainEntries p (fieldLE p 0 2)) }))))
      ∧ (served objUpdateCfgOp rq s = true →
        (byteAt p 0 = 8 ∨ byteAt p 0 = 16 ∨ byteAt p 0 = 32 ∨ byteAt p 0 = 64 → exec (.objUpdateCfg rq) s =
          .next (answered rq 0x020B [] (recorded true 0x020B [] rq { s with rend.geoStage.period := byteAt p 0 })))
        ∧ (byteAt p 0 ≠ 8 → byteAt p 0 ≠ 16 → byteAt p 0 ≠ 32 → byteAt p 0 ≠ 64 →
          exec (.objUpdateCfg rq) s = .next (refusedWith rq 0x020B codeBadArg 0 s)))
      ∧ (served objEomsCfgOp rq s = true → ∀ st, mapFind s.net.rx (fieldLE p 0 2) = some st → st.kind = 2 → fieldLE p 2 2 < 2048 →
          1 ≤ fieldLE p 4 2 → fieldLE p 4 2 ≤ 2048 → exec (.objEomsCfg rq) s = .next (answered rq 0x020C []
            (recorded false 0x020C (p.take 2) rq { s with net.rx := (mapSet s.net.rx (fieldLE p 0 2) { st with
              eomsOn := bit (byteAt p 6) 0, eomsRel := bit (byteAt p 6) 1, eomsBase := fieldLE p 2 2, eomsCount := fieldLE p 4 2 }) }))))
  ∧ (
    ∀ (id sl : Nat) (o : Obj) (u : Update) (t : Nat) (s : State),
      (getObj s id = some o → s.time.rendering = false → u.mode = none → acceptUpdate 0 id u t false s =
          (0, false, noteObject id (setObj id { o with record := u.into o.record } s)))
      ∧ (getObj s id = some o → s.time.rendering = true →
        let a := s.time.index
        let b := boundaryFrom s t
        a + periodAt s b + 16 ≤ b → acceptUpdate 0 id u t false s = (b, false, setObj id { o with
          pend := queueUpdate { u with at_ := a, due := t, now_ := false, eoms := false, boundary := b } o.pend } s))
      ∧ (getObj s id = some o → s.time.rendering = true →
        let b := firstDeadline s s.time.index
        acceptUpdate 0 id u t true s = (b, false, setObj id { o with
          pend := queueUpdate { u with at_ := s.time.index, due := t, now_ := true, eoms := false, boundary := b } o.pend } s))
      ∧ (∀ i, 0 < periodAt s i → i ≤ boundaryFrom s i ∧ boundaryFrom s i % periodAt s i = 0 ∧ boundaryFrom s i < i + periodAt s i)
      ∧ (∀ r : ObjRec, Update.empty.into r = r)
      ∧ (∀ b, sl < s.member.slices → powered s (sliceDie sl) = true → b % periodAt s b = 0 → (getSlice s sl).boundary < b →
          ((getSlice s sl).windows.all fun w => decide (w.boundary < b)) = true → exec (.geometryFreeze sl b) s = .next (freezeSlice sl b s))
      ∧ (∀ b, b ≤ (getSlice s sl).boundary → exec (.geometryFreeze sl b) s = .next s)
      ∧ (getObj s id = some o → o.freeing.isSome = true → exec (.objectRelease id) s = .next (releaseObj id (unbindSlots 0 id s)))
      ∧ (getObj s id = some o → o.freeing = none → exec (.objectRelease id) s = .next s)
      ∧ (getObj s id = some o → getObj (releaseObj id s) id = none ∧ mapFind (releaseObj id s).rend.beds id = none
          ∧ mapFind (releaseObj id s).rend.zones id = none)
      ∧ (∀ at_ new, (getSlice s sl).migrating = some (id, at_) → getObj s id = some o → o.newSlot = some new →
          let v := setObj id { o with slot := new, newSlot := none } (setSlice sl { getSlice s sl with migrating := none } (moveSlot sl o.slot new s))
          exec (.slotMigrationDone sl) s = .next (startMigration sl (count (0x0840 + 8 * sl + 6) v)))
      ∧ ((getSlice s sl).migrating = none → exec (.slotMigrationDone sl) s = .next s))

/-- The speaker table and the geometry's deadlines (R203 to R208, R219, R228, R230, R246): a table that passes R205 is staged with its mesh, and so is one record; the environment is staged within its limits; `spk.get`, `spk.mesh.get` and `spk.pair.get` read; a window that ends leaves its unfinished pairs without new targets, counted; a boundary loads once and in order. -/
def Obligations.SpeakersAndWindows : Prop :=
  ∀ (rq : Request) (s : State),
    let p := rq.payload
    (served spkTableLoadOp rq s = true →
      let n := fieldLE p 0 2
      (s.member.speakers < n → exec (.spkTableLoad rq) s = .next (respond rq 0x0300 (refuse codeBadArg 1 0 s) s))
      ∧ (n ≤ s.member.speakers → byteAt p 3 ≤ 32 → fieldLE p 4 2 ≤ 18000 → fieldLE p 6 2 ≤ 18000 → refLength p 8 = 64 * n → ∀ d u,
          fetchReference rq 8 s = .ok (d, u) →
          let rs := (List.range n).map fun i => spkRecAt d (64 * i)
          (∀ r, buildTable rs (bit (byteAt p 2) 0) (byteAt p 3) (fieldLE p 4 2) (fieldLE p 6 2) 8 u = .error r → r.deferred = false →
              r.code ≠ codeOk → r.code ≠ codeClamped → exec (.spkTableLoad rq) s = .next (respond rq 0x0300 r r.state))
          ∧ (∀ t, buildTable rs (bit (byteAt p 2) 0) (byteAt p 3) (fieldLE p 4 2) (fieldLE p 6 2) 8 u = .ok t →
              (rs.any fun r => r.limited != r) = false → exec (.spkTableLoad rq) s = .next (answered rq 0x0300 (meshReply t.mesh)
                (noteWithBytes true 0x0300 8 [] rq d { u with
                  rend.geoStage.table := t, msg.ncp.stagedRecs := u.msg.ncp.stagedRecs.filter fun r => r.opcode != 0x0301 })))))
    ∧ (∀ rs arrays taper tf tc at_,
      (rs.any SpkRec.tooClose = true → buildTable rs arrays taper tf tc at_ s = .error (refuse codeBadArg 3 at_ s))
      ∧ (rs.any SpkRec.tooClose = false → doubleElement rs = true → buildTable rs arrays taper tf tc at_ s = .error (refuse codeBadArg 4 at_ s))
      ∧ (rs.any SpkRec.tooClose = false → doubleElement rs = false → rs.all SpkRec.typed = false →
          buildTable rs arrays taper tf tc at_ s = .error (refuse codeBadArg 5 at_ s)))
    ∧ (served spkSetOp rq s = true → rq.flow < s.rend.geoStage.table.recs.length →
        let g := s.rend.geoStage.table
        let r := spkRecAt p 0
        r.limited = r → ∀ t, buildTable (g.recs.set rq.flow r) g.arrayInMesh g.taper g.thetaF g.thetaC 0 s = .ok t →
        exec (.spkSet rq) s = .next (answered rq 0x0301 (meshReply t.mesh) (recorded true 0x0301 [] rq { s with rend.geoStage.table := t })))
    ∧ (served spkSetOp rq s = true → s.rend.geoStage.table.recs.length ≤ rq.flow →
        exec (.spkSet rq) s = .next (refusedWith rq 0x0301 codeBadArg noField s))
    ∧ (served spkGetOp rq s = true → byteAt p 0 ≤ 1 →
        let t := if byteAt p 0 = 1 then s.rend.geoStage.table else s.rend.geo.table
        ∀ r, t.recs[rq.flow]? = some r → exec (.spkGet rq) s = .next (answered rq 0x0302
          (spkRecBytes r ++ bytesLE 1 (homeTile s.member rq.flow) ++ bytesLE 1 (flag (inMesh t.mesh rq.flow)) ++ [0, 0]) s))
    ∧ (served spkEnvCfgOp rq s = true → 3000 ≤ fieldLE p 0 2 → fieldLE p 0 2 ≤ 3800 → fieldLE p 2 2 ≤ 500 →
        exec (.spkEnvCfg rq) s = .next (answered rq 0x0303 (bytesLE 2 (fieldLE p 0 2) ++ bytesLE 2 (fieldLE p 2 2))
          (recorded true 0x0303 [] rq { s with rend.geoStage.c := fieldLE p 0 2, rend.geoStage.airA := fieldLE p 2 2 })))
    ∧ (served spkMeshGetOp rq s = true → byteAt p 0 ≤ 1 →
        let t := if byteAt p 0 = 1 then s.rend.geoStage.table else s.rend.geo.table
        let ts := (t.mesh.triangles.drop (fieldLE p 2 2)).take 125
        exec (.spkMeshGet rq) s = .next (answered rq 0x0304 (bytesLE 2 ts.length ++ List.replicate 6 0
          ++ ts.flatMap fun t => bytesLE 2 t.1 ++ bytesLE 2 t.2.1 ++ bytesLE 2 t.2.2 ++ [0, 0]) s))
    ∧ (served spkPairGetOp rq s = true → ∀ o, activeObj s (fieldLE p 0 2) = some o → rq.flow < s.rend.geo.table.recs.length → ∀ q,
        mapFind (mapGet (fun _ => ([] : AMap Pair)) (getSlice s o.slice).pairs (fieldLE p 0 2)) rq.flow = some q →
        exec (.spkPairGet rq) s = .next (answered rq 0x0305 (bytesLE 4 q.target.delay ++ bytesLE 4 q.target.gain ++ bytesLE 2 q.target.pole
          ++ bytesLE 1 q.target.flags ++ [0] ++ bytesLE 8 (getSlice s o.slice).boundary) s))
    ∧ (∀ sl w rest, sl < s.member.slices → (getSlice s sl).windows = w :: rest →
        exec (.geometryWindowEnd sl []) s = .next s
        ∧ (∀ late, late ≠ [] → powered s (sliceDie sl) = true → ∃ t, exec (.geometryWindowEnd sl late) s = .next t
            ∧ (getTile t (sliceDie sl)).geoOverrun.getLsbD (sl % 4) = true
            ∧ counter s (0x0800 + 4 * sl + 3) + 1 ≤ counter t (0x0800 + 4 * sl + 3)
            ∧ ((∀ v ∈ (getSlice s sl).windows, v.boundary = w.boundary → v.computed = true) →
                counter t (0x0800 + 4 * sl + 3) = counter s (0x0800 + 4 * sl + 3) + 1)
            ∧ ∀ v ∈ (getSlice t sl).windows, v.boundary = w.boundary → ∀ e ∈ v.targets, ∀ g ∈ e.2, late.contains (e.1 * 512 + g.1) = false))
    ∧ (∀ sl b, sl < s.member.slices → powered s (sliceDie sl) = true →
        ((getSlice s sl).boundary < b → exec (.updateBoundary sl b) s = .next (loadBoundary sl b s))
        ∧ (b ≤ (getSlice s sl).boundary → exec (.updateBoundary sl b) s = .next s)
        ∧ ((∃ w ∈ (getSlice s sl).windows, w.boundary = b) → (getSlice (loadBoundary sl b s) sl).boundary = b
            ∧ (getSlice (loadBoundary sl b s) sl).period = periodAt s b))

/-- The messages of the speaker chain (R263, R269 to R275, R277, R279, R281, R286, R290, R291, R481): settings, sections, FIR and protection of a channel are staged within the tiles' budgets, a model is staged for its number; `chain.get`, `chain.status` and `chain.budget` read. A channel that the member does not have is BAD_ARG, a section whose poles are not inside the unit circle BAD_ARG with REASON 1. -/
def Obligations.ChainMessages : Prop :=
  ∀ (rq : Request) (s : State),
    let p := rq.payload
    let c := rq.flow
    let x := chanSet s true c
    (served chainCfgOp rq s = true → c < s.member.speakers → c < 512 → byteAt p 1 = 0 →
        let y : ChanSet := { x with cfg := { invert := bit (byteAt p 0) 0, mainOff := bit (byteAt p 0) 1, sosBypass := bit (byteAt p 0) 2
                                             firBypass := bit (byteAt p 0) 3, protBypass := bit (byteAt p 0) 4, sends := []
                                             trim := 0, delay := 0, model := 0xFFFF } }
        granulesFit s s.rend.geoStage.table (mapSet s.chain.stage c y) = true →
        exec (.chainCfg rq) s = .next (answered rq 0x0400 (p.take 14 ++ [0, 0]) (recorded true 0x0400 [] rq (setStage c y s))))
    ∧ (served chainCfgOp rq s = true → isChannel s.member c = false → exec (.chainCfg rq) s = .next (refusedWith rq 0x0400 codeBadArg noField s))
    ∧ (served chainCfgOp rq s = true → isChannel s.member c = true → 512 ≤ c → byteAt p 1 ≤ 2 → bit (byteAt p 0) 1 = true →
        exec (.chainCfg rq) s = .next (respond rq 0x0400 (refuse codeBadArg 2 0 s) s))
    ∧ (served chainSosStageOp rq s = true → isChannel s.member c = true →
      let n := byteAt p 0
      let first := byteAt p 1
      let w := byteAt p 2
      n ≤ 24 → first + w ≤ 24 → 4 + 20 * w ≤ p.length →
      ((∀ i, i < w → (sectionAt p i).stable = true) →
        let y : ChanSet := { x with sos := ((List.range w).foldl (fun m i => mapSet m (first + i) (sectionAt p i)) x.sos) }
        sosFit s c y n = n → exec (.chainSosStage rq) s = .next (answered rq 0x0401 (bytesLE 1 n)
          (recorded true 0x0401 ((p.take 3).drop 1) rq (setStage c { y with sosCount := n } s))))
      ∧ (0 < w → (sectionAt p 0).stable = false → exec (.chainSosStage rq) s = .next (respond rq 0x0401 (refuse codeBadArg 1 16 s) s)))
    ∧ (∀ q : Section, q.stable = true ↔ q.a2.natAbs < 2 ^ 28 ∧ (q.a1.natAbs : Int) < 2 ^ 28 + q.a2)
    ∧ (served chainFirStageOp rq s = true → isChannel s.member c = true → refLength p 4 = 4 * fieldLE p 0 2 →
        fieldLE p 0 2 ≤ firMax (rateHz s.time.rate) → ∀ d u, fetchReference rq 4 s = .ok (d, u) →
        let cs := (List.range (fieldLE p 0 2)).map fun i => signed 24 (fieldLE d (4 * i) 4)
        let y : ChanSet := { chanSet u true c with fir := cs }
        u.time = s.time → tileFir u (mapSet u.chain.stage c y) (homeTile u.member c) ≤ 14400000000 →
        exec (.chainFirStage rq) s = .next (answered rq 0x0402 (bytesLE 2 (fieldLE p 0 2) ++ bytesLE 2 (peakTap cs))
          (noteWithBytes true 0x0402 4 [] rq d (setStage c y u))))
    ∧ (served chainProtCfgOp rq s = true → isChannel s.member c = true → byteAt p 1 ≤ 64 → (-12288) ≤ fieldS p 2 2 → fieldS p 2 2 ≤ 6144 →
        1 ≤ fieldLE p 4 2 → fieldLE p 4 2 ≤ 5000 → 500 ≤ fieldLE p 6 2 → fieldLE p 6 2 ≤ 1000 →
        let q : ProtCfg := { excursion := bit (byteAt p 0) 0, thermal := bit (byteAt p 0) 1, peak := bit (byteAt p 0) 2, look := byteAt p 1
                             threshold := fieldS p 2 2, release := fieldLE p 4 2, margin := fieldLE p 6 2 }
        exec (.chainProtCfg rq) s = .next (answered rq 0x0403 (protBytes q) (recorded true 0x0403 [] rq (setStage c { x with prot := q } s))))
    ∧ (served chainModelOp rq s = true → fieldLE p 0 2 < 512 →
        let m := modelAt p
        m.re ≠ 0 → m.bl ≠ 0 → m.mms ≠ 0 → m.cms ≠ 0 → m.xmax ≠ 0 → 8 * m.fs ≤ fxOf (rateHz s.time.rate) →
        exec (.chainModel rq) s = .next (answered rq 0x0404
          (bytesLE 2 (min 65535 (fxRoundTo 10 m.fs).toNat) ++ bytesLE 2 (min 65535 (fxRoundTo 1000 m.qts).toNat))
          (recorded true 0x0404 (p.take 2) rq { s with chain.modelStage := mapSet s.chain.modelStage (fieldLE p 0 2) m })))
    ∧ (served chainModelOp rq s = true → 512 ≤ fieldLE p 0 2 → exec (.chainModel rq) s = .next (refusedWith rq 0x0404 codeBadArg 0 s))
    ∧ (served chainGetOp rq s = true → isChannel s.member c = true → byteAt p 0 ≤ 1 →
        let y := chanSet s (byteAt p 0 == 1) c
        let t := tableOf s (byteAt p 0 == 1)
        exec (.chainGet rq) s = .next (answered rq 0x0405 (chanCfgBytes y.cfg (trimOf t y c) (delayOf t y c) (modelOf t y c)
          ++ bytesLE 1 y.sosCount ++ [0] ++ bytesLE 2 y.fir.length ++ bytesLE 2 (peakTap y.fir) ++ bytesLE 2 ((delayOf t y c + 255) / 256)
          ++ protBytes y.prot ++ bytesLE 1 (flag (mapFind s.chain.models (modelOf t y c)).isSome) ++ [0, 0, 0]) s))
    ∧ (served chainStatusOp rq s = true → isChannel s.member c = true → ∃ body, body.length = 20 ∧
        exec (.chainStatus rq) s = .next (answered rq 0x0406 body s)
        ∧ (let y := chanSet s false c
           (isBus c = true → body.drop 16 = bytesLE 4 (delayOf s.rend.geo.table y c + y.prot.look + peakTap y.fir))))
    ∧ (served chainBudgetOp rq s = true → s.member.tarnDies.contains (byteAt p 0) = true →
        let d := byteAt p 0
        exec (.chainBudget rq) s = .next (answered rq 0x0407 (bytesLE 4 (tileFir s s.chain.stage d / 1000000) ++ bytesLE 4 14400
          ++ bytesLE 4 (tileSos s s.chain.stage d / 1000) ++ bytesLE 4 720000
          ++ bytesLE 2 (tileGranules s s.rend.geoStage.table s.chain.stage d) ++ bytesLE 2 2048) s))
    ∧ (served chainBudgetOp rq s = true → s.member.tarnDies.contains (byteAt p 0) = false →
        exec (.chainBudget rq) s = .next (refusedWith rq 0x0407 codeBadArg 0 s))

/-- Ponds, DRAM and the bus matrix (R500 to R509, R513 to R515, R520): the control cluster hands a bank of the pool over where the sealed table allows and switches the power of a pool bank, and no other master does; a parity error replayed, or concealed when the replay fails; a region tested; an access that decodes to nothing ended by its watchdog, one of the control cluster fatal; DRAM errors, the row limits of a window and the closing of an idle row. -/
def Obligations.PondsAndDram : Prop :=
  ∀ (die bank : Nat) (s : State),
    (hasBank s die bank = true → powered s die = true →
      let b := getBank s die bank
      (∀ m v, m ≠ .controlCluster → exec (.pndBankOwnerWrite m die bank v) s = .next (busOk [] s)
        ∧ exec (.pndBankPowerWrite m die bank v) s = .next (busOk [] s))
      ∧ (∀ v : Word, v.toNat % 256 ≠ b.owner → v.toNat / 256 % 4 = b.pwr → v.getLsbD 10 = false →
          (getBank (writeOwner die bank (v.toNat % 256) s) die bank).pwr = b.pwr →
          exec (.pndBankOwnerWrite .controlCluster die bank v) s = .next (busOk [] (if mayHand s die bank (v.toNat % 256)
            then handBank die bank (v.toNat % 256) s else pndRefused die bank (v.toNat % 256) s)))
      ∧ (∀ v : Word, v.toNat % 256 = b.owner → v.toNat / 256 % 4 ≠ b.pwr → v.toNat / 256 % 4 < 3 → v.getLsbD 10 = false →
          (v.toNat / 256 % 4 = 0 ∨ b.owner = 0 → exec (.pndBankPowerWrite .controlCluster die bank v) s =
            .next (busOk [] (setPower die bank (v.toNat / 256 % 4) s)))
          ∧ (v.toNat / 256 % 4 ≠ 0 → b.owner ≠ 0 → exec (.pndBankPowerWrite .controlCluster die bank v) s =
            .next (busOk [] (pndRefused die bank b.owner s)))))
    ∧ (∀ p, (getBank (setPower die bank p s) die bank).pwr = p)
    ∧ (∀ word m again, s.member.has die = true → powered s die = true → hasBank s die bank = true → bank < 0x100 → word < 16384 →
        (getBank s die bank).pwr = 0 → isShore die = true →
        let t := setBank die bank { getBank s die bank with errors := ((getBank s die bank).errors + 1) % 2 ^ 32 } s
        let e : ParityError := { die := die, bank := bank, word := word, reader := m, again := again }
        (again = false → (∀ n, m ≠ .ripple n) → exec (.pondParityError e) s = .next (count 0x6150 t))
        ∧ (again = true → m ≠ .controlCluster → isTarn die = false →
            let u := setBank die bank { getBank (count 0x6151 t) die bank with queued := true } (count 0x6151 t)
            exec (.pondParityError e) s = .next { u with hw.ponds.bad := pondAddr die bank (4 * word) :: u.hw.ponds.bad }))
    ∧ (∀ region, hasBank s die bank = true → powered s die = true → (getBank s die bank).pwr = 0 → region < 255 →
        exec (.pondTestRegion die bank region true) s = .next { count (pondCounter die 2) s with
          hw.ponds.testing := mapSet s.hw.ponds.testing die (bank * 256 + region + 1) }
        ∧ ∃ t, exec (.pondTestRegion die bank region false) s = .next t ∧ (getBank t die bank).failed = true ∧ t.hw.mem = s.hw.mem)
    ∧ (∀ rq, served diagPondStatusOp rq s = true → byteAt rq.payload 0 = die → byteAt rq.payload 1 = bank →
        (s.member.has die = true → bankCount die ≠ 0 → hasBank s die bank = true → exec (.diagPondStatus rq) s = .next (answered rq 0x0E05
          (bytesLE 1 (getBank s die bank).pwr ++ bytesLE 1 (flag (getBank s die bank).testInt + 2 * flag (getBank s die bank).queued)
            ++ bytesLE 2 (getBank s die bank).owner ++ bytesLE 4 (getBank s die bank).errors) s))
        ∧ (s.member.has die = false → exec (.diagPondStatus rq) s = .next (refusedWith rq 0x0E05 codeBadArg 0 s)))
    ∧ (∀ m addr write, m ≠ .controlCluster → mapFind s.hw.opens (masterKey m) = some (addr, write) →
        exec (.decodeErrorWatchdog m) s = .next (endDecodeError m addr write { s with hw.opens := mapErase s.hw.opens (masterKey m) }))
    ∧ (∀ m, mapFind s.hw.opens (masterKey m) = none → exec (.decodeErrorWatchdog m) s = .next s)
    ∧ (∀ addr, exec (.busTimeout addr) s =
        .next (fatal 2 (activeShore s) { s with hw.opens := mapErase s.hw.opens (masterKey .controlCluster) }))
    ∧ (∀ addr m d, dramOffset s addr = some d → powered s (activeShore s) = true → s.hw.dram.st = 1 →
        let t := dramEvent 0 (d / 256 % 2) m (dramAddr s d) (count (dramCounter (d / 256 % 2) 0) s)
        let u := dramEvent 1 (d / 256 % 2) m (dramAddr s d) (count (dramCounter (d / 256 % 2) 1) s)
        exec (.dramParityError addr m false) s = .next t
        ∧ (m = .controlCluster → exec (.dramParityError addr m true) s = .next (fatal 3 (activeShore s) u))
        ∧ (m ≠ .controlCluster → exec (.dramParityError addr m true) s =
            .next { u with hw.ponds.bad := dramAddr s d / 4 * 4 :: u.hw.ponds.bad }))
    ∧ (∀ ch b row m addr, ch < 2 → b < 16 → s.hw.dram.st = 1 → powered s (activeShore s) = true →
        let key := (ch, b, row, masterNumber m)
        let t := count (dramCounter ch 4) s
        (s.hw.dram.limited.contains key = true → exec (.rowhammerThrottle ch b row m addr) s = .next t)
        ∧ (s.hw.dram.limited.contains key = false → ∃ u, exec (.rowhammerThrottle ch b row m addr) s = .next u
            ∧ u.hw.dram.limited = key :: s.hw.dram.limited ∧ counter u (dramCounter ch 5) = counter s (dramCounter ch 5) + 1))
    ∧ (exec .refreshWindowEnd s = .next { s with hw.dram.limited := [] })
    ∧ (∀ ch b, ch < 2 → b < 16 → exec (.dramRowIdleClose ch b) s = .next { s with
        hw.dram.banks := mapSet s.hw.dram.banks (ch * 16 + b) { mapGet dramBank0 s.hw.dram.banks (ch * 16 + b) with openRow := none } })

/-- The state dump and fatal errors (R526, R527, R546 to R549): the causes 1 to 7 are fatal, a dump is written and the Shore restarts, or declares itself to the wardens where the standby serves; `diag.dump.info`, `diag.dump.read` and `diag.dump.clear` act on the dump that is present, `diag.counters.read` reads counters. -/
def Obligations.Dumps : Prop :=
  ∀ (rq : Request) (s : State),
    let p := rq.payload
    (∀ cause die, 1 ≤ cause → cause ≤ 7 → s.member.has die = true → exec (.fatalError cause die) s = .next (fatal cause die s))
    ∧ (∀ word complete, s.sys.fatal.dumping = some word → s.sys.fatal.restartDue = false →
        exec (.dumpWritten complete) s = .next (afterDump word (recordFatal word complete 0 s)))
    ∧ (∀ word, failsOver s (bits word 7 0) (bits word 15 8) = false → afterDump word s =
        { s with sys.fatal.dumping := none, sys.fatal.restartDue := true, sys.fatal.announce := true })
    ∧ (∀ word, failsOver s (bits word 7 0) (bits word 15 8) = true → (afterDump word s).sys.red.hubUp = false
        ∧ (afterDump word s).sys.red.declared = some (activeShore s, 1) ∧ (afterDump word s).sys.fatal.restartDue = false)
    ∧ (s.sys.fatal.dumping = none → ∀ complete, exec (.dumpWritten complete) s = .next s)
    ∧ (served diagDumpInfoOp rq s = true → dumpPresent s = none → exec (.diagDumpInfo rq) s = .next (answered rq 0x0E00 (List.replicate 20 0) s))
    ∧ (served diagDumpInfoOp rq s = true → ∀ place base, dumpPresent s = some (place, base) →
        let h := readBytes s base 24
        exec (.diagDumpInfo rq) s = .next (answered rq 0x0E00 (bytesLE 1 1 ++ bytesLE 1 place ++ bytesLE 2 (fieldLE h 6 2)
          ++ bytesLE 4 (fieldLE h 8 4) ++ slice h 16 8 ++ slice h 12 4) s))
    ∧ (served diagDumpReadOp rq s = true → 1 ≤ fieldLE p 4 2 → fieldLE p 4 2 ≤ 1000 → ∀ place base, dumpPresent s = some (place, base) →
        fieldLE p 0 4 + fieldLE p 4 2 ≤ fieldLE (readBytes s base 12) 8 4 →
        exec (.diagDumpRead rq) s = .next (answered rq 0x0E01 (readBytes s (base + fieldLE p 0 4) (fieldLE p 4 2)) s))
    ∧ (served diagDumpReadOp rq s = true → fieldLE p 4 2 = 0 ∨ 1000 < fieldLE p 4 2 →
        exec (.diagDumpRead rq) s = .next (refusedWith rq 0x0E01 codeBadArg 4 s))
    ∧ (served diagDumpClearOp rq s = true → (∀ place base, dumpPresent s = some (place, base) → ∃ t,
        exec (.diagDumpClear rq) s = .next (answered rq 0x0E02 [] t) ∧ t.hw.mem = memPuts s.hw.mem base (List.replicate 6 0)
          ∧ dumpValid t base = false)
        ∧ (dumpPresent s = none → exec (.diagDumpClear rq) s = .next (answered rq 0x0E02 [] s)))
    ∧ (served diagCountersReadOp rq s = true → 1 ≤ fieldLE p 2 2 → fieldLE p 2 2 ≤ 125 → (∀ i, i < fieldLE p 2 2 → isCounter (fieldLE p 0 2 + i) = true) →
        exec (.diagCountersRead rq) s = .next (answered rq 0x0E03
          ((List.range (fieldLE p 2 2)).flatMap fun i => bytesLE 8 (counter s (fieldLE p 0 2 + i))) s))

/-- The `rpl` messages (R94, R161, R314, R318, R320, R323, R327, R328): a program loaded into a core with its measurement, a core started, stopped or reset at an instruction boundary, banks granted from the pool by the table, all or none, and returned; inserts staged on the core of the right Tarn; measurements read. -/
def Obligations.RippleMessages : Prop :=
  ∀ (rq : Request) (s : State),
    let p := rq.payload
    let n := byteAt p 0
    (coreThere s n = true → inRepeat s n = false →
      (served rplLoadOp rq s = true → ∀ image t, fetchReference rq 4 s = .ok (image, t) → image.length ≤ 65536 → image.length % 4 = 0 →
        exec (.rplLoad rq) s = .next (answered rq 0x0A00 (bytesLE 4 image.length ++ (digestBytes (Config.sha384 image)).take 8)
          (noteWithBytes false 0x0A00 4 [BitVec.ofNat 8 n] rq image (loadCore n (bit (byteAt p 1) 0) image t))))
      ∧ (served rplStartOp rq s = true → exec (.rplStart rq) s = .next (answered rq 0x0A01 [] (startCore n s)))
      ∧ (served rplStopOp rq s = true → exec (.rplStop rq) s = .next (answered rq 0x0A02 [] (stopCore n s)))
      ∧ (served rplResetOp rq s = true → exec (.rplReset rq) s = .next (answered rq 0x0A03 [] (resetCore n s)))
      ∧ (served rplMeasureOp rq s = true → exec (.rplMeasure rq) s = .next (answered rq 0x0A06
          (bytesLE 4 (getCore s n).busyLast ++ bytesLE 4 (getCore s n).peak ++ bytesLE 4 (getCore s n).ovr) s)))
    ∧ (inRepeat s n = true → exec (.rplLoad rq) s = .next s ∧ exec (.rplStop rq) s = .next s)
    ∧ (served rplStartOp rq s = true → coreThere s n = false → exec (.rplStart rq) s = .next (refusedWith rq 0x0A01 codeBadArg 0 s))
    ∧ ((getCore (startCore n s) n).st = .running ∧ (getCore (startCore n s) n).pc = 0 ∧ (getCore (startCore n s) n).d = []
        ∧ (getCore (startCore n s) n).windows = (getCore s n).windows)
    ∧ ((getCore s n).st = .running → (getCore (stopCore n s) n).st = .stopped)
    ∧ (served rplGrantOp rq s = true → coreThere s n = true → 224 ≤ byteAt p 1 → byteAt p 1 + byteAt p 2 ≤ 256 →
      let die := coreDie n
      let banks := (List.range (byteAt p 2)).map (byteAt p 1 + ·)
      (byteAt p 3 = 0 → (∀ b ∈ banks, (getBank s die b).owner = 0 ∧ xferAllows s die b (0x40 + n % 16) = true) →
          (getCore s n).windows.length + banks.length ≤ 8 → (∀ b ∈ banks, ownerCode s.member die (0x40 + n % 16) = true) →
          exec (.rplGrant rq) s = .next (answered rq 0x0A04 []
            (banks.foldl (fun s b => noteGrant n b (handBank die b (0x40 + n % 16) s)) s)))
      ∧ (byteAt p 3 = 1 → (∀ b ∈ banks, (getBank s die b).owner = 0x40 + n % 16) →
          exec (.rplGrant rq) s = .next (answered rq 0x0A04 [] (banks.foldl (fun s b => forgetGrant n b (handBank die b 0 s)) s)))
      ∧ (byteAt p 3 = 1 → (∃ b ∈ banks, (getBank s die b).owner ≠ 0x40 + n % 16) →
          exec (.rplGrant rq) s = .next (refusedWith rq 0x0A04 codeBadArg 1 s)))
    ∧ (served rplInsertOp rq s = true →
      let core := byteAt p 1
      let id := fieldLE p 2 2
      let key := insertKey n id
      (n = 1 ∨ n = 2) → id < s.member.speakers →
      (core = 0xFF → exec (.rplInsert rq) s = .next (answered rq 0x0A05 [] (recorded true 0x0A05 (p.take 1 ++ slice p 2 2) rq
        { s with chain.insertStage := mapSet s.chain.insertStage key none })))
      ∧ (core ≠ 0xFF → core < s.member.cores → insertDie s key = some (coreDie core) → mapFind (stagedInserts s) key = none → ∀ k,
          freeInsertSlot s core key = some k → exec (.rplInsert rq) s = .next (answered rq 0x0A05 []
            (recorded true 0x0A05 (p.take 1 ++ slice p 2 2) rq
              { s with chain.insertStage := mapSet s.chain.insertStage key (some { core := core, slot := k }) })))
      ∧ (core ≠ 0xFF → core < s.member.cores → insertDie s key ≠ some (coreDie core) →
          exec (.rplInsert rq) s = .next (refusedWith rq 0x0A05 codeBadArg 1 s)))

/-- Line outputs (R160, R431 to R438, R449): `out.dac.cfg` sets a channel, its clear code moving linearly where the channel is not enabled and at once under DAC_CLR; `out.dac.status` reports it; DAC_CLR of 50 ns or more puts every channel of a working Outlet on its clear code; with a feed from its Tarn an Outlet tick ends a feed loss and fades enabled channels one step towards their feeds, four ticks without one begin it. -/
def Obligations.LineOutputs : Prop :=
  ∀ (rq : Request) (die : Nat) (s : State),
    let p := rq.payload
    let c := byteAt p 0
    let d := getDac s c
    let fr := rateHz s.time.rate
    (served outDacCfgOp rq s = true →
      (s.member.channels ≤ c → exec (.outDacCfg rq) s = .next (refusedWith rq 0x0900 codeBadArg 0 s))
      ∧ (c < s.member.channels → fieldLE p 4 4 = 0 → exec (.outDacCfg rq) s = .next (refusedWith rq 0x0900 codeBadArg 4 s))
      ∧ (c < s.member.channels → byteAt p 1 ≤ 1 → 0 < fieldLE p 4 4 → fieldLE p 4 4 ≤ 8 * fr →
          -8388608 ≤ fieldS p 8 4 → fieldS p 8 4 ≤ 8388607 →
          let v := fieldS p 8 4
          let e : Dac := { d with enable := byteAt p 1 == 1, step := fieldLE p 2 2, rate := fieldLE p 4 4, clear := v }
          (s.outs.dacClr = true → exec (.outDacCfg rq) s = .next (answered rq 0x0900 [] (recorded false 0x0900 (p.take 1) rq
              (setDac c { e with moving := none, code := v, acc := v * 65536 } { s with wire := .dacClear c v :: s.wire }))))
          ∧ (s.outs.dacClr = false → d.enable = true ∨ v = d.clear → exec (.outDacCfg rq) s =
              .next (answered rq 0x0900 [] (recorded false 0x0900 (p.take 1) rq (setDac c e s))))
          ∧ (s.outs.dacClr = false → d.enable = false → v ≠ d.clear → exec (.outDacCfg rq) s =
              .next (answered rq 0x0900 [] (recorded false 0x0900 (p.take 1) rq
                (setDac c { e with moving := some (d.clearNow s.now, s.now) } s))))))
    ∧ (served outDacStatusOp rq s = true → c < s.member.channels → ∀ st,
        (st = 0 ∧ d.enable = false ∧ d.pos = 0) ∨ (st = 3 ∧ d.enable = false ∧ d.pos ≠ 0) ∨ (st = 4 ∧ d.enable = true ∧ s.outs.dacClr = true)
          ∨ (d.enable = true ∧ s.outs.dacClr = false ∧ (getOutlet s (6 + c / 16)).loss = false ∧ (getOutlet s (6 + c / 16)).hub = false
              ∧ st = if d.pos = 64 then 2 else 1) →
        exec (.outDacStatus rq) s = .next (answered rq 0x0906 (bytesLE 1 st ++ bytesLE 1 (flag s.outs.dacClr) ++ [0, 0] ++ bytesS 4 d.clear
          ++ bytesS 4 d.code ++ bytesLE 4 d.step ++ bytesLE 4 (min d.rate (8 * fr))) s))
    ∧ (∀ ns, (s.outs.dacClr = true → exec (.dacClrRise ns) s = .next s)
        ∧ (s.outs.dacClr = false → 50 ≤ ns → s.member.outletDies ≠ [] → ∃ t, exec (.dacClrRise ns) s = .next t ∧ t.outs.dacClr = true
            ∧ (∀ x n, outletWorks s x = true → n < 16 →
                let y := getDac s ((x - 6) * 16 + n)
                getDac t ((x - 6) * 16 + n) = { y with pos := 0, code := y.clear, acc := y.clear * 65536, limiting := false, moving := none })
            ∧ (∀ x, outletWorks s x = true → counter t (0x5080 + (x - 6)) = counter s (0x5080 + (x - 6)) + 1)
            ∧ t.sys = s.sys ∧ t.msg = s.msg ∧ t.rend = s.rend ∧ t.outs.amps = s.outs.amps)
        ∧ (s.outs.dacClr = false → ns < 50 → s.member.outletDies ≠ [] → ∃ t, exec (.dacClrRise ns) s = .next t
            ∧ (t = { s with free := s.free + 1 } ∨ t.outs.dacClr = true)))
    ∧ (exec .dacClrFall s = .next { s with outs.dacClr := false })
    ∧ (outletWorks s die = false → exec (.outletTick die) s = .next s ∧ exec (.feedLoss die) s = .next s)
    ∧ (outletWorks s die = true → feedComes s die = true → ∃ t, exec (.outletTick die) s = .next t
        ∧ getOutlet t die = { getOutlet s die with noFeed := 0, loss := false, index := (getTile s (parentTarn die)).index }
        ∧ t.sys = s.sys ∧ t.msg = s.msg ∧ t.rend = s.rend ∧ t.chain = s.chain ∧ t.cores = s.cores ∧ t.route = s.route ∧ t.net = s.net
        ∧ t.time = s.time ∧ t.wire = s.wire ∧ t.hw.regs = s.hw.regs ∧ t.hw.mem = s.hw.mem
        ∧ ∀ n, n < 16 →
          let ch := (die - 6) * 16 + n
          let x := getDac s ch
          let a := getAmp s ch
          (s.outs.dacClr = true → (getDac t ch).code = x.clear ∧ (getDac t ch).pos = 0)
          ∧ (s.outs.dacClr = false → x.enable = true → (getOutlet s die).hub = false → s.sys.ao.power = .run →
              (getDac t ch).pos = min 64 (x.pos + 1))
          ∧ (s.outs.dacClr = false → x.enable = false → (getDac t ch).pos = x.pos - 1)
          ∧ (a.st = .running → a.mode = 0 → 2 ≤ a.fade → (getAmp t ch).st = .fadingOut ∧ (getAmp t ch).fade = a.fade - 1)
          ∧ (a.st = .holding → a.mode ≠ 0 → a.heat = false → pinsDriven s = false → s.sys.ao.power = .run → s.sys.fatal.halted = false →
              (getOutlet s die).hub = false → (getOutlet s die).rate = false → a.resizing = false → a.check = false → a.fade < 63 →
              (getAmp t ch).st = .fadingIn ∧ (getAmp t ch).fade = a.fade + 1)
          ∧ (a.st = .off ∨ a.st = .latched ∨ a.st = .waiting → (getAmp t ch).st = a.st ∧ (getAmp t ch).fade = a.fade))
    ∧ (outletWorks s die = true → (getOutlet s die).noFeed < 4 ∨ (getOutlet s die).loss = true → exec (.feedLoss die) s = .next s)
    ∧ (outletWorks s die = true → 4 ≤ (getOutlet s die).noFeed → (getOutlet s die).loss = false → ∃ t, exec (.feedLoss die) s = .next t
        ∧ t = { s with outs.outlets := t.outs.outlets, hw.counters := t.hw.counters }
        ∧ getOutlet t die = { getOutlet s die with loss := true }
        ∧ ∀ n, n < 16 →
          let ch := (die - 6) * 16 + n
          counter t (0x5000 + 4 * ch + 2) = counter s (0x5000 + 4 * ch + 2) + flag (getDac s ch).enable
          ∧ counter t (0x5380 + ch) = counter s (0x5380 + ch) + flag (getAmp s ch).st.switching)

/-- Sense chains and the auxiliary converter (R160, R439 to R448): their settings, what they report, the decimated sample with its FIR, its overload and the restart, a coefficient bank swapped at an output, and a conversion with its limits. The result of a conversion in its input's unit is not stated by the spec (a free value, rule 446). -/
def Obligations.SenseAndAux : Prop :=
  ∀ (rq : Request) (ch : Nat) (s : State),
    let p := rq.payload
    let c := byteAt p 0
    let x := getSense s c
    (served outSenseCfgOp rq s = true → c < s.member.channels → ∀ l, 3 ≤ l → l ≤ 9 → fieldLE p 2 2 = 2 ^ l → 1 ≤ byteAt p 1 → byteAt p 1 ≤ 4 →
      let n := byteAt p 1
      let y : Sense := { x with
        log2M := l, order := n, loaded := (byteAt p 4).testBit 0, vfs := fieldLE p 8 4, ifs := fieldLE p 12 4
        restartDue := x.restartDue || (x.log2M != l || x.order != n) }
      exec (.outSenseCfg rq) s = .next (answered rq 0x0907 (bytesLE 4 (6144000 / 2 ^ l) ++ bytesLE 4 (modNs (n * (2 ^ l - 1) + 2 * y.peak * 2 ^ l + 8))
        ++ bytesLE 4 (modNs (2 * (n + 31) * 2 ^ l))) (recorded false 0x0907 (p.take 1) rq (setSense c y s))))
    ∧ (served outSenseCfgOp rq s = true → c < s.member.channels → (∀ l, l ≤ 16 → fieldLE p 2 2 ≠ 2 ^ l) →
        exec (.outSenseCfg rq) s = .next (refusedWith rq 0x0907 codeBadArg 2 s))
    ∧ (served outSenseCoefOp rq s = true → c < s.member.channels →
        let cs := (List.range 31).map fun i => signed 24 (fieldLE p (4 + 4 * i) 4)
        let y : Sense := if x.bank = 0 then { x with coef1 := cs, pending := true } else { x with coef0 := cs, pending := true }
        exec (.outSenseCoef rq) s = .next (answered rq 0x0908 (bytesLE 1 (peakTap cs) ++ [0, 0, 0]
          ++ bytesLE 4 (modNs (x.order * (2 ^ x.log2M - 1) + 2 * peakTap cs * 2 ^ x.log2M + 8)))
          (recorded false 0x0908 (p.take 1) rq (setSense c y s))))
    ∧ (served outSenseReadOp rq s = true → c < s.member.channels → exec (.outSenseRead rq) s = .next (answered rq 0x0909
        (bytesS 4 (roundDiv (x.v * x.vfs) (2 ^ 23)) ++ bytesS 4 (roundDiv (x.i * x.ifs) (2 ^ 23)) ++ bytesS 4 x.v ++ bytesS 4 x.i
          ++ bytesLE 1 (3 * flag x.valid + 4 * flag x.ovlV + 8 * flag x.ovlI)
          ++ [0, 0, 0]) s))
    ∧ (served outSenseReadOp rq s = true → s.member.channels ≤ c → exec (.outSenseRead rq) s = .next (refusedWith rq 0x0909 codeBadArg 0 s))
    ∧ (let k := auxKey c (byteAt p 1)
       ∀ l, served outAuxCfgOp rq s = true → s.member.outletDies.contains c = true → byteAt p 1 ≤ 15 → 3 ≤ l → l ≤ 9 → fieldLE p 2 2 = 2 ^ l →
       1 ≤ byteAt p 4 → byteAt p 4 ≤ 4 → byteAt p 5 ≤ 1 →
       (fieldS p 12 4 < fieldS p 8 4 → exec (.outAuxCfg rq) s = .next (refusedWith rq 0x090A codeBadArg 8 s))
       ∧ (fieldS p 8 4 ≤ fieldS p 12 4 →
         let t := setAux k { getAux s k with
           m := 2 ^ l, n := byteAt p 4, enable := byteAt p 5 == 1, low := fieldS p 8 4, high := fieldS p 12 4
           valid := (getAux s k).valid && byteAt p 5 == 1 } s
         exec (.outAuxCfg rq) s = .next (answered rq 0x090A (bytesLE 1 c ++ bytesLE 1 (byteAt p 1) ++ bytesLE 2 (2 ^ l) ++ bytesLE 1 (byteAt p 4)
           ++ bytesLE 1 (byteAt p 5) ++ [0, 0] ++ bytesS 4 (fieldS p 8 4) ++ bytesS 4 (fieldS p 12 4) ++ bytesLE 4 (scanNs t c))
           (recorded false 0x090A (p.take 2) rq t))))
    ∧ (served outAuxReadOp rq s = true → s.member.outletDies.contains c = true → exec (.outAuxRead rq) s = .next (answered rq 0x090B
        ((List.range 16).flatMap (fun i => bytesS 4 (auxValue i (getAux s (auxKey c i)).raw))
          ++ bytesLE 2 (maskOf ((List.range 16).filter fun i => (getAux s (auxKey c i)).valid)) ++ [0, 0] ++ bytesLE 4 (scanNs s c)) s))
    ∧ (∀ v i, ch < s.member.channels → outletWorks s (channelDie ch) = true → (getSense s ch).pending = false →
        let z := getSense s ch
        let hv := (satInt 24 v :: z.histV).take 31
        let hi := (satInt 24 i :: z.histI).take 31
        let fir := fun (h : List Int) => satInt 24 (roundDiv (((List.range 31).map fun k => z.coefs.getD k 0 * h.getD k 0).sum) (2 ^ 22))
        let ov := fun (w : Int) => decide (6710886 < (satInt 24 w).natAbs)
        (z.restartDue = true → ∃ t, exec (.senseDecimatorOutput ch v i) s = .next t
          ∧ getSense t ch = { z with histV := [], histI := [], restart := z.order + 31, restartDue := false, valid := false }
          ∧ counter t (0x5100 + 4 * ch + 3) = counter s (0x5100 + 4 * ch + 3) + 1)
        ∧ (z.restartDue = false → z.conceal = false → z.loaded = true → ∃ t, exec (.senseDecimatorOutput ch v i) s = .next t
          ∧ getSense t ch = { z with
              histV := hv, histI := hi, v := fir hv, i := fir hi, ovlV := ov v, ovlI := ov i, restart := z.restart - 1
              valid := decide (z.restart ≤ 1) }
          ∧ counter t (0x5100 + 4 * ch) = counter s (0x5100 + 4 * ch) + flag (ov v)
          ∧ counter t (0x5100 + 4 * ch + 1) = counter s (0x5100 + 4 * ch + 1) + flag (ov i)
          ∧ (getAmp t ch).dcTotal = (getAmp s ch).dcTotal + 1 ∧ (getAmp t ch).st = (getAmp s ch).st
          ∧ t = { s with hw.counters := t.hw.counters, outs.senses := t.outs.senses, outs.amps := t.outs.amps })
        ∧ (z.restartDue = false → z.conceal = true → ∃ t, exec (.senseDecimatorOutput ch v i) s = .next t
          ∧ (getSense t ch).v = satInt 24 v ∧ (getSense t ch).i = satInt 24 i ∧ (getSense t ch).conceal = false
          ∧ counter t (0x5100 + 4 * ch + 2) = counter s (0x5100 + 4 * ch + 2) + 1))
    ∧ (∀ v i, ch < s.member.channels → outletWorks s (channelDie ch) = true → (getSense s ch).pending = true →
        ∃ t, exec (.senseDecimatorOutput ch v i) s = .next t ∧ (getSense t ch).bank = 1 - (getSense s ch).bank ∧ (getSense t ch).pending = false)
    ∧ (∀ die input raw, outletWorks s die = true → input < 16 → (getAux s (auxKey die input)).enable = true →
        let k := auxKey die input
        let a := getAux s k
        let value := auxValue input (satInt 24 raw)
        let plain := input ≠ 0 ∧ (input < 6 ∨ 14 ≤ input)
        let t := setAux k { a with raw := satInt 24 raw, valid := true } s
        let report := fun (kind : Nat) (u : State) =>
          eventLimited (0x70000 + k) 20 die 0x0983 0xFFFF (bytesLE 1 die ++ bytesLE 1 input ++ bytesLE 1 kind ++ [0] ++ bytesS 4 value) u
        (a.low ≤ value → value ≤ a.high → a.limit = false →
          (plain → exec (.auxConversion die input raw) s = .next t)
          ∧ (input = 0 → exec (.auxConversion die input raw) s = .next { t with sys.temps := mapSet s.sys.temps die value })
          ∧ (6 ≤ input → input < 10 → exec (.auxConversion die input raw) s = .next (railReading (4 * (die - 6) + (input - 6)) value t))
          ∧ (10 ≤ input → input < 14 → exec (.auxConversion die input raw) s = .next (groupReading (4 * (die - 6) + (input - 10)) value t)))
        ∧ (plain → value < a.low ∨ a.high < value → a.limit = false → exec (.auxConversion die input raw) s =
            .next (report (if value < a.low then 0 else 1) (count (0x5180 + 16 * (die - 6) + input)
              (setAux k { a with raw := satInt 24 raw, valid := true, limit := true, inside := 0 } s))))
        ∧ (plain → a.low ≤ value → value ≤ a.high → a.limit = true → a.inside < 3 → exec (.auxConversion die input raw) s =
            .next (setAux k { a with raw := satInt 24 raw, valid := true, inside := a.inside + 1 } s))
        ∧ (plain → a.low ≤ value → value ≤ a.high → a.limit = true → 3 ≤ a.inside → exec (.auxConversion die input raw) s =
            .next (report 2 (setAux k { a with raw := satInt 24 raw, valid := true, limit := false, inside := 0 } s))))
    ∧ (∀ die input raw, outletWorks s die = false ∨ (getAux s (auxKey die input)).enable = false →
        exec (.auxConversion die input raw) s = .next s)

/-- Power channels (R459, R462 to R471): a channel starts when its rail is in range, is judged at the end of its start hold and locks to its reference, and stops with its gate commands low; a hard short and the third trip in a row shut it down with a report, latched where retries are off, waiting for its retry otherwise, the eighth failed retry in a row latched with cause 7; a retry check passes or fails on the impedance; ten seconds of running clear the count. An event goes to the destinations while Nerris runs, and is kept by the Outlet otherwise. -/
def Obligations.PowerChannels : Prop :=
  ∀ (ch : Nat) (s : State), ch < s.member.channels → outletWorks s (6 + ch / 16) = true →
    let a := getAmp s ch
    let o := getOutlet s (6 + ch / 16)
    let low := fun (st : AmpState) (b : Amp) => ({ b with st := st, fade := 0, check := false, syncLock := false, clip := false, line := [] } : Amp)
    let begun := fun (check : Bool) (b : Amp) =>
      ({ b with st := .starting, fade := 0, check := check, retryDue := false, expired := false } : Amp)
    let report := fun (cause : Nat) (latched : Bool) (t : State) =>
      outletEvent (6 + ch / 16) 8 0x0980 ch (bytesLE 1 ch ++ bytesLE 1 cause ++ bytesLE 1 (getAmp t ch).retries ++ bytesLE 1 (flag latched))
        (setAmp ch { getAmp t ch with cause := cause } t)
    let failed := fun (b : Amp) (t : State) => count (0x5200 + 8 * ch + 3) (setAmp ch
      (if b.retries < 7 then { low .waiting b with retries := b.retries + 1, retryDue := true, expired := false, recent := false }
       else { low .latched b with retries := min 15 (b.retries + 1), retryDue := false, expired := false, recent := false }) t)
    let shut := fun (cause : Nat) (t : State) =>
      let u := count (0x5200 + 8 * ch + 2) (setBoost (ch / 4) { getBoost t (ch / 4) with floorDue := true } t)
      if a.check = true then report (if a.retries < 7 then 6 else 7) (decide (7 ≤ a.retries)) (failed a u)
      else if a.retryMs = 0 then report cause true (setAmp ch { low .latched a with recent := false } u)
      else if a.recent = true then report (if a.retries < 7 then cause else 7) (decide (7 ≤ a.retries)) (failed a u)
      else report cause false (setAmp ch { low .waiting a with retryDue := true, expired := false } u)
    (a.st = .starting → pinsDriven s = false → exec (.channelStart ch) s =
        .next (setAmp ch { a with st := .startHold, line := [], pilotPhase := 0, dcSum := 0, dcN := 0, dcTotal := 0 } s))
    ∧ (∀ kHz ref, a.st = .startHold →
        let hz := if o.syncExt then ref else o.syncHz
        let b : Amp := { a with st := .holding, idle := kHz }
        (a.mode ≠ 2 → 300 ≤ kHz → kHz ≤ 700 → exec (.startHoldEnd ch kHz ref) s = .next (setAmp ch { b with syncLock := false } s))
        ∧ (a.mode ≠ 2 → kHz < 300 ∨ 700 < kHz → exec (.startHoldEnd ch kHz ref) s =
            .next (setAmp ch { b with freqErr := true, syncLock := false } (count (0x5300 + 4 * ch + 3) s)))
        ∧ (a.mode = 2 → 300 ≤ kHz → kHz ≤ 700 → 600 * kHz ≤ hz → hz ≤ 1050 * kHz → exec (.startHoldEnd ch kHz ref) s =
            .next (setAmp ch { b with syncLock := true } s))
        ∧ (a.mode = 2 → 300 ≤ kHz → kHz ≤ 700 → hz < 600 * kHz ∨ 1050 * kHz < hz → exec (.startHoldEnd ch kHz ref) s =
            .next (count (0x5200 + 8 * ch + 7) (setAmp ch { b with syncLock := false } s))))
    ∧ (a.st = .stopHold →
        (a.mode = 0 → exec (.channelStopComplete ch) s = .next (setAmp ch (low .off a) s))
        ∧ (a.mode ≠ 0 → pinsDriven s = false → s.sys.ao.power = .run → s.sys.fatal.halted = false → exec (.channelStopComplete ch) s =
            .next (setAmp ch (if a.heat then low .waiting a else begun false (low .off a)) s)))
    ∧ (a.st.switching = true → exec (.hardShort ch) s = .next (shut 1 s))
    ∧ (a.st.switching = true → ∀ k,
        let t := count (0x5200 + 8 * ch + 1) s
        (a.check = true → exec (.cycleTrip ch k) s =
          .next (report (if a.retries < 7 then 6 else 7) (decide (7 ≤ a.retries)) (failed a t)))
        ∧ (a.check = false → k < 3 → exec (.cycleTrip ch k) s = .next t)
        ∧ (a.check = false → 3 ≤ k → exec (.cycleTrip ch k) s = .next (shut 2 t)))
    ∧ (a.st.switching = false → exec (.hardShort ch) s = .next s ∧ (∀ k, exec (.cycleTrip ch k) s = .next s)
        ∧ exec (.clipEpisode ch) s = .next s)
    ∧ (a.st.switching = true →
        let t := count (0x5200 + 8 * ch + 4) (setAmp ch { a with clip := true } s)
        (∀ m, mapFind s.msg.ncp.lastSent (0x71000 + ch) = some m → s.now < m + 156250000 → exec (.clipEpisode ch) s = .next t)
        ∧ (mapFind s.msg.ncp.lastSent (0x71000 + ch) = none → exec (.clipEpisode ch) s =
            .next (report 4 false { t with msg.ncp.lastSent := mapSet s.msg.ncp.lastSent (0x71000 + ch) s.now })))
    ∧ (a.st = .waiting → a.retryDue = true → exec (.retryTimer ch) s =
        .next (setAmp ch (if a.heat then { a with expired := true } else begun true a) s))
    ∧ (a.st ≠ .waiting ∨ a.retryDue = false → exec (.retryTimer ch) s = .next s)
    ∧ (∀ z, a.check = true → a.st = .holding →
        (z < a.shortLim → exec (.retryCheckEnd ch z) s =
          .next (report (if a.retries < 7 then 6 else 7) (decide (7 ≤ a.retries)) (failed { a with zmag := z } s)))
        ∧ (a.shortLim ≤ z → exec (.retryCheckEnd ch z) s = .next (setAmp ch { a with check := false, recent := true, zmag := z } s)))
    ∧ (a.st = .running → exec (.retryCountReset ch) s = .next (setAmp ch { a with retries := 0, recent := false } s))
    ∧ (∀ die cls op flow fields, (nerrisUp s = true → outletEvent die cls op flow fields s = event cls die op flow fields s)
        ∧ (nerrisUp s = false → (getOutlet s die).kept.length < 16 → outletEvent die cls op flow fields s =
            setOutlet die { getOutlet s die with
              kept := (getOutlet s die).kept ++ [{ cls := cls, opcode := op, flow := flow, fields := fields }] } s)
        ∧ (nerrisUp s = false → 16 ≤ (getOutlet s die).kept.length → outletEvent die cls op flow fields s = s))

/-- The `amp` messages of a channel (R160, R463, R469, R471, R478): `amp.cfg` sets a channel and starts or stops it, and is refused where its full scales are unknown or its hard limit is too near the other; `amp.clear` clears the retries and starts a latched or waiting channel in its retry check; the pilot settings; `amp.status`. -/
def Obligations.AmpMessages : Prop :=
  ∀ (rq : Request) (s : State),
    let p := rq.payload
    let c := byteAt p 0
    let a := getAmp s c
    let x := getSense s c
    (served ampCfgOp rq s = true →
      let mode := byteAt p 1
      let retry := fieldLE p 4 4
      let cyc := fieldLE p 8 2
      let hard := fieldLE p 10 2
      let b : Amp := { a with mode := mode, phase := fieldLE p 2 2, retryMs := retry, cycleLim := cyc, hardLim := hard }
      let within := retry = 0 ∨ (50 ≤ retry ∧ retry ≤ 10000)
      let limits := x.ifs ≠ 0 ∧ 10 * x.ifs ≤ 1000 * cyc ∧ 1000 * cyc ≤ 90 * x.ifs ∧ 20 * x.ifs ≤ 1000 * hard ∧ 1000 * hard ≤ 98 * x.ifs
      let done := fun (t : State) => exec (.ampCfg rq) s = .next (answered rq 0x0901 (bytesLE 4 retry) (recorded false 0x0901 (p.take 1) rq t))
      (s.member.channels ≤ c → exec (.ampCfg rq) s = .next (refusedWith rq 0x0901 codeBadArg 0 s))
      ∧ (c < s.member.channels → mode ≠ 0 → x.vfs = 0 ∨ x.ifs = 0 →
          exec (.ampCfg rq) s = .next (respond rq 0x0901 (refuse codeBadArg 2 1 s) s))
      ∧ (c < s.member.channels → mode ≤ 2 → within → limits → x.vfs ≠ 0 → 10 * hard ≤ 11 * cyc →
          exec (.ampCfg rq) s = .next (respond rq 0x0901 (refuse codeBadArg 1 10 s) s))
      ∧ (c < s.member.channels → within → limits → x.vfs ≠ 0 → 11 * cyc < 10 * hard →
        (mode = 0 → a.st = .off ∨ a.st = .latched ∨ a.st = .holding ∨ a.st = .running →
            done (setAmp c { b with syncLock := false, check := false } s))
        ∧ (mode = 0 → a.st = .waiting → done (setAmp c { b with syncLock := false, st := .off, retryDue := false, expired := false } s))
        ∧ (mode = 0 → a.st = .starting → done (setAmp c { b with syncLock := false, st := .off, check := false } s))
        ∧ (mode = 0 → a.st = .startHold → done (setAmp c { b with syncLock := false, st := .stopHold, check := false } s))
        ∧ (mode = 1 → a.st = .off → pinsDriven s = false → s.sys.ao.power = .run → s.sys.fatal.halted = false →
            done (setAmp c (if a.heat then { b with syncLock := false, st := .waiting }
              else { b with syncLock := false, st := .starting, fade := 0, check := false, retryDue := false, expired := false }) s))
        ∧ (mode = 1 → a.st ≠ .off → done (setAmp c { b with syncLock := false } s))))
    ∧ (served ampClearOp rq s = true → ∀ k, fieldLE p 0 4 = 2 ^ k → k < 32 →
        let b : Amp := { getAmp s k with retries := 0 }
        (s.member.channels ≤ k → exec (.ampClear rq) s = .next (refusedWith rq 0x0902 codeBadArg 0 s))
        ∧ (k < s.member.channels → exec (.ampClear rq) s = .next (answered rq 0x0902 [] (setAmp k
            (if (b.st = .latched ∨ b.st = .waiting) ∧ b.mode ≠ 0 then
              (if b.heat then { b with st := .waiting, retryDue := true, expired := true }
               else { b with st := .starting, fade := 0, check := true, retryDue := false, expired := false })
             else b) s))))
    ∧ (served ampPilotCfgOp rq s = true → c < s.member.channels → byteAt p 1 ≤ 1 → 10 ≤ fieldLE p 2 2 → fieldLE p 2 2 ≤ 40000 →
        -15360 ≤ fieldS p 4 2 → fieldS p 4 2 ≤ -7680 → 100 ≤ fieldLE p 6 2 → fieldLE p 6 2 ≤ 10000 →
        exec (.ampPilotCfg rq) s = .next (answered rq 0x0904
          (bytesLE 1 c ++ bytesLE 1 (byteAt p 1) ++ bytesLE 2 (fieldLE p 2 2) ++ bytesS 2 (fieldS p 4 2) ++ bytesLE 2 (fieldLE p 6 2) ++ slice p 8 10)
          (recorded false 0x0904 (p.take 1) rq (setAmp c { a with
            pilotOn := byteAt p 1 == 1, pilotHz := fieldLE p 2 2, pilotLvl := fieldS p 4 2, pilotMs := fieldLE p 6 2
            openLim := fieldLE p 8 4, shortLim := fieldLE p 12 4, drift := fieldLE p 16 2, pilotPhase := 0, refMeas := []
            inOpen := false, inShort := false, inDrift := false } s))))
    ∧ (served ampStatusOp rq s = true → c < s.member.channels → ∀ code,
        (a.st, code) ∈ [(AmpState.off, 0), (.starting, 0), (.startHold, 0), (.holding, 0), (.stopHold, 0), (.fadingIn, 1), (.running, 1),
          (.fadingOut, 1), (.waiting, 2), (.latched, 3)] →
        exec (.ampStatus rq) s = .next (answered rq 0x0905 (bytesLE 1 code ++ bytesLE 1 a.retries ++ [0, 0] ++ bytesLE 4 a.zmag ++ bytesS 2 a.zph
          ++ bytesS 2 (if (getBoost s (c / 4)).beta = 0 then -32768 else (getBoost s (c / 4)).temp)) s))
    ∧ (served ampStatusOp rq s = true → s.member.channels ≤ c → exec (.ampStatus rq) s = .next (refusedWith rq 0x0905 codeBadArg 0 s))

/-- Boost controllers and guards (R472 to R477): `amp.boost.cfg` sets a group, a look-ahead that its slew needs being taken, one beyond 4 ms refused, and a changed delay waiting for the fade; `amp.guard.cfg`; out of regulation, overcurrent, its restart and the floor reached after a shutdown, each once an episode. -/
def Obligations.BoostControllers : Prop :=
  ∀ (rq : Request) (ctl : Nat) (s : State),
    let p := rq.payload
    let g := byteAt p 0
    let b := getBoost s g
    (served ampBoostCfgOp rq s = true →
      let look := fieldLE p 2 2
      let slew := fieldLE p 6 2
      let low := fieldLE p 8 2
      let top := fieldLE p 10 2
      let need := if top = 0 ∨ low = top then 0 else (top - low + slew - 1) / slew
      let b' : Boost := { b with lookUs := look, margin := fieldLE p 4 2, slew := slew, floor := low, ceiling := top }
      (s.member.boosts ≤ g → exec (.ampBoostCfg rq) s = .next (refusedWith rq 0x0903 codeBadArg 0 s))
      ∧ (g < s.member.boosts → top < low → low ≤ 65000 → exec (.ampBoostCfg rq) s = .next (refusedWith rq 0x0903 codeBadArg 8 s))
      ∧ (g < s.member.boosts → low ≤ top → top ≤ 65000 → 1 ≤ slew → slew ≤ 1000 → 4000 < need →
          exec (.ampBoostCfg rq) s = .next (respond rq 0x0903 (refuse codeBadArg 1 2 s) s))
      ∧ (g < s.member.boosts → low ≤ top → top ≤ 65000 → 1 ≤ slew → slew ≤ 1000 → 500 ≤ look → look ≤ 4000 → need ≤ look → fieldLE p 4 2 ≤ 10000 →
        (b.delay (rateHz s.time.rate) = b'.delay (rateHz s.time.rate) → exec (.ampBoostCfg rq) s =
          .next (answered rq 0x0903 (bytesLE 2 look) (recorded false 0x0903 (p.take 1) rq (setBoost g b' s))))
        ∧ (b.delay (rateHz s.time.rate) ≠ b'.delay (rateHz s.time.rate) → ∃ t, exec (.ampBoostCfg rq) s =
            .next (answered rq 0x0903 (bytesLE 2 look) (recorded false 0x0903 (p.take 1) rq t))
            ∧ t = { s with outs.boosts := mapSet s.outs.boosts g b', outs.amps := t.outs.amps }
            ∧ ∀ j, j < 4 → getAmp t (4 * g + j) = { getAmp s (4 * g + j) with resizing := true })))
    ∧ (served ampGuardCfgOp rq s = true → g < s.member.boosts → 100 ≤ fieldLE p 2 2 → fieldLE p 2 2 ≤ 20000 → 20 ≤ fieldLE p 4 2 →
        fieldLE p 4 2 ≤ 1000 → exec (.ampGuardCfg rq) s = .next (answered rq 0x090C
          (p.take 1 ++ [0] ++ bytesLE 2 (fieldLE p 2 2) ++ bytesLE 2 (fieldLE p 4 2) ++ slice p 6 14)
          (recorded false 0x090C (p.take 1) rq (setBoost g { b with
            dcMv := fieldLE p 2 2, dcMs := fieldLE p 4 2, beta := fieldLE p 6 2, r25 := fieldLE p 8 4, rpu := fieldLE p 12 4
            shutT := fieldS p 16 2, hystT := fieldLE p 18 2 } s))))
    ∧ (ctl < s.member.boosts → outletWorks s (6 + ctl / 4) = true →
        let r := getBoost s ctl
        let report := fun (cause : Nat) (t : State) => outletEvent (6 + ctl / 4) 9 0x0982 0xFFFF (bytesLE 1 ctl ++ bytesLE 1 cause) t
        (r.ceiling ≠ 0 → r.outOfReg = false → exec (.boostOutOfReg ctl) s =
          .next (report 0 (count (0x5400 + 4 * ctl) (setBoost ctl { r with outOfReg := true } s))))
        ∧ (r.outOfReg = true ∨ r.ceiling = 0 → exec (.boostOutOfReg ctl) s = .next s)
        ∧ (r.ceiling ≠ 0 → r.ocStop = false → exec (.boostOvercurrent ctl) s =
            .next (report 2 (count (0x5400 + 4 * ctl + 1) (setBoost ctl { r with ocStop := true } s))))
        ∧ (r.ocStop = true ∨ r.ceiling = 0 → exec (.boostOvercurrent ctl) s = .next s)
        ∧ (exec (.boostOcRestart ctl) s = .next (setBoost ctl { r with ocStop := false } s))
        ∧ (r.ceiling ≠ 0 → r.floor ≠ r.ceiling → r.floorDue = true → (∀ j, j < 4 → (getAmp s (4 * ctl + j)).st.switching = false) →
            exec (.boostAtFloor ctl) s = .next (report 1 (setBoost ctl { r with floorDue := false } s)))
        ∧ (r.floorDue = false ∨ (∃ j, j < 4 ∧ (getAmp s (4 * ctl + j)).st.switching = true) → exec (.boostAtFloor ctl) s = .next s))

/-- References and guards of the power stage (R461, R462, R472, R479 to R481): `amp.sync.cfg`; an external reference lost lets the mode-2 channels run free, one that returns in range is tried by each; the DC window turns a channel off; the pilot tone's interval is discarded where a sample was not good, and otherwise gives the impedance, its limits and the first eight as the reference of the drift. -/
def Obligations.GuardsAndReferences : Prop :=
  ∀ (die ch : Nat) (s : State),
    let fits := fun (a : Amp) (hz : Nat) => a.mode == 2 && a.st.switching && decide (600 * a.idle ≤ hz) && decide (hz ≤ 1050 * a.idle) && hz != 0
    let o := getOutlet s die
    (∀ rq, served ampSyncCfgOp rq s = true → byteAt rq.payload 0 = die → 300000 ≤ fieldLE rq.payload 4 4 → fieldLE rq.payload 4 4 ≤ 500000 →
      let hz := fieldLE rq.payload 4 4
      (s.member.outletDies.contains die = false → exec (.ampSyncCfg rq) s = .next (refusedWith rq 0x090D codeBadArg 0 s))
      ∧ (s.member.outletDies.contains die = true → byteAt rq.payload 1 = 0 → ∃ t, exec (.ampSyncCfg rq) s = .next (answered rq 0x090D
          (bytesLE 4 hz ++ bytesLE 2 (maskOf ((List.range 16).filter fun n => fits (getAmp s ((die - 6) * 16 + n)) hz)))
          (recorded false 0x090D (rq.payload.take 1) rq t))
          ∧ getOutlet t die = { o with syncExt := false, syncHz := hz, refLost := false }
          ∧ (∀ n, n < 16 → getAmp t ((die - 6) * 16 + n) = { getAmp s ((die - 6) * 16 + n) with
              syncLock := fits (getAmp s ((die - 6) * 16 + n)) hz })
          ∧ t = { s with outs.outlets := t.outs.outlets, outs.amps := t.outs.amps, hw.counters := t.hw.counters }))
    ∧ (outletWorks s die = true → o.syncExt = true → ∃ t, exec (.syncRefLost die) s = .next t
        ∧ t = { s with outs.outlets := mapSet s.outs.outlets die { o with refLost := true, refHz := 0 }, outs.amps := t.outs.amps }
        ∧ ∀ n, n < 16 → getAmp t ((die - 6) * 16 + n) = { getAmp s ((die - 6) * 16 + n) with syncLock := false })
    ∧ (outletWorks s die = true → o.syncExt = true → ∀ hz, 300000 ≤ hz → hz ≤ 500000 → ∃ t, exec (.syncRefReturn die hz) s = .next t
        ∧ getOutlet t die = { o with refLost := false, refHz := hz }
        ∧ ∀ n, n < 16 →
          let a := getAmp s ((die - 6) * 16 + n)
          getAmp t ((die - 6) * 16 + n) = { a with syncLock := fits a hz }
          ∧ (a.mode = 2 → a.st.switching = true → fits a hz = false →
              counter t (0x5200 + 8 * ((die - 6) * 16 + n) + 7) = counter s (0x5200 + 8 * ((die - 6) * 16 + n) + 7) + 1))
    ∧ (o.syncExt = false ∨ outletWorks s die = false → exec (.syncRefLost die) s = .next s ∧ ∀ hz, exec (.syncRefReturn die hz) s = .next s)
    ∧ (ch < s.member.channels → outletWorks s (6 + ch / 16) = true →
        let a := getAmp s ch
        let x := getSense s ch
        let beyond := a.st.switching = true ∧ a.dcN ≠ 0 ∧ a.dcTotal ≤ 2 * a.dcN
          ∧ (getBoost s (ch / 4)).dcMv * 2 ^ 23 * a.dcN < a.dcSum.natAbs * x.vfs
        let b : Amp := { a with dcSum := 0, dcN := 0, dcTotal := 0 }
        (¬ beyond → exec (.dcWindowEnd ch) s = .next (setAmp ch b s))
        ∧ (beyond → exec (.dcWindowEnd ch) s = .next (outletEvent (6 + ch / 16) 8 0x0980 ch
            (bytesLE 1 ch ++ [3] ++ bytesLE 1 a.retries ++ [1])
            (count (0x5200 + 8 * ch + 5) (setAmp ch { b with
              st := .latched, fade := 0, check := false, syncLock := false, clip := false, line := [], recent := false, cause := 3 }
              (setBoost (ch / 4) { getBoost s (ch / 4) with floorDue := true } s)))))
        ∧ (∀ vre vim ire iim, a.pilotOn = true → a.st.switching = true →
          (a.pilotBad = true → exec (.pilotIntervalEnd ch vre vim ire iim) s =
            .next (count (0x5300 + 4 * ch + 1) (setAmp ch { a with pilotBad := false } s)))
          ∧ (a.pilotBad = false → ∀ z ph, pilotZ x.vfs x.ifs vre vim ire iim = (z, ph) → a.refMeas.length < 8 →
            let t := count (0x5300 + 4 * ch) (setAmp ch { a with
              zmag := z, zph := ph, refMeas := (if z = 0xFFFFFFFF then a.refMeas else a.refMeas ++ [z])
              inOpen := decide (a.openLim < z), inShort := decide (z < a.shortLim), inDrift := false } s)
            let entry := fun (limit : Nat) => outletEvent (6 + ch / 16) 11 0x0981 ch (bytesLE 1 ch ++ bytesLE 1 limit ++ [0, 0] ++ bytesLE 4 z)
              { count (0x5300 + 4 * ch + 2) t with msg.ncp.lastSent := mapSet s.msg.ncp.lastSent (0x72000 + ch) s.now }
            (z ≤ a.openLim ∨ a.inOpen = true → a.shortLim ≤ z ∨ a.inShort = true →
              exec (.pilotIntervalEnd ch vre vim ire iim) s = .next t)
            ∧ (a.openLim < z → a.inOpen = false → a.shortLim ≤ z → mapFind s.msg.ncp.lastSent (0x72000 + ch) = none →
              exec (.pilotIntervalEnd ch vre vim ire iim) s = .next (entry 0))
            ∧ (z ≤ a.openLim → z < a.shortLim → a.inShort = false → mapFind s.msg.ncp.lastSent (0x72000 + ch) = none →
              exec (.pilotIntervalEnd ch vre vim ire iim) s = .next (entry 1)))))
    ∧ (∀ vre vim ire iim, (getAmp s ch).pilotOn = false ∨ (getAmp s ch).st.switching = false →
        exec (.pilotIntervalEnd ch vre vim ire iim) s = .next s)

/-- The lockstep cluster and the restart after a fatal error (R522 to R527): the core that differs is fenced and counted, with none left to vote or all three differing the error is fatal with cause 1; the fenced core rejoins with `red.lockstep`, the third fence in 24 hours leaves the pair for good; a restart that is due starts the part again from the rails, keeping DRAM and the standby's state. -/
def Obligations.LockstepAndRestart : Prop :=
  ∀ (core : Nat) (s : State),
    let l := s.sys.lockstep
    let day := 86400 * 156250000
    let within := fun (e : Nat × Nat) => decide (s.now < e.2 + day)
    (nerrisUp s = true → l.fenced = none → exec (.lockstepDisagree core false) s = .next { count 0x6800 s with
        sys.lockstep.fenced := some core, sys.lockstep.fences := (core, s.now) :: l.fences.filter within })
    ∧ (nerrisUp s = true → ∀ all, all = true ∨ l.fenced ≠ none →
        exec (.lockstepDisagree core all) s = .next (fatal 1 (activeShore s) (count 0x6800 s)))
    ∧ (nerrisUp s = false → ∀ all, exec (.lockstepDisagree core all) s = .next s)
    ∧ (nerrisUp s = true → l.duplex = false → ∀ f, l.fenced = some f →
        let n := (l.fences.filter fun e => e.1 == f && within e).length
        (n < 3 → exec .lockstepResync s =
          .next (event 2 (activeShore s) 0x0D82 0xFFFF (bytesLE 1 f ++ [0]) (count 0x6801 { s with sys.lockstep.fenced := none })))
        ∧ (3 ≤ n → exec .lockstepResync s =
          .next (event 2 (activeShore s) 0x0D82 0xFFFF (bytesLE 1 f ++ [1]) { s with sys.lockstep.duplex := true })))
    ∧ (l.fenced = none → exec .lockstepResync s = .next s)
    ∧ (s.sys.fatal.restartDue = false → exec .fatalRestart s = .next s)
    ∧ (s.sys.fatal.restartDue = true → s.sys.fatal.dumping = none → s.sys.spring.blowing = none → s.sys.slotWrite = none →
        ∃ t, exec .fatalRestart s = .next t
          ∧ t.sys.boot = { step := .rails, cause := .fatal, wakeReport := none, ready := false, safe := thirdRestart s }
          ∧ t.sys.ao.rstScope = 3 ∧ t.sys.ao.power = .run ∧ t.sys.fatal.restartDue = false ∧ t.sys.fatal.announce = s.sys.fatal.announce
          ∧ t.sys.fatal.restarts = s.now :: s.sys.fatal.restarts.filter (fun m => decide (s.now < m + 600 * 156250000))
          ∧ t.sys.lockstep.duplex = l.duplex ∧ t.sys.lockstep.fences = l.fences ∧ t.sys.lockstep.fenced = none
          ∧ t.sys.red.active = s.sys.red.active ∧ t.sys.red.hubUp = true ∧ t.hw.fuses = s.hw.fuses ∧ t.hw.flash = s.hw.flash
          ∧ t.hw.regs = [] ∧ t.hw.counters = [] ∧ t.cores = [] ∧ t.rend = Rend.reset ∧ t.chain = Chain.reset ∧ t.route = Routing.reset
          ∧ t.msg = Msg.reset ∧ t.time = Timeline.reset
          ∧ ∀ c, c ∈ t.hw.mem → keptCell (activeShore s) c.1 = true)

/-- The vote on a hub failure (R532 to R534, R551): heartbeats reach the wardens, a warden past its window suspects and votes, three votes declare the failure where the standby is ready; a declaration isolates the failed Shore, powers the standby and holds the Outlets; the copy of the dump ends or times out; with no takeover within its second the part stops. -/
def Obligations.HubFailure : Prop :=
  ∀ (die : Nat) (s : State),
    let w := getWarden s die
    (s.member = .evr8 → nerrisUp s = true → ∃ t, exec .heartbeatSend s = .next t
        ∧ t = { s with wire := t.wire, sys.red.wardens := t.sys.red.wardens }
        ∧ (isTarn die = true → powered s die = true → linkUpBetween s (activeShore s) die = true →
            (getWarden t die).lastHb = s.now ∧ (getWarden t die).hbAge = 0 ∧ (getWarden t die).suspect = false)
        ∧ (powered s die = false → getWarden t die = w))
    ∧ (s.member ≠ .evr8 ∨ nerrisUp s = false → exec .heartbeatSend s = .next s)
    ∧ (wardenWorks s die = true → s.sys.red.proving = none → inGap s = false → ∀ age,
        (age ≤ 100 * wardenWindow s die → exec (.wardenSuspect die age) s = .next s)
        ∧ (100 * wardenWindow s die < age →
          let v : Warden := { w with hbAge := min 65535 age, suspect := true, votes := w.votes ||| BitVec.ofNat 4 (2 ^ (die - 2)) }
          let t := emitAll ((s.member.tarnDies.filter fun d => d != die && linkUpBetween s die d).map fun d => .vote die d true) (setWarden die v s)
          (votesHeld v < 3 ∨ mayDeclare s = false → exec (.wardenSuspect die age) s = .next t)
          ∧ (3 ≤ votesHeld v → mayDeclare s = true → exec (.wardenSuspect die age) s = .next (declareHub false t))))
    ∧ (wardenWorks s die = true → s.sys.red.proving = none → ∀ src, src ≠ die → isTarn src = true →
        let v : Warden := { w with votes := w.votes ||| BitVec.ofNat 4 (2 ^ (src - 2)) }
        let t := setWarden die v s
        (votesHeld v < 3 ∨ mayDeclare s = false → exec (.wardenVoteRx die src true) s = .next t)
        ∧ (3 ≤ votesHeld v → mayDeclare s = true → exec (.wardenVoteRx die src true) s = .next (declareHub false t))
        ∧ (votesHeld { w with votes := w.votes &&& ~~~(BitVec.ofNat 4 (2 ^ (src - 2))) } < 3 → exec (.wardenVoteRx die src false) s =
            .next (setWarden die { w with votes := w.votes &&& ~~~(BitVec.ofNat 4 (2 ^ (src - 2))) } s)))
    ∧ (wardenWorks s die = false → exec (.wardenVoteRx die 2 true) s = .next s ∧ exec (.wardenSuspect die 0xFFFF) s = .next s)
    ∧ (wardenWorks s die = true → s.sys.red.hubUp = false → mayDeclare s = true → ∀ x, s.sys.red.declared = some (x, 1) →
        exec (.fatalDeclarationRx die) s = .next (declareHub true (emitAll
          ((s.member.tarnDies.filter fun d => d != die && linkUpBetween s die d).map fun d => .declaration die d) s)))
    ∧ (s.sys.red.declared = none → exec (.fatalDeclarationRx die) s = .next s)
    ∧ (∀ self,
        let t := declareHub self s
        t.sys.red.hubUp = false ∧ t.sys.red.standbyState = 2 ∧ t.sys.red.declared = some (activeShore s, flag self)
        ∧ t.sys.red.declaredAt = s.now ∧ t.time.rendering = false ∧ t.sys.fatal.dumping = none
        ∧ t.sys.ao.enables &&& groupBit (standbyDie s) = groupBit (standbyDie s)
        ∧ (self = true → t.sys.red.dumpHold = true)
        ∧ (∀ d, d ∈ s.member.outletDies → (getOutlet t d).hub = true))
    ∧ (inGap s = true → ∃ t, exec .takeoverTimeout s = .next t ∧ t.sys.fatal.halted = true ∧ t.sys.red.standbyState = 3
        ∧ t.sys.ao.enables &&& groupBit (standbyDie s) = 0)
    ∧ (inGap s = false → exec .takeoverTimeout s = .next s)
    ∧ (∀ copied, (s.sys.red.dumpHold = false → exec (.dumpHoldEnd copied) s = .next s)
        ∧ (s.sys.red.dumpHold = true → ∃ t, exec (.dumpHoldEnd copied) s = .next t ∧ t.sys.red.dumpHold = false
            ∧ t.sys.ao.enables &&& groupBit (heldShore s) = 0 ∧ t.sys.red.active = s.sys.red.active))

/-- The red group and the standby's check (R164, R531, R543 to R545): `red.status`, the window of `red.cfg`, a check asked for by `red.readmit` or `red.prove`, begun by powering the standby, and its result, which is counted and reported, and with `red.prove` answered or followed by the timeline's proof. -/
def Obligations.StandbyChecks : Prop :=
  ∀ (rq : Request) (s : State),
    let r := s.sys.red
    (served redStatusOp rq s = true → exec (.redStatus rq) s = .next (answered rq 0x0D00 (bytesLE 1 r.active
        ++ bytesLE 1 (if s.member = .evr8 then r.standbyState else 0) ++ bytesLE 1 (flag (s.sys.lockstep.duplex || s.sys.lockstep.fenced.isSome))
        ++ [0] ++ bytesLE 4 (counter s 0x6800) ++ bytesLE 4 (counter s 0x6803) ++ [0, 0, 0, 0] ++ bytesLE 8 r.lastJournal) s))
    ∧ (served redCfgOp rq s = true →
        (s.member ≠ .evr8 → exec (.redCfg rq) s = .next (refusedWith rq 0x0D01 codeBadArg noField s))
        ∧ (s.member = .evr8 → 1 ≤ byteAt rq.payload 0 → byteAt rq.payload 0 ≤ 50 → ∃ t, exec (.redCfg rq) s =
            .next (answered rq 0x0D01 (bytesLE 1 (byteAt rq.payload 0)) (recorded false 0x0D01 [] rq t))
            ∧ t = { s with sys.red.window := byteAt rq.payload 0, hw.regs := t.hw.regs }
            ∧ ∀ d, isTarn d = true → wardenWindow t d = byteAt rq.payload 0))
    ∧ (served redProveOp rq s = true →
        (s.member ≠ .evr8 → exec (.redProve rq) s = .next (refusedWith rq 0x0D02 codeBadArg noField s))
        ∧ (s.member = .evr8 → (byteAt rq.payload 0) % 2 = 0 → exec (.redProve rq) s = .next (refusedWith rq 0x0D02 codeBadArg 0 s))
        ∧ (s.member = .evr8 → (byteAt rq.payload 0) % 2 = 1 →
          (r.check.isSome = true → exec (.redProve rq) s = .next (refusedWith rq 0x0D02 codeBusy noField s))
          ∧ (r.check = none → r.standbyState = 1 → exec (.redProve rq) s = .next { s with sys.red.check := some (.prove rq) })
          ∧ (r.check = none → r.standbyState ≠ 1 → exec (.redProve rq) s = .next (refusedWith rq 0x0D02 codeBadArg noField s))))
    ∧ (served redReadmitOp rq s = true → s.member = .evr8 →
        (r.check = none → exec (.redReadmit rq) s = .next (answered rq 0x0D03 [] { s with sys.red.check := some .readmit }))
        ∧ (r.check.isSome = true → exec (.redReadmit rq) s = .next (refusedWith rq 0x0D03 codeBusy noField s)))
    ∧ (s.member = .evr8 → nerrisUp s = true → partReady s = true → r.check.isSome = true → r.standbyState ≠ 4 → exec .standbyCheck s =
        .next { s with sys.red.standbyState := 4, sys.ao.enables := s.sys.ao.enables ||| groupBit (standbyDie s)
                       sys.ao.target := s.sys.ao.target ||| groupBit (standbyDie s) })
    ∧ (r.check = none → exec .standbyCheck s = .next s ∧ ∀ code, exec (.standbyCheckEnd code) s = .next s)
    ∧ (nerrisUp s = true → r.standbyState = 4 → ∀ code, code ≤ 6 →
        let after := fun (t : State) => t.sys.red.standbyState = (if code = 0 ∨ code = 6 then 1 else 3) ∧ t.sys.red.standbyCause = code
          ∧ t.sys.red.check = none ∧ counter t 0x6806 = counter s 0x6806 + flag (code != 0) ∧ t.sys.ao.enables &&& groupBit (standbyDie s) = 0
        (r.check = some .startup ∨ r.check = some .readmit → ∃ t, exec (.standbyCheckEnd code) s = .next t ∧ after t)
        ∧ (∀ q, r.check = some (.prove q) →
          (code ≠ 0 → ∃ t, exec (.standbyCheckEnd code) s = .next (answered q 0x0D02 ([1] ++ bytesLE 1 code) t) ∧ after t)
          ∧ (code = 0 → ∃ t, exec (.standbyCheckEnd code) s = .next t ∧ t.sys.red.proving = some q ∧ t.sys.red.check = none
              ∧ t.time.rendering = false ∧ t.sys.red.standbyState = 4
              ∧ (∀ d, isTarn d = true → s.member.has d = true → powered s d = true → (getTile t d).holdMute = true)
              ∧ (∀ d, d ∈ s.member.outletDies → (getOutlet t d).hub = true))))
    ∧ (∀ q, r.proving = some q → ∀ code, code = 0 ∨ code = 7 ∨ code = 8 → ∃ t,
        exec (.proveTimelineEnd code) s = .next (answered q 0x0D02 (bytesLE 1 (flag (code != 0)) ++ bytesLE 1 code) t)
        ∧ t.sys.red.proving = none ∧ t.sys.red.standbyState = (if code = 0 then 1 else 3) ∧ t.sys.red.standbyCause = code
        ∧ (timelineRuns s = true → t.time.rendering = true ∧ t.time.index = (getTile s 2).index)
        ∧ (∀ d, d ∈ s.member.outletDies → (getOutlet t d).hub = false))
    ∧ (r.proving = none → ∀ code, exec (.proveTimelineEnd code) s = .next s)

/-- The journal and the takeover (R536 to R542): a batch takes the next sequence number and goes to each mirror that has room for it; a standby that can take over, with a slot to boot and a protection set-up that agrees, becomes the active Shore, with the settings of the journal it reads, and carries the timeline on at the Tarns' index; else nothing happens. -/
def Obligations.JournalAndTakeover : Prop :=
  ∀ (s : State),
    (nerrisUp s = true → partReady s = true → s.member = .evr8 → ∃ t, exec .journalBatch s = .next t
        ∧ t.sys.red.journalSeq = s.sys.red.journalSeq + 1 ∧ t.sys.red.dirty = [] ∧ t.sys.red.lastJournal = s.time.index
        ∧ t.journal = some (snapshot s) ∧ counter t 0x6804 = counter s 0x6804 + 1
        ∧ t = { s with sys.red := t.sys.red, journal := t.journal, hw.counters := t.hw.counters, hw.mem := t.hw.mem }
        ∧ ∀ d, d = 2 ∨ d = 4 → powered s d = true → reaches s (activeShore s) d = true → 0 < (getMirror s d).pos →
          let n := (batchRecord { s with sys.red.journalSeq := s.sys.red.journalSeq + 1 }).length
          (getMirror s d).pos + n ≤ 0x80000 → getMirror t d = { half := (getMirror s d).half, pos := (getMirror s d).pos + n })
    ∧ (nerrisUp s = false ∨ partReady s = false ∨ s.member ≠ .evr8 → exec .journalBatch s = .next s)
    ∧ (s.sys.red.declared = none ∨ canTakeOver s = false ∨ takeoverSlot s = none → exec .standbyTakeover s = .next s)
    ∧ (∀ old cause slot fallback, s.sys.red.declared = some (old, cause) → canTakeOver s = true → takeoverSlot s = some (slot, fallback) →
        (protectAgrees slot s = false → exec .standbyTakeover s = .next s)
        ∧ (protectAgrees slot s = true → ∀ x, journalRead s = some x → ∃ t, exec .standbyTakeover s = .next t
            ∧ t.sys.red.active = standbyDie s ∧ t.sys.red.hubUp = true ∧ t.sys.red.standbyState = 3 ∧ t.sys.red.standbyCause = 9
            ∧ t.sys.red.declared = none ∧ t.sys.red.check = none ∧ t.sys.red.proving = none ∧ t.sys.red.window = x.window
            ∧ t.sys.spring.stage = 5 ∧ t.sys.spring.slot = some slot ∧ t.sys.boot.step = .ready ∧ t.sys.boot.cause = .failover
            ∧ (timelineRuns s = true → t.time.rendering = true ∧ t.time.index = (getTile s 2).index ∧ t.time.mclk.delta = x.mclk.delta
                ∧ t.time.ptp.incr = x.ptp.incr ∧ t.time.ptp.running = true)
            ∧ (∀ d, d ∈ s.member.outletDies → (getOutlet t d).hub = false)))

/-- An access through die field 0xE while no Shore is active completes at once with a bus error and changes nothing else (R41): a write of any master but the posted ones of PCIe, a read, and a core's far load and store, which trap where TB is set. -/
def Obligations.AccessInGap : Prop :=
  ∀ (m : Master) (n addr size : Nat) (a v : Word) (s : State), s.sys.red.hubUp = false →
    (addr / 2 ^ 36 = 0xE → size = 1 ∨ size = 2 ∨ size = 4 → m ≠ .pcie → powered s (masterDie s m) = true →
      mapHas s.hw.opens (masterKey m) = false → exec (.registerWrite m addr size v) s =
        .next { s with bus := { error := true, status := 4, data := [0] } })
    ∧ (addr / 2 ^ 36 = 0xE → busRead m addr size s = { s with bus := { error := true, status := 4, data := [0] } })
    ∧ (a.toNat % 4 = 0 → a.toNat / 2 ^ 24 = 0x80 → (getCore s n).far.toNat / 2 ^ 12 = 0xE → mapHas s.hw.opens (masterKey (.ripple n)) = false →
        ((getCore s n).ctrl.getLsbD 4 = false → ∃ extra, loadWord n a s = (.done 0 extra true false, s)
          ∧ storeWord n a v s = (.done 0 extra true false, s))
        ∧ ((getCore s n).ctrl.getLsbD 4 = true → loadWord n a s = (.trap 3 true, s) ∧ storeWord n a v s = (.trap 3 true, s)))

/-- The state right after VDD_AO has risen (R45, R203, R207, R208, R297, R298, R554, R566): every enable low, the cold start waiting for its hold, registers, memories, queues and messages empty, Fr of code 1, no timeline, and every core never loaded; memory is in its canonical form, and what CoreInvariant says of a core holds. The values of R45, R203, R207, R208 and R298 are the spec's; others, such as an empty flash and the member, are the model's choice (log entries 6 and 7). -/
def Obligations.ResetState : Prop :=
  let s := State.reset
  s.pending = [] ∧ s.sys.ao.enables = 0 ∧ s.sys.ao.coldWaiting = true ∧ s.sys.ao.power = .run ∧ s.hw.mem = [] ∧ Memory.wf s.hw.mem = true ∧ s.hw.regs = []
  ∧ s.hw.counters = [] ∧ s.msg.commit = none ∧ s.msg.ncp.records = [] ∧ s.time.rendering = false ∧ s.time.index = 0 ∧ s.time.rate = 1
  ∧ s.rend.objs = [] ∧ s.rend.geo.period = 32 ∧ s.rend.geo.c = 3430 ∧ s.rend.geo.airA = 108 ∧ s.route.routes = [] ∧ s.sys.red.active = 0
  ∧ s.time.ptp.incr = 0x666666666 ∧ nerrisUp s = false
  ∧ ∀ n, (getCore s n).st = .unloaded ∧ (getCore s n).pc = 0 ∧ (getCore s n).ipc = 0 ∧ (getCore s n).far = 0xF000 ∧ (getCore s n).stack = [] ∧ (getCore s n).d = []
      ∧ (getCore s n).acc = [] ∧ (getCore s n).flags = 0 ∧ (getCore s n).sticky = 0

/-- Words of instructions (R308 to R312): each word below decodes to the instruction beside it; among them are R312's own examples. A word with a reserved bit set, an unassigned operation or a field out of range is none. -/
def Obligations.RippleWords : Prop :=
  rippleDecode 3 0x00000000#32 = some (.nop 3) ∧ rippleDecode 3 0x0100003F#32 = some (.repImm 3 63#16)
  ∧ rippleDecode 3 0x2433FF00#32 = some (.andi 3 3 3 0xFF00#16) ∧ rippleDecode 3 0x30770000#32 = some (.ld 3 1 6 (.modifier 7))
  ∧ rippleDecode 3 0x40088200#32 = some (.mac 3 0 0 8 (some (0, 0)) (some (0, 0))) ∧ rippleDecode 3 0x5202001E#32 = some (.ext 3 0 2 30)
  ∧ rippleDecode 3 0x0300000C#32 = some (.br 3 0 12#14) ∧ rippleDecode 3 0x12312000#32 = some (.adds 3 3 1 2)
  ∧ rippleDecode 3 0x3D0002AA#32 = none ∧ rippleDecode 3 0x3D00FE00#32 = some (.st 3 4 0 (.imm 0xFE#8))
  ∧ rippleDecode 3 0x64500900#32 = some (.movcFrom 3 5 9) ∧ rippleDecode 3 0x61701700#32 = some (.movxTo 3 23 7)
  ∧ rippleDecode 3 0x7C808000#32 = some (.ldih 3 9 0x8000#16) ∧ rippleDecode 3 0x53250002#32 = some (.mova 3 2 5 2)
  ∧ rippleDecode 3 0xFFFFFFFF#32 = none ∧ rippleDecode 3 0x01000000#32 = none ∧ rippleDecode 3 0x03F00000#32 = none
  ∧ rippleDecode 3 0x00000001#32 = none ∧ rippleDecode 3 0x5202003F#32 = none ∧ rippleDecode 3 0x64500B00#32 = none ∧ rippleDecode 3 0x0E000000#32 = none

/-- The encoder and the decoder of R307 to R312 agree both ways: a Ripple instruction that has a word decodes from it, with every operand, and a word that decodes is the one that the instruction encodes to. -/
def Obligations.RippleDecodeEncode : Prop :=
  (∀ (i : Instr) (w : Word), rippleEncode i = some w → rippleDecode (rippleCore i) w = some i)
  ∧ (∀ (core : Nat) (w : Word) (i : Instr), rippleDecode core w = some i → rippleEncode i = some w ∧ rippleCore i = core)

/-- What the model keeps true of every core, by every Ripple instruction that makes no access: the word index and each return entry are below 16,384, the return stack holds at most 8 (R298, R319, R328), and so is the saved index. -/
def Obligations.CoreInvariant : Prop :=
  ∀ (i : Instr) (s t : State),
    let good := fun (c : Core) => c.pc < 16384 ∧ c.stack.length ≤ 8 ∧ (∀ w, w ∈ c.stack → w < 16384) ∧ c.ipc < 16384
    rippleEncode i ≠ none →
    (∀ n dd an md, i ≠ .ld n dd an md ∧ i ≠ .st n dd an md) →
    (∀ n a x y p0 p1, i ≠ .mac n a x y p0 p1 ∧ i ≠ .msu n a x y p0 p1 ∧ i ≠ .mpy n a x y p0 p1 ∧ i ≠ .macu n a x y p0 p1) →
    exec i s = .next t → (∀ n, good (getCore s n)) → ∀ n, good (getCore t n)

/-- The memory keeps its canonical form, entries in rising order of addresses and none equal to what an unlisted address reads as, through the commands that write it in bulk: Basin writes, the loading of a program, the blocks of the rings, the journal, the state dump and its copy, and the test of a region. -/
def Obligations.MemoryCanonical : Prop :=
  ∀ (c : Instr) (rq : Request) (n bank region : Nat) (b : Bool) (s t : State),
    c ∈ [Instr.memBasinWrite rq, .rplLoad rq, .ringCaptureBlock n, .journalBatch, .dumpWritten b, .dumpHoldEnd b, .pondTestRegion n bank region b] →
    exec c s = .next t → Memory.wf s.hw.mem = true → Memory.wf t.hw.mem = true
end

