-- ==== Sys2Proof/Laws/Map.lean ====
section
/-! SUPPORT. Laws of finite maps: reading after writing and erasing, and the rising order of keys. -/

namespace Sys2Proof.Machine

variable {α : Type}

@[simp] theorem mapFind_mapSet_same (m : AMap α) (k : Nat) (a : α) : mapFind (mapSet m k a) k = some a := by
  induction m with
  | nil => simp [mapSet, mapFind]
  | cons e rest ih =>
    obtain ⟨j, b⟩ := e
    simp only [mapSet]
    split
    · simp [mapFind]
    · split
      · simp [mapFind]
      · rename_i h1 h2
        have : ¬ j = k := fun h => h2 h.symm
        simp [mapFind, this, ih]

theorem mapFind_mapSet_other (m : AMap α) (k j : Nat) (a : α) (h : j ≠ k) : mapFind (mapSet m k a) j = mapFind m j := by
  have hk : ¬ k = j := fun e => h e.symm
  induction m with
  | nil => simp [mapSet, mapFind, hk]
  | cons e rest ih =>
    obtain ⟨i, b⟩ := e
    simp only [mapSet]
    split
    · simp [mapFind, hk]
    · split
      · rename_i h1 h2
        subst h2
        simp [mapFind, hk]
      · simp only [mapFind, ih]

@[simp] theorem mapGet_mapSet_same (d : Nat → α) (m : AMap α) (k : Nat) (a : α) : mapGet d (mapSet m k a) k = a := by
  simp [mapGet]

theorem mapGet_mapSet_other (d : Nat → α) (m : AMap α) (k j : Nat) (a : α) (h : j ≠ k) :
    mapGet d (mapSet m k a) j = mapGet d m j := by
  simp [mapGet, mapFind_mapSet_other m k j a h]

theorem mapSet_mapSet_same (m : AMap α) (k : Nat) (a b : α) : mapSet (mapSet m k a) k b = mapSet m k b := by
  induction m with
  | nil => simp [mapSet]
  | cons e rest ih =>
    obtain ⟨j, c⟩ := e
    by_cases h1 : k < j
    · simp [mapSet, h1]
    · by_cases h2 : k = j
      · simp [mapSet, h2]
      · simp [mapSet, h1, h2, ih]

@[simp] theorem mapFind_mapErase_same (m : AMap α) (k : Nat) : mapFind (mapErase m k) k = none := by
  induction m with
  | nil => simp [mapErase, mapFind]
  | cons e rest ih =>
    obtain ⟨j, b⟩ := e
    by_cases h : j = k
    · simp [mapErase, h, ih]
    · simp [mapErase, mapFind, h, ih]

theorem mapFind_mapErase_other (m : AMap α) (k j : Nat) (h : j ≠ k) : mapFind (mapErase m k) j = mapFind m j := by
  induction m with
  | nil => simp [mapErase, mapFind]
  | cons e rest ih =>
    obtain ⟨i, b⟩ := e
    by_cases hi : i = k
    · subst hi
      have : ¬ i = j := fun e => h e.symm
      simp [mapErase, mapFind, this, ih]
    · simp [mapErase, mapFind, hi, ih]

@[simp] theorem mapGet_mapErase_same (d : Nat → α) (m : AMap α) (k : Nat) : mapGet d (mapErase m k) k = d k := by
  simp [mapGet]

theorem mapGet_mapErase_other (d : Nat → α) (m : AMap α) (k j : Nat) (h : j ≠ k) :
    mapGet d (mapErase m k) j = mapGet d m j := by
  simp [mapGet, mapFind_mapErase_other m k j h]

/-- Keys strictly rising. -/
def keysRise (m : AMap α) : Prop := m.Pairwise fun x y => x.1 < y.1

theorem mapSet_keys_gt (m : AMap α) (k j : Nat) (a : α) (hj : j < k) (h : ∀ e ∈ m, j < e.1) :
    ∀ e ∈ mapSet m k a, j < e.1 := by
  induction m with
  | nil => simp [mapSet, hj]
  | cons e rest ih =>
    obtain ⟨i, b⟩ := e
    have hr : ∀ e ∈ rest, j < e.1 := fun e he => h e (List.mem_cons_of_mem _ he)
    have hi : j < i := h (i, b) List.mem_cons_self
    simp only [mapSet]
    split
    · intro e he
      simp only [List.mem_cons] at he
      rcases he with rfl | rfl | he
      · exact hj
      · exact hi
      · exact hr e he
    · split
      · intro e he
        simp only [List.mem_cons] at he
        rcases he with rfl | he
        · exact hj
        · exact hr e he
      · intro e he
        simp only [List.mem_cons] at he
        rcases he with rfl | he
        · exact hi
        · exact ih hr e he

/-- Writing keeps the keys rising. -/
theorem keysRise_mapSet (m : AMap α) (k : Nat) (a : α) (h : keysRise m) : keysRise (mapSet m k a) := by
  unfold keysRise at *
  induction m with
  | nil => simp [mapSet]
  | cons e rest ih =>
    obtain ⟨i, b⟩ := e
    have ⟨h1, h2⟩ := List.pairwise_cons.mp h
    simp only [mapSet]
    split
    · rename_i hk
      refine List.pairwise_cons.mpr ⟨?_, h⟩
      intro e he
      simp only [List.mem_cons] at he
      rcases he with rfl | he
      · exact hk
      · exact Nat.lt_trans hk (h1 e he)
    · split
      · rename_i h3 h4
        subst h4
        exact List.pairwise_cons.mpr ⟨h1, h2⟩
      · rename_i h3 h4
        exact List.pairwise_cons.mpr ⟨mapSet_keys_gt rest k i a (by omega) h1, ih h2⟩

theorem mem_mapErase (m : AMap α) (k : Nat) (e : Nat × α) (h : e ∈ mapErase m k) : e ∈ m := by
  induction m with
  | nil => simp [mapErase] at h
  | cons f rest ih =>
    obtain ⟨j, b⟩ := f
    simp only [mapErase] at h
    split at h
    · exact List.mem_cons_of_mem _ (ih h)
    · simp only [List.mem_cons] at h
      rcases h with rfl | h
      · exact List.mem_cons_self
      · exact List.mem_cons_of_mem _ (ih h)

/-- Erasing keeps the keys rising. -/
theorem keysRise_mapErase (m : AMap α) (k : Nat) (h : keysRise m) : keysRise (mapErase m k) := by
  unfold keysRise at *
  induction m with
  | nil => simp [mapErase]
  | cons e rest ih =>
    obtain ⟨i, b⟩ := e
    have ⟨h1, h2⟩ := List.pairwise_cons.mp h
    simp only [mapErase]
    split
    · exact ih h2
    · exact List.pairwise_cons.mpr ⟨fun e he => h1 e (mem_mapErase rest k e he), ih h2⟩

theorem mem_mapSet (m : AMap α) (k : Nat) (a : α) (e : Nat × α) (h : e ∈ mapSet m k a) : e = (k, a) ∨ e ∈ m := by
  induction m with
  | nil => simpa [mapSet] using h
  | cons f rest ih =>
    obtain ⟨j, b⟩ := f
    simp only [mapSet] at h
    split at h
    · simpa using h
    · split at h
      · simp only [List.mem_cons] at h ⊢
        tauto
      · simp only [List.mem_cons] at h ⊢
        rcases h with rfl | h
        · simp
        · rcases ih h with h | h <;> simp [h]

end Sys2Proof.Machine
end

