-- ==== Sys2Proof/Laws/Memory.lean ====
section
/-! SUPPORT. Laws of memory: reading after writing, every operation keeps the canonical form, and the memory of reset has it. -/

namespace Sys2Proof.Machine

/-- The canonical form, said of every entry and every pair. -/
theorem memory_wf_iff (m : List Host.Cell) :
    Memory.wf m = true ↔ (m.Pairwise fun x y => x.1 < y.1) ∧ ∀ e ∈ m, e.2 ≠ memDefault e.1 := by
  induction m with
  | nil => simp [Memory.wf]
  | cons c rest ih =>
    cases rest with
    | nil => simp [Memory.wf]
    | cons d tail =>
      simp only [Memory.wf, Bool.and_eq_true, bne_iff_ne, decide_eq_true_eq, ih, List.pairwise_cons, List.mem_cons,
        forall_eq_or_imp]
      constructor
      · rintro ⟨⟨h1, h2⟩, ⟨h3, h4⟩, h5, h6⟩
        exact ⟨⟨⟨h2, fun e he => Nat.lt_trans h2 (h3 e he)⟩, h3, h4⟩, h1, h5, h6⟩
      · rintro ⟨⟨⟨h2, _⟩, h3, h4⟩, h1, h5, h6⟩
        exact ⟨⟨h1, h2⟩, ⟨h3, h4⟩, h5, h6⟩

/-- A byte read after one written: the byte, and every other as before. -/
theorem memByte_memPut (m : List Host.Cell) (a b : Nat) (v : Byte) :
    memByte (memPut m a v) b = if b = a then v else memByte m b := by
  unfold memPut memByte
  by_cases h : b = a
  · subst h
    by_cases hv : v = memDefault b
    · subst hv; simp
    · simp [hv]
  · by_cases hv : v = memDefault a
    · simp [hv, h, mapGet_mapErase_other _ _ _ _ h]
    · simp [hv, h, mapGet_mapSet_other _ _ _ _ _ h]

/-- A write keeps the canonical form. -/
theorem memory_wf_memPut (m : List Host.Cell) (a : Nat) (v : Byte) (h : Memory.wf m = true) : Memory.wf (memPut m a v) = true := by
  rw [memory_wf_iff] at *
  unfold memPut
  split
  · exact ⟨keysRise_mapErase m a h.1, fun e he => h.2 e (mem_mapErase m a e he)⟩
  · rename_i hv
    refine ⟨keysRise_mapSet m a v h.1, fun e he => ?_⟩
    rcases mem_mapSet m a v e he with rfl | he
    · exact hv
    · exact h.2 e he

/-- Bytes written keep the canonical form. -/
theorem memory_wf_memPuts (m : List Host.Cell) (a : Nat) (bs : List Byte) (h : Memory.wf m = true) :
    Memory.wf (memPuts m a bs) = true := by
  induction bs generalizing m a with
  | nil => simpa [memPuts] using h
  | cons b bs ih => exact ih _ _ (memory_wf_memPut m a b h)

/-- A range cleared keeps the canonical form. -/
theorem memory_wf_memClear (m : List Host.Cell) (lo hi : Nat) (h : Memory.wf m = true) : Memory.wf (memClear m lo hi) = true := by
  rw [memory_wf_iff] at *
  exact ⟨h.1.filter _, fun e he => h.2 e (List.mem_filter.mp he).1⟩

/-- Bytes outside those written read as before. -/
theorem memByte_memPuts_outside (m : List Host.Cell) (a b : Nat) (bs : List Byte) (h : b < a ∨ a + bs.length ≤ b) :
    memByte (memPuts m a bs) b = memByte m b := by
  induction bs generalizing m a with
  | nil => rfl
  | cons c bs ih =>
    simp only [List.length_cons] at h
    simp only [memPuts]
    rw [ih _ _ (by omega), memByte_memPut, if_neg (by omega)]

/-- A byte inside those written reads as written. -/
theorem memByte_memPuts_inside (m : List Host.Cell) (a k : Nat) (bs : List Byte) (h : k < bs.length) :
    memByte (memPuts m a bs) (a + k) = bs[k] := by
  induction bs generalizing m a k with
  | nil => simp at h
  | cons c bs ih =>
    simp only [memPuts]
    cases k with
    | zero => rw [Nat.add_zero, memByte_memPuts_outside _ _ _ _ (by omega), memByte_memPut]; simp
    | succ k =>
      have := ih (memPut m a c) (a + 1) k (by simpa using h)
      rw [show a + (k + 1) = a + 1 + k by omega, this]
      simp

theorem memory_wf_reset : Memory.wf State.reset.hw.mem = true := by decide

theorem mem_writeBytes (a : Nat) (bs : List Byte) (s : State) : (writeBytes a bs s).hw.mem = memPuts s.hw.mem a bs := rfl
theorem mem_writeWord (a : Nat) (v : Word) (s : State) : (writeWord a v s).hw.mem = memPuts s.hw.mem a (bytesLE 4 v.toNat) := rfl
theorem mem_clearMem (lo hi : Nat) (s : State) : (clearMem lo hi s).hw.mem = memClear s.hw.mem lo hi := rfl

/-- Every memory operation of a state keeps the canonical form. -/
theorem memory_wf_writeBytes (a : Nat) (bs : List Byte) (s : State) (h : Memory.wf s.hw.mem = true) :
    Memory.wf (writeBytes a bs s).hw.mem = true := memory_wf_memPuts _ _ _ h
theorem memory_wf_writeWord (a : Nat) (v : Word) (s : State) (h : Memory.wf s.hw.mem = true) :
    Memory.wf (writeWord a v s).hw.mem = true := memory_wf_memPuts _ _ _ h
theorem memory_wf_clearMem (lo hi : Nat) (s : State) (h : Memory.wf s.hw.mem = true) :
    Memory.wf (clearMem lo hi s).hw.mem = true := memory_wf_memClear _ _ _ h
theorem memory_wf_zeroBank (die bank : Nat) (s : State) (h : Memory.wf s.hw.mem = true) :
    Memory.wf (zeroBank die bank s).hw.mem = true := memory_wf_memClear _ _ _ h
theorem memory_wf_zeroPonds (die : Nat) (s : State) (h : Memory.wf s.hw.mem = true) :
    Memory.wf (zeroPonds die s).hw.mem = true := memory_wf_memClear _ _ _ h
theorem memory_wf_clearCode (core : Nat) (s : State) (h : Memory.wf s.hw.mem = true) :
    Memory.wf (clearCode core s).hw.mem = true := memory_wf_memClear _ _ _ h

end Sys2Proof.Machine
end

