-- ==== Sys2Proof/Laws/Nerris.lean ====
section
/-! SUPPORT. What serving a request comes to, said once: a request that the checks before it let through is answered by its message's own body, and a setting goes on record. -/

namespace Sys2Proof.Machine

theorem served_iff (op : NcpOp) (rq : Request) (s : State) : served op rq s = true ↔ nerrisUp s = true ∧ gate op rq s = none := by
  simp [served]

/-- A request served: its body's reply is sent, unless it comes later. -/
theorem serve_of_served (op : NcpOp) (rq : Request) (s : State) (h : served op rq s = true) :
    serve op rq s =
      (if (performOp op 1 rq s).deferred then (performOp op 1 rq s).state
        else respond rq op.opcode (performOp op 1 rq s) (performOp op 1 rq s).state) := by
  obtain ⟨h1, h2⟩ := (served_iff op rq s).mp h
  simp [serve, h1, h2]

theorem respond_state (rq : Request) (op : Nat) (r : Reply) (u t : State) :
    respond rq op { r with state := u } t = respond rq op r t := rfl

/-- A message that sets nothing, done at once. -/
theorem serve_answered (op : NcpOp) (rq : Request) (s t : State) (body : List Byte) (h : served op rq s = true)
    (hk : op.key rq = none) (hb : op.body rq s = replyOk body t) : serve op rq s = answered rq op.opcode body t := by
  rw [serve_of_served op rq s h]
  simp [performOp, hk, hb, replyOk, answered]

/-- A setting done at once. -/
theorem serve_recorded (op : NcpOp) (rq : Request) (s t : State) (body key : List Byte) (h : served op rq s = true)
    (hk : op.key rq = some key) (hb : op.body rq s = replyOk body t) :
    serve op rq s = answered rq op.opcode body (recorded (op.staged rq) op.opcode key rq t) := by
  rw [serve_of_served op rq s h]
  simp [performOp, hk, hb, replyOk, answered, recorded]

/-- A request whose response comes later. -/
theorem serve_later (op : NcpOp) (rq : Request) (s t : State) (h : served op rq s = true)
    (hb : op.body rq s = replyLater t) : serve op rq s = t := by
  rw [serve_of_served op rq s h]
  cases hk : op.key rq <;> simp [performOp, hk, hb, replyLater]

/-- A request refused by its own rules. -/
theorem serve_refused (op : NcpOp) (rq : Request) (s t : State) (code reason field : Nat) (h : served op rq s = true)
    (hc : code ≠ codeOk) (hc2 : code ≠ codeClamped) (hb : op.body rq s = refuse code reason field t) :
    serve op rq s = respond rq op.opcode (refuse code reason field t) t := by
  rw [serve_of_served op rq s h]
  cases hk : op.key rq <;> simp [performOp, hk, hb, refuse, hc, hc2]

/-- A request that a check before the message's own rules refuses. -/
theorem serve_gated (op : NcpOp) (rq : Request) (s : State) (r : Reply) (h : nerrisUp s = true) (hg : gate op rq s = some r) :
    serve op rq s = respond rq op.opcode r s := by
  simp [serve, h, hg]

/-- Nothing is served while Nerris is not running. -/
theorem serve_down (op : NcpOp) (rq : Request) (s : State) (h : nerrisUp s = false) : serve op rq s = s := by
  simp [serve, h]

end Sys2Proof.Machine
end

