-- ==== Sys2Proof/Laws/State.lean ====
section
/-! SUPPORT. What each named update of the state leaves as it was, field by field, and what reading after it gives. -/

namespace Sys2Proof.Machine

variable (s : State)

/-! ### setCore -/

@[simp] theorem setCore_member (n : Nat) (c : Core) : (setCore n c s).member = s.member := rfl
@[simp] theorem setCore_now (n : Nat) (c : Core) : (setCore n c s).now = s.now := rfl
@[simp] theorem setCore_free (n : Nat) (c : Core) : (setCore n c s).free = s.free := rfl
@[simp] theorem setCore_hw (n : Nat) (c : Core) : (setCore n c s).hw = s.hw := rfl
@[simp] theorem setCore_sys (n : Nat) (c : Core) : (setCore n c s).sys = s.sys := rfl
@[simp] theorem setCore_msg (n : Nat) (c : Core) : (setCore n c s).msg = s.msg := rfl
@[simp] theorem setCore_time (n : Nat) (c : Core) : (setCore n c s).time = s.time := rfl
@[simp] theorem setCore_rend (n : Nat) (c : Core) : (setCore n c s).rend = s.rend := rfl
@[simp] theorem setCore_chain (n : Nat) (c : Core) : (setCore n c s).chain = s.chain := rfl
@[simp] theorem setCore_route (n : Nat) (c : Core) : (setCore n c s).route = s.route := rfl
@[simp] theorem setCore_net (n : Nat) (c : Core) : (setCore n c s).net = s.net := rfl
@[simp] theorem setCore_outs (n : Nat) (c : Core) : (setCore n c s).outs = s.outs := rfl
@[simp] theorem setCore_journal (n : Nat) (c : Core) : (setCore n c s).journal = s.journal := rfl
@[simp] theorem setCore_pending (n : Nat) (c : Core) : (setCore n c s).pending = s.pending := rfl
@[simp] theorem setCore_wire (n : Nat) (c : Core) : (setCore n c s).wire = s.wire := rfl
@[simp] theorem setCore_bus (n : Nat) (c : Core) : (setCore n c s).bus = s.bus := rfl
@[simp] theorem getCore_setCore_same (n : Nat) (c : Core) : getCore (setCore n c s) n = c := by simp [getCore, setCore]
theorem getCore_setCore_other (n : Nat) (c : Core) (j : Nat) (h : j ≠ n) : getCore (setCore n c s) j = getCore s j := by
  simp [getCore, setCore, mapGet_mapSet_other _ _ _ _ _ h]

/-! ### setLink -/

@[simp] theorem setLink_member (n : Nat) (l : Link) : (setLink s n l).member = s.member := rfl
@[simp] theorem setLink_now (n : Nat) (l : Link) : (setLink s n l).now = s.now := rfl
@[simp] theorem setLink_free (n : Nat) (l : Link) : (setLink s n l).free = s.free := rfl
@[simp] theorem setLink_sys (n : Nat) (l : Link) : (setLink s n l).sys = s.sys := rfl
@[simp] theorem setLink_msg (n : Nat) (l : Link) : (setLink s n l).msg = s.msg := rfl
@[simp] theorem setLink_time (n : Nat) (l : Link) : (setLink s n l).time = s.time := rfl
@[simp] theorem setLink_rend (n : Nat) (l : Link) : (setLink s n l).rend = s.rend := rfl
@[simp] theorem setLink_chain (n : Nat) (l : Link) : (setLink s n l).chain = s.chain := rfl
@[simp] theorem setLink_cores (n : Nat) (l : Link) : (setLink s n l).cores = s.cores := rfl
@[simp] theorem setLink_route (n : Nat) (l : Link) : (setLink s n l).route = s.route := rfl
@[simp] theorem setLink_net (n : Nat) (l : Link) : (setLink s n l).net = s.net := rfl
@[simp] theorem setLink_outs (n : Nat) (l : Link) : (setLink s n l).outs = s.outs := rfl
@[simp] theorem setLink_journal (n : Nat) (l : Link) : (setLink s n l).journal = s.journal := rfl
@[simp] theorem setLink_pending (n : Nat) (l : Link) : (setLink s n l).pending = s.pending := rfl
@[simp] theorem setLink_wire (n : Nat) (l : Link) : (setLink s n l).wire = s.wire := rfl
@[simp] theorem setLink_bus (n : Nat) (l : Link) : (setLink s n l).bus = s.bus := rfl
@[simp] theorem setLink_hw_fuses (n : Nat) (l : Link) : (setLink s n l).hw.fuses = s.hw.fuses := rfl
@[simp] theorem setLink_hw_flash (n : Nat) (l : Link) : (setLink s n l).hw.flash = s.hw.flash := rfl
@[simp] theorem setLink_hw_mem (n : Nat) (l : Link) : (setLink s n l).hw.mem = s.hw.mem := rfl
@[simp] theorem setLink_hw_regs (n : Nat) (l : Link) : (setLink s n l).hw.regs = s.hw.regs := rfl
@[simp] theorem setLink_hw_counters (n : Nat) (l : Link) : (setLink s n l).hw.counters = s.hw.counters := rfl
@[simp] theorem setLink_hw_ponds (n : Nat) (l : Link) : (setLink s n l).hw.ponds = s.hw.ponds := rfl
@[simp] theorem setLink_hw_dram (n : Nat) (l : Link) : (setLink s n l).hw.dram = s.hw.dram := rfl
@[simp] theorem setLink_hw_bmxErr (n : Nat) (l : Link) : (setLink s n l).hw.bmxErr = s.hw.bmxErr := rfl
@[simp] theorem setLink_hw_opens (n : Nat) (l : Link) : (setLink s n l).hw.opens = s.hw.opens := rfl

/-! ### setCounter -/

@[simp] theorem setCounter_member (id v : Nat) : (setCounter id v s).member = s.member := rfl
@[simp] theorem setCounter_now (id v : Nat) : (setCounter id v s).now = s.now := rfl
@[simp] theorem setCounter_free (id v : Nat) : (setCounter id v s).free = s.free := rfl
@[simp] theorem setCounter_sys (id v : Nat) : (setCounter id v s).sys = s.sys := rfl
@[simp] theorem setCounter_msg (id v : Nat) : (setCounter id v s).msg = s.msg := rfl
@[simp] theorem setCounter_time (id v : Nat) : (setCounter id v s).time = s.time := rfl
@[simp] theorem setCounter_rend (id v : Nat) : (setCounter id v s).rend = s.rend := rfl
@[simp] theorem setCounter_chain (id v : Nat) : (setCounter id v s).chain = s.chain := rfl
@[simp] theorem setCounter_cores (id v : Nat) : (setCounter id v s).cores = s.cores := rfl
@[simp] theorem setCounter_route (id v : Nat) : (setCounter id v s).route = s.route := rfl
@[simp] theorem setCounter_net (id v : Nat) : (setCounter id v s).net = s.net := rfl
@[simp] theorem setCounter_outs (id v : Nat) : (setCounter id v s).outs = s.outs := rfl
@[simp] theorem setCounter_journal (id v : Nat) : (setCounter id v s).journal = s.journal := rfl
@[simp] theorem setCounter_pending (id v : Nat) : (setCounter id v s).pending = s.pending := rfl
@[simp] theorem setCounter_wire (id v : Nat) : (setCounter id v s).wire = s.wire := rfl
@[simp] theorem setCounter_bus (id v : Nat) : (setCounter id v s).bus = s.bus := rfl
@[simp] theorem setCounter_hw_fuses (id v : Nat) : (setCounter id v s).hw.fuses = s.hw.fuses := rfl
@[simp] theorem setCounter_hw_flash (id v : Nat) : (setCounter id v s).hw.flash = s.hw.flash := rfl
@[simp] theorem setCounter_hw_mem (id v : Nat) : (setCounter id v s).hw.mem = s.hw.mem := rfl
@[simp] theorem setCounter_hw_regs (id v : Nat) : (setCounter id v s).hw.regs = s.hw.regs := rfl
@[simp] theorem setCounter_hw_links (id v : Nat) : (setCounter id v s).hw.links = s.hw.links := rfl
@[simp] theorem setCounter_hw_ponds (id v : Nat) : (setCounter id v s).hw.ponds = s.hw.ponds := rfl
@[simp] theorem setCounter_hw_dram (id v : Nat) : (setCounter id v s).hw.dram = s.hw.dram := rfl
@[simp] theorem setCounter_hw_bmxErr (id v : Nat) : (setCounter id v s).hw.bmxErr = s.hw.bmxErr := rfl
@[simp] theorem setCounter_hw_opens (id v : Nat) : (setCounter id v s).hw.opens = s.hw.opens := rfl
@[simp] theorem counter_setCounter_same (id v : Nat) : counter (setCounter id v s) id = v := by simp [counter, setCounter]
theorem counter_setCounter_other (id v : Nat) (j : Nat) (h : j ≠ id) : counter (setCounter id v s) j = counter s j := by
  simp [counter, setCounter, mapGet_mapSet_other _ _ _ _ _ h]

/-! ### regPut -/

@[simp] theorem regPut_member (a v : Nat) : (regPut a v s).member = s.member := rfl
@[simp] theorem regPut_now (a v : Nat) : (regPut a v s).now = s.now := rfl
@[simp] theorem regPut_free (a v : Nat) : (regPut a v s).free = s.free := rfl
@[simp] theorem regPut_sys (a v : Nat) : (regPut a v s).sys = s.sys := rfl
@[simp] theorem regPut_msg (a v : Nat) : (regPut a v s).msg = s.msg := rfl
@[simp] theorem regPut_time (a v : Nat) : (regPut a v s).time = s.time := rfl
@[simp] theorem regPut_rend (a v : Nat) : (regPut a v s).rend = s.rend := rfl
@[simp] theorem regPut_chain (a v : Nat) : (regPut a v s).chain = s.chain := rfl
@[simp] theorem regPut_cores (a v : Nat) : (regPut a v s).cores = s.cores := rfl
@[simp] theorem regPut_route (a v : Nat) : (regPut a v s).route = s.route := rfl
@[simp] theorem regPut_net (a v : Nat) : (regPut a v s).net = s.net := rfl
@[simp] theorem regPut_outs (a v : Nat) : (regPut a v s).outs = s.outs := rfl
@[simp] theorem regPut_journal (a v : Nat) : (regPut a v s).journal = s.journal := rfl
@[simp] theorem regPut_pending (a v : Nat) : (regPut a v s).pending = s.pending := rfl
@[simp] theorem regPut_wire (a v : Nat) : (regPut a v s).wire = s.wire := rfl
@[simp] theorem regPut_bus (a v : Nat) : (regPut a v s).bus = s.bus := rfl
@[simp] theorem regPut_hw_fuses (a v : Nat) : (regPut a v s).hw.fuses = s.hw.fuses := rfl
@[simp] theorem regPut_hw_flash (a v : Nat) : (regPut a v s).hw.flash = s.hw.flash := rfl
@[simp] theorem regPut_hw_mem (a v : Nat) : (regPut a v s).hw.mem = s.hw.mem := rfl
@[simp] theorem regPut_hw_counters (a v : Nat) : (regPut a v s).hw.counters = s.hw.counters := rfl
@[simp] theorem regPut_hw_links (a v : Nat) : (regPut a v s).hw.links = s.hw.links := rfl
@[simp] theorem regPut_hw_ponds (a v : Nat) : (regPut a v s).hw.ponds = s.hw.ponds := rfl
@[simp] theorem regPut_hw_dram (a v : Nat) : (regPut a v s).hw.dram = s.hw.dram := rfl
@[simp] theorem regPut_hw_bmxErr (a v : Nat) : (regPut a v s).hw.bmxErr = s.hw.bmxErr := rfl
@[simp] theorem regPut_hw_opens (a v : Nat) : (regPut a v s).hw.opens = s.hw.opens := rfl

/-! ### writeBytes -/

@[simp] theorem writeBytes_member (a : Nat) (bs : List Byte) : (writeBytes a bs s).member = s.member := rfl
@[simp] theorem writeBytes_now (a : Nat) (bs : List Byte) : (writeBytes a bs s).now = s.now := rfl
@[simp] theorem writeBytes_free (a : Nat) (bs : List Byte) : (writeBytes a bs s).free = s.free := rfl
@[simp] theorem writeBytes_sys (a : Nat) (bs : List Byte) : (writeBytes a bs s).sys = s.sys := rfl
@[simp] theorem writeBytes_msg (a : Nat) (bs : List Byte) : (writeBytes a bs s).msg = s.msg := rfl
@[simp] theorem writeBytes_time (a : Nat) (bs : List Byte) : (writeBytes a bs s).time = s.time := rfl
@[simp] theorem writeBytes_rend (a : Nat) (bs : List Byte) : (writeBytes a bs s).rend = s.rend := rfl
@[simp] theorem writeBytes_chain (a : Nat) (bs : List Byte) : (writeBytes a bs s).chain = s.chain := rfl
@[simp] theorem writeBytes_cores (a : Nat) (bs : List Byte) : (writeBytes a bs s).cores = s.cores := rfl
@[simp] theorem writeBytes_route (a : Nat) (bs : List Byte) : (writeBytes a bs s).route = s.route := rfl
@[simp] theorem writeBytes_net (a : Nat) (bs : List Byte) : (writeBytes a bs s).net = s.net := rfl
@[simp] theorem writeBytes_outs (a : Nat) (bs : List Byte) : (writeBytes a bs s).outs = s.outs := rfl
@[simp] theorem writeBytes_journal (a : Nat) (bs : List Byte) : (writeBytes a bs s).journal = s.journal := rfl
@[simp] theorem writeBytes_pending (a : Nat) (bs : List Byte) : (writeBytes a bs s).pending = s.pending := rfl
@[simp] theorem writeBytes_wire (a : Nat) (bs : List Byte) : (writeBytes a bs s).wire = s.wire := rfl
@[simp] theorem writeBytes_bus (a : Nat) (bs : List Byte) : (writeBytes a bs s).bus = s.bus := rfl
@[simp] theorem writeBytes_hw_fuses (a : Nat) (bs : List Byte) : (writeBytes a bs s).hw.fuses = s.hw.fuses := rfl
@[simp] theorem writeBytes_hw_flash (a : Nat) (bs : List Byte) : (writeBytes a bs s).hw.flash = s.hw.flash := rfl
@[simp] theorem writeBytes_hw_regs (a : Nat) (bs : List Byte) : (writeBytes a bs s).hw.regs = s.hw.regs := rfl
@[simp] theorem writeBytes_hw_counters (a : Nat) (bs : List Byte) : (writeBytes a bs s).hw.counters = s.hw.counters := rfl
@[simp] theorem writeBytes_hw_links (a : Nat) (bs : List Byte) : (writeBytes a bs s).hw.links = s.hw.links := rfl
@[simp] theorem writeBytes_hw_ponds (a : Nat) (bs : List Byte) : (writeBytes a bs s).hw.ponds = s.hw.ponds := rfl
@[simp] theorem writeBytes_hw_dram (a : Nat) (bs : List Byte) : (writeBytes a bs s).hw.dram = s.hw.dram := rfl
@[simp] theorem writeBytes_hw_bmxErr (a : Nat) (bs : List Byte) : (writeBytes a bs s).hw.bmxErr = s.hw.bmxErr := rfl
@[simp] theorem writeBytes_hw_opens (a : Nat) (bs : List Byte) : (writeBytes a bs s).hw.opens = s.hw.opens := rfl

/-! ### setBank -/

@[simp] theorem setBank_member (die bank : Nat) (b : PondBank) : (setBank die bank b s).member = s.member := rfl
@[simp] theorem setBank_now (die bank : Nat) (b : PondBank) : (setBank die bank b s).now = s.now := rfl
@[simp] theorem setBank_free (die bank : Nat) (b : PondBank) : (setBank die bank b s).free = s.free := rfl
@[simp] theorem setBank_sys (die bank : Nat) (b : PondBank) : (setBank die bank b s).sys = s.sys := rfl
@[simp] theorem setBank_msg (die bank : Nat) (b : PondBank) : (setBank die bank b s).msg = s.msg := rfl
@[simp] theorem setBank_time (die bank : Nat) (b : PondBank) : (setBank die bank b s).time = s.time := rfl
@[simp] theorem setBank_rend (die bank : Nat) (b : PondBank) : (setBank die bank b s).rend = s.rend := rfl
@[simp] theorem setBank_chain (die bank : Nat) (b : PondBank) : (setBank die bank b s).chain = s.chain := rfl
@[simp] theorem setBank_cores (die bank : Nat) (b : PondBank) : (setBank die bank b s).cores = s.cores := rfl
@[simp] theorem setBank_route (die bank : Nat) (b : PondBank) : (setBank die bank b s).route = s.route := rfl
@[simp] theorem setBank_net (die bank : Nat) (b : PondBank) : (setBank die bank b s).net = s.net := rfl
@[simp] theorem setBank_outs (die bank : Nat) (b : PondBank) : (setBank die bank b s).outs = s.outs := rfl
@[simp] theorem setBank_journal (die bank : Nat) (b : PondBank) : (setBank die bank b s).journal = s.journal := rfl
@[simp] theorem setBank_pending (die bank : Nat) (b : PondBank) : (setBank die bank b s).pending = s.pending := rfl
@[simp] theorem setBank_wire (die bank : Nat) (b : PondBank) : (setBank die bank b s).wire = s.wire := rfl
@[simp] theorem setBank_bus (die bank : Nat) (b : PondBank) : (setBank die bank b s).bus = s.bus := rfl
@[simp] theorem setBank_hw_fuses (die bank : Nat) (b : PondBank) : (setBank die bank b s).hw.fuses = s.hw.fuses := rfl
@[simp] theorem setBank_hw_flash (die bank : Nat) (b : PondBank) : (setBank die bank b s).hw.flash = s.hw.flash := rfl
@[simp] theorem setBank_hw_mem (die bank : Nat) (b : PondBank) : (setBank die bank b s).hw.mem = s.hw.mem := rfl
@[simp] theorem setBank_hw_regs (die bank : Nat) (b : PondBank) : (setBank die bank b s).hw.regs = s.hw.regs := rfl
@[simp] theorem setBank_hw_counters (die bank : Nat) (b : PondBank) : (setBank die bank b s).hw.counters = s.hw.counters := rfl
@[simp] theorem setBank_hw_links (die bank : Nat) (b : PondBank) : (setBank die bank b s).hw.links = s.hw.links := rfl
@[simp] theorem setBank_hw_dram (die bank : Nat) (b : PondBank) : (setBank die bank b s).hw.dram = s.hw.dram := rfl
@[simp] theorem setBank_hw_bmxErr (die bank : Nat) (b : PondBank) : (setBank die bank b s).hw.bmxErr = s.hw.bmxErr := rfl
@[simp] theorem setBank_hw_opens (die bank : Nat) (b : PondBank) : (setBank die bank b s).hw.opens = s.hw.opens := rfl

/-! ### emit -/

@[simp] theorem emit_member (e : Emission) : (emit e s).member = s.member := rfl
@[simp] theorem emit_now (e : Emission) : (emit e s).now = s.now := rfl
@[simp] theorem emit_free (e : Emission) : (emit e s).free = s.free := rfl
@[simp] theorem emit_hw (e : Emission) : (emit e s).hw = s.hw := rfl
@[simp] theorem emit_sys (e : Emission) : (emit e s).sys = s.sys := rfl
@[simp] theorem emit_msg (e : Emission) : (emit e s).msg = s.msg := rfl
@[simp] theorem emit_time (e : Emission) : (emit e s).time = s.time := rfl
@[simp] theorem emit_rend (e : Emission) : (emit e s).rend = s.rend := rfl
@[simp] theorem emit_chain (e : Emission) : (emit e s).chain = s.chain := rfl
@[simp] theorem emit_cores (e : Emission) : (emit e s).cores = s.cores := rfl
@[simp] theorem emit_route (e : Emission) : (emit e s).route = s.route := rfl
@[simp] theorem emit_net (e : Emission) : (emit e s).net = s.net := rfl
@[simp] theorem emit_outs (e : Emission) : (emit e s).outs = s.outs := rfl
@[simp] theorem emit_journal (e : Emission) : (emit e s).journal = s.journal := rfl
@[simp] theorem emit_pending (e : Emission) : (emit e s).pending = s.pending := rfl
@[simp] theorem emit_bus (e : Emission) : (emit e s).bus = s.bus := rfl

/-! ### emitAll -/

@[simp] theorem emitAll_member (es : List Emission) : (emitAll es s).member = s.member := rfl
@[simp] theorem emitAll_now (es : List Emission) : (emitAll es s).now = s.now := rfl
@[simp] theorem emitAll_free (es : List Emission) : (emitAll es s).free = s.free := rfl
@[simp] theorem emitAll_hw (es : List Emission) : (emitAll es s).hw = s.hw := rfl
@[simp] theorem emitAll_sys (es : List Emission) : (emitAll es s).sys = s.sys := rfl
@[simp] theorem emitAll_msg (es : List Emission) : (emitAll es s).msg = s.msg := rfl
@[simp] theorem emitAll_time (es : List Emission) : (emitAll es s).time = s.time := rfl
@[simp] theorem emitAll_rend (es : List Emission) : (emitAll es s).rend = s.rend := rfl
@[simp] theorem emitAll_chain (es : List Emission) : (emitAll es s).chain = s.chain := rfl
@[simp] theorem emitAll_cores (es : List Emission) : (emitAll es s).cores = s.cores := rfl
@[simp] theorem emitAll_route (es : List Emission) : (emitAll es s).route = s.route := rfl
@[simp] theorem emitAll_net (es : List Emission) : (emitAll es s).net = s.net := rfl
@[simp] theorem emitAll_outs (es : List Emission) : (emitAll es s).outs = s.outs := rfl
@[simp] theorem emitAll_journal (es : List Emission) : (emitAll es s).journal = s.journal := rfl
@[simp] theorem emitAll_pending (es : List Emission) : (emitAll es s).pending = s.pending := rfl
@[simp] theorem emitAll_bus (es : List Emission) : (emitAll es s).bus = s.bus := rfl

/-! ### setDest -/

@[simp] theorem setDest_member (k : Nat) (d : Dest) : (setDest k d s).member = s.member := rfl
@[simp] theorem setDest_now (k : Nat) (d : Dest) : (setDest k d s).now = s.now := rfl
@[simp] theorem setDest_free (k : Nat) (d : Dest) : (setDest k d s).free = s.free := rfl
@[simp] theorem setDest_hw (k : Nat) (d : Dest) : (setDest k d s).hw = s.hw := rfl
@[simp] theorem setDest_sys (k : Nat) (d : Dest) : (setDest k d s).sys = s.sys := rfl
@[simp] theorem setDest_time (k : Nat) (d : Dest) : (setDest k d s).time = s.time := rfl
@[simp] theorem setDest_rend (k : Nat) (d : Dest) : (setDest k d s).rend = s.rend := rfl
@[simp] theorem setDest_chain (k : Nat) (d : Dest) : (setDest k d s).chain = s.chain := rfl
@[simp] theorem setDest_cores (k : Nat) (d : Dest) : (setDest k d s).cores = s.cores := rfl
@[simp] theorem setDest_route (k : Nat) (d : Dest) : (setDest k d s).route = s.route := rfl
@[simp] theorem setDest_net (k : Nat) (d : Dest) : (setDest k d s).net = s.net := rfl
@[simp] theorem setDest_outs (k : Nat) (d : Dest) : (setDest k d s).outs = s.outs := rfl
@[simp] theorem setDest_journal (k : Nat) (d : Dest) : (setDest k d s).journal = s.journal := rfl
@[simp] theorem setDest_pending (k : Nat) (d : Dest) : (setDest k d s).pending = s.pending := rfl
@[simp] theorem setDest_wire (k : Nat) (d : Dest) : (setDest k d s).wire = s.wire := rfl
@[simp] theorem setDest_bus (k : Nat) (d : Dest) : (setDest k d s).bus = s.bus := rfl
@[simp] theorem setDest_msg_mbx (k : Nat) (d : Dest) : (setDest k d s).msg.mbx = s.msg.mbx := rfl
@[simp] theorem setDest_msg_locks (k : Nat) (d : Dest) : (setDest k d s).msg.locks = s.msg.locks := rfl
@[simp] theorem setDest_msg_commit (k : Nat) (d : Dest) : (setDest k d s).msg.commit = s.msg.commit := rfl
@[simp] theorem setDest_msg_weir (k : Nat) (d : Dest) : (setDest k d s).msg.weir = s.msg.weir := rfl
@[simp] theorem getDest_setDest_same (k : Nat) (d : Dest) : getDest (setDest k d s) k = d := by simp [getDest, setDest]
theorem getDest_setDest_other (k : Nat) (d : Dest) (j : Nat) (h : j ≠ k) : getDest (setDest k d s) j = getDest s j := by
  simp [getDest, setDest, mapGet_mapSet_other _ _ _ _ _ h]

/-! ### setCommit -/

@[simp] theorem setCommit_member (c : Option Commit) : (setCommit c s).member = s.member := rfl
@[simp] theorem setCommit_now (c : Option Commit) : (setCommit c s).now = s.now := rfl
@[simp] theorem setCommit_free (c : Option Commit) : (setCommit c s).free = s.free := rfl
@[simp] theorem setCommit_hw (c : Option Commit) : (setCommit c s).hw = s.hw := rfl
@[simp] theorem setCommit_sys (c : Option Commit) : (setCommit c s).sys = s.sys := rfl
@[simp] theorem setCommit_time (c : Option Commit) : (setCommit c s).time = s.time := rfl
@[simp] theorem setCommit_rend (c : Option Commit) : (setCommit c s).rend = s.rend := rfl
@[simp] theorem setCommit_chain (c : Option Commit) : (setCommit c s).chain = s.chain := rfl
@[simp] theorem setCommit_cores (c : Option Commit) : (setCommit c s).cores = s.cores := rfl
@[simp] theorem setCommit_route (c : Option Commit) : (setCommit c s).route = s.route := rfl
@[simp] theorem setCommit_net (c : Option Commit) : (setCommit c s).net = s.net := rfl
@[simp] theorem setCommit_outs (c : Option Commit) : (setCommit c s).outs = s.outs := rfl
@[simp] theorem setCommit_journal (c : Option Commit) : (setCommit c s).journal = s.journal := rfl
@[simp] theorem setCommit_pending (c : Option Commit) : (setCommit c s).pending = s.pending := rfl
@[simp] theorem setCommit_wire (c : Option Commit) : (setCommit c s).wire = s.wire := rfl
@[simp] theorem setCommit_bus (c : Option Commit) : (setCommit c s).bus = s.bus := rfl
@[simp] theorem setCommit_msg_mbx (c : Option Commit) : (setCommit c s).msg.mbx = s.msg.mbx := rfl
@[simp] theorem setCommit_msg_locks (c : Option Commit) : (setCommit c s).msg.locks = s.msg.locks := rfl
@[simp] theorem setCommit_msg_ncp (c : Option Commit) : (setCommit c s).msg.ncp = s.msg.ncp := rfl
@[simp] theorem setCommit_msg_weir (c : Option Commit) : (setCommit c s).msg.weir = s.msg.weir := rfl

/-! ### setQueue -/

@[simp] theorem setQueue_member (q : Nat) (x : WeirQueue) : (setQueue q x s).member = s.member := rfl
@[simp] theorem setQueue_now (q : Nat) (x : WeirQueue) : (setQueue q x s).now = s.now := rfl
@[simp] theorem setQueue_free (q : Nat) (x : WeirQueue) : (setQueue q x s).free = s.free := rfl
@[simp] theorem setQueue_hw (q : Nat) (x : WeirQueue) : (setQueue q x s).hw = s.hw := rfl
@[simp] theorem setQueue_sys (q : Nat) (x : WeirQueue) : (setQueue q x s).sys = s.sys := rfl
@[simp] theorem setQueue_time (q : Nat) (x : WeirQueue) : (setQueue q x s).time = s.time := rfl
@[simp] theorem setQueue_rend (q : Nat) (x : WeirQueue) : (setQueue q x s).rend = s.rend := rfl
@[simp] theorem setQueue_chain (q : Nat) (x : WeirQueue) : (setQueue q x s).chain = s.chain := rfl
@[simp] theorem setQueue_cores (q : Nat) (x : WeirQueue) : (setQueue q x s).cores = s.cores := rfl
@[simp] theorem setQueue_route (q : Nat) (x : WeirQueue) : (setQueue q x s).route = s.route := rfl
@[simp] theorem setQueue_net (q : Nat) (x : WeirQueue) : (setQueue q x s).net = s.net := rfl
@[simp] theorem setQueue_outs (q : Nat) (x : WeirQueue) : (setQueue q x s).outs = s.outs := rfl
@[simp] theorem setQueue_journal (q : Nat) (x : WeirQueue) : (setQueue q x s).journal = s.journal := rfl
@[simp] theorem setQueue_pending (q : Nat) (x : WeirQueue) : (setQueue q x s).pending = s.pending := rfl
@[simp] theorem setQueue_wire (q : Nat) (x : WeirQueue) : (setQueue q x s).wire = s.wire := rfl
@[simp] theorem setQueue_bus (q : Nat) (x : WeirQueue) : (setQueue q x s).bus = s.bus := rfl
@[simp] theorem setQueue_msg_mbx (q : Nat) (x : WeirQueue) : (setQueue q x s).msg.mbx = s.msg.mbx := rfl
@[simp] theorem setQueue_msg_locks (q : Nat) (x : WeirQueue) : (setQueue q x s).msg.locks = s.msg.locks := rfl
@[simp] theorem setQueue_msg_ncp (q : Nat) (x : WeirQueue) : (setQueue q x s).msg.ncp = s.msg.ncp := rfl
@[simp] theorem setQueue_msg_commit (q : Nat) (x : WeirQueue) : (setQueue q x s).msg.commit = s.msg.commit := rfl
@[simp] theorem getQueue_setQueue_same (q : Nat) (x : WeirQueue) : getQueue (setQueue q x s) q = x := by simp [getQueue, setQueue]
theorem getQueue_setQueue_other (q : Nat) (x : WeirQueue) (j : Nat) (h : j ≠ q) : getQueue (setQueue q x s) j = getQueue s j := by
  simp [getQueue, setQueue, mapGet_mapSet_other _ _ _ _ _ h]

/-! ### setPtp -/

@[simp] theorem setPtp_member (p : Ptp) : (setPtp p s).member = s.member := rfl
@[simp] theorem setPtp_now (p : Ptp) : (setPtp p s).now = s.now := rfl
@[simp] theorem setPtp_free (p : Ptp) : (setPtp p s).free = s.free := rfl
@[simp] theorem setPtp_hw (p : Ptp) : (setPtp p s).hw = s.hw := rfl
@[simp] theorem setPtp_sys (p : Ptp) : (setPtp p s).sys = s.sys := rfl
@[simp] theorem setPtp_msg (p : Ptp) : (setPtp p s).msg = s.msg := rfl
@[simp] theorem setPtp_rend (p : Ptp) : (setPtp p s).rend = s.rend := rfl
@[simp] theorem setPtp_chain (p : Ptp) : (setPtp p s).chain = s.chain := rfl
@[simp] theorem setPtp_cores (p : Ptp) : (setPtp p s).cores = s.cores := rfl
@[simp] theorem setPtp_route (p : Ptp) : (setPtp p s).route = s.route := rfl
@[simp] theorem setPtp_net (p : Ptp) : (setPtp p s).net = s.net := rfl
@[simp] theorem setPtp_outs (p : Ptp) : (setPtp p s).outs = s.outs := rfl
@[simp] theorem setPtp_journal (p : Ptp) : (setPtp p s).journal = s.journal := rfl
@[simp] theorem setPtp_pending (p : Ptp) : (setPtp p s).pending = s.pending := rfl
@[simp] theorem setPtp_wire (p : Ptp) : (setPtp p s).wire = s.wire := rfl
@[simp] theorem setPtp_bus (p : Ptp) : (setPtp p s).bus = s.bus := rfl
@[simp] theorem setPtp_time_rendering (p : Ptp) : (setPtp p s).time.rendering = s.time.rendering := rfl
@[simp] theorem setPtp_time_index (p : Ptp) : (setPtp p s).time.index = s.time.index := rfl
@[simp] theorem setPtp_time_tickSec (p : Ptp) : (setPtp p s).time.tickSec = s.time.tickSec := rfl
@[simp] theorem setPtp_time_tickNs (p : Ptp) : (setPtp p s).time.tickNs = s.time.tickNs := rfl
@[simp] theorem setPtp_time_rate (p : Ptp) : (setPtp p s).time.rate = s.time.rate := rfl
@[simp] theorem setPtp_time_mclk512 (p : Ptp) : (setPtp p s).time.mclk512 = s.time.mclk512 := rfl
@[simp] theorem setPtp_time_mclk (p : Ptp) : (setPtp p s).time.mclk = s.time.mclk := rfl
@[simp] theorem setPtp_time_muted (p : Ptp) : (setPtp p s).time.muted = s.time.muted := rfl

/-! ### setMclk -/

@[simp] theorem setMclk_member (m : Mclk) : (setMclk m s).member = s.member := rfl
@[simp] theorem setMclk_now (m : Mclk) : (setMclk m s).now = s.now := rfl
@[simp] theorem setMclk_free (m : Mclk) : (setMclk m s).free = s.free := rfl
@[simp] theorem setMclk_hw (m : Mclk) : (setMclk m s).hw = s.hw := rfl
@[simp] theorem setMclk_sys (m : Mclk) : (setMclk m s).sys = s.sys := rfl
@[simp] theorem setMclk_msg (m : Mclk) : (setMclk m s).msg = s.msg := rfl
@[simp] theorem setMclk_rend (m : Mclk) : (setMclk m s).rend = s.rend := rfl
@[simp] theorem setMclk_chain (m : Mclk) : (setMclk m s).chain = s.chain := rfl
@[simp] theorem setMclk_cores (m : Mclk) : (setMclk m s).cores = s.cores := rfl
@[simp] theorem setMclk_route (m : Mclk) : (setMclk m s).route = s.route := rfl
@[simp] theorem setMclk_net (m : Mclk) : (setMclk m s).net = s.net := rfl
@[simp] theorem setMclk_outs (m : Mclk) : (setMclk m s).outs = s.outs := rfl
@[simp] theorem setMclk_journal (m : Mclk) : (setMclk m s).journal = s.journal := rfl
@[simp] theorem setMclk_pending (m : Mclk) : (setMclk m s).pending = s.pending := rfl
@[simp] theorem setMclk_wire (m : Mclk) : (setMclk m s).wire = s.wire := rfl
@[simp] theorem setMclk_bus (m : Mclk) : (setMclk m s).bus = s.bus := rfl
@[simp] theorem setMclk_time_rendering (m : Mclk) : (setMclk m s).time.rendering = s.time.rendering := rfl
@[simp] theorem setMclk_time_index (m : Mclk) : (setMclk m s).time.index = s.time.index := rfl
@[simp] theorem setMclk_time_tickSec (m : Mclk) : (setMclk m s).time.tickSec = s.time.tickSec := rfl
@[simp] theorem setMclk_time_tickNs (m : Mclk) : (setMclk m s).time.tickNs = s.time.tickNs := rfl
@[simp] theorem setMclk_time_rate (m : Mclk) : (setMclk m s).time.rate = s.time.rate := rfl
@[simp] theorem setMclk_time_mclk512 (m : Mclk) : (setMclk m s).time.mclk512 = s.time.mclk512 := rfl
@[simp] theorem setMclk_time_ptp (m : Mclk) : (setMclk m s).time.ptp = s.time.ptp := rfl
@[simp] theorem setMclk_time_muted (m : Mclk) : (setMclk m s).time.muted = s.time.muted := rfl

/-! ### setTile -/

@[simp] theorem setTile_member (die : Nat) (x : Tile) : (setTile die x s).member = s.member := rfl
@[simp] theorem setTile_now (die : Nat) (x : Tile) : (setTile die x s).now = s.now := rfl
@[simp] theorem setTile_free (die : Nat) (x : Tile) : (setTile die x s).free = s.free := rfl
@[simp] theorem setTile_hw (die : Nat) (x : Tile) : (setTile die x s).hw = s.hw := rfl
@[simp] theorem setTile_sys (die : Nat) (x : Tile) : (setTile die x s).sys = s.sys := rfl
@[simp] theorem setTile_msg (die : Nat) (x : Tile) : (setTile die x s).msg = s.msg := rfl
@[simp] theorem setTile_time (die : Nat) (x : Tile) : (setTile die x s).time = s.time := rfl
@[simp] theorem setTile_chain (die : Nat) (x : Tile) : (setTile die x s).chain = s.chain := rfl
@[simp] theorem setTile_cores (die : Nat) (x : Tile) : (setTile die x s).cores = s.cores := rfl
@[simp] theorem setTile_route (die : Nat) (x : Tile) : (setTile die x s).route = s.route := rfl
@[simp] theorem setTile_net (die : Nat) (x : Tile) : (setTile die x s).net = s.net := rfl
@[simp] theorem setTile_outs (die : Nat) (x : Tile) : (setTile die x s).outs = s.outs := rfl
@[simp] theorem setTile_journal (die : Nat) (x : Tile) : (setTile die x s).journal = s.journal := rfl
@[simp] theorem setTile_pending (die : Nat) (x : Tile) : (setTile die x s).pending = s.pending := rfl
@[simp] theorem setTile_wire (die : Nat) (x : Tile) : (setTile die x s).wire = s.wire := rfl
@[simp] theorem setTile_bus (die : Nat) (x : Tile) : (setTile die x s).bus = s.bus := rfl
@[simp] theorem setTile_rend_slices (die : Nat) (x : Tile) : (setTile die x s).rend.slices = s.rend.slices := rfl
@[simp] theorem setTile_rend_objs (die : Nat) (x : Tile) : (setTile die x s).rend.objs = s.rend.objs := rfl
@[simp] theorem setTile_rend_beds (die : Nat) (x : Tile) : (setTile die x s).rend.beds = s.rend.beds := rfl
@[simp] theorem setTile_rend_bedStage (die : Nat) (x : Tile) : (setTile die x s).rend.bedStage = s.rend.bedStage := rfl
@[simp] theorem setTile_rend_zones (die : Nat) (x : Tile) : (setTile die x s).rend.zones = s.rend.zones := rfl
@[simp] theorem setTile_rend_zoneStage (die : Nat) (x : Tile) : (setTile die x s).rend.zoneStage = s.rend.zoneStage := rfl
@[simp] theorem setTile_rend_geo (die : Nat) (x : Tile) : (setTile die x s).rend.geo = s.rend.geo := rfl
@[simp] theorem setTile_rend_geoStage (die : Nat) (x : Tile) : (setTile die x s).rend.geoStage = s.rend.geoStage := rfl
@[simp] theorem getTile_setTile_same (die : Nat) (x : Tile) : getTile (setTile die x s) die = x := by simp [getTile, setTile]
theorem getTile_setTile_other (die : Nat) (x : Tile) (j : Nat) (h : j ≠ die) : getTile (setTile die x s) j = getTile s j := by
  simp [getTile, setTile, mapGet_mapSet_other _ _ _ _ _ h]

/-! ### setSlice -/

@[simp] theorem setSlice_member (n : Nat) (x : Slice) : (setSlice n x s).member = s.member := rfl
@[simp] theorem setSlice_now (n : Nat) (x : Slice) : (setSlice n x s).now = s.now := rfl
@[simp] theorem setSlice_free (n : Nat) (x : Slice) : (setSlice n x s).free = s.free := rfl
@[simp] theorem setSlice_hw (n : Nat) (x : Slice) : (setSlice n x s).hw = s.hw := rfl
@[simp] theorem setSlice_sys (n : Nat) (x : Slice) : (setSlice n x s).sys = s.sys := rfl
@[simp] theorem setSlice_msg (n : Nat) (x : Slice) : (setSlice n x s).msg = s.msg := rfl
@[simp] theorem setSlice_time (n : Nat) (x : Slice) : (setSlice n x s).time = s.time := rfl
@[simp] theorem setSlice_chain (n : Nat) (x : Slice) : (setSlice n x s).chain = s.chain := rfl
@[simp] theorem setSlice_cores (n : Nat) (x : Slice) : (setSlice n x s).cores = s.cores := rfl
@[simp] theorem setSlice_route (n : Nat) (x : Slice) : (setSlice n x s).route = s.route := rfl
@[simp] theorem setSlice_net (n : Nat) (x : Slice) : (setSlice n x s).net = s.net := rfl
@[simp] theorem setSlice_outs (n : Nat) (x : Slice) : (setSlice n x s).outs = s.outs := rfl
@[simp] theorem setSlice_journal (n : Nat) (x : Slice) : (setSlice n x s).journal = s.journal := rfl
@[simp] theorem setSlice_pending (n : Nat) (x : Slice) : (setSlice n x s).pending = s.pending := rfl
@[simp] theorem setSlice_wire (n : Nat) (x : Slice) : (setSlice n x s).wire = s.wire := rfl
@[simp] theorem setSlice_bus (n : Nat) (x : Slice) : (setSlice n x s).bus = s.bus := rfl
@[simp] theorem setSlice_rend_tiles (n : Nat) (x : Slice) : (setSlice n x s).rend.tiles = s.rend.tiles := rfl
@[simp] theorem setSlice_rend_objs (n : Nat) (x : Slice) : (setSlice n x s).rend.objs = s.rend.objs := rfl
@[simp] theorem setSlice_rend_beds (n : Nat) (x : Slice) : (setSlice n x s).rend.beds = s.rend.beds := rfl
@[simp] theorem setSlice_rend_bedStage (n : Nat) (x : Slice) : (setSlice n x s).rend.bedStage = s.rend.bedStage := rfl
@[simp] theorem setSlice_rend_zones (n : Nat) (x : Slice) : (setSlice n x s).rend.zones = s.rend.zones := rfl
@[simp] theorem setSlice_rend_zoneStage (n : Nat) (x : Slice) : (setSlice n x s).rend.zoneStage = s.rend.zoneStage := rfl
@[simp] theorem setSlice_rend_geo (n : Nat) (x : Slice) : (setSlice n x s).rend.geo = s.rend.geo := rfl
@[simp] theorem setSlice_rend_geoStage (n : Nat) (x : Slice) : (setSlice n x s).rend.geoStage = s.rend.geoStage := rfl
@[simp] theorem getSlice_setSlice_same (n : Nat) (x : Slice) : getSlice (setSlice n x s) n = x := by simp [getSlice, setSlice]
theorem getSlice_setSlice_other (n : Nat) (x : Slice) (j : Nat) (h : j ≠ n) : getSlice (setSlice n x s) j = getSlice s j := by
  simp [getSlice, setSlice, mapGet_mapSet_other _ _ _ _ _ h]

/-! ### setObj -/

@[simp] theorem setObj_member (n : Nat) (x : Obj) : (setObj n x s).member = s.member := rfl
@[simp] theorem setObj_now (n : Nat) (x : Obj) : (setObj n x s).now = s.now := rfl
@[simp] theorem setObj_free (n : Nat) (x : Obj) : (setObj n x s).free = s.free := rfl
@[simp] theorem setObj_hw (n : Nat) (x : Obj) : (setObj n x s).hw = s.hw := rfl
@[simp] theorem setObj_sys (n : Nat) (x : Obj) : (setObj n x s).sys = s.sys := rfl
@[simp] theorem setObj_msg (n : Nat) (x : Obj) : (setObj n x s).msg = s.msg := rfl
@[simp] theorem setObj_time (n : Nat) (x : Obj) : (setObj n x s).time = s.time := rfl
@[simp] theorem setObj_chain (n : Nat) (x : Obj) : (setObj n x s).chain = s.chain := rfl
@[simp] theorem setObj_cores (n : Nat) (x : Obj) : (setObj n x s).cores = s.cores := rfl
@[simp] theorem setObj_route (n : Nat) (x : Obj) : (setObj n x s).route = s.route := rfl
@[simp] theorem setObj_net (n : Nat) (x : Obj) : (setObj n x s).net = s.net := rfl
@[simp] theorem setObj_outs (n : Nat) (x : Obj) : (setObj n x s).outs = s.outs := rfl
@[simp] theorem setObj_journal (n : Nat) (x : Obj) : (setObj n x s).journal = s.journal := rfl
@[simp] theorem setObj_pending (n : Nat) (x : Obj) : (setObj n x s).pending = s.pending := rfl
@[simp] theorem setObj_wire (n : Nat) (x : Obj) : (setObj n x s).wire = s.wire := rfl
@[simp] theorem setObj_bus (n : Nat) (x : Obj) : (setObj n x s).bus = s.bus := rfl
@[simp] theorem setObj_rend_tiles (n : Nat) (x : Obj) : (setObj n x s).rend.tiles = s.rend.tiles := rfl
@[simp] theorem setObj_rend_slices (n : Nat) (x : Obj) : (setObj n x s).rend.slices = s.rend.slices := rfl
@[simp] theorem setObj_rend_beds (n : Nat) (x : Obj) : (setObj n x s).rend.beds = s.rend.beds := rfl
@[simp] theorem setObj_rend_bedStage (n : Nat) (x : Obj) : (setObj n x s).rend.bedStage = s.rend.bedStage := rfl
@[simp] theorem setObj_rend_zones (n : Nat) (x : Obj) : (setObj n x s).rend.zones = s.rend.zones := rfl
@[simp] theorem setObj_rend_zoneStage (n : Nat) (x : Obj) : (setObj n x s).rend.zoneStage = s.rend.zoneStage := rfl
@[simp] theorem setObj_rend_geo (n : Nat) (x : Obj) : (setObj n x s).rend.geo = s.rend.geo := rfl
@[simp] theorem setObj_rend_geoStage (n : Nat) (x : Obj) : (setObj n x s).rend.geoStage = s.rend.geoStage := rfl

/-! ### setStage -/

@[simp] theorem setStage_member (c : Nat) (x : ChanSet) : (setStage c x s).member = s.member := rfl
@[simp] theorem setStage_now (c : Nat) (x : ChanSet) : (setStage c x s).now = s.now := rfl
@[simp] theorem setStage_free (c : Nat) (x : ChanSet) : (setStage c x s).free = s.free := rfl
@[simp] theorem setStage_hw (c : Nat) (x : ChanSet) : (setStage c x s).hw = s.hw := rfl
@[simp] theorem setStage_sys (c : Nat) (x : ChanSet) : (setStage c x s).sys = s.sys := rfl
@[simp] theorem setStage_msg (c : Nat) (x : ChanSet) : (setStage c x s).msg = s.msg := rfl
@[simp] theorem setStage_time (c : Nat) (x : ChanSet) : (setStage c x s).time = s.time := rfl
@[simp] theorem setStage_rend (c : Nat) (x : ChanSet) : (setStage c x s).rend = s.rend := rfl
@[simp] theorem setStage_cores (c : Nat) (x : ChanSet) : (setStage c x s).cores = s.cores := rfl
@[simp] theorem setStage_route (c : Nat) (x : ChanSet) : (setStage c x s).route = s.route := rfl
@[simp] theorem setStage_net (c : Nat) (x : ChanSet) : (setStage c x s).net = s.net := rfl
@[simp] theorem setStage_outs (c : Nat) (x : ChanSet) : (setStage c x s).outs = s.outs := rfl
@[simp] theorem setStage_journal (c : Nat) (x : ChanSet) : (setStage c x s).journal = s.journal := rfl
@[simp] theorem setStage_pending (c : Nat) (x : ChanSet) : (setStage c x s).pending = s.pending := rfl
@[simp] theorem setStage_wire (c : Nat) (x : ChanSet) : (setStage c x s).wire = s.wire := rfl
@[simp] theorem setStage_bus (c : Nat) (x : ChanSet) : (setStage c x s).bus = s.bus := rfl
@[simp] theorem setStage_chain_sets (c : Nat) (x : ChanSet) : (setStage c x s).chain.sets = s.chain.sets := rfl
@[simp] theorem setStage_chain_states (c : Nat) (x : ChanSet) : (setStage c x s).chain.states = s.chain.states := rfl
@[simp] theorem setStage_chain_models (c : Nat) (x : ChanSet) : (setStage c x s).chain.models = s.chain.models := rfl
@[simp] theorem setStage_chain_modelStage (c : Nat) (x : ChanSet) : (setStage c x s).chain.modelStage = s.chain.modelStage := rfl
@[simp] theorem setStage_chain_inserts (c : Nat) (x : ChanSet) : (setStage c x s).chain.inserts = s.chain.inserts := rfl
@[simp] theorem setStage_chain_insertStage (c : Nat) (x : ChanSet) : (setStage c x s).chain.insertStage = s.chain.insertStage := rfl

/-! ### setChan -/

@[simp] theorem setChan_member (c : Nat) (x : ChanState) : (setChan c x s).member = s.member := rfl
@[simp] theorem setChan_now (c : Nat) (x : ChanState) : (setChan c x s).now = s.now := rfl
@[simp] theorem setChan_free (c : Nat) (x : ChanState) : (setChan c x s).free = s.free := rfl
@[simp] theorem setChan_hw (c : Nat) (x : ChanState) : (setChan c x s).hw = s.hw := rfl
@[simp] theorem setChan_sys (c : Nat) (x : ChanState) : (setChan c x s).sys = s.sys := rfl
@[simp] theorem setChan_msg (c : Nat) (x : ChanState) : (setChan c x s).msg = s.msg := rfl
@[simp] theorem setChan_time (c : Nat) (x : ChanState) : (setChan c x s).time = s.time := rfl
@[simp] theorem setChan_rend (c : Nat) (x : ChanState) : (setChan c x s).rend = s.rend := rfl
@[simp] theorem setChan_cores (c : Nat) (x : ChanState) : (setChan c x s).cores = s.cores := rfl
@[simp] theorem setChan_route (c : Nat) (x : ChanState) : (setChan c x s).route = s.route := rfl
@[simp] theorem setChan_net (c : Nat) (x : ChanState) : (setChan c x s).net = s.net := rfl
@[simp] theorem setChan_outs (c : Nat) (x : ChanState) : (setChan c x s).outs = s.outs := rfl
@[simp] theorem setChan_journal (c : Nat) (x : ChanState) : (setChan c x s).journal = s.journal := rfl
@[simp] theorem setChan_pending (c : Nat) (x : ChanState) : (setChan c x s).pending = s.pending := rfl
@[simp] theorem setChan_wire (c : Nat) (x : ChanState) : (setChan c x s).wire = s.wire := rfl
@[simp] theorem setChan_bus (c : Nat) (x : ChanState) : (setChan c x s).bus = s.bus := rfl
@[simp] theorem setChan_chain_sets (c : Nat) (x : ChanState) : (setChan c x s).chain.sets = s.chain.sets := rfl
@[simp] theorem setChan_chain_stage (c : Nat) (x : ChanState) : (setChan c x s).chain.stage = s.chain.stage := rfl
@[simp] theorem setChan_chain_models (c : Nat) (x : ChanState) : (setChan c x s).chain.models = s.chain.models := rfl
@[simp] theorem setChan_chain_modelStage (c : Nat) (x : ChanState) : (setChan c x s).chain.modelStage = s.chain.modelStage := rfl
@[simp] theorem setChan_chain_inserts (c : Nat) (x : ChanState) : (setChan c x s).chain.inserts = s.chain.inserts := rfl
@[simp] theorem setChan_chain_insertStage (c : Nat) (x : ChanState) : (setChan c x s).chain.insertStage = s.chain.insertStage := rfl
@[simp] theorem getChan_setChan_same (c : Nat) (x : ChanState) : getChan (setChan c x s) c = x := by simp [getChan, setChan]
theorem getChan_setChan_other (c : Nat) (x : ChanState) (j : Nat) (h : j ≠ c) : getChan (setChan c x s) j = getChan s j := by
  simp [getChan, setChan, mapGet_mapSet_other _ _ _ _ _ h]

/-! ### setDst -/

@[simp] theorem setDst_member (e : Nat) (d : Dst) : (setDst e d s).member = s.member := rfl
@[simp] theorem setDst_now (e : Nat) (d : Dst) : (setDst e d s).now = s.now := rfl
@[simp] theorem setDst_free (e : Nat) (d : Dst) : (setDst e d s).free = s.free := rfl
@[simp] theorem setDst_hw (e : Nat) (d : Dst) : (setDst e d s).hw = s.hw := rfl
@[simp] theorem setDst_sys (e : Nat) (d : Dst) : (setDst e d s).sys = s.sys := rfl
@[simp] theorem setDst_msg (e : Nat) (d : Dst) : (setDst e d s).msg = s.msg := rfl
@[simp] theorem setDst_time (e : Nat) (d : Dst) : (setDst e d s).time = s.time := rfl
@[simp] theorem setDst_rend (e : Nat) (d : Dst) : (setDst e d s).rend = s.rend := rfl
@[simp] theorem setDst_chain (e : Nat) (d : Dst) : (setDst e d s).chain = s.chain := rfl
@[simp] theorem setDst_cores (e : Nat) (d : Dst) : (setDst e d s).cores = s.cores := rfl
@[simp] theorem setDst_net (e : Nat) (d : Dst) : (setDst e d s).net = s.net := rfl
@[simp] theorem setDst_outs (e : Nat) (d : Dst) : (setDst e d s).outs = s.outs := rfl
@[simp] theorem setDst_journal (e : Nat) (d : Dst) : (setDst e d s).journal = s.journal := rfl
@[simp] theorem setDst_pending (e : Nat) (d : Dst) : (setDst e d s).pending = s.pending := rfl
@[simp] theorem setDst_wire (e : Nat) (d : Dst) : (setDst e d s).wire = s.wire := rfl
@[simp] theorem setDst_bus (e : Nat) (d : Dst) : (setDst e d s).bus = s.bus := rfl
@[simp] theorem setDst_route_routes (e : Nat) (d : Dst) : (setDst e d s).route.routes = s.route.routes := rfl
@[simp] theorem setDst_route_stage (e : Nat) (d : Dst) : (setDst e d s).route.stage = s.route.stage := rfl
@[simp] theorem setDst_route_tdm (e : Nat) (d : Dst) : (setDst e d s).route.tdm = s.route.tdm := rfl
@[simp] theorem setDst_route_tdmStage (e : Nat) (d : Dst) : (setDst e d s).route.tdmStage = s.route.tdmStage := rfl
@[simp] theorem setDst_route_aes (e : Nat) (d : Dst) : (setDst e d s).route.aes = s.route.aes := rfl
@[simp] theorem setDst_route_aesStage (e : Nat) (d : Dst) : (setDst e d s).route.aesStage = s.route.aesStage := rfl
@[simp] theorem setDst_route_src (e : Nat) (d : Dst) : (setDst e d s).route.src = s.route.src := rfl
@[simp] theorem setDst_route_srcStage (e : Nat) (d : Dst) : (setDst e d s).route.srcStage = s.route.srcStage := rfl
@[simp] theorem setDst_route_ports (e : Nat) (d : Dst) : (setDst e d s).route.ports = s.route.ports := rfl
@[simp] theorem setDst_route_srcState (e : Nat) (d : Dst) : (setDst e d s).route.srcState = s.route.srcState := rfl
@[simp] theorem setDst_route_wclkOut (e : Nat) (d : Dst) : (setDst e d s).route.wclkOut = s.route.wclkOut := rfl
@[simp] theorem setDst_route_wclkRef (e : Nat) (d : Dst) : (setDst e d s).route.wclkRef = s.route.wclkRef := rfl
@[simp] theorem setDst_route_wclkRate (e : Nat) (d : Dst) : (setDst e d s).route.wclkRate = s.route.wclkRate := rfl
@[simp] theorem setDst_route_rings (e : Nat) (d : Dst) : (setDst e d s).route.rings = s.route.rings := rfl
@[simp] theorem setDst_route_inputs (e : Nat) (d : Dst) : (setDst e d s).route.inputs = s.route.inputs := rfl
@[simp] theorem setDst_route_feeds (e : Nat) (d : Dst) : (setDst e d s).route.feeds = s.route.feeds := rfl
@[simp] theorem setDst_route_prevFeeds (e : Nat) (d : Dst) : (setDst e d s).route.prevFeeds = s.route.prevFeeds := rfl
@[simp] theorem setDst_route_direct (e : Nat) (d : Dst) : (setDst e d s).route.direct = s.route.direct := rfl
@[simp] theorem getDst_setDst_same (e : Nat) (d : Dst) : getDst (setDst e d s) e = d := by simp [getDst, setDst]
theorem getDst_setDst_other (e : Nat) (d : Dst) (j : Nat) (h : j ≠ e) : getDst (setDst e d s) j = getDst s j := by
  simp [getDst, setDst, mapGet_mapSet_other _ _ _ _ _ h]

/-! ### setPort -/

@[simp] theorem setPort_member (k : Nat) (p : PortState) : (setPort k p s).member = s.member := rfl
@[simp] theorem setPort_now (k : Nat) (p : PortState) : (setPort k p s).now = s.now := rfl
@[simp] theorem setPort_free (k : Nat) (p : PortState) : (setPort k p s).free = s.free := rfl
@[simp] theorem setPort_hw (k : Nat) (p : PortState) : (setPort k p s).hw = s.hw := rfl
@[simp] theorem setPort_sys (k : Nat) (p : PortState) : (setPort k p s).sys = s.sys := rfl
@[simp] theorem setPort_msg (k : Nat) (p : PortState) : (setPort k p s).msg = s.msg := rfl
@[simp] theorem setPort_time (k : Nat) (p : PortState) : (setPort k p s).time = s.time := rfl
@[simp] theorem setPort_rend (k : Nat) (p : PortState) : (setPort k p s).rend = s.rend := rfl
@[simp] theorem setPort_chain (k : Nat) (p : PortState) : (setPort k p s).chain = s.chain := rfl
@[simp] theorem setPort_cores (k : Nat) (p : PortState) : (setPort k p s).cores = s.cores := rfl
@[simp] theorem setPort_net (k : Nat) (p : PortState) : (setPort k p s).net = s.net := rfl
@[simp] theorem setPort_outs (k : Nat) (p : PortState) : (setPort k p s).outs = s.outs := rfl
@[simp] theorem setPort_journal (k : Nat) (p : PortState) : (setPort k p s).journal = s.journal := rfl
@[simp] theorem setPort_pending (k : Nat) (p : PortState) : (setPort k p s).pending = s.pending := rfl
@[simp] theorem setPort_wire (k : Nat) (p : PortState) : (setPort k p s).wire = s.wire := rfl
@[simp] theorem setPort_bus (k : Nat) (p : PortState) : (setPort k p s).bus = s.bus := rfl
@[simp] theorem setPort_route_routes (k : Nat) (p : PortState) : (setPort k p s).route.routes = s.route.routes := rfl
@[simp] theorem setPort_route_dsts (k : Nat) (p : PortState) : (setPort k p s).route.dsts = s.route.dsts := rfl
@[simp] theorem setPort_route_stage (k : Nat) (p : PortState) : (setPort k p s).route.stage = s.route.stage := rfl
@[simp] theorem setPort_route_tdm (k : Nat) (p : PortState) : (setPort k p s).route.tdm = s.route.tdm := rfl
@[simp] theorem setPort_route_tdmStage (k : Nat) (p : PortState) : (setPort k p s).route.tdmStage = s.route.tdmStage := rfl
@[simp] theorem setPort_route_aes (k : Nat) (p : PortState) : (setPort k p s).route.aes = s.route.aes := rfl
@[simp] theorem setPort_route_aesStage (k : Nat) (p : PortState) : (setPort k p s).route.aesStage = s.route.aesStage := rfl
@[simp] theorem setPort_route_src (k : Nat) (p : PortState) : (setPort k p s).route.src = s.route.src := rfl
@[simp] theorem setPort_route_srcStage (k : Nat) (p : PortState) : (setPort k p s).route.srcStage = s.route.srcStage := rfl
@[simp] theorem setPort_route_srcState (k : Nat) (p : PortState) : (setPort k p s).route.srcState = s.route.srcState := rfl
@[simp] theorem setPort_route_wclkOut (k : Nat) (p : PortState) : (setPort k p s).route.wclkOut = s.route.wclkOut := rfl
@[simp] theorem setPort_route_wclkRef (k : Nat) (p : PortState) : (setPort k p s).route.wclkRef = s.route.wclkRef := rfl
@[simp] theorem setPort_route_wclkRate (k : Nat) (p : PortState) : (setPort k p s).route.wclkRate = s.route.wclkRate := rfl
@[simp] theorem setPort_route_rings (k : Nat) (p : PortState) : (setPort k p s).route.rings = s.route.rings := rfl
@[simp] theorem setPort_route_inputs (k : Nat) (p : PortState) : (setPort k p s).route.inputs = s.route.inputs := rfl
@[simp] theorem setPort_route_feeds (k : Nat) (p : PortState) : (setPort k p s).route.feeds = s.route.feeds := rfl
@[simp] theorem setPort_route_prevFeeds (k : Nat) (p : PortState) : (setPort k p s).route.prevFeeds = s.route.prevFeeds := rfl
@[simp] theorem setPort_route_direct (k : Nat) (p : PortState) : (setPort k p s).route.direct = s.route.direct := rfl
@[simp] theorem getPort_setPort_same (k : Nat) (p : PortState) : getPort (setPort k p s) k = p := by simp [getPort, setPort]
theorem getPort_setPort_other (k : Nat) (p : PortState) (j : Nat) (h : j ≠ k) : getPort (setPort k p s) j = getPort s j := by
  simp [getPort, setPort, mapGet_mapSet_other _ _ _ _ _ h]

/-! ### setSrcState -/

@[simp] theorem setSrcState_member (i : Nat) (x : SrcState) : (setSrcState i x s).member = s.member := rfl
@[simp] theorem setSrcState_now (i : Nat) (x : SrcState) : (setSrcState i x s).now = s.now := rfl
@[simp] theorem setSrcState_free (i : Nat) (x : SrcState) : (setSrcState i x s).free = s.free := rfl
@[simp] theorem setSrcState_hw (i : Nat) (x : SrcState) : (setSrcState i x s).hw = s.hw := rfl
@[simp] theorem setSrcState_sys (i : Nat) (x : SrcState) : (setSrcState i x s).sys = s.sys := rfl
@[simp] theorem setSrcState_msg (i : Nat) (x : SrcState) : (setSrcState i x s).msg = s.msg := rfl
@[simp] theorem setSrcState_time (i : Nat) (x : SrcState) : (setSrcState i x s).time = s.time := rfl
@[simp] theorem setSrcState_rend (i : Nat) (x : SrcState) : (setSrcState i x s).rend = s.rend := rfl
@[simp] theorem setSrcState_chain (i : Nat) (x : SrcState) : (setSrcState i x s).chain = s.chain := rfl
@[simp] theorem setSrcState_cores (i : Nat) (x : SrcState) : (setSrcState i x s).cores = s.cores := rfl
@[simp] theorem setSrcState_net (i : Nat) (x : SrcState) : (setSrcState i x s).net = s.net := rfl
@[simp] theorem setSrcState_outs (i : Nat) (x : SrcState) : (setSrcState i x s).outs = s.outs := rfl
@[simp] theorem setSrcState_journal (i : Nat) (x : SrcState) : (setSrcState i x s).journal = s.journal := rfl
@[simp] theorem setSrcState_pending (i : Nat) (x : SrcState) : (setSrcState i x s).pending = s.pending := rfl
@[simp] theorem setSrcState_wire (i : Nat) (x : SrcState) : (setSrcState i x s).wire = s.wire := rfl
@[simp] theorem setSrcState_bus (i : Nat) (x : SrcState) : (setSrcState i x s).bus = s.bus := rfl
@[simp] theorem setSrcState_route_routes (i : Nat) (x : SrcState) : (setSrcState i x s).route.routes = s.route.routes := rfl
@[simp] theorem setSrcState_route_dsts (i : Nat) (x : SrcState) : (setSrcState i x s).route.dsts = s.route.dsts := rfl
@[simp] theorem setSrcState_route_stage (i : Nat) (x : SrcState) : (setSrcState i x s).route.stage = s.route.stage := rfl
@[simp] theorem setSrcState_route_tdm (i : Nat) (x : SrcState) : (setSrcState i x s).route.tdm = s.route.tdm := rfl
@[simp] theorem setSrcState_route_tdmStage (i : Nat) (x : SrcState) : (setSrcState i x s).route.tdmStage = s.route.tdmStage := rfl
@[simp] theorem setSrcState_route_aes (i : Nat) (x : SrcState) : (setSrcState i x s).route.aes = s.route.aes := rfl
@[simp] theorem setSrcState_route_aesStage (i : Nat) (x : SrcState) : (setSrcState i x s).route.aesStage = s.route.aesStage := rfl
@[simp] theorem setSrcState_route_src (i : Nat) (x : SrcState) : (setSrcState i x s).route.src = s.route.src := rfl
@[simp] theorem setSrcState_route_srcStage (i : Nat) (x : SrcState) : (setSrcState i x s).route.srcStage = s.route.srcStage := rfl
@[simp] theorem setSrcState_route_ports (i : Nat) (x : SrcState) : (setSrcState i x s).route.ports = s.route.ports := rfl
@[simp] theorem setSrcState_route_wclkOut (i : Nat) (x : SrcState) : (setSrcState i x s).route.wclkOut = s.route.wclkOut := rfl
@[simp] theorem setSrcState_route_wclkRef (i : Nat) (x : SrcState) : (setSrcState i x s).route.wclkRef = s.route.wclkRef := rfl
@[simp] theorem setSrcState_route_wclkRate (i : Nat) (x : SrcState) : (setSrcState i x s).route.wclkRate = s.route.wclkRate := rfl
@[simp] theorem setSrcState_route_rings (i : Nat) (x : SrcState) : (setSrcState i x s).route.rings = s.route.rings := rfl
@[simp] theorem setSrcState_route_inputs (i : Nat) (x : SrcState) : (setSrcState i x s).route.inputs = s.route.inputs := rfl
@[simp] theorem setSrcState_route_feeds (i : Nat) (x : SrcState) : (setSrcState i x s).route.feeds = s.route.feeds := rfl
@[simp] theorem setSrcState_route_prevFeeds (i : Nat) (x : SrcState) : (setSrcState i x s).route.prevFeeds = s.route.prevFeeds := rfl
@[simp] theorem setSrcState_route_direct (i : Nat) (x : SrcState) : (setSrcState i x s).route.direct = s.route.direct := rfl
@[simp] theorem getSrcState_setSrcState_same (i : Nat) (x : SrcState) : getSrcState (setSrcState i x s) i = x := by simp [getSrcState, setSrcState]
theorem getSrcState_setSrcState_other (i : Nat) (x : SrcState) (j : Nat) (h : j ≠ i) : getSrcState (setSrcState i x s) j = getSrcState s j := by
  simp [getSrcState, setSrcState, mapGet_mapSet_other _ _ _ _ _ h]

/-! ### setNet -/

@[simp] theorem setNet_member (p : Nat) (x : NetPort) : (setNet p x s).member = s.member := rfl
@[simp] theorem setNet_now (p : Nat) (x : NetPort) : (setNet p x s).now = s.now := rfl
@[simp] theorem setNet_free (p : Nat) (x : NetPort) : (setNet p x s).free = s.free := rfl
@[simp] theorem setNet_hw (p : Nat) (x : NetPort) : (setNet p x s).hw = s.hw := rfl
@[simp] theorem setNet_sys (p : Nat) (x : NetPort) : (setNet p x s).sys = s.sys := rfl
@[simp] theorem setNet_msg (p : Nat) (x : NetPort) : (setNet p x s).msg = s.msg := rfl
@[simp] theorem setNet_time (p : Nat) (x : NetPort) : (setNet p x s).time = s.time := rfl
@[simp] theorem setNet_rend (p : Nat) (x : NetPort) : (setNet p x s).rend = s.rend := rfl
@[simp] theorem setNet_chain (p : Nat) (x : NetPort) : (setNet p x s).chain = s.chain := rfl
@[simp] theorem setNet_cores (p : Nat) (x : NetPort) : (setNet p x s).cores = s.cores := rfl
@[simp] theorem setNet_route (p : Nat) (x : NetPort) : (setNet p x s).route = s.route := rfl
@[simp] theorem setNet_outs (p : Nat) (x : NetPort) : (setNet p x s).outs = s.outs := rfl
@[simp] theorem setNet_journal (p : Nat) (x : NetPort) : (setNet p x s).journal = s.journal := rfl
@[simp] theorem setNet_pending (p : Nat) (x : NetPort) : (setNet p x s).pending = s.pending := rfl
@[simp] theorem setNet_wire (p : Nat) (x : NetPort) : (setNet p x s).wire = s.wire := rfl
@[simp] theorem setNet_bus (p : Nat) (x : NetPort) : (setNet p x s).bus = s.bus := rfl
@[simp] theorem setNet_net_macs (p : Nat) (x : NetPort) : (setNet p x s).net.macs = s.net.macs := rfl
@[simp] theorem setNet_net_nextId (p : Nat) (x : NetPort) : (setNet p x s).net.nextId = s.net.nextId := rfl
@[simp] theorem setNet_net_rx (p : Nat) (x : NetPort) : (setNet p x s).net.rx = s.net.rx := rfl
@[simp] theorem setNet_net_tx (p : Nat) (x : NetPort) : (setNet p x s).net.tx = s.net.tx := rfl
@[simp] theorem getNet_setNet_same (p : Nat) (x : NetPort) : getNet (setNet p x s) p = x := by simp [getNet, setNet]
theorem getNet_setNet_other (p : Nat) (x : NetPort) (j : Nat) (h : j ≠ p) : getNet (setNet p x s) j = getNet s j := by
  simp [getNet, setNet, mapGet_mapSet_other _ _ _ _ _ h]

/-! ### setRx -/

@[simp] theorem setRx_member (h : Nat) (x : Stream) : (setRx h x s).member = s.member := rfl
@[simp] theorem setRx_now (h : Nat) (x : Stream) : (setRx h x s).now = s.now := rfl
@[simp] theorem setRx_free (h : Nat) (x : Stream) : (setRx h x s).free = s.free := rfl
@[simp] theorem setRx_hw (h : Nat) (x : Stream) : (setRx h x s).hw = s.hw := rfl
@[simp] theorem setRx_sys (h : Nat) (x : Stream) : (setRx h x s).sys = s.sys := rfl
@[simp] theorem setRx_msg (h : Nat) (x : Stream) : (setRx h x s).msg = s.msg := rfl
@[simp] theorem setRx_time (h : Nat) (x : Stream) : (setRx h x s).time = s.time := rfl
@[simp] theorem setRx_rend (h : Nat) (x : Stream) : (setRx h x s).rend = s.rend := rfl
@[simp] theorem setRx_chain (h : Nat) (x : Stream) : (setRx h x s).chain = s.chain := rfl
@[simp] theorem setRx_cores (h : Nat) (x : Stream) : (setRx h x s).cores = s.cores := rfl
@[simp] theorem setRx_route (h : Nat) (x : Stream) : (setRx h x s).route = s.route := rfl
@[simp] theorem setRx_outs (h : Nat) (x : Stream) : (setRx h x s).outs = s.outs := rfl
@[simp] theorem setRx_journal (h : Nat) (x : Stream) : (setRx h x s).journal = s.journal := rfl
@[simp] theorem setRx_pending (h : Nat) (x : Stream) : (setRx h x s).pending = s.pending := rfl
@[simp] theorem setRx_wire (h : Nat) (x : Stream) : (setRx h x s).wire = s.wire := rfl
@[simp] theorem setRx_bus (h : Nat) (x : Stream) : (setRx h x s).bus = s.bus := rfl
@[simp] theorem setRx_net_ports (h : Nat) (x : Stream) : (setRx h x s).net.ports = s.net.ports := rfl
@[simp] theorem setRx_net_macs (h : Nat) (x : Stream) : (setRx h x s).net.macs = s.net.macs := rfl
@[simp] theorem setRx_net_nextId (h : Nat) (x : Stream) : (setRx h x s).net.nextId = s.net.nextId := rfl
@[simp] theorem setRx_net_tx (h : Nat) (x : Stream) : (setRx h x s).net.tx = s.net.tx := rfl

/-! ### setTx -/

@[simp] theorem setTx_member (h : Nat) (x : Stream) : (setTx h x s).member = s.member := rfl
@[simp] theorem setTx_now (h : Nat) (x : Stream) : (setTx h x s).now = s.now := rfl
@[simp] theorem setTx_free (h : Nat) (x : Stream) : (setTx h x s).free = s.free := rfl
@[simp] theorem setTx_hw (h : Nat) (x : Stream) : (setTx h x s).hw = s.hw := rfl
@[simp] theorem setTx_sys (h : Nat) (x : Stream) : (setTx h x s).sys = s.sys := rfl
@[simp] theorem setTx_msg (h : Nat) (x : Stream) : (setTx h x s).msg = s.msg := rfl
@[simp] theorem setTx_time (h : Nat) (x : Stream) : (setTx h x s).time = s.time := rfl
@[simp] theorem setTx_rend (h : Nat) (x : Stream) : (setTx h x s).rend = s.rend := rfl
@[simp] theorem setTx_chain (h : Nat) (x : Stream) : (setTx h x s).chain = s.chain := rfl
@[simp] theorem setTx_cores (h : Nat) (x : Stream) : (setTx h x s).cores = s.cores := rfl
@[simp] theorem setTx_route (h : Nat) (x : Stream) : (setTx h x s).route = s.route := rfl
@[simp] theorem setTx_outs (h : Nat) (x : Stream) : (setTx h x s).outs = s.outs := rfl
@[simp] theorem setTx_journal (h : Nat) (x : Stream) : (setTx h x s).journal = s.journal := rfl
@[simp] theorem setTx_pending (h : Nat) (x : Stream) : (setTx h x s).pending = s.pending := rfl
@[simp] theorem setTx_wire (h : Nat) (x : Stream) : (setTx h x s).wire = s.wire := rfl
@[simp] theorem setTx_bus (h : Nat) (x : Stream) : (setTx h x s).bus = s.bus := rfl
@[simp] theorem setTx_net_ports (h : Nat) (x : Stream) : (setTx h x s).net.ports = s.net.ports := rfl
@[simp] theorem setTx_net_macs (h : Nat) (x : Stream) : (setTx h x s).net.macs = s.net.macs := rfl
@[simp] theorem setTx_net_nextId (h : Nat) (x : Stream) : (setTx h x s).net.nextId = s.net.nextId := rfl
@[simp] theorem setTx_net_rx (h : Nat) (x : Stream) : (setTx h x s).net.rx = s.net.rx := rfl

/-! ### setDac -/

@[simp] theorem setDac_member (c : Nat) (d : Dac) : (setDac c d s).member = s.member := rfl
@[simp] theorem setDac_now (c : Nat) (d : Dac) : (setDac c d s).now = s.now := rfl
@[simp] theorem setDac_free (c : Nat) (d : Dac) : (setDac c d s).free = s.free := rfl
@[simp] theorem setDac_hw (c : Nat) (d : Dac) : (setDac c d s).hw = s.hw := rfl
@[simp] theorem setDac_sys (c : Nat) (d : Dac) : (setDac c d s).sys = s.sys := rfl
@[simp] theorem setDac_msg (c : Nat) (d : Dac) : (setDac c d s).msg = s.msg := rfl
@[simp] theorem setDac_time (c : Nat) (d : Dac) : (setDac c d s).time = s.time := rfl
@[simp] theorem setDac_rend (c : Nat) (d : Dac) : (setDac c d s).rend = s.rend := rfl
@[simp] theorem setDac_chain (c : Nat) (d : Dac) : (setDac c d s).chain = s.chain := rfl
@[simp] theorem setDac_cores (c : Nat) (d : Dac) : (setDac c d s).cores = s.cores := rfl
@[simp] theorem setDac_route (c : Nat) (d : Dac) : (setDac c d s).route = s.route := rfl
@[simp] theorem setDac_net (c : Nat) (d : Dac) : (setDac c d s).net = s.net := rfl
@[simp] theorem setDac_journal (c : Nat) (d : Dac) : (setDac c d s).journal = s.journal := rfl
@[simp] theorem setDac_pending (c : Nat) (d : Dac) : (setDac c d s).pending = s.pending := rfl
@[simp] theorem setDac_wire (c : Nat) (d : Dac) : (setDac c d s).wire = s.wire := rfl
@[simp] theorem setDac_bus (c : Nat) (d : Dac) : (setDac c d s).bus = s.bus := rfl
@[simp] theorem setDac_outs_senses (c : Nat) (d : Dac) : (setDac c d s).outs.senses = s.outs.senses := rfl
@[simp] theorem setDac_outs_auxs (c : Nat) (d : Dac) : (setDac c d s).outs.auxs = s.outs.auxs := rfl
@[simp] theorem setDac_outs_amps (c : Nat) (d : Dac) : (setDac c d s).outs.amps = s.outs.amps := rfl
@[simp] theorem setDac_outs_boosts (c : Nat) (d : Dac) : (setDac c d s).outs.boosts = s.outs.boosts := rfl
@[simp] theorem setDac_outs_outlets (c : Nat) (d : Dac) : (setDac c d s).outs.outlets = s.outs.outlets := rfl
@[simp] theorem setDac_outs_dacClr (c : Nat) (d : Dac) : (setDac c d s).outs.dacClr = s.outs.dacClr := rfl
@[simp] theorem getDac_setDac_same (c : Nat) (d : Dac) : getDac (setDac c d s) c = d := by simp [getDac, setDac]
theorem getDac_setDac_other (c : Nat) (d : Dac) (j : Nat) (h : j ≠ c) : getDac (setDac c d s) j = getDac s j := by
  simp [getDac, setDac, mapGet_mapSet_other _ _ _ _ _ h]

/-! ### setSense -/

@[simp] theorem setSense_member (c : Nat) (x : Sense) : (setSense c x s).member = s.member := rfl
@[simp] theorem setSense_now (c : Nat) (x : Sense) : (setSense c x s).now = s.now := rfl
@[simp] theorem setSense_free (c : Nat) (x : Sense) : (setSense c x s).free = s.free := rfl
@[simp] theorem setSense_hw (c : Nat) (x : Sense) : (setSense c x s).hw = s.hw := rfl
@[simp] theorem setSense_sys (c : Nat) (x : Sense) : (setSense c x s).sys = s.sys := rfl
@[simp] theorem setSense_msg (c : Nat) (x : Sense) : (setSense c x s).msg = s.msg := rfl
@[simp] theorem setSense_time (c : Nat) (x : Sense) : (setSense c x s).time = s.time := rfl
@[simp] theorem setSense_rend (c : Nat) (x : Sense) : (setSense c x s).rend = s.rend := rfl
@[simp] theorem setSense_chain (c : Nat) (x : Sense) : (setSense c x s).chain = s.chain := rfl
@[simp] theorem setSense_cores (c : Nat) (x : Sense) : (setSense c x s).cores = s.cores := rfl
@[simp] theorem setSense_route (c : Nat) (x : Sense) : (setSense c x s).route = s.route := rfl
@[simp] theorem setSense_net (c : Nat) (x : Sense) : (setSense c x s).net = s.net := rfl
@[simp] theorem setSense_journal (c : Nat) (x : Sense) : (setSense c x s).journal = s.journal := rfl
@[simp] theorem setSense_pending (c : Nat) (x : Sense) : (setSense c x s).pending = s.pending := rfl
@[simp] theorem setSense_wire (c : Nat) (x : Sense) : (setSense c x s).wire = s.wire := rfl
@[simp] theorem setSense_bus (c : Nat) (x : Sense) : (setSense c x s).bus = s.bus := rfl
@[simp] theorem setSense_outs_dacs (c : Nat) (x : Sense) : (setSense c x s).outs.dacs = s.outs.dacs := rfl
@[simp] theorem setSense_outs_auxs (c : Nat) (x : Sense) : (setSense c x s).outs.auxs = s.outs.auxs := rfl
@[simp] theorem setSense_outs_amps (c : Nat) (x : Sense) : (setSense c x s).outs.amps = s.outs.amps := rfl
@[simp] theorem setSense_outs_boosts (c : Nat) (x : Sense) : (setSense c x s).outs.boosts = s.outs.boosts := rfl
@[simp] theorem setSense_outs_outlets (c : Nat) (x : Sense) : (setSense c x s).outs.outlets = s.outs.outlets := rfl
@[simp] theorem setSense_outs_dacClr (c : Nat) (x : Sense) : (setSense c x s).outs.dacClr = s.outs.dacClr := rfl
@[simp] theorem getSense_setSense_same (c : Nat) (x : Sense) : getSense (setSense c x s) c = x := by simp [getSense, setSense]
theorem getSense_setSense_other (c : Nat) (x : Sense) (j : Nat) (h : j ≠ c) : getSense (setSense c x s) j = getSense s j := by
  simp [getSense, setSense, mapGet_mapSet_other _ _ _ _ _ h]

/-! ### setAux -/

@[simp] theorem setAux_member (k : Nat) (x : Aux) : (setAux k x s).member = s.member := rfl
@[simp] theorem setAux_now (k : Nat) (x : Aux) : (setAux k x s).now = s.now := rfl
@[simp] theorem setAux_free (k : Nat) (x : Aux) : (setAux k x s).free = s.free := rfl
@[simp] theorem setAux_hw (k : Nat) (x : Aux) : (setAux k x s).hw = s.hw := rfl
@[simp] theorem setAux_sys (k : Nat) (x : Aux) : (setAux k x s).sys = s.sys := rfl
@[simp] theorem setAux_msg (k : Nat) (x : Aux) : (setAux k x s).msg = s.msg := rfl
@[simp] theorem setAux_time (k : Nat) (x : Aux) : (setAux k x s).time = s.time := rfl
@[simp] theorem setAux_rend (k : Nat) (x : Aux) : (setAux k x s).rend = s.rend := rfl
@[simp] theorem setAux_chain (k : Nat) (x : Aux) : (setAux k x s).chain = s.chain := rfl
@[simp] theorem setAux_cores (k : Nat) (x : Aux) : (setAux k x s).cores = s.cores := rfl
@[simp] theorem setAux_route (k : Nat) (x : Aux) : (setAux k x s).route = s.route := rfl
@[simp] theorem setAux_net (k : Nat) (x : Aux) : (setAux k x s).net = s.net := rfl
@[simp] theorem setAux_journal (k : Nat) (x : Aux) : (setAux k x s).journal = s.journal := rfl
@[simp] theorem setAux_pending (k : Nat) (x : Aux) : (setAux k x s).pending = s.pending := rfl
@[simp] theorem setAux_wire (k : Nat) (x : Aux) : (setAux k x s).wire = s.wire := rfl
@[simp] theorem setAux_bus (k : Nat) (x : Aux) : (setAux k x s).bus = s.bus := rfl
@[simp] theorem setAux_outs_dacs (k : Nat) (x : Aux) : (setAux k x s).outs.dacs = s.outs.dacs := rfl
@[simp] theorem setAux_outs_senses (k : Nat) (x : Aux) : (setAux k x s).outs.senses = s.outs.senses := rfl
@[simp] theorem setAux_outs_amps (k : Nat) (x : Aux) : (setAux k x s).outs.amps = s.outs.amps := rfl
@[simp] theorem setAux_outs_boosts (k : Nat) (x : Aux) : (setAux k x s).outs.boosts = s.outs.boosts := rfl
@[simp] theorem setAux_outs_outlets (k : Nat) (x : Aux) : (setAux k x s).outs.outlets = s.outs.outlets := rfl
@[simp] theorem setAux_outs_dacClr (k : Nat) (x : Aux) : (setAux k x s).outs.dacClr = s.outs.dacClr := rfl
@[simp] theorem getAux_setAux_same (k : Nat) (x : Aux) : getAux (setAux k x s) k = x := by simp [getAux, setAux]
theorem getAux_setAux_other (k : Nat) (x : Aux) (j : Nat) (h : j ≠ k) : getAux (setAux k x s) j = getAux s j := by
  simp [getAux, setAux, mapGet_mapSet_other _ _ _ _ _ h]

/-! ### setAmp -/

@[simp] theorem setAmp_member (c : Nat) (a : Amp) : (setAmp c a s).member = s.member := rfl
@[simp] theorem setAmp_now (c : Nat) (a : Amp) : (setAmp c a s).now = s.now := rfl
@[simp] theorem setAmp_free (c : Nat) (a : Amp) : (setAmp c a s).free = s.free := rfl
@[simp] theorem setAmp_hw (c : Nat) (a : Amp) : (setAmp c a s).hw = s.hw := rfl
@[simp] theorem setAmp_sys (c : Nat) (a : Amp) : (setAmp c a s).sys = s.sys := rfl
@[simp] theorem setAmp_msg (c : Nat) (a : Amp) : (setAmp c a s).msg = s.msg := rfl
@[simp] theorem setAmp_time (c : Nat) (a : Amp) : (setAmp c a s).time = s.time := rfl
@[simp] theorem setAmp_rend (c : Nat) (a : Amp) : (setAmp c a s).rend = s.rend := rfl
@[simp] theorem setAmp_chain (c : Nat) (a : Amp) : (setAmp c a s).chain = s.chain := rfl
@[simp] theorem setAmp_cores (c : Nat) (a : Amp) : (setAmp c a s).cores = s.cores := rfl
@[simp] theorem setAmp_route (c : Nat) (a : Amp) : (setAmp c a s).route = s.route := rfl
@[simp] theorem setAmp_net (c : Nat) (a : Amp) : (setAmp c a s).net = s.net := rfl
@[simp] theorem setAmp_journal (c : Nat) (a : Amp) : (setAmp c a s).journal = s.journal := rfl
@[simp] theorem setAmp_pending (c : Nat) (a : Amp) : (setAmp c a s).pending = s.pending := rfl
@[simp] theorem setAmp_wire (c : Nat) (a : Amp) : (setAmp c a s).wire = s.wire := rfl
@[simp] theorem setAmp_bus (c : Nat) (a : Amp) : (setAmp c a s).bus = s.bus := rfl
@[simp] theorem setAmp_outs_dacs (c : Nat) (a : Amp) : (setAmp c a s).outs.dacs = s.outs.dacs := rfl
@[simp] theorem setAmp_outs_senses (c : Nat) (a : Amp) : (setAmp c a s).outs.senses = s.outs.senses := rfl
@[simp] theorem setAmp_outs_auxs (c : Nat) (a : Amp) : (setAmp c a s).outs.auxs = s.outs.auxs := rfl
@[simp] theorem setAmp_outs_boosts (c : Nat) (a : Amp) : (setAmp c a s).outs.boosts = s.outs.boosts := rfl
@[simp] theorem setAmp_outs_outlets (c : Nat) (a : Amp) : (setAmp c a s).outs.outlets = s.outs.outlets := rfl
@[simp] theorem setAmp_outs_dacClr (c : Nat) (a : Amp) : (setAmp c a s).outs.dacClr = s.outs.dacClr := rfl
@[simp] theorem getAmp_setAmp_same (c : Nat) (a : Amp) : getAmp (setAmp c a s) c = a := by simp [getAmp, setAmp]
theorem getAmp_setAmp_other (c : Nat) (a : Amp) (j : Nat) (h : j ≠ c) : getAmp (setAmp c a s) j = getAmp s j := by
  simp [getAmp, setAmp, mapGet_mapSet_other _ _ _ _ _ h]

/-! ### setBoost -/

@[simp] theorem setBoost_member (g : Nat) (b : Boost) : (setBoost g b s).member = s.member := rfl
@[simp] theorem setBoost_now (g : Nat) (b : Boost) : (setBoost g b s).now = s.now := rfl
@[simp] theorem setBoost_free (g : Nat) (b : Boost) : (setBoost g b s).free = s.free := rfl
@[simp] theorem setBoost_hw (g : Nat) (b : Boost) : (setBoost g b s).hw = s.hw := rfl
@[simp] theorem setBoost_sys (g : Nat) (b : Boost) : (setBoost g b s).sys = s.sys := rfl
@[simp] theorem setBoost_msg (g : Nat) (b : Boost) : (setBoost g b s).msg = s.msg := rfl
@[simp] theorem setBoost_time (g : Nat) (b : Boost) : (setBoost g b s).time = s.time := rfl
@[simp] theorem setBoost_rend (g : Nat) (b : Boost) : (setBoost g b s).rend = s.rend := rfl
@[simp] theorem setBoost_chain (g : Nat) (b : Boost) : (setBoost g b s).chain = s.chain := rfl
@[simp] theorem setBoost_cores (g : Nat) (b : Boost) : (setBoost g b s).cores = s.cores := rfl
@[simp] theorem setBoost_route (g : Nat) (b : Boost) : (setBoost g b s).route = s.route := rfl
@[simp] theorem setBoost_net (g : Nat) (b : Boost) : (setBoost g b s).net = s.net := rfl
@[simp] theorem setBoost_journal (g : Nat) (b : Boost) : (setBoost g b s).journal = s.journal := rfl
@[simp] theorem setBoost_pending (g : Nat) (b : Boost) : (setBoost g b s).pending = s.pending := rfl
@[simp] theorem setBoost_wire (g : Nat) (b : Boost) : (setBoost g b s).wire = s.wire := rfl
@[simp] theorem setBoost_bus (g : Nat) (b : Boost) : (setBoost g b s).bus = s.bus := rfl
@[simp] theorem setBoost_outs_dacs (g : Nat) (b : Boost) : (setBoost g b s).outs.dacs = s.outs.dacs := rfl
@[simp] theorem setBoost_outs_senses (g : Nat) (b : Boost) : (setBoost g b s).outs.senses = s.outs.senses := rfl
@[simp] theorem setBoost_outs_auxs (g : Nat) (b : Boost) : (setBoost g b s).outs.auxs = s.outs.auxs := rfl
@[simp] theorem setBoost_outs_amps (g : Nat) (b : Boost) : (setBoost g b s).outs.amps = s.outs.amps := rfl
@[simp] theorem setBoost_outs_outlets (g : Nat) (b : Boost) : (setBoost g b s).outs.outlets = s.outs.outlets := rfl
@[simp] theorem setBoost_outs_dacClr (g : Nat) (b : Boost) : (setBoost g b s).outs.dacClr = s.outs.dacClr := rfl
@[simp] theorem getBoost_setBoost_same (g : Nat) (b : Boost) : getBoost (setBoost g b s) g = b := by simp [getBoost, setBoost]
theorem getBoost_setBoost_other (g : Nat) (b : Boost) (j : Nat) (h : j ≠ g) : getBoost (setBoost g b s) j = getBoost s j := by
  simp [getBoost, setBoost, mapGet_mapSet_other _ _ _ _ _ h]

/-! ### setOutlet -/

@[simp] theorem setOutlet_member (die : Nat) (x : Outlet) : (setOutlet die x s).member = s.member := rfl
@[simp] theorem setOutlet_now (die : Nat) (x : Outlet) : (setOutlet die x s).now = s.now := rfl
@[simp] theorem setOutlet_free (die : Nat) (x : Outlet) : (setOutlet die x s).free = s.free := rfl
@[simp] theorem setOutlet_hw (die : Nat) (x : Outlet) : (setOutlet die x s).hw = s.hw := rfl
@[simp] theorem setOutlet_sys (die : Nat) (x : Outlet) : (setOutlet die x s).sys = s.sys := rfl
@[simp] theorem setOutlet_msg (die : Nat) (x : Outlet) : (setOutlet die x s).msg = s.msg := rfl
@[simp] theorem setOutlet_time (die : Nat) (x : Outlet) : (setOutlet die x s).time = s.time := rfl
@[simp] theorem setOutlet_rend (die : Nat) (x : Outlet) : (setOutlet die x s).rend = s.rend := rfl
@[simp] theorem setOutlet_chain (die : Nat) (x : Outlet) : (setOutlet die x s).chain = s.chain := rfl
@[simp] theorem setOutlet_cores (die : Nat) (x : Outlet) : (setOutlet die x s).cores = s.cores := rfl
@[simp] theorem setOutlet_route (die : Nat) (x : Outlet) : (setOutlet die x s).route = s.route := rfl
@[simp] theorem setOutlet_net (die : Nat) (x : Outlet) : (setOutlet die x s).net = s.net := rfl
@[simp] theorem setOutlet_journal (die : Nat) (x : Outlet) : (setOutlet die x s).journal = s.journal := rfl
@[simp] theorem setOutlet_pending (die : Nat) (x : Outlet) : (setOutlet die x s).pending = s.pending := rfl
@[simp] theorem setOutlet_wire (die : Nat) (x : Outlet) : (setOutlet die x s).wire = s.wire := rfl
@[simp] theorem setOutlet_bus (die : Nat) (x : Outlet) : (setOutlet die x s).bus = s.bus := rfl
@[simp] theorem setOutlet_outs_dacs (die : Nat) (x : Outlet) : (setOutlet die x s).outs.dacs = s.outs.dacs := rfl
@[simp] theorem setOutlet_outs_senses (die : Nat) (x : Outlet) : (setOutlet die x s).outs.senses = s.outs.senses := rfl
@[simp] theorem setOutlet_outs_auxs (die : Nat) (x : Outlet) : (setOutlet die x s).outs.auxs = s.outs.auxs := rfl
@[simp] theorem setOutlet_outs_amps (die : Nat) (x : Outlet) : (setOutlet die x s).outs.amps = s.outs.amps := rfl
@[simp] theorem setOutlet_outs_boosts (die : Nat) (x : Outlet) : (setOutlet die x s).outs.boosts = s.outs.boosts := rfl
@[simp] theorem setOutlet_outs_dacClr (die : Nat) (x : Outlet) : (setOutlet die x s).outs.dacClr = s.outs.dacClr := rfl
@[simp] theorem getOutlet_setOutlet_same (die : Nat) (x : Outlet) : getOutlet (setOutlet die x s) die = x := by simp [getOutlet, setOutlet]
theorem getOutlet_setOutlet_other (die : Nat) (x : Outlet) (j : Nat) (h : j ≠ die) : getOutlet (setOutlet die x s) j = getOutlet s j := by
  simp [getOutlet, setOutlet, mapGet_mapSet_other _ _ _ _ _ h]

/-! ### setWarden -/

@[simp] theorem setWarden_member (die : Nat) (w : Warden) : (setWarden die w s).member = s.member := rfl
@[simp] theorem setWarden_now (die : Nat) (w : Warden) : (setWarden die w s).now = s.now := rfl
@[simp] theorem setWarden_free (die : Nat) (w : Warden) : (setWarden die w s).free = s.free := rfl
@[simp] theorem setWarden_hw (die : Nat) (w : Warden) : (setWarden die w s).hw = s.hw := rfl
@[simp] theorem setWarden_msg (die : Nat) (w : Warden) : (setWarden die w s).msg = s.msg := rfl
@[simp] theorem setWarden_time (die : Nat) (w : Warden) : (setWarden die w s).time = s.time := rfl
@[simp] theorem setWarden_rend (die : Nat) (w : Warden) : (setWarden die w s).rend = s.rend := rfl
@[simp] theorem setWarden_chain (die : Nat) (w : Warden) : (setWarden die w s).chain = s.chain := rfl
@[simp] theorem setWarden_cores (die : Nat) (w : Warden) : (setWarden die w s).cores = s.cores := rfl
@[simp] theorem setWarden_route (die : Nat) (w : Warden) : (setWarden die w s).route = s.route := rfl
@[simp] theorem setWarden_net (die : Nat) (w : Warden) : (setWarden die w s).net = s.net := rfl
@[simp] theorem setWarden_outs (die : Nat) (w : Warden) : (setWarden die w s).outs = s.outs := rfl
@[simp] theorem setWarden_journal (die : Nat) (w : Warden) : (setWarden die w s).journal = s.journal := rfl
@[simp] theorem setWarden_pending (die : Nat) (w : Warden) : (setWarden die w s).pending = s.pending := rfl
@[simp] theorem setWarden_wire (die : Nat) (w : Warden) : (setWarden die w s).wire = s.wire := rfl
@[simp] theorem setWarden_bus (die : Nat) (w : Warden) : (setWarden die w s).bus = s.bus := rfl
@[simp] theorem setWarden_sys_ao (die : Nat) (w : Warden) : (setWarden die w s).sys.ao = s.sys.ao := rfl
@[simp] theorem setWarden_sys_spring (die : Nat) (w : Warden) : (setWarden die w s).sys.spring = s.sys.spring := rfl
@[simp] theorem setWarden_sys_boot (die : Nat) (w : Warden) : (setWarden die w s).sys.boot = s.sys.boot := rfl
@[simp] theorem setWarden_sys_slotWrite (die : Nat) (w : Warden) : (setWarden die w s).sys.slotWrite = s.sys.slotWrite := rfl
@[simp] theorem setWarden_sys_lockstep (die : Nat) (w : Warden) : (setWarden die w s).sys.lockstep = s.sys.lockstep := rfl
@[simp] theorem setWarden_sys_fatal (die : Nat) (w : Warden) : (setWarden die w s).sys.fatal = s.sys.fatal := rfl
@[simp] theorem setWarden_sys_temps (die : Nat) (w : Warden) : (setWarden die w s).sys.temps = s.sys.temps := rfl
@[simp] theorem setWarden_sys_warned (die : Nat) (w : Warden) : (setWarden die w s).sys.warned = s.sys.warned := rfl
@[simp] theorem setWarden_sys_jtag (die : Nat) (w : Warden) : (setWarden die w s).sys.jtag = s.sys.jtag := rfl

/-! ### Updates that every MSI-X vector sees -/

/-- One vector's step changes the pending bits or gives out messages, and nothing else. -/
theorem msixStep_eq (was : Bool) (v : Nat) :
    ∃ pba w, msixStep was v s = { s with msg.mbx.msixPba := pba, wire := w ++ s.wire } := by
  cases h1 : msixCause s v <;> cases was <;>
    cases h2 : (s.msg.mbx.msixMask.getLsbD v || s.msg.mbx.msixFmask) <;> simp only [msixStep, h1, h2] <;>
    first
      | exact ⟨s.msg.mbx.msixPba, [], rfl⟩
      | exact ⟨s.msg.mbx.msixPba, [.msix v], rfl⟩
      | exact ⟨_, [], rfl⟩

/-- A change that every vector sees is the change itself, pending bits and messages apart. -/
theorem withVectors_eq (f : State → State) :
    ∃ pba w, withVectors f s = { f s with msg.mbx.msixPba := pba, wire := w ++ (f s).wire } := by
  unfold withVectors
  generalize List.range 32 = vs
  suffices h : ∀ (vs : List Nat) (t : State), ∃ pba w,
      vs.foldl (fun t v => msixStep (msixCause s v) v t) t = { t with msg.mbx.msixPba := pba, wire := w ++ t.wire } from h vs (f s)
  intro vs
  induction vs with
  | nil => intro t; exact ⟨t.msg.mbx.msixPba, [], rfl⟩
  | cons v vs ih =>
    intro t
    obtain ⟨p, w, h⟩ := msixStep_eq t (msixCause s v) v
    obtain ⟨p', w', h'⟩ := ih (msixStep (msixCause s v) v t)
    refine ⟨p', w' ++ w, ?_⟩
    rw [List.foldl_cons, h', h, List.append_assoc]

/-- An inbound mailbox set: nothing but it, the pending bits and the messages of MSI-X. -/
theorem setIn_eq (n : Nat) (b : MbxIn) : ∃ pba w, setIn n b s =
    { s with msg.mbx.inb := mapSet s.msg.mbx.inb n b, msg.mbx.msixPba := pba, wire := w ++ s.wire } :=
  withVectors_eq s _

/-- An outbound mailbox set: nothing but it, the pending bits and the messages of MSI-X. -/
theorem setOut_eq (n : Nat) (b : MbxOut) : ∃ pba w, setOut n b s =
    { s with msg.mbx.outb := mapSet s.msg.mbx.outb n b, msg.mbx.msixPba := pba, wire := w ++ s.wire } :=
  withVectors_eq s _

end Sys2Proof.Machine
end

