-- ==== Sys2Proof/Laws/Ripple.lean ====
section
/-! SUPPORT. Laws of the Ripple cores: what completing, branching and writing an ALU result do to a core. -/

namespace Sys2Proof.Machine

/-- FLAGS after an ALU result. -/
theorem flagsOf_eq (r : AluResult) (f : BitVec 4) :
  flagsOf r f = flagBits (r.value == 0) r.value.msb (r.c.getD (f.getLsbD 2)) (r.v.getD (f.getLsbD 3)) := by
  unfold flagsOf flagBits flagAt
  generalize (r.value == 0) = z
  generalize r.value.msb = n
  generalize (r.c.getD (f.getLsbD 2)) = c
  generalize (r.v.getD (f.getLsbD 3)) = v
  revert z n c v; decide

/-- Where a core goes on after an instruction that does not branch. -/
theorem advance_eq (c : Core) : c.advance = { c with pc := c.nextWord, rep := c.nextRep } := by
  unfold Core.advance Core.nextWord Core.nextRep
  match h : c.rep with
  | none => rfl
  | some 0 => rfl
  | some 1 => rfl
  | some (k+2) => rfl

/-- An instruction that completes: the next word, the cycles with at most one of interlock, and nothing else. -/
theorem completes_eq (n : Nat) (uses : List Use) (extra : Nat) (writes : List Written) (c : Core) (s : State) :
   ∃ stall, stall ≤ 1 ∧ completes n uses extra writes c s = setCore n { c with pc := c.nextWord, rep := c.nextRep, cycles := addCycles c.cycles (1 + stall + extra), busy := addCycles c.busy (1+stall+extra), hazard := writes } s := by
  refine ⟨if uses.any fun u => c.hazard.any fun w => stalls w u then 1 else 0, by split <;> omega, ?_⟩
  unfold completes
  rw [advance_eq]
  rfl

/-- The cycles that an instruction spends. -/
theorem spend_eq (uses : List Use) (extra : Nat) (writes : List Written) (c : Core) :
   ∃ stall, stall ≤ 1 ∧ c.spend uses extra writes = { c with cycles := addCycles c.cycles (1 + stall + extra), busy := addCycles c.busy (1+stall+extra), hazard := writes } :=
  ⟨if uses.any fun u => c.hazard.any fun w => stalls w u then 1 else 0, by split <;> omega, rfl⟩

/-- An instruction whose meaning completes runs as the function that it applies. -/
theorem runsAs_of (i n s extra f uses writes) (h : exec i s = .next (completes n uses extra writes (f (getCore s n)) s))
   (h1 : (f (getCore s n)).pc = (getCore s n).pc := by rfl) (h2 : (f (getCore s n)).rep = (getCore s n).rep := by rfl)
   (h3 : (f (getCore s n)).cycles = (getCore s n).cycles := by rfl) (h4 : (f (getCore s n)).busy = (getCore s n).busy := by rfl) : runsAs i n s extra f := by
  obtain ⟨st, h5, h6⟩ := completes_eq n uses extra writes (f (getCore s n)) s
  refine ⟨st, writes, h5, ?_⟩
  rw [h, h6]
  simp only [Core.nextWord, Core.nextRep, h1, h2, h3, h4]

/-- An instruction whose meaning sets the word index branches there. -/
theorem branches_of (i n s extra f uses target) (h : exec i s = .next (setCore n { (f (getCore s n)).spend uses extra [] with pc := target } s))
   (h3 : (f (getCore s n)).cycles = (getCore s n).cycles := by rfl) (h4 : (f (getCore s n)).busy = (getCore s n).busy := by rfl) : branchesTo i n s extra target f := by
  obtain ⟨st, h5, h6⟩ := spend_eq uses extra [] (f (getCore s n))
  refine ⟨st, h5, ?_⟩
  rw [h, h6]
  simp only [h3, h4]

/-- The condition of a branch. -/
theorem cond_eq (p : Core) (cc : Fin 15) : condition cc p.flags p.sticky = branchHolds p cc := by
  unfold branchHolds
  obtain ⟨c, hc⟩ := cc
  have : ((p.sticky.extractLsb' 1 4) != 0) = (p.sticky.getLsbD 1 || p.sticky.getLsbD 2 || p.sticky.getLsbD 3 || p.sticky.getLsbD 4) := by
    generalize p.sticky = x; revert x; decide
  simp only [this]
  interval_cases c <;> rfl

/-- An ALU result written: the register, FLAGS and STICKY, and the completion. -/
theorem aluInto_eq (n dd uses writes) (r : AluResult) (c : Core) (s) :
   aluInto n dd uses writes r c s = completes n uses 0 writes { withResult c dd r.value (r.c.getD c.cFlag) (r.v.getD c.vFlag) with sticky := if r.sv then c.sticky ||| 1#8 else c.sticky } s := by
  unfold aluInto withResult
  rw [flagsOf_eq]
  split <;> simp_all [Core.stick, Core.setD, Core.cFlag, Core.vFlag]

/-- V of an addition: the exact sum lies outside 32 bits. -/
theorem ov_add (x y : Word) : ((x + y).toInt != x.toInt + y.toInt) = overflows (x.toInt + y.toInt) := by
  have hx := x.toInt_lt
  have hx2 := x.le_toInt
  have hy := y.toInt_lt
  have hy2 := y.le_toInt
  rw [Bool.eq_iff_iff, BitVec.toInt_add]
  simp only [overflows, bne_iff_ne, ne_eq, Bool.or_eq_true, decide_eq_true_eq]
  rw [Int.bmod_def]
  split <;> omega

/-- V of a subtraction: the exact difference lies outside 32 bits. -/
theorem ov_sub (x y : Word) : ((x - y).toInt != x.toInt - y.toInt) = overflows (x.toInt - y.toInt) := by
  have hx := x.toInt_lt
  have hx2 := x.le_toInt
  have hy := y.toInt_lt
  have hy2 := y.le_toInt
  rw [Bool.eq_iff_iff, BitVec.toInt_sub]
  simp only [overflows, bne_iff_ne, ne_eq, Bool.or_eq_true, decide_eq_true_eq]
  rw [Int.bmod_def]
  split <;> omega

/-- A saturated word and its V. -/
theorem sat_eq (r : Int) : BitVec.ofInt 32 (satInt 32 r) = satWord r ∧ (satInt 32 r != r) = overflows r := by
  unfold satInt clampInt satWord overflows
  norm_num
  constructor
  · split
    · have : max (-2147483648) (min 2147483647 r) = -2147483648 := by omega
      rw [this]; rfl
    · split
      · have : max (-2147483648) (min 2147483647 r) = 2147483647 := by omega
        rw [this]; rfl
      · have : max (-2147483648) (min 2147483647 r) = r := by omega
        rw [this]
  · by_cases h1 : r < -2147483648
    · simp [h1]; omega
    · by_cases h2 : 2147483648 ≤ r
      · simp [h1,h2]; omega
      · simp [h1,h2]; omega

/-- An ALU instruction runs as its result says. -/
theorem alu_runs (i n s) (dd : Fin 16) (uses writes) (r : AluResult) (f)
    (h : exec i s = .next (aluInto n dd uses writes r (getCore s n) s))
    (hf : f (getCore s n) = { withResult (getCore s n) dd r.value (r.c.getD (getCore s n).cFlag) (r.v.getD (getCore s n).vFlag) with
      sticky := if r.sv then (getCore s n).sticky ||| 1#8 else (getCore s n).sticky }) : runsAs i n s 0 f := by
  refine runsAs_of i n s 0 f uses writes (by rw [h, aluInto_eq, hf]) ?_ ?_ ?_ ?_ <;> rw [hf] <;> rfl

/-- An ALU instruction that does not saturate. -/
theorem alu_plain (i n s) (dd : Fin 16) (uses writes) (r : AluResult) (f)
    (h : exec i s = .next (aluInto n dd uses writes r (getCore s n) s)) (hs : r.sv = false)
    (hf : f (getCore s n) = withResult (getCore s n) dd r.value (r.c.getD (getCore s n).cFlag) (r.v.getD (getCore s n).vFlag)) :
    runsAs i n s 0 f := by
  refine alu_runs i n s dd uses writes r f h ?_
  rw [hf, hs]; rfl

/-- An ALU instruction that saturates. -/
theorem alu_sat (i n s) (dd : Fin 16) (uses writes) (r : Int) (f)
    (h : exec i s = .next (aluInto n dd uses writes (aluSat r) (getCore s n) s))
    (hf : f (getCore s n) = withSat (getCore s n) dd r) : runsAs i n s 0 f := by
  refine alu_runs i n s dd uses writes _ f h ?_
  rw [hf]
  unfold withSat aluSat
  simp [sat_eq]

/-- C of a shift left: the last bit shifted out. -/
theorem shl_c (x : Word) (k : Nat) : (decide (0 < k) && decide (k ≤ 32) && x.getLsbD (32 - k)) = lastLeft x k := by
  unfold lastLeft
  by_cases h : 0 < k <;> by_cases h2 : k ≤ 32 <;> simp [h, h2]

/-- C of a shift right: the last bit shifted out. -/
theorem shr_c (x : Word) (k : Nat) (hk : k < 64) : (decide (0 < k) && x.getLsbD (k - 1)) = lastRight x k := by
  unfold lastRight
  by_cases h : 0 < k <;> simp [h]
  intro hx; omega

/-- C of an arithmetic shift right: the last bit shifted out. -/
theorem sar_c (x : Word) (k : Nat) (hk : k < 64) : (decide (0 < k) && (if k ≤ 32 then x.getLsbD (k - 1) else x.msb)) = lastSar x k := by
  unfold lastSar
  by_cases h : 0 < k <;> simp [h]
  rw [BitVec.getLsbD_signExtend]
  have : k - 1 < 128 := by omega
  simp only [this, decide_true, Bool.true_and]
  split
  · rw [if_pos (by omega)]
  · rw [if_neg (by omega)]

/-- A shift left by the width or more gives 0. -/
theorem shl_v (x : Word) (k : Nat) : (if k < 32 then x <<< k else 0) = x <<< k := by
  split
  · rfl
  · exact (BitVec.shiftLeft_eq_zero (by omega)).symm

/-- A shift right by the width or more gives 0. -/
theorem shr_v (x : Word) (k : Nat) : (if k < 32 then x >>> k else 0) = x >>> k := by
  split
  · rfl
  · exact (BitVec.ushiftRight_eq_zero (by omega)).symm

/-- The signed minimum. -/
theorem min_v (x y : Word) : (if x.toInt ≤ y.toInt then x else y) = BitVec.ofInt 32 (min x.toInt y.toInt) := by
  split
  · rw [min_eq_left (by assumption)]; simp
  · rw [min_eq_right (by omega)]; simp

/-- The signed maximum. -/
theorem max_v (x y : Word) : (if x.toInt ≤ y.toInt then y else x) = BitVec.ofInt 32 (max x.toInt y.toInt) := by
  split
  · rw [max_eq_right (by assumption)]; simp
  · rw [max_eq_left (by omega)]; simp

/-- The low word of the signed product. -/
theorem mul_v (x y : Word) : x * y = BitVec.ofInt 32 (x.toInt * y.toInt) := by
  simp [BitVec.ofInt_mul]

end Sys2Proof.Machine
end

