-- ==== Sys2Proof/Machine/Signals.lean ====
section
/-! DEFINITION. What the pins carry as functions of the state: the signals of the test multiplexer (R591, R592) and the state of each pin group (R434, R558, R577, R585, R594, R595). -/

namespace Sys2Proof.Machine

/-! ### Test multiplexer (R591, R592) -/

/-- The level of a signal that the state does not hold between commands (a pulse, a clock, the busy time within a tick), or that R592 reserves: a free value. DESIGN CHOICE, log 10. -/
def freeSignal (s : State) (die sig : Nat) : Bool := Config.unstated 592 ((s.now * 8 + die) * 4096 + sig) % 2 == 1

/-- Signals of the active Shore. -/
def shoreSignal (s : State) (die sig : Nat) : Bool :=
  let i := sig % 16
  if sig = 3 then s.time.mclk.st == 1
  else if sig = 4 then s.sys.lockstep.fenced.isSome
  else if sig = 5 then s.sys.lockstep.duplex
  else if sig = 7 then isSealed s die
  else if 0x10 ≤ sig ∧ sig < 0x30 then decide (i < s.member.tdmPorts) && freeSignal s die sig
  else if 0x30 ≤ sig ∧ sig < 0x34 then (getNet s i).link
  else if 0x34 ≤ sig ∧ sig < 0x38 then (getNet s (i - 4)).pauseEnd.isSome
  else if 0x38 ≤ sig ∧ sig < 0x3C then (getNet s (i - 8)).xoff
  else if 0x40 ≤ sig ∧ sig < 0x60 then (getQueue s (sig - 0x40)).bp
  else if 0x60 ≤ sig ∧ sig < 0x64 then (getIn s i).st == .full
  else if 0x64 ≤ sig ∧ sig < 0x68 then (getOut s (i - 4)).full
  else if 0x70 ≤ sig ∧ sig < 0x74 then (getNet s i).tsqOvf
  else freeSignal s die sig

/-- Signals of a Tarn: per local slice LANES_BUSY, then GEO_BUSY, then SLICE_LATE. DEDUCED, log 108. -/
def tarnSignal (s : State) (die sig : Nat) : Bool :=
  let t := getTile s die
  let w := mapGet warden0 s.sys.red.wardens die
  let core := fun (k : Nat) => getCore s ((die - 2) * 16 + k)
  if sig = 2 then t.holdover
  else if sig = 3 then t.holdMute
  else if sig = 4 then w.suspect
  else if sig = 5 then w.declared
  else if 0x14 ≤ sig ∧ sig < 0x18 then (getSlice s (4 * (die - 2) + (sig - 0x14))).windows.any fun x => !x.computed
  else if 0x18 ≤ sig ∧ sig < 0x1C then t.dgmLate.getLsbD (sig - 0x18)
  else if sig = 0x22 then t.chnOverrun
  else if 0x30 ≤ sig ∧ sig < 0x40 then (core (sig - 0x30)).waiting.isSome
  else if 0x40 ≤ sig ∧ sig < 0x50 then (core (sig - 0x40)).st == .trapped
  else if sig = 0x51 then (linksOf s die).any fun n => (getLink s n).retraining
  else if 0x60 ≤ sig ∧ sig < 0x64 then t.miss.getLsbD (sig - 0x60)
  else if sig = 0x64 then t.misalign
  else freeSignal s die sig

/-- The gate commands of a half-bridge follow the modulator while the channel switches and are low otherwise (R454). -/
def gateSignal (s : State) (c die sig : Nat) : Bool := (getAmp s c).st.switching && freeSignal s die sig

/-- A boost controller switches: it has a target, no overcurrent stop stands, and no boundary scan holds it off (R595). -/
def boostOn (s : State) (g : Nat) : Bool :=
  let b := getBoost s g
  b.ceiling != 0 && !b.ocStop && !pinsDriven s

/-- Signals of an Outlet. -/
def outletSignal (s : State) (die sig : Nat) : Bool :=
  let ch := fun (base : Nat) => (die - 6) * 16 + (sig - base)
  let grp := fun (base : Nat) => (die - 6) * 4 + (sig - base)
  if sig = 1 then s.outs.dacClr
  else if sig = 2 then (getOutlet s die).loss
  else if 0x10 ≤ sig ∧ sig < 0x20 then gateSignal s (ch 0x10) die sig
  else if 0x20 ≤ sig ∧ sig < 0x30 then gateSignal s (ch 0x20) die sig
  else if 0x30 ≤ sig ∧ sig < 0x40 then
    match (getAmp s (ch 0x30)).st with
    | .waiting => true
    | .latched => true
    | _ => false
  else if 0x40 ≤ sig ∧ sig < 0x44 then boostOn s (grp 0x40) && freeSignal s die sig
  else if 0x44 ≤ sig ∧ sig < 0x48 then (getBoost s (grp 0x44)).outOfReg
  else if 0x60 ≤ sig ∧ sig < 0x70 then (getAmp s (ch 0x60)).clip
  else freeSignal s die sig

/-- A signal of a die; an unpowered die's reads 0. -/
def tmuxSignal (s : State) (die sig : Nat) : Bool :=
  powered s die
    && (if isShore die then shoreSignal s die sig else if isTarn die then tarnSignal s die sig else outletSignal s die sig)

/-- What a TMUX pin carries: nothing while it is released. -/
def tmuxLevel (s : State) (pin : Nat) : Option Bool :=
  let r := regOr s 0 (tmuxReg s pin)
  if powered s (activeShore s) && r.testBit 15 then some (tmuxSignal s (bits r 14 12) (bits r 11 0)) else none

/-! ### Pin groups (R585) -/

/-- The output pins, by group. -/
inductive Pin where
  | pwrEn (n : Nat)
  | intN
  | qsIo
  | xsCsN
  | xsSck
  | tdmData (port : Nat)
  /-- Bit clock and frame sync of a port direction: 0 in, 1 out. -/
  | tdmClock (dir port : Nat)
  | aesOut (port : Nat)
  | wclkOut
  | mclkOut
  | netTx (port : Nat)
  | pcieTx
  | tmux (n : Nat)
  | tdo
  /-- A gate command of a power channel. -/
  | gate (ch : Nat)
  | bstGate (group : Nat)
  /-- Both pins of a line DAC channel. -/
  | dacOut (ch : Nat)
  deriving DecidableEq, Repr

/-- What the block puts on a pin. -/
inductive PinState where
  | high
  | low
  | highZ
  /-- Weak pull-up of 50 kΩ. -/
  | pullUp
  /-- 20 kΩ to ground. -/
  | toGround
  /-- Electrical idle of a serial transmitter. -/
  | idle
  /-- The signal of its function. -/
  | function
  /-- The clear code of a line DAC, or the code on its way to or from it. -/
  | code (v : Int)
  /-- What the boundary register gives. -/
  | boundary
  deriving DecidableEq, Repr

/-- The Outlet that a pin belongs to, when it is one of an Outlet's. -/
def Pin.outlet : Pin → Option Nat
  | .gate c => some (channelDie c)
  | .bstGate g => some (boostDie g)
  | .dacOut c => some (channelDie c)
  | _ => none

/-- The audio outputs of a Shore that LISTEN and SLEEP release (R558). -/
def Pin.audio : Pin → Bool
  | .tdmData _ => true
  | .tdmClock _ _ => true
  | .aesOut _ => true
  | .wclkOut => true
  | .mclkOut => true
  | _ => false

/-- A pin of a Shore as its function has it. -/
def shorePin (s : State) : Pin → PinState
  | .intN => if (irqStatus s &&& s.msg.mbx.irqMask) != 0 then .low else .highZ
  | .xsCsN => if fusesSensed s then .function else .pullUp
  | .xsSck => if fusesSensed s then .function else .highZ
  | .tdmData p => if mapHas s.route.tdm (tdmKey 1 p) then .function else .highZ
  | .tdmClock d p => match mapFind s.route.tdm (tdmKey d p) with
    | some c => if c.master then .function else .highZ
    | none => .highZ
  | .aesOut p => if mapHas s.route.aes (aesKey 1 p) then .function else .low
  | .wclkOut => if s.route.wclkOut then .function else .low
  | .mclkOut => if s.time.mclk.mclkOut then .function else .low
  | .netTx p => if (getNet s p).mode = 0 then .idle else .function
  | .pcieTx => if s.msg.mbx.pciTraining then .function else .idle
  | .tmux n => match tmuxLevel s n with
    | some true => .high
    | some false => .low
    | none => .highZ
  | _ => .highZ

/-- A pin of an Outlet as its function has it. -/
def outletPin (s : State) : Pin → PinState
  | .gate c => if (getAmp s c).st.switching then .function else .low
  | .bstGate g => if boostOn s g then .function else .low
  | .dacOut c => if railUp s 5 then .code (getDac s c).code else .toGround
  | _ => .highZ

/-- A pin of a powered die under boundary scan: the gates are held low, the others carry the boundary register or are released (R594, R595). -/
def scannedPin (s : State) (p : Pin) : PinState :=
  match p, s.sys.jtag.instr with
  | .gate _, _ => .low
  | .bstGate _, _ => .low
  | _, .highz => .highZ
  | _, _ => .boundary

/-- What a Shore puts on a pin that both may have: only the active one drives, an unpowered one releases every pin (R577). -/
def shoreDrives (s : State) (shore : Nat) (p : Pin) : PinState :=
  if shore ≠ activeShore s ∨ !powered s shore then
    match p with
    | .netTx _ => .idle
    | .pcieTx => .idle
    | .xsCsN => if powered s shore then .highZ else .pullUp
    | _ => .highZ
  else if pinsDriven s then scannedPin s p
  else if p.audio && s.sys.ao.power.farOff then .highZ
  else shorePin s p

/-- What an Outlet puts on a pin of its own: gates low and converters at ground while it is off. -/
def outletDrives (s : State) (die : Nat) (p : Pin) : PinState :=
  if !powered s die then
    match p with
    | .dacOut _ => .toGround
    | .gate _ => .low
    | .bstGate _ => .low
    | _ => .highZ
  else if pinsDriven s then scannedPin s p
  else outletPin s p

/-- The state of a pin of the package. The enables are the sequencer's, and INT_N is also the always-on domain's after a rail failure at start-up (R63, R554). DEDUCED, log 108. -/
def pinState (s : State) (p : Pin) : PinState :=
  match p with
  | .pwrEn n => if s.sys.ao.vdd && s.sys.ao.enables.getLsbD n then .high else .low
  | .intN => if s.sys.ao.aoIntN then .low else shoreDrives s (activeShore s) .intN
  | _ => match p.outlet with
    | some d => outletDrives s d p
    | none => shoreDrives s (activeShore s) p

end Sys2Proof.Machine
end

