-- ==== Sys2Proof/Laws/Signals.lean ====
section
/-! SUPPORT. What the pin views say once for all: who drives a pin, and that the gates are low whenever the channel does not switch. -/

namespace Sys2Proof.Machine

/-- A signal of an unpowered die reads 0 (R591). -/
theorem tmuxSignal_unpowered (s : State) (die sig : Nat) (h : powered s die = false) : tmuxSignal s die sig = false := by
  simp [tmuxSignal, h]

/-- A TMUX pin that is not enabled is released. -/
theorem tmuxLevel_released (s : State) (pin : Nat) (h : (regOr s 0 (tmuxReg s pin)).testBit 15 = false) :
    tmuxLevel s pin = none := by
  simp [tmuxLevel, h]

/-- A Shore that is not the active one drives no shared digital pin (R577). -/
theorem shoreDrives_standby (s : State) (shore : Nat) (h : shore ≠ activeShore s) (pin : Nat) :
    shoreDrives s shore .intN = .highZ ∧ shoreDrives s shore (.tdmData pin) = .highZ ∧ shoreDrives s shore (.aesOut pin) = .highZ
      ∧ shoreDrives s shore (.tmux pin) = .highZ := by
  simp [shoreDrives, h]

/-- Under boundary scan the gate outputs of the power channels and boost controllers stay low (R595). -/
theorem outletDrives_scanned (s : State) (die c : Nat) (h : pinsDriven s = true) :
    outletDrives s die (.gate c) = .low ∧ outletDrives s die (.bstGate c) = .low := by
  cases hp : powered s die <;> simp [outletDrives, scannedPin, h, hp]

/-- A channel that does not switch has its gate commands low (R454). -/
theorem outletDrives_off (s : State) (die c : Nat) (h : (getAmp s c).st.switching = false) :
    outletDrives s die (.gate c) = .low := by
  cases hp : powered s die <;> cases hd : pinsDriven s <;> simp [outletDrives, scannedPin, outletPin, h, hp, hd]

end Sys2Proof.Machine
end

