-- ==== Sys2Proof/Tests/Slice0.lean ====
section
/-! SUPPORT. The model's own tests: ill-formed commands refused by the check, instruction words from the spec, single steps with the results of the spec's worked cases, and for each statement with hypotheses the states and operands that meet them. -/

open Sys2Proof.Machine

namespace Sys2Proof.Tests

set_option Elab.async false

/-! ### Commands that name nothing that exists: one refused for each check of WellFormed. -/

theorem test_wf_refuses_core : Instr.wf (.nop 64) = false ∧ Instr.wf (.nop 63) = true := by decide
theorem test_wf_refuses_tarn : Instr.wf (.tarnTick 6) = false ∧ Instr.wf (.tarnTick 1) = false ∧ Instr.wf (.tarnTick 2) = true := by decide
theorem test_wf_refuses_die : Instr.wf (.thermalTrip 8) = false ∧ Instr.wf (.thermalTrip 7) = true := by decide
theorem test_wf_refuses_group : Instr.wf (.railInRange 6) = false ∧ Instr.wf (.railInRange 5) = true := by decide
theorem test_wf_refuses_link : Instr.wf (.kyolerRetrain 17) = false ∧ Instr.wf (.kyolerFlitParityError 16 0 256) = false := by decide
theorem test_wf_refuses_access : Instr.wf (.registerWrite .pcie 0 3 0) = false ∧ Instr.wf (.registerWrite .pcie (2 ^ 40) 4 0) = false
    ∧ Instr.wf (.registerWrite .pcie (2 ^ 40 - 1) 1 0) = true := by decide
theorem test_wf_refuses_master : Instr.wf (.dblOutDrained (.ripple 64)) = false ∧ Instr.wf (.dblOutDrained (.warden 6)) = false
    ∧ Instr.wf (.dblOutDrained (.warden 5)) = true := by decide
theorem test_wf_refuses_bit : Instr.wf (.w1sActionDone 0 32 false) = false ∧ Instr.wf (.dblRplRing 0 16) = false := by decide
theorem test_wf_refuses_mailbox : Instr.wf (.mbxInPop 4) = false ∧ Instr.wf (.mbxInDataWrite .pcie 0 1023 2 0) = false
    ∧ Instr.wf (.mbxInDataWrite .pcie 3 1020 4 0) = true := by decide
theorem test_wf_refuses_vector : Instr.wf (.msixVectorUnmask 32) = false ∧ Instr.wf (.lockRead .pcie 0 64 4) = false := by decide
theorem test_wf_refuses_qspi : Instr.wf (.qspiReadWords 0 257) = false ∧ Instr.wf (.i2cWrite 128 0 []) = false ∧ Instr.wf (.i2cWrite 0 256 []) = false := by
  decide
theorem test_wf_refuses_port : Instr.wf (.linkDown 4) = false ∧ Instr.wf (.tdmInputFrame 16 24 [] 0) = false ∧ Instr.wf (.aes3InputFrame 2
    { left := 0, right := 0, validL := true, validR := true, parityOkL := true, parityOkR := true, biphaseOk := true, statusL := false, statusR := false
      zPreamble := false, ns := 0 }) = false := by decide
theorem test_wf_refuses_endpoint : Instr.wf (.routeCrossfadeEnd 65536) = false ∧ Instr.wf (.ringFetch 16) = false ∧ Instr.wf (.objectRelease 2048) = false
    ∧ Instr.wf (.geometryFreeze 16 0) = false := by decide
theorem test_wf_refuses_bank : Instr.wf (.pondTestRegion 0 256 0 true) = false ∧ Instr.wf (.dramRowIdleClose 4 0) = false ∧ Instr.wf (.dramRowIdleClose 0 32) = false := by
  decide
theorem test_wf_refuses_channel : Instr.wf (.hardShort 32) = false ∧ Instr.wf (.boostAtFloor 8) = false ∧ Instr.wf (.auxConversion 0 16 0) = false
    ∧ Instr.wf (.lockstepDisagree 3 false) = false ∧ Instr.wf (.udpSessionTimeout 4) = false ∧ Instr.wf (.weirAgePromotion 32) = false := by decide

/-! ### Instruction words written out from the encodings of R307 to R312, field by field. -/

/-- SUB D1, D2, D3: class 0x1, operation 0x1, then the three registers. -/
theorem test_word_sub : rippleDecode 0 (0x1#4 ++ 0x1#4 ++ 1#4 ++ 2#4 ++ 3#4 ++ 0#12) = some (.sub 0 1 2 3) := by decide
/-- LDI D5, #0xFFFE: class 0x7, [27] 0, [26:23] D5, [15:0] the immediate. -/
theorem test_word_ldi : rippleDecode 0 (0x7#4 ++ 0#1 ++ 5#4 ++ 0#7 ++ 0xFFFE#16) = some (.ldi 0 5 0xFFFE) := by decide
/-- MOVC D4, cr: class 0x6, operation 0x4, [23:20] D4, [12:8] the register. -/
theorem test_word_movc : rippleDecode 0 (0x6#4 ++ 0x4#4 ++ 4#4 ++ 0#7 ++ 3#5 ++ 0#8) = some (.movcFrom 0 4 3) := by decide
theorem test_word_illegal : rippleDecode 0 0xFFFFFFFF#32 = none ∧ rippleDecode 0 0x00000000#32 = some (.nop 0) := by decide

/-- A whole EVR-8 that runs and renders, from reset: every rail up, links trained, DRAM fitted, the host at version 3.2. -/
def ready : State :=
  let s := State.reset
  { s with
    sys.ao.enables := 0x3F#6, sys.ao.inRange := 0x3F#6, sys.ao.coldWaiting := false
    sys.boot.step := .ready, sys.boot.ready := true, sys.spring.stage := 5, sys.spring.slot := some 0
    msg.ncp.dests := [(1, { dest0 1 with version := 0x32 })]
    hw.links := (List.range 16).map fun n => (n, { link0 n with state := 1, lanes := 16 })
    hw.dram.units := 8, hw.dram.st := 1
    time.rendering := true, time.index := 4800, time.ptp.running := true }

/-- A request of the host over PCIe at version 3.2. -/
def req (flow : Nat) (payload : List Byte) : Request :=
  { sender := 1, seq := 7, flow := flow, version := 0x32, flags := 0, session := 0, payload := payload }

/-- `ready` with one core in a state of its own. -/
def withCore (n : Nat) (f : Core → Core) : State := setCore n { f (getCore ready n) with st := .running } ready

/-- A commit at sample 4900 of the active Shore and one Tarn, nothing of it done yet. -/
def commit : Commit :=
  { c := 4900, request := req 0 [], dies := [0, 3], u := 32, geometry := false, prepared := [], replies := [], received := []
    armSent := false, armed := [], reported := [], shore := 0, mesh := false }
def committing (f : Commit → Commit) : State := { ready with msg.commit := some (f commit) }

/-! ### Single steps, with what the spec's worked cases say they give. -/

/-- R148's worked case: the response to `sys.hello` of a host with 2.1 to 3.4, its header and the first bytes of its payload. -/
theorem test_hello_worked :
    let s := { ready with time.rate := 3, msg.ncp.dests := [] }
    let rq : Request := { sender := 1, seq := 1, flow := 0xFFFF, version := 0x10, flags := 0, session := 0, payload := [0x21, 0x34, 0, 0, 0, 0, 0, 0] }
    (match step { s with pending := [.sysHello rq] } with
      | .next t => (getDest t 1).queue.map fun m => m.bytes.take 24
      | _ => []) = [[0, 0, 1, 0x32, 1, 0, 72, 0, 0, 0x80, 0xFF, 0xFF, 0, 0, 0xFF, 3, 0x32, 0x10, 0x32, 5, 0, 8, 0, 3]] := by decide +kernel
/-- R481's worked case: `chain.model` returns 581 and 430. -/
theorem test_model_worked :
    let p := bytesLE 4 0 ++ bytesLE 4 6000 ++ bytesLE 4 12000 ++ bytesLE 4 30000 ++ bytesLE 4 250 ++ bytesLE 4 1500 ++ bytesLE 4 8000 ++ List.replicate 20 0
    (match step { ready with pending := [.chainModel (req 3 p)] } with
      | .next t => (getDest t 1).queue.map fun m => m.bytes.drop 16
      | _ => []) = [bytesLE 2 581 ++ bytesLE 2 430] := by decide +kernel
/-- The worked case of R301: a modulo pointer after its window was shortened. -/
theorem test_modulo_worked :
    let s := withCore 0 fun c => { c with a := [(0, 0x00010380#32)], b := [(0, 0x00010000#32)], l := [(0, 0x200#32)], m := [(0, 4#32)], windows := [(1, 224)] }
    (match step { s with pending := [.ld 0 1 0 (.modifier 0)] } with
      | .next t => (getCore t 0).areg 0
      | _ => 0) = 0x00010184#32 := by decide +kernel
/-- R418's worked case: the place of a packet of a stream with an offset of 96 samples. -/
theorem test_packet_worked :
    let s := { ready with time.ptp.sec := 1750000000, time.ptp.ns := 501200000 }
    packetPlace s { streamOf [] with rate := 1, po := 96 } { payloadType := 98, seq := 0, timestamp := 3324616128, ssrc := 0, marker := false, payload := [] }
      = 84000000024096 := by decide +kernel
/-- The worked case of the history: position 546 of slot 9 begins at group byte 50,790, in word 12,697, bank 13 of its slice at word 1058. -/
theorem test_history_worked : sampleByte 8192 9 546 = 50790 ∧ groupByteAddr 0 1 (50790 / 4 * 4) = pondAddr 2 13 (1058 * 4) := by decide +kernel
theorem test_homes_worked : homeTile .evr8 237 = 3 ∧ sliceDie 9 = 4 ∧ coreDie 45 = 4 ∧ homeTile .evr8 100 = 2 := by decide
/-- The power stage's worked case: 1000 µs of look-ahead are 48 samples at 48 kHz. -/
theorem test_lookahead_worked : ({ boost0 0 with lookUs := 1000, floor := 12000, ceiling := 48000, slew := 50 } : Boost).delay 48000 = 48 := by decide +kernel
/-- An addition that wraps sets Z and C and leaves V clear; its source is its destination. -/
theorem test_add_wraps :
    let s := withCore 0 fun c => (c.setD 1 0xFFFFFFFF).setD 2 1
    (match step { s with pending := [.add 0 1 1 2] } with
      | .next t => ((getCore t 0).dreg 1, (getCore t 0).flags, (getCore t 0).pc)
      | _ => (1, 0, 0)) = (0#32, 0b0101#4, 1) := by decide +kernel
/-- R585: enables low while VDD_AO rises, gates low, converters at ground, the flash select pulled up. -/
theorem test_pins_at_reset : pinState State.reset (.pwrEn 0) = .low ∧ pinState State.reset (.gate 31) = .low ∧ pinState State.reset (.dacOut 0) = .toGround
    ∧ pinState State.reset .xsCsN = .pullUp ∧ pinState State.reset (.tmux 15) = .highZ ∧ pinState State.reset .intN = .highZ := by decide +kernel
/-- The block idles on an empty queue. -/
theorem test_idle : (match step State.reset with | .next t => t.free | _ => 1) = 0 := by decide +kernel
/-- A lock is taken by the read that finds it free, and reads 0 (R121). -/
theorem test_lock_read :
    (match step { ready with pending := [.lockRead .pcie 0 5 4] } with
      | .next t => (lockOwner t 0 5, t.bus.data)
      | _ => (0, [])) = (1, [0#32]) := by decide +kernel

/-! ### Witnesses: each names states and operands that meet the hypotheses of a statement, clause by clause. -/

theorem witness_StepRunsFrontCommand : ({ ready with pending := [.halt 0, .nop 1] }).pending = .halt 0 :: [.nop 1] := rfl
theorem witness_AluForms : issues (withCore 63 id) 63 = true ∧ (0xFFFF#16) ≠ 0 := by decide +kernel
theorem witness_MoveForms : issues (withCore 0 id) 0 = true
    ∧ (7 : Fin 32).val < 8 ∧ (8 ≤ (8 : Fin 32).val ∧ (15 : Fin 32).val < 16) ∧ (16 ≤ (16 : Fin 32).val ∧ (23 : Fin 32).val < 24)
    ∧ 24 ≤ (24 : Fin 32).val ∧ (1 : Fin 11).val ≠ 0 := by decide +kernel
theorem witness_AccumulatorForms :
    let s := withCore 0 fun c => { c with acc := [(0, BitVec.ofInt 72 (2 ^ 71 - 1)), (1, 1)] }
    issues s 0 = true ∧ ¬ ((getCore s 0).accv 0).toInt + ((getCore s 0).accv 1).toInt < 2 ^ 71
      ∧ ((getCore s 0).accv 1).toInt + ((getCore s 0).accv 1).toInt < 2 ^ 71 ∧ (getCore s 0).pinned.getLsbD 0 = false
      ∧ (getCore s 0).ctrl.getLsbD 0 = false ∧ (getCore (withCore 0 fun c => { c with pinned := 1#4 }) 0).pinned.getLsbD 0 = true
      ∧ (getCore (withCore 0 fun c => { c with ctrl := 1#6 }) 0).ctrl.getLsbD 0 = true := by decide +kernel
theorem witness_ControlAndTraps :
    let s := withCore 0 id
    issues s 0 = true ∧ (getCore s 0).rep = none ∧ (getCore s 0).dreg 0 = 0 ∧ (getCore s 0).stack = [] ∧ (getCore s 0).ipc < 16384
      ∧ branchHolds (getCore s 0) 0 = true ∧ branchHolds (getCore s 0) 1 = false ∧ rippleDecode 0 0xFFFFFFFF#32 = none
      ∧ (getCore (withCore 0 fun c => c.setD 1 1) 0).dreg 1 = 1
      ∧ (getCore (withCore 0 fun c => { c with stack := [16383] }) 0).stack = [16383]
      ∧ 8 ≤ (getCore (withCore 0 fun c => { c with stack := List.replicate 8 0 }) 0).stack.length
      ∧ (getCore (withCore 0 fun c => { c with rep := some 2 }) 0).rep ≠ none
      ∧ issues (withCore 0 fun c => { c with rep := some 2 }) 0 = true := by decide +kernel
theorem witness_TicksAndWaits :
    let s := withCore 0 fun c => { c with tickPending := true, ie := true }
    let w := withCore 0 fun c => { c with waiting := some true, slots := [(0, { xslot0 0 with ready := true })] }
    (0 < s.member.cores ∧ powered s (coreDie 0) = true ∧ (getCore s 0).st = .running)
      ∧ (getCore s 0).waiting = none ∧ (getCore s 0).rep = none ∧ (getCore s 0).tickPending = true ∧ (getCore s 0).ie = true
      ∧ (getCore w 0).waiting = some true ∧ ((getCore w 0).slots.any fun e => e.2.ready) = true ∧ (getCore w 0).tickPending = false := by decide +kernel

theorem witness_DataAccesses :
    let p : Core → Core := fun c => { c with windows := [(0, 255), (7, 3)], a := [(0, 0x7FFFC#32)] }
    let s := withCore 0 p
    let b := pondAddr 2 255 0
    (¬ (0x7FFFD#32).toNat % 4 = 0) ∧ (0x7FFFC#32).toNat < 0x80000
      ∧ mapFind (getCore s 0).windows 0 = some 255 ∧ mapFind (getCore s 0).windows 7 = some 3 ∧ mapFind (getCore s 0).windows 1 = none
      ∧ (getBank s 2 255).pwr = 0 ∧ s.hw.ponds.bad.contains b = false
      ∧ ({ s with hw.ponds.bad := [b] }).hw.ponds.bad.contains b = true
      ∧ (getBank (setBank 2 255 { getBank s 2 255 with pwr := 1 } s) 2 255).pwr = 1
      ∧ (getBank (setBank 2 255 { getBank s 2 255 with pwr := 2 } s) 2 255).pwr = 2
      ∧ (0x100000 ≤ (0x100FFC#32).toNat ∧ (0x100FFC#32).toNat < 0x101000) ∧ (0x400000 ≤ (0x4FFFFC#32).toNat ∧ (0x4FFFFC#32).toNat < 0x500000)
      ∧ (0x80000000 ≤ (0x80FFFFFC#32).toNat ∧ (0x80FFFFFC#32).toNat < 0x81000000) ∧ 0x81000000 ≤ (0x81000000#32).toNat
      ∧ issues s 0 = true
      ∧ (loadWord 0 ((getCore s 0).areg 0) s).1 = .done 0 0 false false ∧ (storeWord 0 ((getCore s 0).areg 0) 0 s).1 = .done 0 0 false false
      ∧ (loadWord 0 2#32 s).1 = .trap 2 false ∧ (storeWord 0 2#32 0 s).1 = .trap 2 false := by decide +kernel
/-- A load that meets a pond parity error under TPP, and a far load that ends in a bus error under TB. -/
theorem witness_DataAccesses_traps :
    let p : Core → Core := fun c => { c with windows := [(0, 255)], ctrl := 0x30#6, far := 0xE000#16 }
    let s := { withCore 0 p with hw.ponds.bad := [pondAddr 2 255 0] }
    let r := loadWord 0 0#32 s
    r.1 = .done 0 2 false true ∧ (getCore r.2 0).ctrl.getLsbD 5 = true ∧ s.sys.red.hubUp = true
      ∧ (let u := { s with sys.red.hubUp := false }
         let f := loadWord 0 0x80000000#32 u
         let g := storeWord 0 0x80000000#32 0#32 u
         f.1 = .trap 3 true ∧ g.1 = .trap 3 true) := by decide +kernel
theorem witness_MacInstructions :
    let s := withCore 0 fun c => { c with windows := [(0, 0), (1, 1)], a := [(4, 0x10000#32)], acc := [(0, BitVec.ofInt 72 (2 ^ 71 - 1))], d := [(0, 1), (1, 1)] }
    let ls := parallelLoads (some (0, 0)) (some (7, 0))
    let r := runLoads 0 (getCore s 0) ls s
    issues s 0 = true ∧ badLoad (getCore s 0) ls = none ∧ r.1.trap = none ∧ (getCore s 0).pinned.getLsbD 0 = false
      ∧ (2 : Int) ^ 71 ≤ ((getCore s 0).accv 0).toInt + ((getCore s 0).dreg 0).toInt * ((getCore s 0).dreg 1).toInt
      ∧ ((getCore s 0).accv 1).toInt + ((getCore s 0).dreg 0).toInt * ((getCore s 0).dreg 1).toInt < 2 ^ 71
      ∧ (loadWord 0 ((getCore s 0).areg 0) s).1 = .done 0 0 false false ∧ (loadWord 0 ((getCore s 0).areg (4 + (0 : Fin 4).val)) s).1 = .done 0 0 false false
      ∧ (loadWord 0 ((getCore ready 0).areg 0) ready).1 = .trap 3 false
      ∧ badLoad (getCore (withCore 0 id) 0) (parallelLoads (some (0, 0)) none) = some 3 := by decide +kernel
theorem witness_IdleOnEmptyQueue : ready.pending = [] := rfl
theorem witness_WhatCanStop : exec (.registerWrite .pcie 0 3 0) ready = .fault .illFormedCommand := by
  show execRegisterWrite .pcie 0 3 0 ready = _
  unfold execRegisterWrite
  rw [if_pos (by decide)]
/-- `ready` with every debug enable sealed in. -/
def debuggable : State := { ready with sys.spring.sealedDebug := 0xF#4 }
theorem witness_WhatCanStop_refused : exec .jtagCoreDebug debuggable = .refused .debugUnit := by
  show execJtagCoreDebug debuggable = _
  unfold execJtagCoreDebug
  rw [if_pos (by decide +kernel)]
theorem witness_Responses : (req 0 []).flags.testBit 2 = false ∧ ready.msg.ncp.discarding.contains (destKey (req 0 []), 7) = false
    ∧ ({ req 0 [] with flags := 4 }).flags.testBit 2 = true ∧ codeDenied ≠ codeOk ∧ codeDenied ≠ codeClamped := by decide +kernel
theorem witness_RefusalsBeforeServing :
    nerrisUp ready = true ∧ negotiated ready { req 0 [] with version := 0x33 } < 0x33 ∧ 0x10 < opVersion rplLoadOp.opcode
      ∧ mayRequest 0x20 secProvisionOp.opcode [] = false ∧ mayRequest 1 sysPingOp.opcode [] = true ∧ partReady ready = true
      ∧ partReady { ready with sys.boot.step := .render } = false ∧ nerrisUp { ready with sys.boot.step := .render } = true
      ∧ earlyOp sysPingOp.opcode = false ∧ runOnly objAllocOp.opcode (objAllocOp.staged (req 0 [])) = true
      ∧ timelineOnly routeSetOp.opcode (routeSetOp.staged (req 0 [])) = true
      ∧ firstMissing (sysResetOp.layout 0x32) 0 2 = some 2
      ∧ ready.msg.ncp.rateChange = none ∧ ready.msg.commit = none ∧ ready.sys.red.proving = none := by decide +kernel
theorem witness_EventsAndRecords :
    (getDest ready 1).evMask.testBit 16 = true ∧ opVersion 0x0A80 ≤ (getDest ready 1).version ∧ ((getDest ready 1).queue.filter (·.event)).length < 256
      ∧ (getDest ready 0x101).evMask.testBit 17 = false ∧ (getDest ready 0x10).version < opVersion 0x0A80 := by decide +kernel
theorem witness_EventsAndRecords_full :
    256 ≤ ((List.replicate 256 ({ event := true, seq := 1, opcode := 0x0A80, bytes := [] } : OutMsg)).filter (·.event)).length := by decide +kernel
theorem witness_SystemMessages :
    served sysHelloOp (req 0 ([0x10, 0x32] ++ List.replicate 6 0)) ready = true ∧ (0x32 = min 0x32 (byteAt [0x10, 0x32] 1) ∧ byteAt [0x10, 0x32] 0 ≤ 0x32)
      ∧ served sysHelloOp (req 0 ([0x33, 0x40] ++ List.replicate 6 0)) ready = true ∧ min 0x32 (byteAt [0x33, 0x40] 1) < max 0x10 (byteAt [0x33, 0x40] 0)
      ∧ served sysStatusOp (req 0 []) ready = true ∧ served sysResetOp (req 0 [1, 0, 0, 0]) ready = true
      ∧ served sysResetOp (req 0 [0, 0, 0, 0]) ready = true ∧ ready.msg.commit = none
      ∧ served sysResetOp (req 0 [2, 6, 0, 0]) ready = true ∧ ready.member.has 6 = true ∧ served sysResetOp (req 0 [3, 0, 0, 0]) ready = true
      ∧ served sysEventMaskOp (req 0 (List.replicate 8 0xFF)) ready = true ∧ served sysPingOp (req 0 [1, 2]) ready = true
      ∧ served pwrStatusOp (req 0 []) ready = true := by decide +kernel
/-- A geometry setting staged: the speed of sound. -/
def staging : State := { ready with rend.geoStage.c := 3440 }
theorem witness_CommitRequests :
    let far := req 0 (bytesLE 8 4864)
    served cfgCommitOp far ready = true ∧ fieldLE far.payload 0 8 ≤ ready.time.index + 2 ^ 31 ∧ ready.time.index + 64 ≤ fieldLE far.payload 0 8
      ∧ geometryStaged ready = false ∧ stagedDies ready = [] ∧ geometryStaged staging = true ∧ stagedDies staging ≠ []
      ∧ served cfgCommitOp (req 0 (bytesLE 8 4896)) staging = true ∧ staging.time.index + commitU staging + 64 ≤ 4896
      ∧ served cfgCommitOp far (committing id) = true ∧ (committing id).msg.commit.isSome = true
      ∧ ready.time.index + 2 ^ 31 < fieldLE (bytesLE 8 0x100000000) 0 8 ∧ fieldLE (bytesLE 8 4863) 0 8 < ready.time.index + 64 := by decide +kernel
theorem witness_CommitRuns :
    let done := committing fun c => { c with c := 4799, armSent := true, armed := [0, 3] }
    commit.dies.contains 3 = true ∧ commit.prepared.contains 3 = false ∧ dieAnswers (committing id) 3 = true ∧ isTarn 3 = true
      ∧ commit.dies.contains 0 = true ∧ dieAnswers (committing id) 0 = true ∧ isTarn 0 = false ∧ dieAnswers (committing id) 2 = true
      ∧ nerrisUp (committing id) = true
      ∧ (let c := { commit with prepared := [0, 3], received := [3], replies := [(0, none), (3, none)] }
         c.prepared.contains 0 = true ∧ c.received.contains 0 = false ∧ (c.dies.all fun d => (c.received ++ [0]).contains d) = true
           ∧ ready.time.index ≤ c.c - 16 ∧ (c.replies.all fun e => e.2.isNone) = true)
      ∧ armLate (committing id) 3 4900 = false ∧ armLate (committing id) 0 4900 = false ∧ armLate (committing id) 0 4800 = true
      ∧ powered (committing id) 3 = true ∧ hasSwapped (setTile 3 { getTile done 3 with stage := 3 } done)
          { commit with c := 4799, armSent := true, armed := [0, 3] } 3 = true
      ∧ ready.rend.geo.period = ready.rend.geoStage.period ∧ served cfgStagedOp (req 0 []) ready = true
      ∧ served cfgDiscardOp (req 0 []) ready = true ∧ ready.msg.commit = none := by decide +kernel
theorem witness_RateChanges :
    served cfgRateOp (req 0 [3, 0]) ready = true ∧ served cfgRateOp (req 0 [6, 0]) ready = true ∧ served cfgRateOp (req 0 [3, 2]) ready = true
      ∧ served cfgRateOp (req 0 [3, 0]) (committing id) = true ∧ (committing id).msg.commit.isSome = true
      ∧ nerrisUp { ready with msg.ncp.rateChange := some { request := req 0 [3, 0], rate := 3, mclk512 := false, mute := 0 } } = true := by decide +kernel

/-- `ready` with a blank image in slot 0: no sections named, `cfg.save` allowed. -/
def imaged : State := { ready with
  hw.flash := [(12, 0#8), (13, 0#8)], sys.spring.saveKey := some 0 }
def slotWriting : SlotWrite := { opcode := 0x0103, request := req 0 [], slot := 1, generation := 2, image := [] }
/-- The minimal responder in recovery. -/
def recovering : State := { ready with sys.boot.step := .recovery }
/-- The clauses whose image or signature must verify rest on Config's opaque verification and have no closed witness. -/
theorem witness_ImagesAndRecovery :
    served sysImageOp (req 0 []) ready = true ∧ served cfgSaveOp (req 0 []) imaged = true ∧ imaged.sys.spring.slot = some 0
      ∧ imaged.sys.spring.cryptoErr = false ∧ imaged.sys.spring.selftesting = none ∧ imaged.sys.slotWrite = none ∧ allowSave imaged = true
      ∧ overlayOffset (imgHeader (slotReader imaged 0)) + (overlayContents imaged).length + 48 ≤ commitSector
      ∧ (overlayMac imaged (overlayContents imaged) (headerDigest (slotReader imaged 0))).isSome = true
      ∧ served cfgImageInstallOp (req 0 (List.replicate 16 0)) imaged = true ∧ slotWriting.opcode ≠ 5
      ∧ ({ imaged with sys.slotWrite := some slotWriting }).sys.slotWrite = some slotWriting
      ∧ responderUp recovering = true ∧ fieldLE (List.replicate 8 (0 : Byte)) 0 4 = recovering.sys.spring.stagedBytes
      ∧ (byteAt (List.replicate 8 0) 4).testBit 0 = false ∧ fieldLE [1, 0, 0, 0] 0 4 ≠ recovering.sys.spring.stagedBytes
      ∧ responderUp { ready with sys.boot.step := .stopped } = true ∧ fullMailbox (req 0 []) recovering = none
      ∧ (let full := setIn 2 { getIn recovering 2 with st := .full, owner := 1, words := [(0, 0x07#32), (1, 7#32)] } recovering
         fullMailbox (req 0 []) full = some 2 ∧ winWord (getIn full 2).words 0 % 65536 = 7) := by decide +kernel
theorem witness_StartUp :
    let at_ := fun b => { ready with sys.boot.step := b }
    ((usedGroups (at_ .rails)).all (railUp (at_ .rails))) = true ∧ lifecycleFault (senseFuses (at_ .rails)) = false
      ∧ lifecycle (at_ .image) ≠ 3 ∧ chooseSlot (at_ .image) = none ∧ (at_ .dram).hw.dram.st ≠ 2
      ∧ (at_ .ponds).sys.boot.cause ≠ .fatal ∧ (at_ .ponds).member.dies.filter (powered (at_ .ponds)) ≠ []
      ∧ imaged.sys.spring.slot = some 0 ∧ (readImage imaged 0).isSome = true
      ∧ (max 0x10 0x11 ≤ min 0x20 0x18) ∧ (min 0x10 0x20 < max 0x11 0x10)
      ∧ ready.member.links[15]? = some (4, 7) ∧ powered ready 4 = true ∧ powered ready 7 = true ∧ (dueLinks ready).contains 15 = true
      ∧ (getLink (setLink (at_ .links) 15 (link0 15)) 15).state ≠ 1 ∧ (getLink ready 0).state = 1 ∧ (getLink ready 0).retraining = false
      ∧ ready.member.links[0]? = some (0, 2) := by decide +kernel
theorem witness_Rails :
    let up := { ready with sys.ao.target := 0x3F#6 }
    nextDrop ready = some 1 ∧ nextDrop { up with sys.ao.enables := 0x03#6 } = none
      ∧ nextRaise { up with sys.ao.enables := 0x03#6 } = some 4
      ∧ ({ up with sys.ao.inRange := 0#6 }).sys.ao.enables.getLsbD 5 = true ∧ ({ up with sys.ao.inRange := 0#6 }).sys.ao.inRange.getLsbD 5 = false
      ∧ (0 ≠ 1 - up.sys.red.active) ∧ State.reset.sys.ao.enables = 0 ∧ railUp ready 1 = true ∧ (1 = 1 - ready.sys.red.active)
      ∧ ready.sys.red.hubUp = true ∧ railUp ready 2 = true ∧ ready.sys.spring.blowing = none := by decide +kernel
theorem witness_Resets :
    ready.sys.ao.vdd = true ∧ ready.sys.spring.blowing = none ∧ ready.sys.slotWrite = none ∧ powered ready 7 = true
      ∧ (warmClear ready).sys.boot.safe = false ∧ (warmClear ready).sys.ao.power = .run ∧ isOutlet 6 = true ∧ isTarn 5 = true
      ∧ (let s := setTile 5 { getTile ready 5 with inReset := true, ticking := true } ready
         (getTile s 5).inReset = true ∧ (getTile s 5).ticking = true) ∧ (getTile ready 5).ticking = false := by decide +kernel
/-- `ready` with the timeline of Tarn 3 running at k = 4800, and an object on its slice 4. -/
def tiled : State :=
  let s := setTile 3 { getTile ready 3 with ticking := true, index := 4800, ownIndex := 4801, missing := 64 } ready
  { s with rend.objs := [(5, newObj s 4 0)] }
theorem witness_MarkersAndDeadlines :
    ready.member.tarnDies.contains 3 = true ∧ powered tiled 3 = true ∧ (getTile tiled 3).inReset = false ∧ (getTile tiled 3).ticking = true
      ∧ (getWarden tiled 3).declared = false ∧ (getTile tiled 3).holdover = false ∧ 64 ≤ (getTile tiled 3).missing
      ∧ (getObj tiled 5).isSome = true ∧ sliceDie 4 = 3 ∧ isChannel ready.member 509 = true ∧ homeTile ready.member 509 = 3
      ∧ ready.member.tarnDies.contains 2 = true ∧ (4800 < (getTile tiled 3).ownIndex) := by decide +kernel
theorem witness_PowerStates :
    let sleeping := { ready with sys.ao.power := .deepStandby, sys.ao.wakeEn := 0x13#5 }
    served pwrStateOp (req 0 [0, 0, 0, 0, 31, 0, 0, 0]) ready = true ∧ served pwrStateOp (req 0 [5, 0, 0, 0, 0, 0, 0, 0]) ready = true
      ∧ served pwrStateOp (req 0 [4, 0, 0, 0, 32, 0, 0, 0]) ready = true ∧ served pwrStateOp (req 0 [4, 0, 0, 0, 4, 0, 0, 0]) ready = true
      ∧ ready.msg.commit = none ∧ ready.sys.slotWrite = none ∧ ready.sys.red.check = none ∧ ready.sys.red.proving = none
      ∧ (answered (req 0 []) 0x0F00 [] ready).sys.ao.power = .run
      ∧ served pwrStateOp (req 0 [0, 0, 0, 0, 31, 0, 0, 0]) { ready with sys.ao.power := .idle } = true
      ∧ served pwrAlarmOp (req 0 [0, 0, 0, 0]) ready = true ∧ served pwrAlarmOp (req 0 [1, 0, 0, 0]) ready = true
      ∧ sleeping.sys.ao.wakeEn.getLsbD 4 = true ∧ wakeActs 4 sleeping.sys.ao.power = true ∧ sleeping.sys.ao.changing = false
      ∧ powered ready 7 = true ∧ nerrisUp ready = true ∧ mapGet (fun _ => 0) ready.sys.warned 7 = 0 := by decide +kernel
theorem witness_AttestationAndDebug :
    served secAttestOp (req 0 (List.replicate 16 1)) ready = true ∧ served secAttestOp (req 0 (List.replicate 64 1)) ready = true
      ∧ served secAttestOp (req 0 (List.replicate 65 1)) ready = true ∧ ready.sys.spring.cryptoErr = false ∧ ready.sys.spring.selftesting = none
      ∧ ready.sys.spring.attesting = none ∧ served secSelftestOp (req 0 []) ready = true ∧ ready.sys.boot.step = .ready
      ∧ served secDebugChallengeOp (req 0 []) ready = true ∧ served secDebugUnlockOp (req 0 (List.replicate 256 0)) ready = true
      ∧ tokenGood ready (List.replicate 256 0) = false ∧ lifecycle ready ≠ 2 ∧ ready.sys.spring.challenge = none := by decide +kernel
/-- A good token, where the owner's key stands in the fuses and the signature of the token verifies. -/
theorem witness_AttestationAndDebug_token (s : State) (p : List Byte)
    (life : lifecycle s = 2) (part : namesPart s p 16 = true) (fresh : s.sys.spring.challenge = some (BitVec.ofNat 256 (fieldBE p 32 32)))
    (epoch : debugEpoch s ≤ byteAt p 1) (owner : ownerSigned s (byteAt p 0) p 64 = true) : tokenGood s p = true := by
  simp [tokenGood, life, part, fresh, epoch, owner]
theorem witness_Fuses :
    served secProvisionOp (req 0 (List.replicate 176 1)) ready = true ∧ lifecycle ready = 0 ∧ ready.sys.spring.blowing = none
      ∧ ({ ready with sys.spring.attestKey := some 0 }).sys.spring.attestKey = some 0
      ∧ served secLifecycleOp (req 0 (List.replicate 224 2)) ready = true
      ∧ served secKeyRevokeOp (req 0 (List.replicate 224 0)) ready = true ∧ byteAt (List.replicate 224 0) 1 ≠ 1 - byteAt (List.replicate 224 0) 0
      ∧ served secDebugEpochOp (req 0 (List.replicate 224 0)) ready = true ∧ debugEpoch ready < 64
      ∧ namesPart ready (List.replicate 224 2) 16 = false ∧ (0#8192 &&& flagFuses 3) = 0 ∧ (flagFuses 3 &&& flagFuses 3) ≠ 0
      ∧ partReady ready = true ∧ ready.sys.spring.rollbackDue = false := by decide +kernel
theorem witness_Ticks :
    rendering ready = true ∧ nerrisUp ready = true ∧ rendering { ready with time.rendering := false } = false
      ∧ ready.member.tarnDies.contains 3 = true ∧ powered tiled 3 = true ∧ (getTile tiled 3).ticking = true ∧ (getTile tiled 3).inReset = false := by decide +kernel

/-- `ready` with route 9 from TDM input 0.0 to line output 31, and route 10 staged to the last object input. -/
def routed : State :=
  let r : Route := { src := 0x10000000, dst := 0x5000001F, gain := 0, invert := false, fade := 64, staged := false }
  { ready with
    route.routes := [(9, r), (10, { r with dst := 0x300007FF, staged := true }), (11, r)]
    route.dsts := [(0x5000001F, { dst0 0x5000001F with route := some 9 })] }
/-- The destination of `routed` within a crossfade of two samples. -/
def crossing (at_ : Nat) (p : Option (Option Nat × Nat)) : State :=
  setDst 0x5000001F { getDst routed 0x5000001F with fading := true, old := some 11, fadeN := 2, fadeAt := at_, pending := p } routed
def ring (capture : Bool) (device : Nat) (block : List (Nat × Int)) : State :=
  { ready with route.rings := [(15, { capture := capture, channels := 1, length := 256, offset := 0x1000, start := 4800, device := device
                                      fill := 0, block := block })] }
theorem witness_Routes :
    let set := fun (src dst fade flags : Nat) => req 0 (bytesLE 4 src ++ bytesLE 4 dst ++ bytesLE 2 3072 ++ bytesLE 2 fade ++ bytesLE 4 flags)
    let cfg := fun (n dir ch : Nat) => req 0 (bytesLE 1 n ++ bytesLE 1 dir ++ bytesLE 2 ch ++ bytesLE 4 256 ++ bytesLE 8 0 ++ bytesLE 8 5056)
    served routeSetOp (set 0x10000000 0x5000001F 1024 0) ready = true ∧ isSource ready.member 0x12000800 = false
      ∧ isSource ready.member 0x121007FF = false ∧ isSource ready.member 0x120007FF = true ∧ isDestination ready.member 0x50000020 = false
      ∧ isDestination ready.member 0x5000001F = true ∧ isIngress 0x120007FF = true ∧ stageLocked ready 0x5000001F = false
      ∧ mapFree routed.route.routes 4096 = some 0 ∧ mapFind ready.route.stage 0x5000001F = none
      ∧ served routeClearOp (req 0 (bytesLE 2 9 ++ bytesLE 2 1024 ++ bytesLE 4 0)) routed = true ∧ getRoute routed 8 = none
      ∧ (getRoute routed 9).map (·.staged) = some false ∧ (getRoute routed 10).map (·.staged) = some true ∧ routed.msg.commit = none
      ∧ served routeGetOp (req 0 [9, 0]) routed = true ∧ served routeListOp (req 0 [0, 0]) routed = true
      ∧ served routeBasinCfgOp (cfg 15 1 0) ready = true ∧ served routeBasinCfgOp (cfg 15 1 64) ready = true
      ∧ served routeBasinCfgOp (cfg 16 0 1) ready = true ∧ 64 + 256 * 64 * 4 ≤ basinSize ready
      ∧ ringOverlaps ready 15 0 (64 + 256 * 64 * 4) = false ∧ dumpOverlaps ready 0 (64 + 256 * 64 * 4) = false
      ∧ dumpOverlaps ready (dumpOffset ready) (64 + 256 * 64 * 4) = true ∧ ringChannels ready true 15 + 64 ≤ 512 ∧ ready.time.index + 256 ≤ 5056 := by decide +kernel
/-- A part whose 4,096 route handles are all in use. -/
def routesTo (n : Nat) : AMap Route :=
  (List.range n).map fun h => (h, { src := 0, dst := 0, gain := 0, invert := false, fade := 0, staged := true })
def withRoutes (m : AMap Route) : State := { ready with route.routes := m }
theorem withRoutes_routes (m : AMap Route) : (withRoutes m).route.routes = m := rfl
theorem mapHas_of_mem {α : Type} (m : AMap α) (e : Nat × α) (h : e ∈ m) : mapHas m e.1 = true := by
  induction m with
  | nil => simp at h
  | cons x rest ih =>
    obtain ⟨j, a⟩ := x
    by_cases hj : j = e.1
    · simp [mapHas, mapFind, hj]
    · rcases List.mem_cons.mp h with rfl | h
      · exact absurd rfl hj
      · simpa [mapHas, mapFind, hj] using ih h
theorem mapFree_range {α : Type} (a : α) (n : Nat) : mapFree ((List.range n).map fun h => (h, a)) n = none := by
  simp only [mapFree, List.find?_eq_none, List.mem_range]
  intro k hk
  simp [mapHas_of_mem ((List.range n).map fun h => (h, a)) (k, a) (List.mem_map.mpr ⟨k, List.mem_range.mpr hk, rfl⟩)]
theorem mapFree_routesTo (n : Nat) : mapFree (routesTo n) n = none := mapFree_range _ n
theorem witness_Routes_full :
    mapFree (withRoutes (routesTo 4096)).route.routes 4096 = none ∧ stageLocked (withRoutes (routesTo 4096)) 0x5000001F = false
      ∧ served routeSetOp (req 0 (bytesLE 4 0x10000000 ++ bytesLE 4 0x5000001F ++ bytesLE 8 0)) (withRoutes (routesTo 4096)) = true :=
  ⟨by rw [withRoutes_routes]; exact mapFree_routesTo 4096, by decide +kernel, by decide +kernel⟩
theorem witness_Routes_changes :
    let d := fun (s : State) => getDst s 0x5000001F
    (d routed).fading = false ∧ routed.time.rendering = true ∧ (d ready).route = none
      ∧ (d (crossing 0 none)).fading = true ∧ (d (crossing 0 none)).pending = none ∧ (d (crossing 0 (some (some 7, 3)))).pending = some (some 7, 3)
      ∧ (d (crossing 2 none)).fadeN ≤ (d (crossing 2 none)).fadeAt ∧ (d (crossing 2 none)).old = some 11
      ∧ (getRoute routed 9).isSome = true ∧ (getRoute routed 11).isSome = true ∧ (d (crossing 1 none)).fadeAt < (d (crossing 1 none)).fadeN
      ∧ roundDiv (5 * gainQ 0 * 1) (2 ^ 20) = 5 ∧ 2 ^ 31 ≤ roundDiv ((2 ^ 31 - 1) * gainQ 3072 * 1) (2 ^ 20)
      ∧ roundDiv (-2 ^ 31 * gainQ 3072 * 1) (2 ^ 20) < -2 ^ 31 ∧ roundDiv (5 * (2 - 1 - 1 : Nat) + 5 * (1 + 1 : Nat)) 2 = 5
      ∧ isSource ready.member 0x10000000 = true ∧ isIngress 0x10000000 = true ∧ nerrisUp routed = true ∧ isObjectInput 0x5000001F = false
      ∧ (d routed).route = some 9 ∧ (mapFind routed.route.dsts 0x5000001F).isSome = true := by decide +kernel
theorem witness_Routes_rings :
    mapFind ready.route.rings 15 = none ∧ (mapFind (ring false 4864 []).route.rings 15).map (·.capture) = some false
      ∧ (mapFind (ring true 4800 []).route.rings 15).map (·.capture) = some true ∧ (ring false 4928 []).time.rendering = true
      ∧ (mapFind (ring false 4928 []).route.rings 15).map (·.next 4800) = some (4800 + 128) ∧ (4800 + 63) * 64 / 64 = 4800 + 63
      ∧ 4800 * 64 / 64 = 4800 ∧ (mapFind (ring true 4800 [(4800 * 64, 0), (4863 * 64, 1)]).route.rings 15).map (·.device) = some 4800
      ∧ nerrisUp ready = true := by decide +kernel
theorem witness_RegistersAndMemory :
    let cc := Master.controlCluster
    powered ready (masterDie ready cc) = true ∧ mapHas ready.hw.opens (masterKey cc) = false
      ∧ placeOf ready 0 (dieAddr 0xE 0x2000FC) = .reg 0 0x2000FC ∧ permitted ready cc (.reg 0 0x2000FC) true = true
      ∧ storedMask ready 0 0x200000 = some (0x3FFFFFF7, false) ∧ mayStore cc 0 0x200000 = true
      ∧ storedMask ready 0 0x220400 = some (0xFFFFFFFF, true) ∧ isSealed { ready with sys.spring.sealedDies := [0] } 0 = true
      ∧ permitted ready .testEngine (.reg 3 0x400000) true = false ∧ placeOf ready 0 (dieAddr 3 0x400000) = .reg 3 0x400000
      ∧ placeOf { ready with sys.ao.inRange := 0x03#6 } 0 (dieAddr 3 0) = .dead ∧ placeOf ready 0 (dieAddr 9 0) = .nothing
      ∧ placeOf ready 0 (pondAddr 0 63 0xFFFC) = .pond 0 63 0xFFFC ∧ permitted ready cc (.pond 0 63 0xFFFC) true = true
      ∧ ownsBank ready cc 0 63 = true ∧ (getBank ready 0 63).pwr = 0 ∧ placeOf ready 0 (codeAddr 31 0 + 0xFFFC) = .code 31 0xFFFC
      ∧ permitted ready cc (.code 31 0xFFFC) true = true ∧ placeOf ready 0 (dieAddr 0 dramBase) = .dram 0
      ∧ permitted ready cc (.dram 0) true = true ∧ ready.hw.dram.st = 1 := by decide +kernel
theorem witness_RegistersAndMemory_messages :
    let slot := setCore 20 { getCore ready 20 with slots := [(5, { xslot0 5 with bound := true, tag := 0x80 })] } ready
    let range := fun (a n : Nat) => bytesLE 8 a ++ bytesLE 2 n ++ List.replicate 10 0
    placeOf ready 0 (dieAddr 0xE 0x15000) = .reg 0 0x15000 ∧ placeOf slot 0 (dieAddr (coreDie 20) (0x500700 + 20 % 16 * 0x1000)) =
        .reg (coreDie 20) (0x500700 + 20 % 16 * 0x1000)
      ∧ permitted slot .controlCluster (.reg 3 0x504700) true = true ∧ (mapGet xslot0 (getCore slot 20).slots 5).bound = true
      ∧ 0x8005 / 256 % 256 = (mapGet xslot0 (getCore slot 20).slots 5).tag ∧ 0x8105 / 256 % 256 ≠ (mapGet xslot0 (getCore slot 20).slots 5).tag
      ∧ served memReadOp (req 0 (range (pondAddr 0 63 0) 1000)) ready = true ∧ (memRefused ready (pondAddr 0 63 0) 1000 false).isNone = true
      ∧ served memReadOp (req 0 (range 0 1001)) ready = true ∧ served memWriteOp (req 0 (range (pondAddr 0 63 0) 4)) ready = true
      ∧ (memRefused ready (pondAddr 0 63 0) 4 true).isNone = true
      ∧ (busWrite .controlCluster (pondAddr 0 63 0) 4 0 ready).bus.error = false
      ∧ (busWrite .controlCluster (dieAddr 0 dramBase) 4 0 { ready with hw.dram.st := 0 }).bus.error = true
      ∧ served memBasinReadOp (req 0 (range 0 1000)) ready = true ∧ 0 + 1000 ≤ basinSize ready
      ∧ served memBasinWriteOp (req 0 (range 0 4)) ready = true ∧ served memBasinMapOp (req 0 (range 0 0)) ready = true
      ∧ 0 + 0x1000_0000 ≤ basinSize ready ∧ served memBasinMapOp (req 0 (range 0x80000 0)) ready = true
      ∧ served memBasinInfoOp (req 0 []) ready = true ∧ referencePlace 0x0402 = some 4
      ∧ (([{ dest := 1, seq := 7, opcode := 0x0402 }] : List Outstanding).find? fun o => o.dest == destKey (req 0 []) && o.seq == 7).isSome = true
      ∧ refLength (req 0 []).payload 4 ≤ 0x200_0000 := by decide +kernel
/-- `ready` with inbound mailbox 3 in a state, owned by sender 0x0001, its second word giving a payload length. -/
def boxed (st : MbxState) (len : Nat) : State :=
  setIn 3 { getIn ready 3 with st := st, owner := 1, allow := 7#3, words := [(0, 2#32), (1, BitVec.ofNat 32 (len * 65536)), (2, 0#32)] } ready
theorem witness_Mailboxes_in :
    shoreUp ready = true ∧ senderId .pcie = some 1 ∧ senderId (.ripple 63) = some 0x13F ∧ allowed (getIn (boxed .empty 0) 3).allow 1 = true
      ∧ allowed (getIn (boxed .empty 0) 3).allow 0x13F = true ∧ allowed 0#3 0x8000 = false
      ∧ (getIn (boxed .empty 0) 3).abortMark = none ∧ (getIn (boxed .empty 0) 3).dropMark = false ∧ (getIn (boxed .filling 1008) 3).st = .filling
      ∧ (getIn (boxed .filling 1008) 3).owner = 1 ∧ winWord (getIn (boxed .filling 1008) 3).words 1 / 65536 = 1008
      ∧ winWord (getIn (boxed .filling 1009) 3).words 1 / 65536 = 1009 ∧ (getIn (boxed .full 0) 3).st = .full ∧ nerrisUp (boxed .full 0) = true
      ∧ knownOp 0x0002 = true ∧ (req 0 []).version ≤ negotiated ready (req 0 []) ∧ opVersion 0x0002 ≤ 0x32 ∧ mayRequest 1 0x0002 [] = true
      ∧ outstandingOf ready 1 < outstandingLimit 1 ∧ knownOp 0x0001 = false
      ∧ outstandingLimit 1 ≤ outstandingOf { ready with msg.ncp.outstanding := List.replicate 16 { dest := 1, seq := 0, opcode := 2 } } 1 := by
  decide +kernel
/-- `ready` with a response for sender 0x0001 in its queue. -/
def answeredOnce : State := setDest 1 { getDest ready 1 with queue := [{ event := false, seq := 7, opcode := 2, bytes := List.replicate 16 0 }] } ready
/-- `ready` with NCP over UDP on port 6000 and session 3 open. -/
def managed : State :=
  { ready with msg.ncp.mgmt := { Mgmt.off with port := some 6000 }
               msg.ncp.sessions := [(3, { addr := 5, port := 9, nonce := 0, lastIn := 7, nextOut := 1, lastValid := 0 })] }
theorem witness_Mailboxes_out :
    let se := managed.msg.ncp.sessions
    nerrisUp answeredOnce = true ∧ answeredOnce.msg.ncp.suspended = false ∧ (getDest answeredOnce 1).queue ≠ [] ∧ (getDest ready 1).queue = []
      ∧ ((List.range 4).find? fun n => allowed (getOut answeredOnce n).allow 1).isSome = true ∧ (getOut answeredOnce 0).full = false
      ∧ (getOut (setOut 3 { getOut ready 3 with full := true, dest := 1 } ready) 3).full = true
      ∧ managed.msg.ncp.mgmt.port = some 6000 ∧ sessionOf managed 5 8 = none ∧ sessionOf managed 5 9 = some 3 ∧ mapFree se 4 = some 0
      ∧ (List.replicate 16 (0 : Byte)).length = 16 + fieldLE (List.replicate 16 0) 6 2 ∧ bit (byteAt (List.replicate 16 0) 2) 3 = false
      ∧ bit (byteAt [0, 1, 8] 2) 3 = true ∧ fieldLE [2, 0, 8] 0 2 = 2 ∧ managed.sys.spring.cryptoErr = false
      ∧ mapHas se 3 = true := by decide +kernel
theorem witness_DoorbellsAndLocks :
    let rung := { ready with msg.mbx.dblNerris := 0xFFFFFFFF#32 }
    let vec := fun (m : Bool) => { ready with msg.mbx.msixPba := 0x80000000#32, msg.mbx.msixFmask := m }
    let locked : State := { ready with msg.locks.owners := [(63, 1)] }
    shoreUp ready = true ∧ senderId .qspi = some 0x10 ∧ senderId .controlCluster = some 0x8000 ∧ powered ready (coreDie 63) = true ∧ 63 < ready.member.cores
      ∧ ready.msg.mbx.dblNerris.getLsbD 31 = false ∧ rung.msg.mbx.dblNerris.getLsbD 31 = true
      ∧ ({ ready with msg.mbx.pciTraining := true }).msg.mbx.pciTraining = true ∧ pinsDriven ready = false
      ∧ (vec false).msg.mbx.msixPba.getLsbD 31 = true ∧ (vec false).msg.mbx.msixFmask = false ∧ (vec true).msg.mbx.msixFmask = true
      ∧ msixCause (vec false) 31 = false ∧ reachesRegs ready .pcie 0 = true ∧ 63 < lockCount 0 ∧ 31 < lockCount 5 ∧ reachesRegs ready .controlCluster 5 = true
      ∧ mapGet (fun _ => 0) ready.msg.locks.owners 63 = 0 ∧ lockOwner locked 0 63 = 1
      ∧ (getLockErr ready 0).valid = false ∧ (getLockErr (lockFail 0 63 1 ready) 0).valid = true := by decide +kernel
theorem witness_PinInterfaces :
    let open_ := { ready with sys.spring.sealedDebug := 0xF#4 }
    aoAnswersQspi ready = false ∧ shoreUp ready = true
      ∧ aoAnswersQspi { ready with sys.ao.power := .deepStandby } = true ∧ ready.sys.ao.vdd = true
      ∧ (busWrite .qspi (0xE * 2 ^ 36 + 0x200000) 4 0 (busOk [] ready)).bus.status ≠ 0
      ∧ (busRead .qspi (0xE * 2 ^ 36 + 0x15000) 4 ready).bus.status = 0 ∧ (busRead .qspi (0xE * 2 ^ 36 + 0x200000) 4 ready).bus.status ≠ 0
      ∧ served diagTmuxOp (req 0 (bytesLE 1 15 ++ bytesLE 1 7 ++ bytesLE 2 4095)) ready = true ∧ (effectiveDebug ready).getLsbD 0 = false
      ∧ (effectiveDebug open_).getLsbD 0 = true ∧ ready.member.has 7 = true ∧ served diagTmuxOp (req 0 [15, 7, 255, 255]) open_ = true
      ∧ powered ready 0 = true ∧ (effectiveDebug ready).getLsbD 2 = false ∧ pinsDriven ready = false := by decide +kernel

/-- `ready` with TDM input 15 slaved at Fr, its port running, AES3 input 1 through its converter, and a mask waiting. -/
def ported (f : PortState → PortState) : State :=
  let t : TdmCfg := { slots := 32, width := 24, offset := 0, master := false, rate := 1, hiZ := false, mask := 0xFFFFFFFF }
  let s := { ready with
    route.tdm := [(15, t)], route.aes := [(1, { rate := 2, pro := true, valid := true, status := List.replicate 24 0 })]
    route.src := [(33, { enable := true, set := 0 }), (64, { enable := true, set := 1 })] }
  let run := fun (p : PortState) => f { p with st := 2, fade := 64, cls := 48000, block := 2 }
  setPort (portKey 0 0 15) (run (getPort s (portKey 0 0 15))) (setPort (portKey 1 0 1) (run (getPort s (portKey 1 0 1))) s)
theorem witness_Ports :
    let on := ported id
    let off := ported fun p => { p with st := 0 }
    isWatched on 0 15 0 = true ∧ isWatched on 1 1 0 = true ∧ (getPort on (portKey 0 0 15)).st = 2 ∧ 0 < (getPort on (portKey 0 0 15)).fade
      ∧ isWatched ready 0 15 0 = false ∧ isWatched on 2 0 0 = true ∧ nerrisUp on = true ∧ (getPort off (portKey 0 0 15)).st = 0
      ∧ clockMatches off 0 0 15 4800000 768 = true ∧ portMode off 0 0 15 < 2 ∧ clockMatches off 0 0 15 4800000 767 = false
      ∧ rateClass 4800000 = (getPort on (portKey 0 0 15)).cls ∧ rateClass 4410000 ≠ (getPort on (portKey 0 0 15)).cls
      ∧ (getSrc on 64).enable = true ∧ (getSrcState on 64).locked = false
      ∧ (getSrcState (setSrcState 64 { getSrcState on 64 with locked := true } on) 64).locked = true
      ∧ (mapFind on.route.tdm 15).map (·.slots) = some 32 ∧ (loadMask (getPort on (portKey 0 0 15))).errRun = 0
      ∧ 1 ≤ (loadMask (getPort (ported fun p => { p with errRun := 1 }) (portKey 0 0 15))).errRun ∧ portMode { on with time.mclk.ref := 2, time.mclk.tdmPort := 15 } 0 0 15 = 0
      ∧ portMode on 1 0 1 = 2 ∧ (getPort on (portKey 1 0 1)).block = 2 := by decide +kernel
theorem witness_Ports_messages :
    let tdm := fun (port dir slots : Nat) => req 0 ([port, dir, slots, 32, 31, 1, 5, 1].map (BitVec.ofNat 8) ++ bytesLE 4 0xFFFFFFFF)
    let aes := req 0 ([1, 1, 5, 3].map (BitVec.ofNat 8) ++ List.replicate 24 0)
    served portTdmCfgOp (tdm 15 1 8) ready = true ∧ 8 * 32 * rateHz 5 ≤ 50000000 ∧ sameFamily 5 ready.time.rate = true
      ∧ masterFrame (8 * 32) * rateHz 5 ≤ 50000000 ∧ served portTdmCfgOp (tdm 16 0 1) ready = true ∧ ready.member.tdmPorts = 16
      ∧ served portTdmCfgOp (tdm 15 1 33) ready = true ∧ served portTdmCfgOp (tdm 0 0 0) ready = true
      ∧ served portTdmMaskOp (req 0 ([15, 1, 0, 0] ++ bytesLE 4 1)) { ready with time.rendering := false } = true
      ∧ served portAesCfgOp aes ready = true ∧ served portWclkCfgOp (req 0 [3, 5]) ready = true ∧ served portWclkCfgOp (req 0 [3, 6]) ready = true
      ∧ served portSrcCfgOp (req 0 [1, 1, 1, 0, 1]) ready = true ∧ served portSrcCfgOp (req 0 [3, 0, 0, 0, 0]) ready = true
      ∧ served portStatusOp (req 0 [1, 1, 0]) ready = true ∧ served portStatusOp (req 0 [0, 1, 1]) ready = true := by decide +kernel
/-- `ready` with network port 3 up in mode 1, and fields of it set. -/
def linked (f : NetPort → NetPort) : State :=
  setNet 3 (f { getNet ready 3 with mode := 1, link := true, maxFrame := 9216, partner := 3, flags := 1 }) ready
def qframe (host : Bool) (cls : Nat) : QFrame :=
  { id := 8, bytes := List.replicate 60 1, cls := cls, at_ := 0, host := host, stamp := false, ptp := none, sec := 0, ns := 0, frac := 0, inPort := 3 }
theorem witness_Switch :
    let up := linked id
    let x := getNet up 3
    let aged := { up with net.macs := [(7, { port := 3, seen := 0 })] }
    shoreUp up = true ∧ x.link = true ∧ (getNet ready 3).link = false ∧ (getNet (linked fun y => { y with link := false }) 3).mode ≠ 0
      ∧ pinsDriven ready = false ∧ (getNet (linked fun y => { y with flags := 4 }) 3).flags.testBit 2 = true ∧ netCounter up 3 11 % 2 ^ 31 ≠ 2 ^ 31 - 1
      ∧ (getNet (linked fun y => { y with flags := 2 }) 3).flags.testBit 0 = false ∧ obeysPause x = true
      ∧ (0xFF : Nat).testBit 7 = true ∧ [0, 0, 0, 0, 0, 0, 0, 65535].getD 7 0 % 65536 ≠ 0
      ∧ (getNet (linked fun y => { y with xoff := true }) 3).xoff = true ∧ x.xoff = false ∧ (mapFind aged.net.macs 7).isSome = true ∧ swCfg aged ≠ 0
      ∧ swCfg { aged with hw.regs := [(0x350000, 0#32)] } = 0 ∧ ([qframe true 0].find? fun g => g.host && g.id == 8) = some (qframe true 0)
      ∧ mapFind up.msg.ncp.lastSent 0x60003 = none ∧ mapGet (fun _ => 0) x.lastErr 5 < netCounter (setCounter (0x4000 + 0x40 * 3 + 5) 1 up) 3 5
      ∧ ([6, 7, 8, 40, 41, 42, 43, 44, 45, 46, 47].all fun n => decide (netCounter up 3 n ≤ mapGet (fun _ => 0) x.lastErr n)) = true := by
  decide +kernel
theorem witness_Switch_frames :
    let frame := fun (n : Nat) (ok : Bool) => ({ bytes := List.replicate n 1, fcsOk := ok, codingOk := true } : Frame)
    let x := fun (f : NetPort → NetPort) => getNet (linked f) 3
    let queued := linked fun y => { y with hostQ := [qframe false 2] }
    frameFault (x id) (frame 59 true) = some 6 ∧ frameFault (x id) (frame 9213 true) = some 7 ∧ frameFault (x id) (frame 60 false) = some 5
      ∧ frameFault (x id) (frame 60 true) = none ∧ frameFault (x id) (frame 9212 true) = none ∧ wakesPart (linked id) 3 (frame 60 true).bytes = false
      ∧ (linked id).sys.ao.power ≠ .sleep ∧ (qframe true 0).host = true
      ∧ nextFrame (x fun y => { y with txQ := [qframe true 0], hostNext := [0] }) = some (qframe true 0)
      ∧ nextFrame (x id) = none ∧ (x fun y => { y with pauseEnd := some 1 }).pauseEnd.isSome = true
      ∧ (getNet queued 3).hostQ = [qframe false 2] ∧ ((List.range 3).all fun p => (getNet queued p).hostQ == []) = true
      ∧ classifyFrame queued 3 (qframe false 2).bytes = none
      ∧ classifyFrame queued 3 (List.replicate 12 1 ++ [0x88, 0xF7] ++ List.replicate 46 0) = some 2789
      ∧ freeSlots queued ((60 + 2047) / 2048) = some 0 ∧ (weirOffer 2 2789 0 64 3 (slotAddr queued 0) queued).2 = true := by decide +kernel
theorem witness_NetworkMessages :
    let cfg := fun (port mode part : Nat) => req 0 (bytesLE 1 port ++ bytesLE 1 mode ++ bytesLE 2 9216 ++ bytesLE 2 part ++ bytesLE 1 1 ++ bytesLE 1 0xFF)
    let two := { ready with member := .evr4 }
    served netPortCfgOp (cfg 3 4 1024) ready = true ∧ portSizes ready 3 1024 9216 1 = (1024, 9216) ∧ served netPortCfgOp (cfg 4 0 4) ready = true
      ∧ served netPortStatusOp (req 0 [3]) ready = true ∧ served netFilterSetOp (req 0 ([3, 1] ++ List.replicate 134 1)) ready = true
      ∧ served netFilterSetOp (req 0 ([3, 0, 15] ++ List.replicate 133 1)) two = true ∧ two.member ≠ .evr8
      ∧ ((slice ([3, 0, 15] ++ List.replicate 133 (1 : Byte)) 8 128).all (· == 0)) = false
      ∧ served netVlanCfgOp (req 0 ([3, 0] ++ bytesLE 2 4095 ++ List.replicate 8 7)) ready = true
      ∧ served netMgmtCfgOp (req 0 (0xFF :: List.replicate 63 0)) ready = true ∧ served netMgmtCfgOp (req 0 (4 :: List.replicate 63 0)) ready = true
      ∧ served netCountersReadOp (req 0 [3, 63, 1]) ready = true ∧ served netCountersReadOp (req 0 [3, 0, 64]) ready = true := by decide +kernel
def item (index flow : Nat) : WeirItem :=
  { index := index, flow := flow, kind := 0, len := 64, src := 0, data := 0, at_ := 1, flags := 0, sec := 0, ns := 0, frac := 0 }
theorem witness_WeirQueues :
    let waiting := setQueue 31 { items := [item 9 5], ready := [(5, 0)], bp := false } ready
    let urgent := setQueue 14 { items := [item 9 5], ready := [(5, 0)], bp := false } ready
    let busy : State := { ready with msg.weir.inService := [(16383, 5, 31)] }
    let full := setQueue 31 { items := List.replicate 256 (item 0 5), ready := [], bp := false } ready
    let cfg := fun (q limit reserve : Nat) => req 0 (bytesLE 1 q ++ bytesLE 1 7 ++ bytesLE 2 limit ++ bytesLE 2 reserve ++ bytesLE 2 10000)
    weirMayTake ready 31 = true ∧ weirMayTake full 31 = false ∧ weirNext waiting = some 31 ∧ ([item 9 5].find? fun i => i.flow == 5) = some (item 9 5)
      ∧ weirNext ready = none ∧ (getQueue urgent 14).ready ≠ [] ∧ weirPrio urgent 14 = 7 ∧ weirNext urgent = some 14
      ∧ (busy.msg.weir.inService.find? fun x => x.1 == 16383) = some (16383, 5, 31) ∧ weirOldest busy 5 = none
      ∧ weirOldest { waiting with msg.weir.inService := [(16383, 5, 30)] } 5 = some 31 ∧ weirAge ready ≠ 0
      ∧ weirAge (regPut (weirAgeAddr ready) 0 ready) = 0 ∧ waiting.msg.weir.promoted.contains 31 = false
      ∧ served weirCfgOp (cfg 31 16384 2047) ready = true ∧ (((List.range 32).filter (· ≠ 31)).map (weirReserve ready)).sum + 2047 ≤ 16384
      ∧ served weirCfgOp (cfg 32 1 0) ready = true := by decide +kernel
/-- `ready` with the PTP instance on port 3, and fields of it set. -/
def clocked (f : Ptp → Ptp) : State := setPtp (f { ready.time.ptp with mask := 8, domain := 127, pstate := 9, slavePort := 3, servo := 1 }) ready
theorem witness_Clocks :
    let ptp := fun (profile clock mask : Nat) => req 0 ([profile, 127, clock, 7, mask, 255, 255].map (BitVec.ofNat 8))
    let adj := fun (op : Nat) (v : Int) (ns : Nat) => req 0 (bytesLE 1 op ++ List.replicate 7 0 ++ bytesS 8 v ++ bytesLE 4 ns)
    let free := { ready with time.ptp.servo := 3 }
    let c := (clocked id).time.ptp
    served timePtpCfgOp (ptp 0 2 15) free = true ∧ served timePtpCfgOp (ptp 4 0 0) free = true ∧ maskCount 8 = 1 ∧ free.time.ptp.servo ≠ 1
      ∧ served timeAdjustOp (adj 0 27515278485 0) free = true ∧ served timeAdjustOp (adj 0 27460302904 0) free = true ∧ free.time.ptp.mask = 0
      ∧ served timeAdjustOp (adj 1 999999999 0) free = true ∧ (0 : Int) ≤ (free.time.ptp.sec * 1000000000 + free.time.ptp.ns : Nat) + 999999999
      ∧ served timeAdjustOp (adj 2 0 999999999) free = true ∧ served timeAdjustOp (adj 3 0 0) free = true ∧ (clocked id).time.ptp.gm = false
      ∧ served timeAdjustOp (adj 2 0 0) (clocked id) = true ∧ (clocked fun x => { x with gm := true }).time.ptp.gm = true
      ∧ served timeStatusOp (req 0 []) ready = true ∧ served timeMclkCfgOp (req 0 [3, 0, 1]) ready = true
      ∧ served timeMclkCfgOp (req 0 [0, 0, 1]) { ready with time.mclk.st := 0 } = true ∧ served timeMclkCfgOp (req 0 [4, 0, 1]) ready = true
      ∧ nerrisUp (clocked id) = true ∧ c.running = true ∧ c.mask.testBit 3 = true ∧ (clocked fun x => { x with p2p := true }).time.ptp.p2p = true
      ∧ c.pstate = 9 ∧ c.slavePort = 3 ∧ c.mask ≠ 0 ∧ (clocked fun x => { x with servo := 2, slaveOnly := true }).time.ptp.servo = 2
      ∧ sendsPtp c 3 1 = true ∧ sendsPtp { c with p2p := true } 3 2 = true ∧ sendsPtp { c with pstate := 6 } 3 3 = true
      ∧ (getNet (linked fun y => { y with tsq := [(65535, 1, 2, 3)] }) 3).tsq = [(65535, 1, 2, 3)]
      ∧ ({ ready with time.mclk.ref := 1 }).time.mclk.ref ≠ 3 ∧ ready.time.mclk.ref = 3 ∧ ({ ready with time.mclk.st := 2 }).time.mclk.st ≠ 1
      ∧ ({ ready with time.mclk.st := 1 }).time.mclk.st ≠ 2 ∧ State.reset.time.ptp.running = false := by decide +kernel

/-- The common layout of a stream: AES67 (kind 0), AVTP (1) or EOMS (2), 24 bit at 48 kHz with packets of 125 µs, to a group or not. -/
def streamBytes (kind channels fmt : Nat) (offsetNs : Nat) (top : Nat) : List Byte :=
  [kind, channels, fmt, 1].map (BitVec.ofNat 8) ++ bytesLE 4 125000 ++ bytesLE 4 offsetNs ++ bytesLE 2 0xFFFF ++ bytesLE 2 4094
    ++ (BitVec.ofNat 8 top :: List.replicate 15 1) ++ List.replicate 16 0 ++ bytesLE 2 5004 ++ [4, 98] ++ bytesLE 8 5
/-- `ready` with receive stream 127 and transmit stream 63 on one channel, and fields of them set. -/
def streamed (f : Stream → Stream) : State :=
  let x := { streamOf (streamBytes 0 1 24 2000000 0x0A) with po := 96, poNs := 2000000, addr := 5 }
  setRx 127 (f x) (setTx 63 (f x) ready)
def packet (ts n : Nat) : StreamPacket := { payloadType := 98, seq := 1, timestamp := ts, ssrc := 0, marker := false, payload := List.replicate n 1 }
theorem witness_Streams_messages :
    let add := fun (kind channels fmt ns top : Nat) => req 0 (streamBytes kind channels fmt ns top)
    let x := fun (rq : Request) => streamOf rq.payload
    let here := fun (dir h : Nat) => bytesLE 1 dir ++ [0] ++ bytesLE 2 h
    let top := add 0 64 32 2000000 0xE0
    let rx := { streamed id with net.rx := [(127, { streamOf (streamBytes 0 64 32 2000000 0xE0) with st := 1 })] }
    served streamRxAddOp top ready = true ∧ firstBad (streamChecks (x top)) = none ∧ (x top).kind ≠ 2
      ∧ (ready.net.rx.any fun e => streamKey e.2 == streamKey (x top)) = false ∧ (rx.net.rx.any fun e => streamKey e.2 == streamKey (x top)) = true
      ∧ served streamRxAddOp top rx = true ∧ (x top).group = 0xFFFF
      ∧ (offsetUsed 2000000 (x top).pkt 48000 (rateHz ready.time.rate)).2 = false ∧ mapFree ready.net.rx 128 = some 0
      ∧ ((usedRuns ready.net.rx).map (·.2)).sum + 64 ≤ 2048 ∧ freeRun (usedRuns rx.net.rx) 2048 64 = some 64 ∧ ipIsGroup 4 (x (add 0 1 16 2000000 0x0A)).addr.toNat = false
      ∧ firstBad (streamChecks (x (add 0 65 24 2000000 0))) = some 1 ∧ served streamRxAddOp (add 0 65 24 2000000 0) ready = true
      ∧ firstBad (streamChecks (x (add 3 1 24 2000000 0))) = some 0 ∧ served streamTxAddOp top ready = true
      ∧ ((List.range 4).all fun q => (getNet ready q).mode == 0 || decide (streamFrameSize (x top) ≤ (getNet ready q).maxFrame)) = true
      ∧ mapFree ready.net.tx 64 = some 0 ∧ ((usedRuns ready.net.tx).map (·.2)).sum + 64 ≤ 512 ∧ freeRun (usedRuns ready.net.tx) 512 64 = some 0
      ∧ (add 1 64 32 2000000 0x91).payload.length = 60 ∧ served streamTxAddOp (add 2 1 24 0 0) ready = true ∧ (x (add 2 1 24 0 0)).kind = 2
      ∧ (mapFind (streamed id).net.tx 63).map (·.removing) = some false ∧ (mapFind (streamed id).net.rx 127).isSome = true
      ∧ served streamRemoveOp (req 0 (here 1 63)) (streamed fun y => { y with fade := 64 }) = true
      ∧ served streamRemoveOp (req 0 (here 0 127)) { streamed id with time.rendering := false } = true
      ∧ served streamRemoveOp (req 0 (here 1 63)) (streamed fun y => { y with removing := true }) = true
      ∧ (mapFind (streamed fun y => { y with removing := true }).net.tx 63).map (·.removing) = some true
      ∧ served streamStatusOp (req 0 (here 0 127)) (streamed id) = true
      ∧ served streamOptsOp (req 0 (here 1 63 ++ bytesLE 4 9 ++ [8, 63, 7, 1, 0, 0, 0, 0])) (streamed id) = true
      ∧ byteAt (here 1 63 ++ bytesLE 4 9 ++ [8, 63, 7, 1, 0, 0, 0, 0]) 9 = 63
      ∧ served streamRemoveOp (req 0 (here 2 0)) ready = true := by decide +kernel
theorem witness_Streams_packets :
    let s := streamed id
    let x := fun (s : State) => (getRx s 127).map fun y => [y.kind, flag y.removing, y.st, y.missing, y.ptype, y.format / 8 * y.channels, y.pkt]
    let at_ := fun (s : State) (ts : Nat) => (getRx s 127).map fun y => packetPlace s y (packet ts 18)
    let lossy := streamed fun y => { y with st := 1, missing := 6, lastPkt := [[5]] }
    let held := streamed fun y => { y with buffer := [(4801, (true, [0]))] }
    let eoms := streamed fun y => { y with kind := 2 }
    let e := fun (n : Nat) (pt : Nat) => { packet 0 0 with payloadType := pt, payload := [0x10, 0, 0, 9] ++ List.replicate n 0xFF }
    nerrisUp s = true ∧ s.sys.ao.power = .run ∧ x s = some [0, 0, 0, 0, 98, 3, 6] ∧ x lossy = some [0, 0, 1, 6, 98, 3, 6]
      ∧ x eoms = some [2, 0, 0, 0, 98, 3, 6] ∧ (packet 0 37).payload.length % 3 ≠ 0 ∧ (packet 0 2).payload.length / 3 < 1
      ∧ 2 * 6 < (packet 0 39).payload.length / 3 ∧ (packet 0 36).payload.length / 3 = 2 * 6 ∧ (packet 0 3).payload.length / 3 = 1
      ∧ ({ packet 0 18 with payloadType := 97 }).payloadType ≠ 98 ∧ at_ s 4704 = some 4800 ∧ at_ s 4705 = some 4801 ∧ at_ s 4860 = some 4956
      ∧ (getRx s 127).map (fun y => streamPos s y s.time.index) = some 4800 ∧ (getRx s 127).map (sameRate s) = some true
      ∧ 4956 ≤ 4800 + (96 + 2 * 6 + (rateHz 1 + 999) / 1000) ∧ (getRx held 127).map (fun y => mapFind y.buffer 4801) = some (some (true, [0]))
      ∧ (getRx s 127).map (fun y => (mapFind y.buffer 4801).isNone) = some true
      ∧ getRx s 5 = none ∧ (getRx lossy 127).map (·.lastPkt == []) = some false ∧ (e 12 97).payloadType ≠ 98 ∧ (e 11 98).payload.length < 16
      ∧ 16 ≤ (e 12 98).payload.length ∧ (e 8188 98).payload.length ≤ 8192 ∧ byteAt (e 12 98).payload 0 / 16 = 1
      ∧ (eomsElements (e 12 98).payload (fieldBE (e 12 98).payload 2 2) 16).isNone = true
      ∧ (eomsElements (e 8188 98).payload (fieldBE (e 8188 98).payload 2 2) 16).isNone = true
      ∧ (byteAt (e 12 98).payload 1).testBit 0 = false ∧ (getTx s 63).map (fun y => ipIsGroup y.ipv y.addr.toNat) = some false := by decide +kernel

/-- `ready` with eight speakers active and staged and object 2047 on slot 127 of the last slice, with fields of it set. -/
def placed (f : Obj → Obj) : State :=
  let sp : SpkRec := { x := 65536, y := 0, z := 0, ax := -16384, ay := 0, az := 0, typ := 0, array := 0xFF, elem := 0, group := 0, gain := 0, delay := 0, model := 0xFFFF }
  let t := { ready.rend.geo.table with recs := List.replicate 8 sp }
  let s := { ready with rend.geo.table := t, rend.geoStage.table := t }
  setObj 2047 (f { newObj s 15 1 with slot := 127, bornAt := 0 }) s
def forObj (p : List Byte) : Request := req 2047 p
theorem witness_Objects_messages :
    let s := placed id
    let up := fun (op : NcpOp) (p : List Byte) => served op (forObj p) s
    let alloc := fun (sl mode : Nat) => forObj (bytesLE 1 sl ++ bytesLE 1 mode ++ [0, 0])
    let crowded := { s with rend.objs := (List.range 128).map fun k => (k, { newObj ready 15 1 with slot := k }) }
    let t := bytesLE 8 (4800 + 2 ^ 31)
    let pos := t ++ bytesS 4 (-5) ++ bytesS 4 7 ++ bytesS 4 9 ++ [1, 0, 0, 0]
    let cfg := t ++ [1, 3] ++ bytesS 2 6144 ++ [1, 7] ++ bytesLE 2 9000 ++ bytesLE 4 4194303 ++ bytesLE 4 1 ++ bytesLE 4 65536 ++ [16, 0] ++ bytesLE 2 4096
      ++ List.replicate 12 1
    let full := placed fun o => { o with pend := List.replicate 8 Update.empty }
    let eoms := setRx 127 { streamOf (streamBytes 2 0 0 0 0) with kind := 2 } s
    served objAllocOp (alloc 15 3) ready = true ∧ getObj ready 2047 = none ∧ 15 < ready.member.slices ∧ refusesObject ready 15 = 0
      ∧ (chooseSlice ready).isSome = true ∧ served objAllocOp (alloc 0xFF 3) ready = true
      ∧ getObj crowded 2046 = none ∧ refusesObject crowded 15 ≠ 0 ∧ served objAllocOp (req 2046 [15, 0, 0, 0]) crowded = true
      ∧ served objAllocOp (alloc 15 4) ready = true ∧ up objFreeOp [] = true ∧ (activeObj s 2047).isSome = true ∧ s.time.rendering = true
      ∧ served objFreeOp (forObj []) { s with time.rendering := false } = true ∧ served objFreeOp (forObj []) ready = true ∧ activeObj ready 2047 = none
      ∧ fieldLE t 0 8 ≤ s.time.index + 2 ^ 31 ∧ (activeObj s 2047).map (·.pend.length) = some 0 ∧ up objPosOp pos = true
      ∧ up objGainOp (t ++ [1, 1] ++ bytesS 2 6144 ++ [0, 0, 0, 0]) = true ∧ fieldS (t ++ [1, 1] ++ bytesS 2 6144) 10 2 ≤ 6144
      ∧ up objCfgOp cfg = true ∧ byteAt cfg 9 = 3 ∧ fieldS cfg 10 2 = 6144 ∧ byteAt cfg 12 = 1 ∧ fieldLE cfg 16 4 = 4194303 ∧ byteAt cfg 28 = 16
      ∧ fieldLE cfg 30 2 = 4096 ∧ up objPosBatchOp (t ++ [1, 0, 1, 0, 0, 0, 0, 0, 0xFF, 7] ++ List.replicate 14 1) = true
      ∧ served objPosOp (forObj pos) full = true ∧ (activeObj full 2047).map (·.pend.length) = some 8 ∧ up objGetOp [] = true
      ∧ up objSliceCfgOp [0, 1] = true ∧ sliceCount s 0 = 0 ∧ up objSliceCfgOp [15, 1] = true ∧ sliceCount s 15 ≠ 0 ∧ up objSliceStatusOp [15] = true
      ∧ up objBedMapOp ([16, 0, 0, 0] ++ List.replicate 64 0) = true ∧ gainEntryRefusal s ([16, 0, 0, 0] ++ List.replicate 64 0) 16 = none
      ∧ up objZoneWeightsOp ([32, 0, 0, 0] ++ List.replicate 128 0) = true
      ∧ (gainEntryRefusal s ([32, 0, 0, 0] ++ List.replicate 128 0) 32).isNone = true
      ∧ up objUpdateCfgOp [64] = true ∧ up objUpdateCfgOp [65] = true
      ∧ served objEomsCfgOp (req 0 (bytesLE 2 127 ++ bytesLE 2 2047 ++ bytesLE 2 2048 ++ [3, 0])) eoms = true
      ∧ (mapFind eoms.net.rx 127).map (·.kind) = some 2 := by decide +kernel
theorem witness_Objects_events :
    let s := placed id
    let freed := placed fun o => { o with freeing := some 4864 }
    let moving := { (placed fun o => { o with newSlot := some 3 }) with rend.slices := [(15, { slice0 15 with migrating := some (2047, 4800) })] }
    (getObj ready 2047).isNone = true ∧ (getObj { s with time.rendering := false } 2047).isSome = true ∧ (getObj s 2047).isSome = true ∧ s.time.rendering = true
      ∧ s.time.index + periodAt s (boundaryFrom s 4848) + 16 ≤ boundaryFrom s 4848 ∧ 0 < periodAt s 4800
      ∧ 15 < s.member.slices ∧ powered s (sliceDie 15) = true ∧ 4832 % periodAt s 4832 = 0 ∧ (getSlice s 15).boundary < 4832
      ∧ ((getSlice s 15).windows.all fun w => decide (w.boundary < 4832)) = true ∧ 0 ≤ (getSlice s 15).boundary
      ∧ (getObj freed 2047).map (·.freeing.isSome) = some true ∧ (getObj s 2047).map (·.freeing.isSome) = some false
      ∧ (getSlice moving 15).migrating = some (2047, 4800) ∧ (getObj moving 2047).map (·.newSlot) = some (some 3)
      ∧ (getSlice s 15).migrating = none := by decide +kernel

/-- A Basin reference to the start of Basin, and `ready`, or another state, with the bytes there. -/
def reference (d : List Byte) : List Byte := bytesLE 8 0 ++ bytesLE 4 d.length ++ bytesLE 4 (crc32 d).toNat
def basin (d : List Byte) (s : State) : State := { s with hw.mem := memPuts s.hw.mem (basinStart s) d }
/-- A speaker's record 1 m ahead, FULL, without a model. -/
def speakerBytes (x : Int) (typ array : Nat) : List Byte :=
  bytesS 4 x ++ List.replicate 14 0 ++ bytesLE 1 typ ++ bytesLE 1 array ++ List.replicate 12 0 ++ bytesLE 2 0xFFFF ++ List.replicate 30 0
theorem witness_SpeakersAndWindows :
    let d := speakerBytes 65536 0 0xFF
    let load := fun (n : Nat) (d : List Byte) => req 0 (bytesLE 2 n ++ [0, 32] ++ bytesLE 2 18000 ++ bytesLE 2 18000 ++ reference d)
    let s := placed id
    let table := fun (r : SpkRec) => buildTable [r] false 32 18000 18000 8 ready
    let near := spkRecAt (speakerBytes 0 0 0xFF) 0
    let elem := spkRecAt (speakerBytes 65536 2 31) 0
    let far := { s with rend.slices := [(15, { slice0 15 with
      boundary := 4832, pairs := [(2047, [(7, pair0 (target0 0))])]
      windows := [{ boundary := 4864, records := [], computed := true, targets := [] }] })] }
    served spkTableLoadOp (load 513 []) ready = true ∧ ready.member.speakers < 513 ∧ served spkTableLoadOp (load 1 d) (basin d ready) = true
      ∧ 1 ≤ ready.member.speakers ∧ refLength (load 1 d).payload 8 = 64 * 1 ∧ (fetchReference (load 1 d) 8 (basin d ready)).toBool = true
      ∧ (table (spkRecAt d 0)).toBool = true ∧ (spkRecAt d 0).limited = spkRecAt d 0 ∧ (table near).toBool = false ∧ near.tooClose = true
      ∧ (match table near with | .error r => !r.deferred && r.code != codeOk && r.code != codeClamped | .ok _ => false) = true
      ∧ [elem, elem].any SpkRec.tooClose = false ∧ doubleElement [elem, elem] = true ∧ doubleElement [elem] = false
      ∧ (spkRecAt (speakerBytes 65536 2 32) 0).typed = false ∧ served spkSetOp (req 7 d) s = true ∧ 7 < s.rend.geoStage.table.recs.length
      ∧ (buildTable (s.rend.geoStage.table.recs.set 7 (spkRecAt d 0)) false 0 6000 9000 0 s).toBool = true
      ∧ s.rend.geoStage.table.recs.length ≤ 8 ∧ served spkSetOp (req 8 d) s = true ∧ served spkGetOp (req 7 [1]) s = true
      ∧ (s.rend.geo.table.recs[7]?).isSome = true ∧ served spkEnvCfgOp (req 0 (bytesLE 2 3800 ++ bytesLE 2 500)) s = true
      ∧ served spkEnvCfgOp (req 0 (bytesLE 2 3000 ++ bytesLE 2 0)) s = true ∧ served spkMeshGetOp (req 0 [1, 0, 0, 0]) s = true
      ∧ served spkPairGetOp (req 7 (bytesLE 2 2047)) far = true ∧ (activeObj far 2047).map (·.slice) = some 15
      ∧ (mapFind (mapGet (fun _ => ([] : AMap Pair)) (getSlice far 15).pairs 2047) 7).isSome = true ∧ 15 < far.member.slices
      ∧ (getSlice far 15).windows.length = 1 ∧ ((getSlice far 15).windows.all (·.computed)) = true ∧ powered far (sliceDie 15) = true
      ∧ (getSlice far 15).boundary < 4833 ∧ 4832 ≤ (getSlice far 15).boundary ∧ ((getSlice far 15).windows.any fun w => w.boundary == 4864) = true := by
  decide +kernel
theorem witness_ChainMessages :
    let s := placed id
    let cfg := fun (flow flags n : Nat) => req flow (bytesLE 1 flags ++ bytesLE 1 n ++ List.replicate 14 0)
    let sos := fun (a1 a2 : Int) => [24, 23, 1, 0] ++ bytesS 4 (2 ^ 28) ++ bytesS 4 0 ++ bytesS 4 0 ++ bytesS 4 a1 ++ bytesS 4 a2
    let fir := req 255 (bytesLE 2 1 ++ [0, 0] ++ reference [1, 0, 0, 0])
    let prot := fun (n : Nat) (t : Int) (r m : Nat) => req 543 (bytesLE 1 7 ++ bytesLE 1 n ++ bytesS 2 t ++ bytesLE 2 r ++ bytesLE 2 m ++ [0, 0, 0, 0])
    let model := fun (i : Nat) => bytesLE 2 i ++ [0, 0] ++ bytesLE 4 6000 ++ bytesLE 4 7000 ++ bytesLE 4 20000 ++ bytesLE 4 1000 ++ bytesLE 4 1 ++ bytesLE 4 5000
      ++ List.replicate 20 1
    let x := chanSet s true 255
    served chainCfgOp (cfg 255 31 0) s = true ∧ 255 < s.member.speakers ∧ granulesFit s s.rend.geoStage.table (mapSet s.chain.stage 255 x) = true
      ∧ served chainCfgOp (cfg 544 0 0) s = true ∧ isChannel s.member 544 = false ∧ served chainCfgOp (cfg 543 2 2) s = true ∧ isChannel s.member 543 = true
      ∧ bit (byteAt (cfg 543 2 2).payload 0) 1 = true ∧ served chainSosStageOp (req 255 (sos (2 ^ 28 - 1) 0)) s = true
      ∧ (sectionAt (sos (2 ^ 28 - 1) 0) 0).stable = true ∧ (sectionAt (sos (2 ^ 28) 0) 0).stable = false ∧ (sectionAt (sos 0 (2 ^ 28)) 0).stable = false
      ∧ sosFit s 255 { x with sos := mapSet x.sos 23 (sectionAt (sos (2 ^ 28 - 1) 0) 0) } 24 = 24 ∧ 4 + 20 * 1 ≤ (sos 0 0).length
      ∧ served chainFirStageOp fir (basin [1, 0, 0, 0] s) = true ∧ refLength fir.payload 4 = 4 * 1 ∧ 1 ≤ firMax (rateHz s.time.rate)
      ∧ (fetchReference fir 4 (basin [1, 0, 0, 0] s)).toBool = true
      ∧ tileFir s (mapSet s.chain.stage 255 { x with fir := List.replicate 2048 1 }) (homeTile s.member 255) ≤ 14400000000
      ∧ served chainProtCfgOp (prot 64 6144 5000 1000) s = true ∧ served chainProtCfgOp (prot 0 (-12288) 1 500) s = true
      ∧ served chainModelOp (req 0 (model 511)) s = true ∧ (modelAt (model 511)).xmax = 5000 ∧ 8 * (modelAt (model 511)).fs ≤ fxOf (rateHz s.time.rate)
      ∧ served chainModelOp (req 0 (model 512)) s = true ∧ served chainGetOp (req 543 [1]) s = true ∧ served chainGetOp (req 255 [0]) s = true
      ∧ served chainStatusOp (req 543 []) s = true ∧ isBus 512 = true ∧ isBus 511 = false ∧ served chainBudgetOp (req 0 [5]) s = true
      ∧ s.member.tarnDies.contains 5 = true ∧ served chainBudgetOp (req 0 [1]) s = true ∧ s.member.tarnDies.contains 1 = false := by decide +kernel

theorem witness_PondsAndDram :
    let table := { ready with hw.regs := [(pndBase 5 + 0x400, 0xFFE04F00#32)] }
    let cur := fun (v : Word) (s : State) => (v.toNat % 256, v.toNat / 256 % 4, (getBank s 5 255).owner, (getBank s 5 255).pwr)
    let key : Nat × Nat × Nat × Nat := (1, 15, 3, masterNumber .pcie)
    let cfg := fun (d b : Nat) => req 0 [BitVec.ofNat 8 d, BitVec.ofNat 8 b]
    hasBank table 5 255 = true ∧ powered table 5 = true ∧ cur 0x4F#32 table = (0x4F, 0, 0, 0) ∧ (0x4F#32).getLsbD 10 = false
      ∧ (getBank (writeOwner 5 255 0x4F table) 5 255).pwr = 0 ∧ mayHand table 5 255 0x4F = true ∧ mayHand ready 5 255 0x4F = false
      ∧ cur 0x200#32 table = (0, 2, 0, 0) ∧ (0x200#32).getLsbD 10 = false ∧ (getBank ready 5 0).owner ≠ 0 ∧ (getBank ready 5 0).pwr = 0
      ∧ (256 + (getBank ready 5 0).owner) / 256 % 4 = 1 ∧ hasBank ready 0 63 = true ∧ powered ready 0 = true ∧ ready.member.has 0 = true ∧ (getBank ready 0 63).pwr = 0
      ∧ isShore 0 = true ∧ isTarn 0 = false ∧ served diagPondStatusOp (cfg 5 255) ready = true ∧ bankCount 5 ≠ 0
      ∧ served diagPondStatusOp (cfg 9 0) ready = true ∧ ready.member.has 9 = false
      ∧ mapFind ({ ready with hw.opens := [(masterKey .pcie, (5, true))] }).hw.opens (masterKey .pcie) = some (5, true)
      ∧ mapFind ready.hw.opens (masterKey .pcie) = none ∧ (dramOffset ready (dieAddr 0 (dramBase + dramSize ready - 1))).isSome = true
      ∧ (dramOffset ready (dieAddr 0 dramBase)).isSome = true ∧ (activeShore ready) = 0 ∧ ready.hw.dram.st = 1
      ∧ ({ ready with hw.dram.limited := [key] }).hw.dram.limited.contains key = true ∧ ready.hw.dram.limited.contains key = false := by decide +kernel
/-- The first bytes of a dump of 512 bytes, and `ready` with that dump in DRAM. -/
def dumpHead : List Byte := [0x45, 0x56, 0x44, 0x55, 0x4D, 0x50, 0, 1, 0, 2, 0, 0]
def dumped : State :=
  { ready with hw.mem := memPuts (memPuts ready.hw.mem (dumpStart ready) dumpHead) (dumpStart ready + 508) (bytesLE 4 2445887138) }
def zeros62 : List Byte := List.replicate 62 0
theorem dumped_crc : (crc32 (dumpHead ++ (zeros62 ++ (zeros62 ++ (zeros62 ++ (zeros62 ++ (zeros62 ++ (zeros62 ++ (zeros62 ++ zeros62))))))))).toNat = 2445887138 := by
  simp only [crc32, List.foldl_append]
  rw [show dumpHead.foldl crc32Step 0xFFFFFFFF#32 = 0xbcdc8ea1#32 from by decide +kernel,
    show zeros62.foldl crc32Step 0xbcdc8ea1#32 = 0x32c1bddb#32 from by decide +kernel,
    show zeros62.foldl crc32Step 0x32c1bddb#32 = 0x1e28277d#32 from by decide +kernel,
    show zeros62.foldl crc32Step 0x1e28277d#32 = 0x95a943fd#32 from by decide +kernel,
    show zeros62.foldl crc32Step 0x95a943fd#32 = 0xe673c0e2#32 from by decide +kernel,
    show zeros62.foldl crc32Step 0xe673c0e2#32 = 0x26e664b#32 from by decide +kernel,
    show zeros62.foldl crc32Step 0x26e664b#32 = 0x499f10b4#32 from by decide +kernel,
    show zeros62.foldl crc32Step 0x499f10b4#32 = 0xe5c6b747#32 from by decide +kernel,
    show zeros62.foldl crc32Step 0xe5c6b747#32 = 0x6e36b95d#32 from by decide +kernel]
  decide +kernel
theorem dumped_valid : dumpValid dumped (dumpStart dumped) = true := by
  have hb : readBytes dumped (dumpStart dumped) 512 = dumpHead ++ List.replicate 496 0 ++ bytesLE 4 2445887138 := by decide +kernel
  have ht : (dumpHead ++ List.replicate 496 0 ++ bytesLE 4 2445887138).take 508 =
      dumpHead ++ (zeros62 ++ (zeros62 ++ (zeros62 ++ (zeros62 ++ (zeros62 ++ (zeros62 ++ (zeros62 ++ zeros62))))))) := by decide +kernel
  simp only [dumpValid, hb, ht, dumped_crc]
  decide +kernel
theorem dumped_present : dumpPresent dumped = some (0, dumpStart dumped) := by
  have h : dramUsable dumped = true := by decide +kernel
  simp [dumpPresent, h, dumped_valid]
theorem witness_Dumps :
    let dumping := { ready with sys.fatal.dumping := some 0x304 }
    let read := fun (off n : Nat) => req 0 (bytesLE 4 off ++ bytesLE 2 n)
    let cnt := fun (n : Nat) => req 0 (bytesLE 2 0x0600 ++ bytesLE 2 n)
    ready.member.has 7 = true ∧ dumping.sys.fatal.restartDue = false ∧ failsOver dumping (bits 0x304 7 0) (bits 0x304 15 8) = false
      ∧ failsOver dumping (bits 0x104 7 0) (bits 0x104 15 8) = true ∧ ready.sys.fatal.dumping = none
      ∧ served diagDumpInfoOp (req 0 []) dumped = true ∧ served diagDumpReadOp (read 511 1) dumped = true ∧ served diagDumpReadOp (read 0 1000) dumped = true
      ∧ fieldLE (readBytes dumped (dumpStart dumped) 12) 8 4 = 511 + 1 ∧ served diagDumpReadOp (read 0 0) dumped = true
      ∧ served diagDumpReadOp (read 0 1001) dumped = true ∧ served diagDumpClearOp (req 0 []) dumped = true
      ∧ served diagCountersReadOp (cnt 125) ready = true ∧ ((List.range 16).all fun i => isCounter (0x5180 + i)) = true := by decide +kernel
theorem witness_Dumps_none : dumpPresent ready = none ∧ served diagDumpClearOp (req 0 []) ready = true := by decide +kernel
theorem witness_RippleMessages :
    let grant := fun (first n give : Nat) => req 0 ([63, first, n, give].map (BitVec.ofNat 8))
    let table := { ready with hw.regs := [(pndBase 5 + 0x400, 0xFFE04F00#32)] }
    let own := handBank 5 255 0x4F table
    let load := req 0 ([63, 1, 0, 0] ++ reference [1, 2, 3, 4])
    let looping := withCore 63 fun c => { c with rep := some 3 }
    let insert := fun (point core id : Nat) => req 0 (bytesLE 1 point ++ bytesLE 1 core ++ bytesLE 2 id)
    coreThere ready 63 = true ∧ inRepeat ready 63 = false ∧ served rplLoadOp load (basin [1, 2, 3, 4] ready) = true
      ∧ (fetchReference load 4 (basin [1, 2, 3, 4] ready)).toBool = true
      ∧ (match fetchReference load 4 (basin [1, 2, 3, 4] ready) with | .ok e => decide (e.1.length % 4 = 0 ∧ e.1.length ≤ 65536) | .error _ => false) = true
      ∧ served rplStartOp (req 0 [63]) ready = true ∧ served rplStopOp (req 0 [63]) ready = true ∧ served rplResetOp (req 0 [63]) ready = true
      ∧ served rplMeasureOp (req 0 [63]) ready = true ∧ inRepeat looping 63 = true ∧ served rplStartOp (req 0 [64]) ready = true
      ∧ coreThere ready 64 = false ∧ (getCore looping 63).st = .running ∧ served rplGrantOp (grant 255 1 0) table = true
      ∧ (getBank table 5 255).owner = 0 ∧ xferAllows table 5 255 (0x40 + 63 % 16) = true ∧ xferAllows table 5 224 (0x40 + 63 % 16) = true
      ∧ (getCore table 63).windows.length + 1 ≤ 8 ∧ ownerCode table.member 5 (0x40 + 63 % 16) = true
      ∧ served rplGrantOp (grant 255 1 1) own = true ∧ (getBank own 5 255).owner = 0x40 + 63 % 16 ∧ served rplGrantOp (grant 254 2 1) own = true
      ∧ (getBank own 5 254).owner ≠ 0x40 + 63 % 16 ∧ served rplGrantOp (grant 224 0 0) table = true
      ∧ served rplInsertOp (insert 2 0xFF 255) ready = true ∧ served rplInsertOp (insert 1 63 3) ready = true ∧ 255 < ready.member.speakers
      ∧ ready.member.cores = 64 ∧ insertDie ready (insertKey 1 3) = some (coreDie 63) ∧ mapFind (stagedInserts ready) (insertKey 1 3) = none
      ∧ freeInsertSlot ready 63 (insertKey 1 3) = some 0 ∧ insertDie ready (insertKey 1 0) ≠ some (coreDie 63)
      ∧ served rplInsertOp (insert 1 63 0) ready = true := by decide +kernel

/-- `ready` with Outlet 7 fed by its Tarn, and line output 31, sense channel 31 and power channel 31 with fields set. -/
def sounding (f : Amp → Amp) (g : Dac → Dac) (h : Sense → Sense) : State :=
  { ready with
    rend.tiles := [(4, { tile0 4 with ticking := true })]
    outs.dacs := [(31, g { dac0 31 with enable := true })]
    outs.senses := [(31, h { sense0 31 with vfs := 50000, ifs := 10000, loaded := true })]
    outs.amps := [(31, f { amp0 31 with mode := 1, cycleLim := 5, hardLim := 9, idle := 400 })] }
def driving (f : Amp → Amp) : State := sounding f id id
def outletSet (f : Outlet → Outlet) (s : State) : State := setOutlet 7 (f (getOutlet s 7)) s
theorem witness_LineOutputs :
    let s := driving id
    let hard := { s with outs.dacClr := true }
    let off := sounding id (fun d => { d with enable := false, pos := 64 }) id
    let cfg := fun (ch on rate : Nat) (clear : Int) => req 0 (bytesLE 1 ch ++ bytesLE 1 on ++ bytesLE 2 65535 ++ bytesLE 4 rate ++ bytesS 4 clear)
    let missed := fun (n : Nat) => outletSet (fun o => { o with noFeed := n }) s
    s.member.channels = 32 ∧ served outDacCfgOp (cfg 32 0 1 0) s = true ∧ served outDacCfgOp (cfg 31 0 0 0) s = true
      ∧ served outDacCfgOp (cfg 31 1 (8 * rateHz s.time.rate) 8388607) s = true ∧ served outDacCfgOp (cfg 31 0 1 (-8388608)) hard = true
      ∧ fieldS (cfg 31 0 1 (-8388608)).payload 8 4 = -8388608 ∧ s.outs.dacClr = false ∧ hard.outs.dacClr = true ∧ (getDac s 31).enable = true
      ∧ served outDacCfgOp (cfg 31 0 1 5) off = true ∧ (getDac off 31).enable = false ∧ (getDac off 31).clear ≠ 5 ∧ served outDacStatusOp (req 0 [31]) s = true
      ∧ (getDac off 31).pos ≠ 0 ∧ (getDac ready 31).enable = false ∧ (getDac ready 31).pos = 0 ∧ (getOutlet s (6 + 31 / 16)).loss = false
      ∧ (getOutlet s 7).hub = false ∧ s.member.outletDies ≠ [] ∧ outletWorks s 7 = true ∧ outletWorks s 5 = false ∧ feedComes s 7 = true
      ∧ s.sys.ao.power = .run ∧ (getAmp (driving fun a => { a with st := .running, mode := 0, fade := 2 }) 31).st = .running
      ∧ (getAmp (driving fun a => { a with st := .holding, fade := 62 }) 31).st = .holding ∧ (getAmp s 31).heat = false ∧ pinsDriven s = false
      ∧ s.sys.fatal.halted = false ∧ (getOutlet s 7).rate = false ∧ (getAmp s 31).resizing = false ∧ (getAmp s 31).st = .off
      ∧ (getOutlet (missed 3) 7).noFeed < 4 ∧ 4 ≤ (getOutlet (missed 4) 7).noFeed ∧ (getOutlet (missed 4) 7).loss = false := by decide +kernel
theorem witness_SenseAndAux :
    let s := driving id
    let with_ := fun (h : Sense → Sense) => sounding id id h
    let cfg := fun (ch n m : Nat) => req 0 (bytesLE 1 ch ++ bytesLE 1 n ++ bytesLE 2 m ++ [1, 0, 0, 0] ++ bytesLE 4 9 ++ bytesLE 4 9)
    let aux := fun (input m n : Nat) (low high : Int) => req 0 ([7, input].map (BitVec.ofNat 8) ++ bytesLE 2 m ++ bytesLE 1 n ++ [1, 0, 0] ++ bytesS 4 low ++ bytesS 4 high)
    served outSenseCfgOp (cfg 31 4 512) s = true ∧ served outSenseCfgOp (cfg 0 1 8) s = true ∧ served outSenseCfgOp (cfg 31 1 9) s = true
      ∧ ((List.range 17).all fun l => decide (9 ≠ 2 ^ l)) = true ∧ served outSenseCoefOp (req 0 ([31, 0, 0, 0] ++ List.replicate 124 1)) s = true
      ∧ served outSenseReadOp (req 0 [31]) s = true ∧ served outSenseReadOp (req 0 [32]) s = true ∧ served outAuxCfgOp (aux 15 512 4 0 0) s = true
      ∧ s.member.outletDies.contains 7 = true ∧ served outAuxCfgOp (aux 0 8 1 1 0) s = true ∧ served outAuxReadOp (req 0 [7]) s = true
      ∧ outletWorks s (channelDie 31) = true ∧ (getSense s 31).pending = false ∧ (getSense s 31).loaded = true ∧ (getSense s 31).restartDue = false
      ∧ (getSense (with_ fun x => { x with restartDue := true }) 31).restartDue = true ∧ (getSense (with_ fun x => { x with conceal := true }) 31).conceal = true
      ∧ (getSense (with_ fun x => { x with pending := true }) 31).pending = true ∧ (getAux s (auxKey 7 15)).enable = true ∧ outletWorks s 5 = false := by
  decide +kernel
/-- Auxiliary input 15 of Outlet 7 with limits and an episode of its own. -/
def measured (low high : Int) (limit : Bool) (inside : Nat) : State :=
  setAux (auxKey 7 15) { aux0 0 with low := low, high := high, limit := limit, inside := inside } ready
/-- Whatever unit a conversion has, limits exist that hold it and limits that do not. -/
theorem witness_SenseAndAux_limits :
    let v := auxValue 15 (satInt 24 0)
    let a := fun (low high : Int) (limit : Bool) (inside : Nat) => getAux (measured low high limit inside) (auxKey 7 15)
    ((a v v false 0).low ≤ v ∧ v ≤ (a v v false 0).high ∧ (a v v false 0).limit = false) ∧ v < (a (v + 1) v false 0).low
      ∧ ((a v v true 2).inside < 3 ∧ (a v v true 2).limit = true) ∧ 3 ≤ (a v v true 3).inside := by
  exact ⟨⟨Int.le_refl _, Int.le_refl _, rfl⟩, Int.lt_succ _, ⟨(by decide : 2 < 3), rfl⟩, Nat.le_refl 3⟩
theorem witness_PowerChannels :
    let at_ := fun (st : AmpState) => getAmp (driving fun a => { a with st := st }) 31
    let s := driving id
    let ext := outletSet (fun o => { o with syncExt := true }) s
    let clip := { s with msg.ncp.lastSent := [(0x7101F, 5)] }
    let kept := fun (n : Nat) => outletSet (fun o => { o with kept := List.replicate n { cls := 8, opcode := 0x0980, flow := 31, fields := [] } }) State.reset
    31 < s.member.channels ∧ outletWorks s (6 + 31 / 16) = true ∧ (at_ .starting).st = .starting ∧ pinsDriven s = false ∧ (at_ .startHold).st = .startHold
      ∧ (at_ .startHold).mode ≠ 2 ∧ (getAmp (driving fun a => { a with st := .startHold, mode := 2 }) 31).mode = 2 ∧ (getOutlet s 7).syncHz = 400000
      ∧ 600 * 666 ≤ 400000 ∧ 400000 ≤ 1050 * 381 ∧ 400000 < 600 * 667 ∧ 1050 * 380 < 400000 ∧ (getOutlet ext 7).syncExt = true
      ∧ (at_ .stopHold).st = .stopHold ∧ (at_ .stopHold).mode ≠ 0 ∧ (at_ .running).st.switching = true ∧ (at_ .off).st.switching = false
      ∧ (getAmp (driving fun a => { a with st := .holding, check := true, retries := 7 }) 31).check = true
      ∧ mapFind clip.msg.ncp.lastSent (0x71000 + 31) = some 5 ∧ clip.now < 5 + 156250000 ∧ mapFind s.msg.ncp.lastSent (0x71000 + 31) = none
      ∧ (getAmp (driving fun a => { a with st := .waiting, retryDue := true }) 31).retryDue = true ∧ (at_ .waiting).retryDue = false
      ∧ 499 < (at_ .holding).shortLim ∧ (at_ .holding).shortLim ≤ 500 ∧ nerrisUp s = true ∧ nerrisUp State.reset = false
      ∧ (getOutlet (kept 15) 7).kept.length < 16 ∧ 16 ≤ (getOutlet (kept 16) 7).kept.length := by decide +kernel
theorem witness_AmpMessages :
    let at_ := fun (st : AmpState) => driving fun a => { a with st := st }
    let cfg := fun (ch mode retry cyc hard : Nat) => req 0 (bytesLE 1 ch ++ bytesLE 1 mode ++ bytesLE 2 0 ++ bytesLE 4 retry ++ bytesLE 2 cyc ++ bytesLE 2 hard)
    let clear := fun (k : Nat) => req 0 (bytesLE 4 (2 ^ k))
    let pilot := fun (hz : Nat) (lvl : Int) (ms : Nat) => req 0 ([31, 1] ++ bytesLE 2 hz ++ bytesS 2 lvl ++ bytesLE 2 ms ++ List.replicate 12 1)
    let x := getSense (at_ .off) 31
    served ampCfgOp (cfg 32 0 0 5 9) (at_ .off) = true ∧ (getSense ready 31).ifs = 0 ∧ served ampCfgOp (cfg 31 1 0 5 9) ready = true
      ∧ served ampCfgOp (cfg 31 2 10000 8 8) (at_ .off) = true ∧ x.ifs ≠ 0 ∧ x.vfs ≠ 0 ∧ 10 * x.ifs ≤ 1000 * 100 ∧ 1000 * 9 ≤ 90 * x.ifs
      ∧ 20 * x.ifs ≤ 1000 * 9000 ∧ 10 * 8 ≤ 11 * 8 ∧ 11 * 8 < 10 * 9 ∧ served ampCfgOp (cfg 31 0 50 800 980) (at_ .running) = true
      ∧ 1000 * 800 ≤ 90 * x.ifs ∧ 10 * x.ifs ≤ 1000 * 800 ∧ 20 * x.ifs ≤ 1000 * 980 ∧ 1000 * 980 ≤ 98 * x.ifs ∧ 11 * 800 < 10 * 980
      ∧ served ampCfgOp (cfg 31 1 0 800 980) (at_ .off) = true ∧ (getAmp (at_ .startHold) 31).st = .startHold
      ∧ served ampClearOp (clear 31) (at_ .latched) = true ∧ served ampPilotCfgOp (pilot 40000 (-7680) 10000) (at_ .off) = true
      ∧ served ampPilotCfgOp (pilot 10 (-15360) 100) (at_ .off) = true ∧ fieldS (pilot 10 (-15360) 100).payload 4 2 = -15360
      ∧ served ampStatusOp (req 0 [31]) (at_ .waiting) = true ∧ served ampStatusOp (req 0 [32]) (at_ .off) = true := by decide +kernel
/-- A smaller member has fewer channels than `amp.clear` has bits. -/
theorem witness_AmpMessages_clear :
    let two := { ready with member := .evr4 }
    two.member.channels ≤ 31 ∧ served ampClearOp (req 0 (bytesLE 4 (2 ^ 31))) two = true := by decide +kernel
theorem witness_BoostControllers :
    let s := driving id
    let cfg := fun (g look margin slew low top : Nat) => req 0 (bytesLE 1 g ++ [0] ++ bytesLE 2 look ++ bytesLE 2 margin ++ bytesLE 2 slew ++ bytesLE 2 low ++ bytesLE 2 top)
    let guard := fun (mv ms : Nat) => req 0 ([7, 0] ++ bytesLE 2 mv ++ bytesLE 2 ms ++ List.replicate 14 1)
    let on := fun (f : Boost → Boost) => setBoost 7 (f { boost0 7 with lookUs := 4000, floor := 1, ceiling := 2 }) s
    let run := setAmp 31 { getAmp s 31 with st := .running } (on fun b => { b with floorDue := true })
    served ampBoostCfgOp (cfg 8 0 0 0 0 0) s = true ∧ s.member.boosts = 8 ∧ served ampBoostCfgOp (cfg 7 500 0 1 65000 64999) s = true
      ∧ served ampBoostCfgOp (cfg 7 500 0 1 0 4001) s = true ∧ 4000 < (4001 - 0 + 1 - 1) / 1 ∧ served ampBoostCfgOp (cfg 7 4000 10000 1000 0 65000) s = true
      ∧ (65000 - 0 + 1000 - 1) / 1000 ≤ 4000 ∧ (getBoost s 7).delay 48000 = 0 ∧ (getBoost (on id) 7).delay 48000 = 192
      ∧ served ampBoostCfgOp (cfg 7 500 0 1 0 0) s = true ∧ ({ getBoost s 7 with lookUs := 500, floor := 0, ceiling := 0 } : Boost).delay 48000 = 0
      ∧ served ampGuardCfgOp (guard 20000 1000) s = true ∧ served ampGuardCfgOp (guard 100 20) s = true ∧ outletWorks s (6 + 7 / 4) = true
      ∧ (getBoost (on id) 7).ceiling ≠ 0 ∧ (getBoost (on id) 7).outOfReg = false ∧ (getBoost (on fun b => { b with outOfReg := true }) 7).outOfReg = true
      ∧ (getBoost (on id) 7).ocStop = false ∧ (getBoost (on fun b => { b with ocStop := true }) 7).ocStop = true ∧ (getBoost (on id) 7).floor ≠ 2
      ∧ (getBoost run 7).floorDue = true ∧ ((List.range 4).all fun j => !(getAmp (on id) (4 * 7 + j)).st.switching) = true
      ∧ (getAmp run (4 * 7 + 3)).st.switching = true ∧ (getBoost (on id) 7).floorDue = false := by decide +kernel
theorem witness_GuardsAndReferences :
    let s := driving fun a => { a with st := .running, mode := 2, pilotOn := true }
    let sync := fun (die : Nat) (hz : Nat) => req 0 (bytesLE 1 die ++ [0, 0, 0] ++ bytesLE 4 hz)
    let ext := outletSet (fun o => { o with syncExt := true }) s
    let dc := driving fun a => { a with st := .running, dcN := 5, dcTotal := 10, dcSum := 5 * 2 ^ 23 }
    let z := fun (vre ire : Int) => (pilotZ 50000 10000 vre 0 ire 0).1
    served ampSyncCfgOp (sync 7 500000) s = true ∧ served ampSyncCfgOp (sync 5 300000) s = true ∧ s.member.outletDies.contains 5 = false
      ∧ s.member.outletDies.contains 7 = true ∧ outletWorks ext 7 = true ∧ (getOutlet ext 7).syncExt = true ∧ (getOutlet s 7).syncExt = false
      ∧ (getAmp ext 31).mode = 2 ∧ (getAmp ext 31).st.switching = true ∧ 300000 < 600 * (getAmp (driving fun a => { a with idle := 501 }) 31).idle
      ∧ outletWorks s (6 + 31 / 16) = true ∧ (getAmp dc 31).dcN ≠ 0 ∧ (getAmp dc 31).dcTotal ≤ 2 * (getAmp dc 31).dcN
      ∧ (getBoost dc (31 / 4)).dcMv * 2 ^ 23 * (getAmp dc 31).dcN < (getAmp dc 31).dcSum.natAbs * (getSense dc 31).vfs ∧ (getAmp s 31).dcN = 0
      ∧ (getAmp s 31).pilotOn = true ∧ (getAmp s 31).pilotBad = false ∧ (getAmp (driving fun a => { a with pilotBad := true }) 31).pilotBad = true
      ∧ (getAmp s 31).refMeas.length < 8 ∧ (getAmp s 31).shortLim ≤ z 8388607 8388607 ∧ z 8388607 8388607 ≤ (getAmp s 31).openLim
      ∧ (getAmp s 31).openLim < z 1 838 ∧ z 1 838 = 0xFFFFFFFF ∧ z 100 8388607 < (getAmp s 31).shortLim ∧ (getAmp s 31).inOpen = false
      ∧ mapFind s.msg.ncp.lastSent (0x72000 + 31) = none ∧ (getAmp ready 31).pilotOn = false := by decide +kernel

/-- `ready` with its redundancy group in a state. -/
def grouped (f : Red → Red) : State := { ready with sys.red := f ready.sys.red }
def gap : State := grouped fun r => { r with hubUp := false, standbyState := 2, declared := some (0, 1) }
theorem witness_LockstepAndRestart :
    let fenced := fun (n : Nat) => { ready with sys.lockstep := { fenced := some 2, duplex := false, fences := List.replicate n (2, 0) } }
    let due := { ready with sys.fatal.restartDue := true }
    nerrisUp ready = true ∧ ready.sys.lockstep.fenced = none ∧ (fenced 2).sys.lockstep.fenced ≠ none ∧ nerrisUp State.reset = false
      ∧ (fenced 2).sys.lockstep.duplex = false ∧ ((fenced 2).sys.lockstep.fences.filter fun e => e.1 == 2 && decide ((fenced 2).now < e.2 + 86400 * 156250000)).length < 3
      ∧ 3 ≤ ((fenced 3).sys.lockstep.fences.filter fun e => e.1 == 2 && decide ((fenced 3).now < e.2 + 86400 * 156250000)).length
      ∧ ready.sys.fatal.restartDue = false ∧ due.sys.fatal.restartDue = true ∧ due.sys.fatal.dumping = none ∧ due.sys.spring.blowing = none
      ∧ due.sys.slotWrite.isNone = true := by decide +kernel
theorem witness_HubFailure :
    let held := fun (v : BitVec 4) => grouped fun r => { r with wardens := [(5, { warden0 5 with votes := v })] }
    let told := grouped fun r => { r with hubUp := false, declared := some (0, 1) }
    ready.member = .evr8 ∧ nerrisUp ready = true ∧ isTarn 5 = true ∧ powered ready 5 = true ∧ linkUpBetween ready (activeShore ready) 5 = true
      ∧ powered { ready with sys.ao.inRange := 3 } 5 = false ∧ ({ ready with member := .evr4 }).member ≠ .evr8 ∧ wardenWorks ready 5 = true
      ∧ ready.sys.red.proving.isNone = true ∧ inGap ready = false ∧ 1000 ≤ 100 * wardenWindow ready 5 ∧ 100 * wardenWindow ready 5 < 1001
      ∧ votesHeld { getWarden (held 1) 5 with votes := 0x1#4 ||| 0x8#4 } < 3 ∧ 3 ≤ votesHeld { getWarden (held 3) 5 with votes := 0x3#4 ||| 0x8#4 }
      ∧ mayDeclare ready = true ∧ mayDeclare (grouped fun r => { r with standbyState := 3 }) = false ∧ votesHeld { getWarden (held 7) 5 with votes := 0x7#4 &&& ~~~0x4#4 } < 3
      ∧ wardenWorks ready 6 = false ∧ wardenWorks told 5 = true ∧ told.sys.red.hubUp = false ∧ mayDeclare told = true ∧ told.sys.red.declared = some (0, 1)
      ∧ ready.sys.red.declared = none ∧ inGap gap = true ∧ ready.sys.red.dumpHold = false ∧ (grouped fun r => { r with dumpHold := true }).sys.red.dumpHold = true := by
  decide +kernel
theorem witness_StandbyChecks :
    let two := { ready with member := .evr4 }
    let checking := fun (w : CheckFor) => grouped fun r => { r with check := some w, standbyState := 4 }
    let proving := { (grouped fun r => { r with proving := some (req 0 [1]) }) with rend.tiles := [(2, { tile0 2 with ticking := true, index := 4900 })] }
    served redStatusOp (req 0 []) ready = true ∧ served redCfgOp (req 0 [1]) two = true ∧ two.member ≠ .evr8 ∧ served redCfgOp (req 0 [50]) ready = true
      ∧ served redCfgOp (req 0 [1]) ready = true ∧ served redProveOp (req 0 [1]) two = true ∧ served redProveOp (req 0 [0]) ready = true
      ∧ served redProveOp (req 0 [1]) (checking .startup) = true ∧ served redProveOp (req 0 [1]) ready = true ∧ ready.sys.red.standbyState = 1
      ∧ served redProveOp (req 0 [1]) (grouped fun r => { r with standbyState := 3 }) = true ∧ ready.sys.red.check.isNone = true
      ∧ served redReadmitOp (req 0 []) ready = true ∧ served redReadmitOp (req 0 []) (checking .readmit) = true ∧ nerrisUp ready = true ∧ partReady ready = true
      ∧ ((grouped fun r => { r with check := some .startup }).sys.red.check.isSome && ready.sys.red.standbyState != 4) = true
      ∧ (checking .readmit).sys.red.standbyState = 4 ∧ (checking (.prove (req 0 [1]))).sys.red.check.isSome = true ∧ nerrisUp (checking .startup) = true
      ∧ proving.sys.red.proving.isSome = true ∧ timelineRuns proving = true ∧ ready.sys.red.proving.isNone = true := by decide +kernel
/-- An image's slot is bootable only where its signatures verify, which is opaque, so the takeover that goes through has no closed witness here. -/
theorem witness_JournalAndTakeover :
    let s := grouped fun r => { r with mirrors := [(4, { half := 0, pos := 5 })] }
    nerrisUp s = true ∧ partReady s = true ∧ s.member = .evr8 ∧ powered s 4 = true ∧ reaches s (activeShore s) 4 = true ∧ 0 < (getMirror s 4).pos
      ∧ (getMirror s 4).pos + (batchRecord { s with sys.red.journalSeq := s.sys.red.journalSeq + 1 }).length ≤ 0x80000
      ∧ nerrisUp State.reset = false ∧ partReady State.reset = false ∧ ready.sys.red.declared = none ∧ gap.sys.red.declared = some (0, 1)
      ∧ canTakeOver gap = true ∧ canTakeOver ready = false := by decide +kernel
theorem witness_AccessInGap :
    let tb := { (withCore 63 fun c => { c with far := 0xE000, ctrl := 0x10 }) with sys.red.hubUp := false }
    gap.sys.red.hubUp = false ∧ dieAddr 0xE 0xFFFFFFFFF / 2 ^ 36 = 0xE ∧ powered gap (masterDie gap .controlCluster) = true
      ∧ mapHas gap.hw.opens (masterKey .controlCluster) = false ∧ (0x80FFFFFC#32).toNat % 4 = 0 ∧ (0x80FFFFFC#32).toNat / 2 ^ 24 = 0x80
      ∧ (getCore tb 63).far.toNat / 2 ^ 12 = 0xE ∧ (getCore tb 63).ctrl.getLsbD 4 = true ∧ mapHas tb.hw.opens (masterKey (.ripple 63)) = false
      ∧ ((0xE000#16).toNat / 2 ^ 12 = 0xE ∧ (0#6).getLsbD 4 = false) := by decide +kernel
theorem witness_RippleDecodeEncode :
    rippleEncode (.andi 63 3 3 0xFF00) = some 0x2433FF00#32 ∧ rippleDecode 63 0x0100003F#32 = some (.repImm 63 63) := by decide +kernel
theorem witness_CoreInvariant :
    let s := withCore 63 fun c => { c with pc := 16383, stack := List.replicate 8 16383, ipc := 16383 }
    rippleEncode (.nop 63) ≠ none ∧ (match exec (.nop 63) s with | .next _ => true | _ => false) = true ∧ (getCore s 63).pc < 16384
      ∧ (getCore s 63).stack.length ≤ 8 ∧ ((getCore s 63).stack.all fun w => decide (w < 16384)) = true ∧ (getCore s 63).ipc < 16384
      ∧ s.cores.length = 1 ∧ (core0 0).pc < 16384 ∧ (core0 0).ipc < 16384 := by decide +kernel
theorem witness_MemoryCanonical :
    let write := Instr.memBasinWrite (req 0 (bytesLE 8 0 ++ [4, 0, 0, 0, 0, 0, 0, 0] ++ [1, 2, 3, 4]))
    let s := basin [9] ready
    Memory.wf s.hw.mem = true ∧ s.hw.mem.length = 1 ∧ (match exec write s with | .next t => t.hw.mem.length == 4 | _ => false) = true
      ∧ (match exec .journalBatch s with | .next _ => true | _ => false) = true
      ∧ (match exec (.dumpHoldEnd false) s with | .next _ => true | _ => false) = true := by decide +kernel

end Sys2Proof.Tests
end

section
/-! PROOFS. An access through die field 0xE while no Shore is active (R41): where it leads, what the bus answers, and what a core's far access makes of the answer. -/

namespace Sys2Proof.Machine

/-! ### The address -/

/-- In a fail-over gap die field 0xE leads to a die that does not answer, from every die (R41). -/
theorem placeOf_activeShoreField_hubDown (s : State) (own addr : Nat) (hub : s.sys.red.hubUp = false)
    (hf : addr / 2 ^ 36 % 16 = 0xE) : placeOf s own addr = .dead :=
  if_pos ⟨hf, by simp [hub]⟩

/-- The far window of a core leads where FAR says (R299, R300). -/
theorem Core.target_farWindow (c : Core) (a : Word) (ha : a.toNat % 4 = 0) (hw : a.toNat / 2 ^ 24 = 0x80) :
    c.target a = .far (c.far.toNat * 2 ^ 24 + a.toNat % 2 ^ 24) := by
  have hlow : 0x80000000 ≤ a.toNat := by omega
  have hhigh : a.toNat < 0x81000000 := by omega
  have hdata : ¬ a.toNat < 0x80000 := by omega
  have hblock : ¬ a.toNat < 0x101000 := by omega
  have hreg : ¬ a.toNat < 0x500000 := by omega
  simp [Core.target, ha, hlow, hhigh, hdata, hblock, hreg]

/-- The die field of a far address is the upper four bits of FAR (R300). -/
theorem farAddr_dieField (far : BitVec 16) (off : Nat) :
    (far.toNat * 2 ^ 24 + off % 2 ^ 24) / 2 ^ 36 % 16 = far.toNat / 2 ^ 12 := by
  have := far.isLt
  omega

/-! ### The answer of the bus -/

/-- A read of a die that does not answer is a bus error at once (R41, R42). -/
theorem busRead_of_dead (m : Master) (addr size : Nat) (s : State) (h : placeOf s (masterDie s m) addr = .dead) :
    busRead m addr size s = busErr s := by
  simp [busRead, h]

/-- So is a write, of every master but PCIe, whose writes are posted (R12, R500). -/
theorem busWrite_of_dead (m : Master) (addr size : Nat) (v : Word) (s : State)
    (h : placeOf s (masterDie s m) addr = .dead) (hm : m ≠ .pcie) : busWrite m addr size v s = busErr s := by
  simp [busWrite, h, posted, hm]

/-- REGISTER_WRITE of a powered master with no access open is a write on the bus. -/
theorem exec_registerWrite_eq_busWrite (m : Master) (addr size : Nat) (v : Word) (s : State)
    (hsize : size = 1 ∨ size = 2 ∨ size = 4) (hp : powered s (masterDie s m) = true)
    (ho : mapHas s.hw.opens (masterKey m) = false) :
    exec (.registerWrite m addr size v) s = .next (busWrite m (addr % 2 ^ 40) size v s) := by
  have hacc : accessSize size = true := by simpa [accessSize, or_assoc] using hsize
  change execRegisterWrite m addr size v s = _
  simp [execRegisterWrite, hacc, hp, ho]

/-! ### A core's far access -/

theorem loadWord_of_far (n x : Nat) (a : Word) (s : State) (h : (getCore s n).target a = .far x) :
    loadWord n a s = farDone n x s (busRead (.ripple n) x 4 s) := by
  simp [loadWord, h]

theorem storeWord_of_far (n x : Nat) (a v : Word) (s : State) (h : (getCore s n).target a = .far x) :
    storeWord n a v s = farDone n x s (busWrite (.ripple n) x 4 v s) := by
  simp [storeWord, h]

/-- The watchdog has nothing to end for a master with no access open. -/
theorem settleOpen_of_notOpen (m : Master) (s : State) (h : mapHas s.hw.opens (masterKey m) = false) :
    settleOpen m s = s := by
  have hnone : mapFind s.hw.opens (masterKey m) = none := by simpa [mapHas] using h
  simp [settleOpen, hnone]

/-- A far access that meets a bus error leaves the state as it was: with TB it is a trap, else it gives 0 and the error (R300). -/
theorem farDone_busErr (n addr : Nat) (s : State) (h : mapHas s.hw.opens (masterKey (.ripple n)) = false) :
    farDone n addr s (busErr s) =
      if (getCore s n).ctrl.getLsbD 4 then (.trap 3 true, s)
      else (.done 0 (accessCycles n (if ownDie n addr then 20 else 80) s) true false, s) := by
  have hopens : (busErr s).hw.opens = s.hw.opens := rfl
  have herr : (busErr s).bus.error = true := rfl
  have hback : { busErr s with bus := s.bus } = s := rfl
  have hsettle : settleOpen (.ripple n) (busErr s) = busErr s := settleOpen_of_notOpen _ _ h
  simp [farDone, hsettle, hopens, herr, hback, h]

/-- Settles O54: die field 0xE leads to a dead place from every die, which the bus answers with an error, and a far access leaves no other trace of that answer. -/
theorem accessInGap : Obligations.AccessInGap := by
  intro m n addr size a v s hub
  refine ⟨fun hf hsize hm hp ho => ?write, fun hf => ?read, fun ha hw hfar ho => ?far⟩
  case write =>
    have hdead := placeOf_activeShoreField_hubDown s (masterDie s m) (addr % 2 ^ 40) hub (by omega)
    rw [exec_registerWrite_eq_busWrite m addr size v s hsize hp ho, busWrite_of_dead m _ size v s hdead hm]
    rfl
  case read =>
    have hdead := placeOf_activeShoreField_hubDown s (masterDie s m) addr hub (by omega)
    exact busRead_of_dead m addr size s hdead
  case far =>
    have htarget := (getCore s n).target_farWindow a ha hw
    have hdead := placeOf_activeShoreField_hubDown s (masterDie s (.ripple n)) _ hub
      ((farAddr_dieField (getCore s n).far a.toNat).trans hfar)
    rw [loadWord_of_far n _ a s htarget, storeWord_of_far n _ a v s htarget, busRead_of_dead _ _ 4 s hdead,
      busWrite_of_dead _ _ 4 v s hdead nofun, farDone_busErr n _ s ho]
    constructor
    · intro htb
      rw [htb]
      exact ⟨_, rfl, rfl⟩
    · intro htb
      rw [htb]
      exact ⟨rfl, rfl⟩

end Sys2Proof.Machine
end

section
/-! PROOFS. The accumulators of a Ripple core (R304, R305): the rounding of EXT, the value that LDA joins, and what an accumulation that fits, pins or meets a pinned accumulator does. -/

namespace Sys2Proof.Machine

/-- An instruction on a core that issues acts on that core. -/
theorem issue_of_issues (n : Nat) (s : State) (f : Core → State → State) (h : issues s n = true) :
    issue n s f = f (getCore s n) s :=
  if_pos h

/-! ### Values -/

/-- LDA's operand: the signed high word above the unsigned low word. -/
theorem signExtend_append_eq_ofInt (x y : Word) :
    (x ++ y : BitVec 64).signExtend 72 = BitVec.ofInt 72 (x.toInt * 2 ^ 32 + y.toNat) := by
  have happend : (x ++ y : BitVec 64).toInt = x.toInt * 2 ^ 32 + y.toNat := by
    rw [BitVec.toInt_append, if_neg (by decide), Int.mul_comm]
  rw [← happend]
  rfl

/-- EXT rounds to nearest with ties towards +∞: for every shift, half a unit is added before the division (R305). -/
theorem accExt_eq_aluSat (v : BitVec 72) (sh : Nat) :
    accExt v sh = aluSat ((v.toInt * 2 + 2 ^ sh) / 2 ^ (sh + 1)) := by
  unfold accExt
  congr 1
  cases sh with
  | zero =>
    rw [if_pos rfl]
    omega
  | succ k =>
    rw [if_neg k.succ_ne_zero, Nat.add_sub_cancel, pow_succ (2 : Int) (k + 1), pow_succ (2 : Int) k, ← Int.add_mul]
    exact (Int.mul_ediv_mul_of_pos_left _ _ (by decide)).symm

/-- An exact result within 72 bits is kept (R304). -/
theorem accFit_of_inRange (r : Int) (hlo : -2 ^ 71 ≤ r) (hhi : r < 2 ^ 71) : accFit r = (BitVec.ofInt 72 r, false) := by
  rw [accFit, if_neg (Int.not_lt.mpr hlo), if_neg (Int.not_le.mpr hhi)]

/-- The end of the accumulator's range on the side of an exact result. -/
def pinValue (r : Int) : BitVec 72 := if r < 0 then BitVec.ofInt 72 (-2 ^ 71) else BitVec.ofInt 72 (2 ^ 71 - 1)

/-- An exact result beyond 72 bits pins at the end of the range on its side (R304). -/
theorem accFit_of_outOfRange (r : Int) (h : r < -2 ^ 71 ∨ 2 ^ 71 ≤ r) : accFit r = (pinValue r, true) := by
  rcases h with hlow | hhigh
  · have hneg : r < 0 := by omega
    rw [accFit, if_pos hlow, pinValue, if_pos hneg]
  · have hnotLow : ¬ r < -2 ^ 71 := by omega
    have hnonneg : ¬ r < 0 := by omega
    rw [accFit, if_neg hnotLow, if_pos hhigh, pinValue, if_neg hnonneg]

/-! ### Accumulation -/

/-- The core with accumulator `a` pinned by the exact result `r`: its value, the pin and PINa in STICKY (R304). -/
def Core.pin (c : Core) (a : Nat) (r : Int) : Core :=
  { c with acc := mapSet c.acc a (pinValue r), pinned := c.pinned ||| BitVec.ofNat 4 (2 ^ a)
           sticky := c.sticky ||| BitVec.ofNat 8 (2 ^ (1 + a)) }

section
variable (n a : Nat) (uses : List Use) (r : Int) (c : Core) (s : State)

/-- A pinned accumulator ignores the instruction. -/
theorem accumulate_of_pinned (hp : c.pinned.getLsbD a = true) :
    accumulate n a uses r c s = completes n uses 0 [(3, a)] c s :=
  if_pos hp

/-- A result within range is kept and nothing else changes. -/
theorem accumulate_of_inRange (hp : c.pinned.getLsbD a = false) (hlo : -2 ^ 71 ≤ r) (hhi : r < 2 ^ 71) :
    accumulate n a uses r c s =
      completes n uses 0 [(3, a)] { c with acc := mapSet c.acc a (BitVec.ofInt 72 r) } s := by
  simp [accumulate, hp, accFit_of_inRange r hlo hhi]

/-- A result out of range pins; with TPa set in CTRL the instruction then traps with cause 5. -/
theorem accumulate_of_outOfRange (hp : c.pinned.getLsbD a = false) (hr : r < -2 ^ 71 ∨ 2 ^ 71 ≤ r) :
    accumulate n a uses r c s =
      if c.ctrl.getLsbD a then trapCore n 5 0 (setCore n ((c.pin a r).spend uses 0 [(3, a)]) s)
      else completes n uses 0 [(3, a)] (c.pin a r) s := by
  simp [accumulate, hp, accFit_of_outOfRange r hr, Core.pin, Core.stick]

end

/-- The trap of a core is the trapped state. -/
theorem trapCore_eq_trapped (n cause code : Nat) (s : State) : trapCore n cause code s = trapped n cause code s := rfl

/-! ### The instructions -/

section
variable (n : Nat) (a b : Fin 4) (s : State) (h : issues s n = true)
include h

theorem exec_clra_of_issues : exec (.clra n a) s = .next (setAcc n a [] 0 (getCore s n) s) :=
  congrArg _ (issue_of_issues n s _ h)

theorem exec_lda_of_issues (dh dl : Fin 16) : exec (.lda n a dh dl) s =
    .next (setAcc n a [.otherD dh, .otherD dl]
      (((getCore s n).dreg dh ++ (getCore s n).dreg dl : BitVec 64).signExtend 72) (getCore s n) s) :=
  congrArg _ (issue_of_issues n s _ h)

theorem exec_ext_of_issues (dd : Fin 16) (sh : Fin 41) : exec (.ext n a dd sh) s =
    .next (aluInto n dd [.accRead a] [(1, dd.val)] (accExt ((getCore s n).accv a) sh) (getCore s n) s) :=
  congrArg _ (issue_of_issues n s _ h)

theorem exec_mova_of_issues (dd : Fin 16) (part : Fin 3) : exec (.mova n a dd part) s =
    .next (completes n [.accRead a] 0 [(1, dd.val)]
      ((getCore s n).setD dd (accPart ((getCore s n).accv a) part)) s) :=
  congrArg _ (issue_of_issues n s _ h)

theorem exec_adda_of_issues : exec (.adda n a b) s =
    .next (accumulate n a [] (((getCore s n).accv a).toInt + ((getCore s n).accv b).toInt) (getCore s n) s) :=
  congrArg _ (issue_of_issues n s _ h)

/-- MOVA copies the part of the accumulator that `accPart` names. -/
theorem mova_runsAs (dd : Fin 16) (part : Fin 3) :
    runsAs (.mova n a dd part) n s 0 fun p => { p with d := mapSet p.d dd (accPart (p.accv a) part) } :=
  runsAs_of _ n s 0 _ _ _ (exec_mova_of_issues n a s h dd part)

/-- EXT gives the rounded quotient, saturated, with V and SV (R305). -/
theorem ext_runsAs_withSat (dd : Fin 16) (sh : Fin 41) : runsAs (.ext n a dd sh) n s 0 fun p =>
    withSat p dd (((p.accv a).toInt * 2 + 2 ^ sh.val) / 2 ^ (sh.val + 1)) := by
  have hexec := exec_ext_of_issues n a s h dd sh
  rw [accExt_eq_aluSat] at hexec
  exact alu_sat _ n s dd _ _ _ _ hexec rfl

/-- An ADDA that pins under TPa completes and then traps with cause 5 (R304). -/
theorem adda_traps_of_outOfRange (hp : (getCore s n).pinned.getLsbD a = false) (r : Int)
    (hr : ((getCore s n).accv a).toInt + ((getCore s n).accv b).toInt = r) (hout : r < -2 ^ 71 ∨ 2 ^ 71 ≤ r)
    (htp : (getCore s n).ctrl.getLsbD a = true) :
    ∃ stall writes, stall ≤ 1 ∧ exec (.adda n a b) s = .next (trapped n 5 0 (setCore n
      { (getCore s n).pin a r with
        cycles := addCycles (getCore s n).cycles (1 + stall), busy := addCycles (getCore s n).busy (1 + stall)
        hazard := writes } s)) := by
  obtain ⟨stall, hstall, hspend⟩ := spend_eq [] 0 [(3, a.val)] ((getCore s n).pin a r)
  refine ⟨stall, [(3, a.val)], hstall, ?_⟩
  rw [exec_adda_of_issues n a b s h, hr, accumulate_of_outOfRange n a [] r _ s hp hout, if_pos htp, hspend,
    trapCore_eq_trapped]
  rfl

end

/-- Settles O4: each instruction completes as its equation says; EXT saturates the rounded quotient, and ADDA falls into R304's cases of a pinned accumulator, a sum that fits, and a sum that pins without or with TPa. -/
theorem accumulatorForms : Obligations.AccumulatorForms := by
  intro n a b dh dl dd sh s h
  have hadda := exec_adda_of_issues n a b s h
  refine ⟨?clra, ?lda, ext_runsAs_withSat n a s h dd sh, mova_runsAs n a s h dd 0, mova_runsAs n a s h dd 1,
    mova_runsAs n a s h dd 2, ?pinned, ?fits, ?pins, fun hp hout htp => adda_traps_of_outOfRange n a b s h hp _ rfl hout htp⟩
  case clra => exact runsAs_of _ n s 0 _ _ _ (exec_clra_of_issues n a s h)
  case lda =>
    have hlda := exec_lda_of_issues n a s h dh dl
    rw [signExtend_append_eq_ofInt] at hlda
    exact runsAs_of _ n s 0 _ _ _ hlda
  case pinned =>
    intro hp
    rw [accumulate_of_pinned n a _ _ _ s hp] at hadda
    exact runsAs_of _ n s 0 (fun p => p) _ _ hadda
  case fits =>
    intro hp hlo hhi
    rw [accumulate_of_inRange n a _ _ _ s hp hlo hhi] at hadda
    exact runsAs_of _ n s 0 _ _ _ hadda
  case pins =>
    intro hp hout htp
    rw [accumulate_of_outOfRange n a _ _ _ s hp hout, if_neg (by simp [htp])] at hadda
    exact runsAs_of _ n s 0 _ _ _ hadda

end Sys2Proof.Machine
end

section
/-! PROOFS. The words of Ripple instructions (R307 to R312): the fields of an encoded word are its operands, and a word whose reserved fields are 0 is the sum of its fields. -/

namespace Sys2Proof

/-! ### Fields of a sum -/

section
variable {a b i k n : Nat}

/-- A field below `i` does not see what lies from bit `i` up. -/
theorem wordField_of_low (h : k + n ≤ i) : wordField (a * 2 ^ i + b) k n = wordField b k n := by
  obtain ⟨j, rfl⟩ := Nat.exists_eq_add_of_le h
  have hshape : a * 2 ^ (k + n + j) + b = 2 ^ k * (2 ^ n * (2 ^ j * a)) + b := by ring
  unfold wordField
  rw [hshape, Nat.mul_add_div (Nat.two_pow_pos k), Nat.mul_add_mod]

/-- A field from bit `i` up does not see what lies below. -/
theorem wordField_of_high (h : i ≤ k) (hb : b < 2 ^ i) : wordField (a * 2 ^ i + b) k n = wordField a (k - i) n := by
  obtain ⟨j, rfl⟩ := Nat.exists_eq_add_of_le h
  unfold wordField
  rw [pow_add, ← Nat.div_div_eq_div_mul, mul_comm a, Nat.mul_add_div (Nat.two_pow_pos i), Nat.div_eq_of_lt hb,
    Nat.add_zero, Nat.add_sub_cancel_left]

theorem wordField_mul_of_low (h : k + n ≤ i) : wordField (a * 2 ^ i) k n = 0 := by
  have hzero := wordField_of_low (a := a) (b := 0) h
  simpa [wordField] using hzero

theorem wordField_mul_of_high (h : i ≤ k) : wordField (a * 2 ^ i) k n = wordField a (k - i) n :=
  wordField_of_high h (Nat.two_pow_pos i)

/-- A number that fits a field is what the field at bit 0 reads. -/
theorem wordField_of_fits (h : a < 2 ^ n) : wordField a 0 n = a := by
  rw [wordField, pow_zero, Nat.div_one, Nat.mod_eq_of_lt h]

theorem wordField_of_below (h : a < 2 ^ k) : wordField a k n = 0 := by
  rw [wordField, Nat.div_eq_of_lt h, Nat.zero_mod]

/-- The class of a word is its uppermost field. -/
theorem class_eq_wordField {w : Nat} (h : w < 2 ^ 32) : w / 2 ^ 28 = wordField w 28 4 := by
  unfold wordField
  omega

theorem val_regField (w k : Nat) : (regField w k).val = wordField w k 4 := by
  simp [regField, wordField]

/-- What stands from bit `k` up is a field of `n` bits and what stands above it. -/
theorem div_eq_above_add_wordField (w k n : Nat) : w / 2 ^ k = w / 2 ^ (k + n) * 2 ^ n + wordField w k n := by
  rw [wordField, pow_add, ← Nat.div_div_eq_div_mul, mul_comm, Nat.div_add_mod]

theorem regField_eq_of_wordField {w k : Nat} {r : Fin 16} (h : wordField w k 4 = r) : regField w k = r := by
  rw [regField, h]
  exact Fin.ofNat_val_eq_self r

end

/-! ### Formats that several operations share -/

section
variable {op : Nat} (core : Nat) (d a b : Fin 16) (v : BitVec 16)

theorem encAlu_fields (hop : op < 16) : wordField (encAlu op d a b) 24 4 = op ∧ regField (encAlu op d a b) 20 = d
    ∧ regField (encAlu op d a b) 16 = a ∧ regField (encAlu op d a b) 12 = b ∧ zeroField (encAlu op d a b) 0 12 = true
    ∧ zeroField (encAlu op d a b) 12 4 = (b.val == 0) ∧ zeroField (encAlu op d a b) 20 4 = (d.val == 0) := by
  unfold encAlu opBits zeroField
  refine ⟨?_, regField_eq_of_wordField ?_, regField_eq_of_wordField ?_, regField_eq_of_wordField ?_,
    beq_iff_eq.mpr ?_, congrArg (· == 0) ?_, congrArg (· == 0) ?_⟩ <;>
  · unfold wordField
    omega

theorem rippleDecodeNat_encAlu (hop : op < 16) :
    rippleDecodeNat core (encAlu op d a b) = decodeAlu core (encAlu op d a b) := by
  have hclass : encAlu op d a b / 2 ^ 28 = 1 := by
    unfold encAlu opBits
    omega
  simp only [rippleDecodeNat, hclass]

theorem encAluImm_fields (hop : op < 16) : wordField (encAluImm op d a v) 24 4 = op ∧ regField (encAluImm op d a v) 20 = d
    ∧ regField (encAluImm op d a v) 16 = a ∧ wordField (encAluImm op d a v) 0 16 = v.toNat
    ∧ zeroField (encAluImm op d a v) 0 16 = (v.toNat == 0) ∧ zeroField (encAluImm op d a v) 20 4 = (d.val == 0) := by
  unfold encAluImm opBits zeroField
  refine ⟨?_, regField_eq_of_wordField ?_, regField_eq_of_wordField ?_, ?_, congrArg (· == 0) ?_, congrArg (· == 0) ?_⟩ <;>
  · unfold wordField
    omega

theorem rippleDecodeNat_encAluImm (hop : op < 16) :
    rippleDecodeNat core (encAluImm op d a v) = decodeAluImm core (encAluImm op d a v) := by
  have hclass : encAluImm op d a v / 2 ^ 28 = 2 := by
    unfold encAluImm opBits
    omega
  simp only [rippleDecodeNat, hclass]

end


/-- The operand field of a load or store word, of the kind that bit 26 tells. -/
theorem encMem_postMod {store : Nat} (d : Fin 16) (an : Fin 8) (md : PostMod) (hstore : store < 2) :
    (if wordField (encMem store d an md) 26 1 = 0 then
      if zeroField (encMem store d an md) 8 8 then some (.modifier (Fin.ofNat 8 (wordField (encMem store d an md) 16 3))) else none
    else if zeroField (encMem store d an md) 16 3 then some (.imm (BitVec.ofNat 8 (wordField (encMem store d an md) 8 8)))
      else none) = some md := by
  cases md with
  | modifier m =>
    have hfields : wordField (encMem store d an (.modifier m)) 26 1 = 0
        ∧ wordField (encMem store d an (.modifier m)) 8 8 = 0
        ∧ wordField (encMem store d an (.modifier m)) 16 3 = m := by
      simp only [encMem, wordField]
      omega
    simp [zeroField, hfields]
  | imm v =>
    have hfields : wordField (encMem store d an (.imm v)) 26 1 = 1 ∧ wordField (encMem store d an (.imm v)) 16 3 = 0
        ∧ wordField (encMem store d an (.imm v)) 8 8 = v.toNat := by
      simp only [encMem, wordField]
      omega
    simp [zeroField, hfields]

/-- A load or store word decodes to what its store bit says. -/
theorem rippleDecodeNat_encMem {store : Nat} (core : Nat) (d : Fin 16) (an : Fin 8) (md : PostMod) (hstore : store < 2) :
    rippleDecodeNat core (encMem store d an md) = some (if store = 0 then .ld core d an md else .st core d an md) := by
  have hfields : encMem store d an md / 2 ^ 28 = 3 ∧ wordField (encMem store d an md) 27 1 = store
      ∧ wordField (encMem store d an md) 22 4 = d ∧ wordField (encMem store d an md) 19 3 = an
      ∧ wordField (encMem store d an md) 0 8 = 0 := by
    cases md <;>
    · simp only [encMem, wordField]
      omega
  obtain ⟨hclass, hst, hd, han, hlow⟩ := hfields
  have hzero : zeroField (encMem store d an md) 0 8 = true := beq_iff_eq.mpr hlow
  simp only [rippleDecodeNat, decodeMem, hclass, encMem_postMod d an md hstore, hzero, hst, han,
    regField_eq_of_wordField hd, Fin.ofNat_val_eq_self]
  cases store <;> rfl

/-- The fields of a parallel load, read from its three places. -/
theorem decodeLoad_of_fields {w e d a : Nat} (p : Option (Fin 8 × Fin 4)) (he : wordField w e 1 = p.elim 0 fun _ => 1)
    (hd : wordField w d 3 = p.elim 0 fun q => q.1.val) (ha : wordField w a 2 = p.elim 0 fun q => q.2.val) :
    decodeLoad w e d a = some p := by
  cases p <;> simp_all [decodeLoad, zeroField]

/-- A parallel load's part of the word is the sum of its fields. -/
theorem encLoad_of_decodeLoad {w e d a : Nat} {p : Option (Fin 8 × Fin 4)} (h : decodeLoad w e d a = some p) :
    encLoad e d a p = wordField w e 1 * 2 ^ e + wordField w d 3 * 2 ^ d + wordField w a 2 * 2 ^ a := by
  unfold decodeLoad zeroField at h
  split at h
  · have hd : wordField w d 3 < 8 := Nat.mod_lt _ (by decide)
    have ha : wordField w a 2 < 4 := Nat.mod_lt _ (by decide)
    cases h
    simp_all [encLoad, Nat.mod_eq_of_lt]
  · split at h
    · cases h
      have he : wordField w e 1 < 2 := Nat.mod_lt _ (by decide)
      have he : wordField w e 1 = 0 := by omega
      simp_all [encLoad]
    · cases h

/-- A multiply-accumulate word is read field by field. -/
theorem decodeMac_of_fields {w op : Nat} {acc : Fin 4} {x y : Fin 16} {p0 p1 : Option (Fin 8 × Fin 4)} (core : Nat)
    (hop : wordField w 26 2 = op) (hacc : wordField w 24 2 = acc) (hx : regField w 20 = x) (hy : regField w 16 = y)
    (hzero : wordField w 0 4 = 0) (hp0 : decodeLoad w 15 12 10 = some p0) (hp1 : decodeLoad w 9 6 4 = some p1) (hlt : op < 4) :
    decodeMac core w = some (if op = 0 then .mac core acc x y p0 p1 else if op = 1 then .msu core acc x y p0 p1
      else if op = 2 then .mpy core acc x y p0 p1 else .macu core acc x y p0 p1) := by
  simp only [decodeMac, zeroField, hop, hacc, hx, hy, hzero, hp0, hp1, Fin.ofNat_val_eq_self]
  interval_cases op <;> rfl

section
variable {op : Nat} (core : Nat) (acc : Fin 4) (x y : Fin 16) (p0 p1 : Option (Fin 8 × Fin 4))

theorem encMac_loads :
    decodeLoad (encMac op acc x y p0 p1) 15 12 10 = some p0 ∧ decodeLoad (encMac op acc x y p0 p1) 9 6 4 = some p1 := by
  constructor <;> apply decodeLoad_of_fields <;> cases p0 <;> cases p1 <;>
  · simp only [encMac, encLoad, wordField, Option.elim]
    omega

theorem rippleDecodeNat_encMac (hop : op < 4) : rippleDecodeNat core (encMac op acc x y p0 p1)
    = some (if op = 0 then .mac core acc x y p0 p1 else if op = 1 then .msu core acc x y p0 p1
      else if op = 2 then .mpy core acc x y p0 p1 else .macu core acc x y p0 p1) := by
  have hfields : encMac op acc x y p0 p1 / 2 ^ 28 = 4 ∧ wordField (encMac op acc x y p0 p1) 26 2 = op
      ∧ wordField (encMac op acc x y p0 p1) 24 2 = acc ∧ wordField (encMac op acc x y p0 p1) 20 4 = x
      ∧ wordField (encMac op acc x y p0 p1) 16 4 = y ∧ wordField (encMac op acc x y p0 p1) 0 4 = 0 := by
    cases p0 <;> cases p1 <;>
    · simp only [encMac, encLoad, wordField]
      omega
  obtain ⟨hclass, hop', hacc, hx, hy, hzero⟩ := hfields
  obtain ⟨hp0, hp1⟩ := encMac_loads (op := op) acc x y p0 p1
  rw [← decodeMac_of_fields core hop' hacc (regField_eq_of_wordField hx) (regField_eq_of_wordField hy) hzero hp0 hp1 hop]
  simp only [rippleDecodeNat, hclass]

theorem encMac_lt (hop : op < 4) : encMac op acc x y p0 p1 < 2 ^ 32 := by
  cases p0 <;> cases p1 <;>
  · simp only [encMac, encLoad]
    omega

end

section
variable {half : Nat} (core : Nat) (d : Fin 16) (v : BitVec 16)

theorem ldWord_fields (hhalf : half < 2) : wordField (opBits 7 (8 * half) + d.val * 2 ^ 23 + v.toNat) 27 1 = half
    ∧ regField (opBits 7 (8 * half) + d.val * 2 ^ 23 + v.toNat) 23 = d
    ∧ wordField (opBits 7 (8 * half) + d.val * 2 ^ 23 + v.toNat) 16 7 = 0
    ∧ wordField (opBits 7 (8 * half) + d.val * 2 ^ 23 + v.toNat) 0 16 = v.toNat := by
  refine ⟨?_, regField_eq_of_wordField ?_, ?_, ?_⟩ <;>
  · simp only [opBits, wordField]
    omega

theorem rippleDecodeNat_ldWord (hhalf : half < 2) : rippleDecodeNat core (opBits 7 (8 * half) + d.val * 2 ^ 23 + v.toNat)
    = some (if half = 0 then .ldi core d v else .ldih core d v) := by
  have hclass : (opBits 7 (8 * half) + d.val * 2 ^ 23 + v.toNat) / 2 ^ 28 = 7 := by
    simp only [opBits]
    omega
  simp only [rippleDecodeNat, hclass, decodeImm, ldWord_fields d v hhalf, zeroField]
  simp
  split <;> rfl

end






/-- Decoding gives back every instruction that has a word. -/
theorem rippleDecodeNat_of_rippleEncodeNat {i : Instr} {w : Nat} (h : rippleEncodeNat i = some w) :
    rippleDecodeNat (rippleCore i) w = some i := by
  unfold rippleEncodeNat at h
  split at h
  -- ALU register
  case h_15 | h_16 | h_17 | h_18 | h_19 | h_20 | h_21 | h_22 | h_23 | h_24 | h_25 | h_26 | h_27 | h_28 | h_29 | h_30 =>
    cases h
    simp [rippleCore, rippleDecodeNat_encAlu, encAlu_fields, decodeAlu]
  -- ALU immediate
  case h_31 | h_32 | h_33 | h_34 | h_35 | h_36 | h_37 | h_38 | h_39 | h_40 | h_41 | h_42 | h_45 | h_46 =>
    cases h
    simp [rippleCore, rippleDecodeNat_encAluImm, encAluImm_fields, decodeAluImm]
  -- ABSI and NEGI, whose immediate is 0
  case h_43 _ _ _ v | h_44 _ _ _ v =>
    obtain ⟨rfl, hw⟩ := Option.ite_none_right_eq_some.mp h
    cases hw
    simp [rippleCore, rippleDecodeNat_encAluImm, encAluImm_fields, decodeAluImm]
  -- load and store
  case h_47 core d an md | h_48 core d an md =>
    cases Option.some.inj h
    exact rippleDecodeNat_encMem core d an md (by decide)
  -- multiply-accumulate
  case h_49 core acc x y p0 p1 | h_50 core acc x y p0 p1 | h_51 core acc x y p0 p1 | h_52 core acc x y p0 p1 =>
    cases Option.some.inj h
    exact rippleDecodeNat_encMac core acc x y p0 p1 (by decide)
  -- NOP, WAIT and REP #n
  case h_1 => cases h; rfl
  case h_9 core m => cases h; cases m <;> rfl
  case h_2 core n =>
    obtain ⟨hn, hw⟩ := Option.ite_none_left_eq_some.mp h
    cases hw
    have hn : n.toNat ≠ 0 := fun h0 => hn (BitVec.eq_of_toNat_eq h0)
    simp (disch := omega) only [rippleCore, rippleDecodeNat, class_eq_wordField, opBits, Nat.add_assoc, decodeControl,
      wordField_of_low, wordField_of_high, wordField_of_fits, zeroField, wordField_of_below, Nat.reduceSub, -Nat.reducePow]
    simp [hn]
  -- no word
  case h_65 => cases h
  -- immediate loads
  case h_63 core d v => cases h; exact rippleDecodeNat_ldWord (half := 0) core d v (by decide)
  case h_64 core d v => cases h; exact rippleDecodeNat_ldWord (half := 1) core d v (by decide)
  -- control, accumulators and moves
  all_goals
    cases h
    simp (disch := omega) only [rippleCore, rippleDecodeNat, class_eq_wordField, opBits, Nat.add_assoc, decodeControl,
      decodeAcc, decodeMove, wordField_of_low, wordField_of_high, wordField_mul_of_low,
      wordField_mul_of_high, wordField_of_fits, zeroField, wordField_of_below, regField, Nat.reduceSub, -Nat.reducePow]
    simp

theorem rippleEncodeNat_lt {i : Instr} {w : Nat} (h : rippleEncodeNat i = some w) : w < 2 ^ 32 := by
  unfold rippleEncodeNat at h
  split at h
  case h_2 | h_43 | h_44 =>
    split at h <;> cases h
    simp only [opBits, encAluImm]
    omega
  case h_47 _ _ _ md | h_48 _ _ _ md =>
    cases Option.some.inj h
    cases md <;>
    · simp only [encMem]
      omega
  case h_49 _ _ _ _ p0 p1 | h_50 _ _ _ _ p0 p1 | h_51 _ _ _ _ p0 p1 | h_52 _ _ _ _ p0 p1 =>
    cases Option.some.inj h
    exact encMac_lt _ _ _ p0 p1 (by decide)
  case h_1 => cases h; decide
  case h_9 core m => cases h; cases m <;> decide
  case h_65 => cases h
  all_goals
    cases h
    simp only [encAlu, encAluImm, opBits]
    omega


/-! ### From a word that decodes -/

section
variable {core w : Nat} {i : Instr}


theorem rippleEncodeNat_of_decodeControl (hc : w / 2 ^ 28 = 0) (h : decodeControl core w = some i) :
    rippleEncodeNat i = some w ∧ rippleCore i = core := by
  unfold decodeControl at h
  split at h
  case h_15 => cases h
  all_goals
    (repeat' split at h) <;> cases h
    refine ⟨?_, rfl⟩
    simp only [zeroField, wordField, Bool.and_eq_true, Bool.not_eq_true', beq_iff_eq, beq_eq_false_iff_ne] at *
  case h_2 hop hfields =>
    have hn : BitVec.ofNat 16 (w / 2 ^ 0 % 2 ^ 16) ≠ 0 := by
      intro h0
      have h0 := congrArg BitVec.toNat h0
      simp only [BitVec.toNat_ofNat, BitVec.ofNat_eq_ofNat] at h0
      omega
    rw [rippleEncodeNat, if_neg hn]
    simp only [opBits, BitVec.toNat_ofNat, Option.some.injEq]
    omega
  case h_9 hop hzero =>
    have hbit : (w / 2 ^ 0 % 2 ^ 1 == 1).toNat = w % 2 := by
      rcases Nat.mod_two_eq_zero_or_one w with h2 | h2 <;> simp [h2]
    simp only [rippleEncodeNat, opBits, hbit, Option.some.injEq]
    omega
  all_goals
    simp only [rippleEncodeNat, opBits, val_regField, wordField, BitVec.toNat_ofNat, Option.some.injEq]
    omega

theorem rippleEncodeNat_of_decodeAlu (hc : w / 2 ^ 28 = 1) (h : decodeAlu core w = some i) :
    rippleEncodeNat i = some w ∧ rippleCore i = core := by
  unfold decodeAlu at h
  split at h
  · cases h
  next hzero =>
  have hword : w = encAlu (wordField w 24 4) (regField w 20) (regField w 16) (regField w 12) := by
    simp only [zeroField, Bool.not_eq_true', Bool.not_eq_false, beq_iff_eq] at hzero
    simp only [encAlu, opBits, val_regField]
    simp only [wordField] at *
    omega
  split at h
  case h_13 hop | h_14 hop =>
    split at h <;> cases h
    next hb =>
    have hb : regField w 12 = 0 := Fin.ext (by rw [val_regField]; exact beq_iff_eq.mp hb)
    rw [hop, hb] at hword
    exact ⟨congrArg some hword.symm, rfl⟩
  case h_15 hop =>
    split at h <;> cases h
    next hd =>
    have hd : regField w 20 = 0 := Fin.ext (by rw [val_regField]; exact beq_iff_eq.mp hd)
    rw [hop, hd] at hword
    exact ⟨congrArg some hword.symm, rfl⟩
  case h_16 =>
    have hop : wordField w 24 4 = 15 := by
      have hlt : wordField w 24 4 < 16 := Nat.mod_lt _ (by decide)
      simp only [imp_false] at *
      omega
    cases h
    rw [hop] at hword
    exact ⟨congrArg some hword.symm, rfl⟩
  all_goals
    rename_i hop
    cases h
    rw [hop] at hword
    exact ⟨congrArg some hword.symm, rfl⟩

theorem rippleEncodeNat_of_decodeAluImm (hc : w / 2 ^ 28 = 2) (h : decodeAluImm core w = some i) :
    rippleEncodeNat i = some w ∧ rippleCore i = core := by
  unfold decodeAluImm at h
  have hword : w = encAluImm (wordField w 24 4) (regField w 20) (regField w 16) (BitVec.ofNat 16 (wordField w 0 16)) := by
    simp only [encAluImm, opBits, val_regField, BitVec.toNat_ofNat]
    simp only [wordField] at *
    omega
  split at h
  case h_13 hop | h_14 hop =>
    split at h <;> cases h
    next hv =>
    rw [hop, beq_iff_eq.mp hv] at hword
    exact ⟨congrArg some hword.symm, rfl⟩
  case h_15 hop =>
    split at h <;> cases h
    next hd =>
    have hd : regField w 20 = 0 := Fin.ext (by rw [val_regField]; exact beq_iff_eq.mp hd)
    rw [hop, hd] at hword
    exact ⟨congrArg some hword.symm, rfl⟩
  case h_16 =>
    have hop : wordField w 24 4 = 15 := by
      have hlt : wordField w 24 4 < 16 := Nat.mod_lt _ (by decide)
      simp only [imp_false] at *
      omega
    cases h
    rw [hop] at hword
    exact ⟨congrArg some hword.symm, rfl⟩
  all_goals
    rename_i hop
    cases h
    rw [hop] at hword
    exact ⟨congrArg some hword.symm, rfl⟩

theorem rippleEncodeNat_of_decodeMem (hc : w / 2 ^ 28 = 3) (h : decodeMem core w = some i) :
    rippleEncodeNat i = some w ∧ rippleCore i = core := by
  simp only [decodeMem] at h
  split at h
  · cases h
  next hzero =>
  split at h
  · cases h
  next md hmd =>
  have hword : w = encMem (wordField w 27 1) (regField w 22) (Fin.ofNat 8 (wordField w 19 3)) md := by
    simp only [zeroField, Bool.not_eq_true', Bool.not_eq_false, beq_iff_eq] at hzero hmd
    have hlow : wordField w 0 16 = wordField w 8 8 * 2 ^ 8 := by
      simp only [wordField] at hzero ⊢
      omega
    split at hmd
    all_goals
      split at hmd <;> cases hmd
      simp only [encMem, val_regField, BitVec.toNat_ofNat, Fin.val_ofNat]
      simp only [wordField] at *
      omega
  split at h
  next hop =>
    cases h
    rw [hop] at hword
    exact ⟨congrArg some hword.symm, rfl⟩
  next hop =>
    have hop : wordField w 27 1 = 1 := by
      have hlt : wordField w 27 1 < 2 := Nat.mod_lt _ (by decide)
      omega
    cases h
    rw [hop] at hword
    exact ⟨congrArg some hword.symm, rfl⟩

theorem rippleEncodeNat_of_decodeMac (hc : w / 2 ^ 28 = 4) (h : decodeMac core w = some i) :
    rippleEncodeNat i = some w ∧ rippleCore i = core := by
  simp only [decodeMac] at h
  split at h
  · cases h
  next hzero =>
  split at h
  · cases h
  next p0 hp0 =>
  split at h
  · cases h
  next p1 hp1 =>
  have hword : w = encMac (wordField w 26 2) (Fin.ofNat 4 (wordField w 24 2)) (regField w 20) (regField w 16) p0 p1 := by
    have hlow : wordField w 0 4 = 0 := by simpa [zeroField] using hzero
    have hacc : wordField w 24 2 < 4 := Nat.mod_lt _ (by decide)
    have f0 := div_eq_above_add_wordField w 0 4
    have f4 := div_eq_above_add_wordField w 4 2
    have f6 := div_eq_above_add_wordField w 6 3
    have f9 := div_eq_above_add_wordField w 9 1
    have f10 := div_eq_above_add_wordField w 10 2
    have f12 := div_eq_above_add_wordField w 12 3
    have f15 := div_eq_above_add_wordField w 15 1
    have f16 := div_eq_above_add_wordField w 16 4
    have f20 := div_eq_above_add_wordField w 20 4
    have f24 := div_eq_above_add_wordField w 24 2
    have f26 := div_eq_above_add_wordField w 26 2
    simp only [encMac, encLoad_of_decodeLoad hp0, encLoad_of_decodeLoad hp1, val_regField, Fin.val_ofNat, Nat.mod_eq_of_lt hacc]
    rw [hlow, pow_zero, Nat.div_one] at f0
    linarith
  split at h
  case h_4 =>
    have hop : wordField w 26 2 = 3 := by
      have hlt : wordField w 26 2 < 4 := Nat.mod_lt _ (by decide)
      simp only [imp_false] at *
      omega
    cases h
    rw [hop] at hword
    exact ⟨congrArg some hword.symm, rfl⟩
  all_goals
    rename_i hop
    cases h
    rw [hop] at hword
    exact ⟨congrArg some hword.symm, rfl⟩


theorem rippleEncodeNat_of_decodeAcc (hc : w / 2 ^ 28 = 5) (h : decodeAcc core w = some i) :
    rippleEncodeNat i = some w ∧ rippleCore i = core := by
  unfold decodeAcc at h
  split at h
  · cases h
  split at h
  case h_6 => cases h
  all_goals
    (repeat' split at h) <;> cases h
    refine ⟨?_, rfl⟩
    simp only [zeroField, wordField, Bool.not_eq_true', Bool.not_eq_false, Bool.and_eq_true, beq_iff_eq] at *
    simp only [rippleEncodeNat, opBits, val_regField, wordField, Option.some.injEq, Fin.val_ofNat]
    omega

theorem rippleEncodeNat_of_decodeMove (hc : w / 2 ^ 28 = 6) (h : decodeMove core w = some i) :
    rippleEncodeNat i = some w ∧ rippleCore i = core := by
  unfold decodeMove at h
  split at h
  case h_6 => cases h
  all_goals
    (repeat' split at h) <;> cases h
    refine ⟨?_, rfl⟩
    simp only [zeroField, wordField, Bool.and_eq_true, beq_iff_eq] at *
    simp only [rippleEncodeNat, opBits, val_regField, wordField, Option.some.injEq, Fin.val_ofNat]
    omega

theorem rippleEncodeNat_of_decodeImm (hc : w / 2 ^ 28 = 7) (h : decodeImm core w = some i) :
    rippleEncodeNat i = some w ∧ rippleCore i = core := by
  unfold decodeImm at h
  split at h
  · cases h
  split at h <;> cases h
  all_goals
    refine ⟨?_, rfl⟩
    simp only [zeroField, wordField, Bool.not_eq_true', Bool.not_eq_false, beq_iff_eq] at *
    simp only [rippleEncodeNat, opBits, val_regField, wordField, BitVec.toNat_ofNat, Option.some.injEq]
    omega

/-- Encoding gives back every word that decodes, by the class of the word. -/
theorem rippleEncodeNat_of_rippleDecodeNat (h : rippleDecodeNat core w = some i) :
    rippleEncodeNat i = some w ∧ rippleCore i = core := by
  unfold rippleDecodeNat at h
  split at h
  next hc => exact rippleEncodeNat_of_decodeControl hc h
  next hc => exact rippleEncodeNat_of_decodeAlu hc h
  next hc => exact rippleEncodeNat_of_decodeAluImm hc h
  next hc => exact rippleEncodeNat_of_decodeMem hc h
  next hc => exact rippleEncodeNat_of_decodeMac hc h
  next hc => exact rippleEncodeNat_of_decodeAcc hc h
  next hc => exact rippleEncodeNat_of_decodeMove hc h
  next hc => exact rippleEncodeNat_of_decodeImm hc h
  next => cases h

end

/-- Settles O57: an encoded word fits 32 bits, so that the decoder and the encoder of numbers, which agree both ways class by class, agree on words. -/
theorem rippleDecodeEncode : Obligations.RippleDecodeEncode := by
  constructor
  · intro i w h
    obtain ⟨n, hn, rfl⟩ := Option.map_eq_some_iff.mp h
    rw [rippleDecode, BitVec.toNat_ofNat, Nat.mod_eq_of_lt (rippleEncodeNat_lt hn)]
    exact rippleDecodeNat_of_rippleEncodeNat hn
  · intro core w i h
    obtain ⟨henc, hcore⟩ := rippleEncodeNat_of_rippleDecodeNat h
    refine ⟨?_, hcore⟩
    rw [rippleEncode, henc, Option.map_some, BitVec.ofNat_toNat, BitVec.setWidth_eq]

end Sys2Proof
end

section
/-! PROOFS. Single facts: the step of a queue with a command in front, the state of reset, and words written out. -/

namespace Sys2Proof.Machine

/-- Settles O1: the step takes the front command, by the second case of its match. -/
theorem stepRunsFrontCommand : Obligations.StepRunsFrontCommand := by
  intro c rest s h
  rw [step, h]

/-- Every core of reset is the core that was never loaded. -/
theorem getCore_reset (n : Nat) : getCore State.reset n = core0 n := rfl

/-- Settles O55: field by field, and core by core since no core is listed. -/
theorem resetState : Obligations.ResetState := by
  refine ⟨rfl, rfl, rfl, rfl, rfl, memory_wf_reset, rfl, rfl, rfl, rfl, rfl, rfl, rfl, rfl, rfl, rfl, rfl, rfl, rfl, rfl, rfl, ?_⟩
  intro n
  rw [getCore_reset]
  exact ⟨rfl, rfl, rfl, rfl, rfl, rfl, rfl, rfl, rfl⟩

/-- Settles O56: each word is decoded by evaluation. -/
theorem rippleWords : Obligations.RippleWords := by
  unfold Obligations.RippleWords
  decide +kernel
end Sys2Proof.Machine
end

section
/-! PROOFS. What Ripple instructions keep true of every core (R298, R319, R328): the word index, the return stack and the saved index stay in range. -/

namespace Sys2Proof.Machine

/-! ### Events leave all but messages as it was -/

/-- DBL_HOST rung changes messages and what is given out. -/
theorem ringHost_eq (c : Nat) (s : State) : ∃ m w, ringHost c s = { s with msg := m, wire := w } := by
  obtain ⟨pba, w, h⟩ := withVectors_eq s (fun t => { t with msg.mbx.dblHost := t.msg.mbx.dblHost ||| BitVec.ofNat 22 (2 ^ c) })
  exact ⟨_, _, h⟩

/-- An event offered to one destination changes messages and what is given out. -/
theorem eventTo_eq (cls die op flow : Nat) (fields : List Byte) (s : State) (k : Nat) :
    ∃ m w, eventTo cls die op flow fields s k = { s with msg := m, wire := w } := by
  by_cases hmask : (!(getDest s k).evMask.testBit cls || decide ((getDest s k).version < opVersion op)) = true
  · exact ⟨s.msg, s.wire, if_pos hmask⟩
  · unfold eventTo
    simp only [if_neg hmask]
    split_ifs
    · exact ringHost_eq _ _
    · exact ringHost_eq _ _
    · exact ⟨_, _, rfl⟩
    · exact ⟨_, _, rfl⟩

theorem foldl_eventTo_eq (cls die op flow : Nat) (fields : List Byte) (ks : List Nat) (s : State) :
    ∃ m w, ks.foldl (eventTo cls die op flow fields) s = { s with msg := m, wire := w } := by
  induction ks generalizing s with
  | nil => exact ⟨s.msg, s.wire, rfl⟩
  | cons k ks ih =>
    obtain ⟨m, w, h⟩ := eventTo_eq cls die op flow fields s k
    obtain ⟨m', w', h'⟩ := ih { s with msg := m, wire := w }
    exact ⟨m', w', by rw [List.foldl_cons, h, h']⟩

/-- An event changes messages and what is given out, and nothing else. -/
theorem event_eq (cls die op flow : Nat) (fields : List Byte) (s : State) :
    ∃ m w, event cls die op flow fields s = { s with msg := m, wire := w } := by
  unfold event
  split
  · exact foldl_eventTo_eq cls die op flow fields _ s
  · exact ⟨s.msg, s.wire, rfl⟩

/-- An event changes no core. -/
@[simp] theorem event_cores (cls die op flow : Nat) (fields : List Byte) (s : State) :
    (event cls die op flow fields s).cores = s.cores := by
  obtain ⟨m, w, h⟩ := event_eq cls die op flow fields s
  rw [h]

/-! ### Cores in range -/

/-- The word index, the return stack and the saved index of a core are in range. -/
structure Core.InRange (c : Core) : Prop where
  pc    : c.pc < 16384
  depth : c.stack.length ≤ 8
  stack : ∀ w ∈ c.stack, w < 16384
  ipc   : c.ipc < 16384

def CoresInRange (s : State) : Prop := ∀ n, (getCore s n).InRange

/-- A core that differs in registers alone is in range as before. -/
theorem Core.InRange.of_eq {c d : Core} (h : c.InRange) (hpc : d.pc = c.pc := by rfl) (hst : d.stack = c.stack := by rfl)
    (hipc : d.ipc = c.ipc := by rfl) : d.InRange :=
  ⟨hpc ▸ h.pc, hst ▸ h.depth, hst ▸ h.stack, hipc ▸ h.ipc⟩

/-- A core put at another word of its pond. -/
theorem Core.InRange.at {c : Core} (h : c.InRange) (pc : Nat) : { c with pc := pc % 16384 }.InRange :=
  ⟨Nat.mod_lt _ (by decide), h.depth, h.stack, h.ipc⟩

theorem Core.InRange.advance {c : Core} (h : c.InRange) : c.advance.InRange := by
  unfold Core.advance
  split
  · exact h.of_eq
  · exact (h.at _).of_eq

variable {s : State} {n : Nat} {c : Core}

theorem CoresInRange.setCore (hs : CoresInRange s) (hc : c.InRange) : CoresInRange (setCore n c s) := by
  intro j
  by_cases hj : j = n
  · rw [hj, getCore_setCore_same]
    exact hc
  · rw [getCore_setCore_other s n c j hj]
    exact hs j

theorem CoresInRange.trapCore (hs : CoresInRange s) (cause code : Nat) : CoresInRange (trapCore n cause code s) := by
  have hset := hs.setCore (n := n) (Core.InRange.of_eq (hs n)
    (d := { getCore s n with st := .trapped, cause := cause, code := code, trapPc := (getCore s n).pc, rep := none, waiting := none }))
  intro j
  unfold Machine.trapCore getCore
  rw [event_cores]
  exact hset j

theorem CoresInRange.completes (hs : CoresInRange s) (hc : c.InRange) (uses : List Use) (extra : Nat) (writes : List Written) :
    CoresInRange (completes n uses extra writes c s) :=
  hs.setCore (Core.InRange.advance hc.of_eq)

theorem CoresInRange.jump (hs : CoresInRange s) (hc : c.InRange) (uses : List Use) (extra pc : Nat) :
    CoresInRange (jump n uses extra pc c s) :=
  hs.setCore ((hc.at pc).of_eq)

theorem CoresInRange.aluInto (hs : CoresInRange s) (hc : c.InRange) (dd : Nat) (uses : List Use) (writes : List Written)
    (r : AluResult) : CoresInRange (aluInto n dd uses writes r c s) := by
  rw [aluInto_eq]
  exact hs.completes hc.of_eq uses 0 writes

theorem CoresInRange.repeatNext (hs : CoresInRange s) (hc : c.InRange) (k : Nat) (uses : List Use) :
    CoresInRange (repeatNext n k uses c s) := by
  unfold Machine.repeatNext
  split
  · exact hs.setCore ((hc.at _).of_eq)
  · exact hs.setCore ((hc.at _).of_eq)

theorem CoresInRange.accumulate (hs : CoresInRange s) (hc : c.InRange) (a : Nat) (uses : List Use) (r : Int) :
    CoresInRange (accumulate n a uses r c s) := by
  unfold Machine.accumulate
  split
  · exact hs.completes hc _ _ _
  · dsimp only
    split
    · split
      · exact (hs.setCore hc.of_eq).trapCore _ _
      · exact hs.completes hc.of_eq _ _ _
    · exact hs.completes hc.of_eq _ _ _

theorem CoresInRange.issue {f : Core → State → State} (hs : CoresInRange s)
    (hf : (getCore s n).InRange → CoresInRange (f (getCore s n) s)) : CoresInRange (issue n s f) := by
  unfold Machine.issue
  split
  · exact hf (hs n)
  · exact hs

theorem CoresInRange.issueControl {f : Core → State → State} (hs : CoresInRange s)
    (hf : (getCore s n).InRange → CoresInRange (f (getCore s n) s)) : CoresInRange (issueControl n s f) := by
  unfold Machine.issueControl
  split
  · split
    · exact hs.trapCore 1 0
    · exact hf (hs n)
  · exact hs

theorem CoresInRange.aluReg (hs : CoresInRange s) (f : Word → Word → AluResult) (dd a b : Fin 16) :
    CoresInRange (aluReg f n dd a b s) :=
  hs.issue fun hc => hs.aluInto hc _ _ _ _

theorem CoresInRange.aluImm (hs : CoresInRange s) (f : Word → Word → AluResult) (dd a : Fin 16) (v : Word) :
    CoresInRange (aluImm f n dd a v s) :=
  hs.issue fun hc => hs.aluInto hc _ _ _ _

theorem CoresInRange.aluOne (hs : CoresInRange s) (f : Word → AluResult) (dd a : Fin 16) :
    CoresInRange (aluOne f n dd a s) :=
  hs.issue fun hc => hs.aluInto hc _ _ _ _

theorem Core.InRange.setX (hc : c.InRange) (xr : Nat) (v : Word) : (c.setX xr v).InRange := by
  unfold Core.setX
  (repeat' split) <;> exact hc.of_eq

theorem Core.InRange.setControl (hc : c.InRange) (cr : Nat) (v : Word) : (c.setControl cr v).InRange := by
  unfold Core.setControl
  split
  · exact hc.of_eq
  · exact hc.of_eq
  · exact ⟨hc.pc, hc.depth, hc.stack, Nat.mod_lt _ (by decide)⟩
  · exact hc.of_eq
  · exact hc

/-- CALL pushes a word of the pond on a return stack with room. -/
theorem Core.InRange.push (hc : c.InRange) (hroom : c.stack.length < 8) :
    { c with stack := ((c.pc + 1) % 16384) :: c.stack }.InRange :=
  ⟨hc.pc, hroom, List.forall_mem_cons.mpr ⟨Nat.mod_lt _ (by decide), hc.stack⟩, hc.ipc⟩

theorem Core.InRange.pop (hc : c.InRange) {w : Nat} {rest : List Nat} (h : c.stack = w :: rest) : { c with stack := rest }.InRange := by
  have hdepth := hc.depth
  have hstack := hc.stack
  rw [h] at hdepth hstack
  exact ⟨hc.pc, Nat.le_of_succ_le hdepth, (List.forall_mem_cons.mp hstack).2, hc.ipc⟩


/-- The answer of an instruction that goes on, as the state that it goes on with. -/
theorem CoresInRange.of_next {i : Instr} {u t : State} (hu : CoresInRange u) (hexec : exec i s = .next u)
    (h : exec i s = .next t) : CoresInRange t := by
  rw [hexec] at h
  cases h
  exact hu

/-- Settles O58: by the instruction; each acts on one core, whose word index, return stack and saved index only RET, RETI, CALL, the branches, MOVC and the advance to the next word change. -/
theorem coreInvariant : Obligations.CoreInvariant := by
  intro i s t good henc hmem hmac hexec hgood
  have hs : CoresInRange s := fun n => ⟨(hgood n).1, (hgood n).2.1, (hgood n).2.2.1, (hgood n).2.2.2⟩
  suffices ht : CoresInRange t from fun n => ⟨(ht n).pc, (ht n).depth, (ht n).stack, (ht n).ipc⟩
  obtain ⟨w, hw⟩ := Option.ne_none_iff_exists'.mp (fun h => henc (Option.map_eq_none_iff.mpr h))
  unfold rippleEncodeNat at hw
  split at hw
  case h_65 => cases hw
  -- the instructions that make an access
  case h_47 => exact absurd rfl (hmem _ _ _ _).1
  case h_48 => exact absurd rfl (hmem _ _ _ _).2
  case h_49 => exact absurd rfl (hmac _ _ _ _ _ _).1
  case h_50 => exact absurd rfl (hmac _ _ _ _ _ _).2.1
  case h_51 => exact absurd rfl (hmac _ _ _ _ _ _).2.2.1
  case h_52 => exact absurd rfl (hmac _ _ _ _ _ _).2.2.2
  -- control
  case h_1 | h_10 | h_11 | h_12 =>
    refine .of_next ?_ rfl hexec
    exact hs.issueControl fun hc => hs.completes hc.of_eq _ _ _
  case h_13 | h_14 =>
    refine .of_next ?_ rfl hexec
    exact hs.issueControl fun _ => hs.trapCore _ _
  case h_2 =>
    refine .of_next (hs.issueControl fun hc => ?_) rfl hexec
    split
    · exact hs.trapCore _ _
    · exact hs.repeatNext hc _ _
  case h_3 =>
    refine .of_next ?_ rfl hexec
    exact hs.issueControl fun hc => hs.repeatNext hc _ _
  case h_4 =>
    refine .of_next (hs.issueControl fun hc => ?_) rfl hexec
    split
    · exact hs.jump hc _ _ _
    · exact hs.completes hc _ _ _
  case h_5 =>
    refine .of_next (hs.issueControl fun hc => ?_) rfl hexec
    split
    next hroom => exact hs.jump (hc.push hroom) _ _ _
    next => exact hs.trapCore _ _
  case h_6 =>
    refine .of_next (hs.issueControl fun hc => ?_) rfl hexec
    split
    next hstack => exact hs.jump (hc.pop hstack) _ _ _
    next => exact hs.trapCore _ _
  case h_7 =>
    refine .of_next ?_ rfl hexec
    exact hs.issueControl fun hc => hs.jump hc.of_eq _ _ _
  case h_8 =>
    refine .of_next (hs.issueControl fun hc => ?_) rfl hexec
    split
    · exact hs.jump hc.of_eq _ _ _
    · exact hs.completes hc.of_eq _ _ _
  case h_9 =>
    refine .of_next (hs.issueControl fun hc => ?_) rfl hexec
    split_ifs
    · exact hs.completes hc _ _ _
    · exact hs.completes hc.of_eq _ _ _
    · exact hs.setCore hc.of_eq
  -- ALU
  case h_15 | h_16 | h_17 | h_18 | h_19 | h_20 | h_21 | h_22 | h_23 | h_24 | h_25 | h_26 =>
    refine .of_next ?_ rfl hexec
    exact hs.aluReg _ _ _ _
  case h_27 | h_28 =>
    refine .of_next ?_ rfl hexec
    exact hs.aluOne _ _ _
  case h_31 | h_32 | h_33 | h_34 | h_35 | h_36 | h_37 | h_38 | h_39 | h_40 | h_41 | h_42 =>
    refine .of_next ?_ rfl hexec
    exact hs.aluImm _ _ _ _
  case h_43 | h_44 =>
    refine .of_next ?_ rfl hexec
    split
    · exact hs.aluOne _ _ _
    · exact hs.issue fun _ => hs.trapCore _ _
  case h_30 | h_46 | h_55 =>
    refine .of_next ?_ rfl hexec
    exact hs.issue fun hc => hs.aluInto hc _ _ _ _
  case h_57 =>
    refine .of_next ?_ rfl hexec
    exact hs.issue fun hc => hs.accumulate hc _ _ _
  case h_59 =>
    refine .of_next ?_ rfl hexec
    exact hs.issue fun hc => hs.completes (hc.setX _ _) _ _ _
  case h_61 =>
    refine .of_next ?_ rfl hexec
    exact hs.issue fun hc => hs.completes (hc.setControl _ _) _ _ _
  -- what writes a data register, FLAGS or an accumulator and goes on
  all_goals
    refine .of_next ?_ rfl hexec
    exact hs.issue fun hc => hs.completes hc.of_eq _ _ _

end Sys2Proof.Machine
end

section
/-! PROOFS. The ALU instructions of a Ripple core (R306, R309): each form hands its operands to one ALU function, whose result and flags are those of the rule. -/

namespace Sys2Proof.Machine

/-! ### The ALU functions give what the rules say -/

section
variable (p : Core) (dd : Nat) (x y : Word)

/-- Dd and the flags as an ALU result leaves them. -/
def Core.withAlu (r : AluResult) : Core := withResult p dd r.value (r.c.getD p.cFlag) (r.v.getD p.vFlag)

theorem withAlu_add : p.withAlu dd (aluAdd x y) = withResult p dd (x + y) (carryOut x y) (overflows (x.toInt + y.toInt)) :=
  congrArg _ (ov_add x y)

theorem withAlu_sub : p.withAlu dd (aluSub x y) = withResult p dd (x - y) (noBorrow x y) (overflows (x.toInt - y.toInt)) :=
  congrArg _ (ov_sub x y)

theorem withAlu_shl : p.withAlu dd (aluShl x y) =
    withResult p dd (x <<< (y.toNat % 64)) (lastLeft x (y.toNat % 64)) p.vFlag := by
  rw [← shl_v, ← shl_c]
  rfl

theorem withAlu_shr : p.withAlu dd (aluShr x y) =
    withResult p dd (x >>> (y.toNat % 64)) (lastRight x (y.toNat % 64)) p.vFlag := by
  rw [← shr_v, ← shr_c _ _ (Nat.mod_lt _ (by decide))]
  rfl

theorem withAlu_sar : p.withAlu dd (aluSar x y) =
    withResult p dd (x.sshiftRight (y.toNat % 64)) (lastSar x (y.toNat % 64)) p.vFlag := by
  rw [← sar_c _ _ (Nat.mod_lt _ (by decide))]
  rfl

theorem withAlu_min : p.withAlu dd (aluMin x y) = withResult p dd (BitVec.ofInt 32 (min x.toInt y.toInt)) p.cFlag p.vFlag := by
  rw [← min_v]
  rfl

theorem withAlu_max : p.withAlu dd (aluMax x y) = withResult p dd (BitVec.ofInt 32 (max x.toInt y.toInt)) p.cFlag p.vFlag := by
  rw [← max_v]
  rfl

theorem withAlu_mul : p.withAlu dd (aluMul x y) = withResult p dd (BitVec.ofInt 32 (x.toInt * y.toInt)) p.cFlag p.vFlag := by
  rw [← mul_v]
  rfl

end

/-- The magnitude that ABS saturates. -/
theorem aluAbs_eq_aluSat (x : Word) : aluAbs x = aluSat x.toInt.natAbs := by
  rw [aluAbs]
  congr 1
  split <;> omega

/-! ### The forms -/

section
variable (n : Nat) (dd a b : Fin 16) (v : Word) (s : State) (h : issues s n = true)
include h

theorem aluReg_of_issues (f : Word → Word → AluResult) : aluReg f n dd a b s =
    aluInto n dd [.otherD a, .otherD b] [] (f ((getCore s n).dreg a) ((getCore s n).dreg b)) (getCore s n) s :=
  issue_of_issues n s _ h

theorem aluImm_of_issues (f : Word → Word → AluResult) : aluImm f n dd a v s =
    aluInto n dd [.otherD a] [] (f ((getCore s n).dreg a) v) (getCore s n) s :=
  issue_of_issues n s _ h

theorem aluOne_of_issues (f : Word → AluResult) : aluOne f n dd a s =
    aluInto n dd [.otherD a] [] (f ((getCore s n).dreg a)) (getCore s n) s :=
  issue_of_issues n s _ h

end

/-! ### Immediates -/

theorem toInt_immSign (v : BitVec 16) : (immSign v).toInt = v.toInt := BitVec.toInt_signExtend_of_le (by decide)

/-- A shift count is within the bits that an immediate keeps. -/
theorem toNat_immSign_mod (v : BitVec 16) : (immSign v).toNat % 64 = v.toNat % 64 := by
  have hlow : (immSign v).extractLsb' 0 6 = v.extractLsb' 0 6 := by
    unfold immSign
    ext k hk
    have hk : k < 16 := by omega
    simp [BitVec.getLsbD_signExtend, hk]
    omega
  simpa [BitVec.extractLsb'_toNat] using congrArg BitVec.toNat hlow

theorem immZero_eq_append (v : BitVec 16) : immZero v = 0#16 ++ v := by
  apply BitVec.eq_of_toNat_eq
  rw [immZero, BitVec.toNat_append, BitVec.toNat_setWidth, Nat.mod_eq_of_lt (by omega)]
  simp

/-! ### Comparison -/

/-- CMP and CMPI leave the flags of SUB and nothing else. -/
theorem aluCompare_runsAs (i : Instr) (n : Nat) (uses : List Use) (x y : Core → Word) (s : State)
    (h : exec i s = .next (aluCompare n uses (aluSub (x (getCore s n)) (y (getCore s n))) (getCore s n) s)) :
    runsAs i n s 0 fun p => { p with flags := flagBits (x p - y p == 0) (x p - y p).msb (noBorrow (x p) (y p))
                                       (overflows ((x p).toInt - (y p).toInt)) } := by
  refine runsAs_of i n s 0 _ uses [] ?_
  rw [h, ← ov_sub]
  exact congrArg (fun f => Host.Outcome.next (completes n uses 0 [] { getCore s n with flags := f } s)) (flagsOf_eq _ _)

/-- ABSI and NEGI with another immediate than 0 are illegal (R309). -/
theorem exec_absi_negi_of_ne_zero (n : Nat) (dd a : Fin 16) (v : BitVec 16) (s : State) (h : issues s n = true) (hv : v ≠ 0) :
    exec (.absi n dd a v) s = .next (trapped n 1 0 s) ∧ exec (.negi n dd a v) s = .next (trapped n 1 0 s) := by
  constructor
  · change execAbsi n dd a v s = _
    rw [execAbsi, if_neg hv, issue_of_issues n s _ h, trapCore_eq_trapped]
  · change execNegi n dd a v s = _
    rw [execNegi, if_neg hv, issue_of_issues n s _ h, trapCore_eq_trapped]

/-- Settles O2: each form writes the result of one ALU function, an immediate standing for the second operand as its extension. -/
theorem aluForms : Obligations.AluForms := by
  refine ⟨fun n dd a b s h => ?reg, fun n dd a v s h => ?imm, fun n dd a b v s h => ?one⟩
  case reg =>
    have run := fun f => congrArg (Host.Outcome.next (φ := Fault) (ρ := Refusal)) (aluReg_of_issues n dd a b s h f)
    exact ⟨alu_plain _ n s dd _ _ _ _ (run aluAdd) rfl (withAlu_add _ _ _ _).symm,
      alu_plain _ n s dd _ _ _ _ (run aluSub) rfl (withAlu_sub _ _ _ _).symm,
      alu_sat _ n s dd _ _ _ _ (run aluAdds) rfl, alu_sat _ n s dd _ _ _ _ (run aluSubs) rfl,
      alu_plain _ n s dd _ _ _ _ (run aluAnd) rfl rfl, alu_plain _ n s dd _ _ _ _ (run aluOr) rfl rfl,
      alu_plain _ n s dd _ _ _ _ (run aluXor) rfl rfl,
      alu_plain _ n s dd _ _ _ _ (run aluShl) rfl (withAlu_shl _ _ _ _).symm,
      alu_plain _ n s dd _ _ _ _ (run aluShr) rfl (withAlu_shr _ _ _ _).symm,
      alu_plain _ n s dd _ _ _ _ (run aluSar) rfl (withAlu_sar _ _ _ _).symm,
      alu_plain _ n s dd _ _ _ _ (run aluMin) rfl (withAlu_min _ _ _ _).symm,
      alu_plain _ n s dd _ _ _ _ (run aluMax) rfl (withAlu_max _ _ _ _).symm,
      alu_plain _ n s dd _ _ (aluMul _ _) _ (congrArg _ (issue_of_issues n s _ h)) rfl (withAlu_mul _ _ _ _).symm⟩
  case imm =>
    have sign := fun f => congrArg (Host.Outcome.next (φ := Fault) (ρ := Refusal)) (aluImm_of_issues n dd a (immSign v) s h f)
    have zero := fun f => congrArg (Host.Outcome.next (φ := Fault) (ρ := Refusal)) (aluImm_of_issues n dd a (immZero v) s h f)
    rw [← immZero_eq_append]
    simp only [← toInt_immSign, ← toNat_immSign_mod]
    exact ⟨alu_plain _ n s dd _ _ _ _ (sign aluAdd) rfl (withAlu_add _ _ _ _).symm,
      alu_plain _ n s dd _ _ _ _ (sign aluSub) rfl (withAlu_sub _ _ _ _).symm,
      alu_sat _ n s dd _ _ _ _ (sign aluAdds) rfl, alu_sat _ n s dd _ _ _ _ (sign aluSubs) rfl,
      alu_plain _ n s dd _ _ _ _ (zero aluAnd) rfl rfl, alu_plain _ n s dd _ _ _ _ (zero aluOr) rfl rfl,
      alu_plain _ n s dd _ _ _ _ (zero aluXor) rfl rfl,
      alu_plain _ n s dd _ _ _ _ (sign aluShl) rfl (withAlu_shl _ _ _ _).symm,
      alu_plain _ n s dd _ _ _ _ (sign aluShr) rfl (withAlu_shr _ _ _ _).symm,
      alu_plain _ n s dd _ _ _ _ (sign aluSar) rfl (withAlu_sar _ _ _ _).symm,
      alu_plain _ n s dd _ _ _ _ (sign aluMin) rfl (withAlu_min _ _ _ _).symm,
      alu_plain _ n s dd _ _ _ _ (sign aluMax) rfl (withAlu_max _ _ _ _).symm,
      alu_plain _ n s dd _ _ (aluMul _ _) _ (congrArg _ (issue_of_issues n s _ h)) rfl (withAlu_mul _ _ _ _).symm⟩
  case one =>
    have run := fun f => congrArg (Host.Outcome.next (φ := Fault) (ρ := Refusal)) (aluOne_of_issues n dd a s h f)
    have abs := run aluAbs
    rw [aluAbs_eq_aluSat] at abs
    refine ⟨alu_sat _ n s dd _ _ _ _ abs rfl, alu_sat _ n s dd _ _ _ _ (run aluNeg) rfl, alu_sat _ n s dd _ _ _ _ abs rfl,
      alu_sat _ n s dd _ _ _ _ (run aluNeg) rfl, exec_absi_negi_of_ne_zero n dd a v s h,
      aluCompare_runsAs _ n _ (·.dreg a) (·.dreg b) s (congrArg _ (issue_of_issues n s _ h)), ?_⟩
    rw [← toInt_immSign]
    exact aluCompare_runsAs _ n _ (·.dreg a) (fun _ => immSign v) s (congrArg _ (issue_of_issues n s _ h))

end Sys2Proof.Machine
end

section
/-! PROOFS. The moves of a Ripple core (R297, R298, R312): what each register field keeps of a word, and what each control register reads as. -/

namespace Sys2Proof.Machine

/-- An instruction that a core issues and completes runs as the function that it applies. -/
theorem runsAs_of_issue (i : Instr) (n : Nat) (s : State) (extra : Nat) (f : Core → Core) (uses : List Use)
    (writes : List Written) (g : Core → State → State) (h : issues s n = true) (hi : exec i s = .next (issue n s g))
    (hg : g (getCore s n) s = completes n uses extra writes (f (getCore s n)) s)
    (hpc : (f (getCore s n)).pc = (getCore s n).pc := by rfl) (hrep : (f (getCore s n)).rep = (getCore s n).rep := by rfl)
    (hcyc : (f (getCore s n)).cycles = (getCore s n).cycles := by rfl)
    (hbusy : (f (getCore s n)).busy = (getCore s n).busy := by rfl) : runsAs i n s extra f :=
  runsAs_of i n s extra f uses writes (by rw [hi, issue_of_issues n s g h, hg]) hpc hrep hcyc hbusy

/-! ### Bits that a register keeps -/

/-- A base register ignores writes of its two lowest bits. -/
theorem and_baseMask (v : Word) : v &&& 0xFFFFFFFC#32 = v.extractLsb' 2 30 ++ 0#2 := by
  apply BitVec.eq_of_getLsbD_eq
  intro k hk
  rw [BitVec.getLsbD_and]
  simp only [BitVec.getLsbD_append, BitVec.getLsbD_extractLsb']
  interval_cases k <;> simp

/-- A length register keeps bits 2 to 23. -/
theorem and_lengthMask (v : Word) : v &&& 0x00FFFFFC#32 = 0#8 ++ v.extractLsb' 2 22 ++ 0#2 := by
  apply BitVec.eq_of_getLsbD_eq
  intro k hk
  rw [BitVec.getLsbD_and]
  simp only [BitVec.getLsbD_append, BitVec.getLsbD_extractLsb']
  interval_cases k <;> simp

/-- LDIH puts its immediate above the low half of the register. -/
theorem ldih_value (imm : BitVec 16) (v : Word) : (immZero imm <<< 16) ||| (v &&& 0xFFFF#32) = imm ++ v.setWidth 16 := by
  apply BitVec.eq_of_getLsbD_eq
  intro k hk
  rw [BitVec.getLsbD_or, BitVec.getLsbD_and, BitVec.getLsbD_append]
  interval_cases k <;> simp [immZero]

/-- CTRL as MOVC reads it: IE below the six stored bits. -/
theorem ctrl_value (ie : Bool) (ctrl : BitVec 6) :
    BitVec.ofNat 32 (flag ie + 2 * ctrl.toNat) = (0#25 ++ ctrl ++ BitVec.ofBool ie).setWidth 32 := by
  cases ie <;> revert ctrl <;> decide

/-! ### The registers of MOVX and MOVC -/

section
variable (c : Core) (v : Word)

theorem setX_address {x : Nat} (h : x < 8) : c.setX x v = { c with a := mapSet c.a x v } := if_pos h

theorem setX_modifier {x : Nat} (h : 8 ≤ x) (h' : x < 16) : c.setX x v = { c with m := mapSet c.m (x - 8) v } := by
  rw [Core.setX, if_neg (by omega), if_pos h']

theorem setX_base {x : Nat} (h : 16 ≤ x) (h' : x < 24) :
    c.setX x v = { c with b := mapSet c.b (x - 16) (v.extractLsb' 2 30 ++ 0#2) } := by
  rw [Core.setX, if_neg (by omega), if_neg (by omega), if_pos h', and_baseMask]

theorem setX_length {x : Nat} (h : 24 ≤ x) :
    c.setX x v = { c with l := mapSet c.l (x - 24) (0#8 ++ v.extractLsb' 2 22 ++ 0#2) } := by
  rw [Core.setX, if_neg (by omega), if_neg (by omega), if_neg (by omega), and_lengthMask]

/-- The control registers that a program cannot write keep their contents. -/
theorem setControl_readOnly (cr : Fin 11) (h0 : cr.val ≠ 0) (h2 : cr.val ≠ 2) (h3 : cr.val ≠ 3) (h7 : cr.val ≠ 7) :
    c.setControl cr v = c := by
  unfold Core.setControl
  split
  · exact absurd ‹_› h0
  · exact absurd ‹_› h2
  · exact absurd ‹_› h3
  · exact absurd ‹_› h7
  · rfl

/-- What each control register reads as. -/
theorem control_eq_getD (n : Nat) (cr : Fin 11) (s : State) : c.control n cr s =
    [c.flags.setWidth 32, c.sticky.setWidth 32, (0#25 ++ c.ctrl ++ BitVec.ofBool c.ie).setWidth 32, BitVec.ofNat 32 c.ipc,
      BitVec.ofNat 32 (mapGet tile0 s.rend.tiles (2 + n / 16)).index,
      BitVec.ofNat 32 ((mapGet tile0 s.rend.tiles (2 + n / 16)).index / 2 ^ 32), BitVec.ofNat 32 c.cycles,
      c.far.setWidth 32, BitVec.ofNat 32 n, BitVec.ofNat 32 s.time.rate, BitVec.ofNat 32 c.stack.length].getD cr.val 0 := by
  rw [← ctrl_value]
  fin_cases cr <;> rfl

end

/-- Settles O3: each move completes with one register written. -/
theorem moveForms : Obligations.MoveForms := by
  intro n dd ds x cr imm s h
  refine ⟨runsAs_of_issue _ n s 0 _ _ _ _ h rfl rfl, ?ldi, ?ldih, ?address, ?modifier, ?base, ?length,
    runsAs_of_issue _ n s 0 _ _ _ _ h rfl rfl, runsAs_of_issue _ n s 0 _ _ _ _ h rfl rfl, ?ctrl,
    runsAs_of_issue _ n s 0 _ _ _ _ h rfl rfl, runsAs_of_issue _ n s 0 _ _ _ _ h rfl rfl, ?readOnly, ?read⟩
  case ldi => exact runsAs_of_issue _ n s 0 _ _ _ _ h rfl rfl
  case ldih => exact runsAs_of_issue _ n s 0 _ _ _ _ h rfl (by rw [← ldih_value]; rfl)
  case address => exact fun hx => runsAs_of_issue _ n s 0 _ _ _ _ h rfl (by rw [setX_address _ _ hx])
  case modifier => exact fun hx hx' => runsAs_of_issue _ n s 0 _ _ _ _ h rfl (by rw [setX_modifier _ _ hx hx'])
  case base => exact fun hx hx' => runsAs_of_issue _ n s 0 _ _ _ _ h rfl (by rw [setX_base _ _ hx hx'])
  case length => exact fun hx => runsAs_of_issue _ n s 0 _ _ _ _ h rfl (by rw [setX_length _ _ hx])
  case ctrl => exact runsAs_of_issue _ n s 0 _ _ _ _ h rfl rfl
  case readOnly =>
    exact fun h0 h2 h3 h7 => runsAs_of_issue _ n s 0 _ _ _ _ h rfl (by rw [setControl_readOnly _ _ cr h0 h2 h3 h7])
  case read => exact runsAs_of_issue _ n s 0 _ _ _ _ h rfl (by rw [← control_eq_getD]; rfl)

end Sys2Proof.Machine
end

section
/-! PROOFS. The control class of a Ripple core (R308, R313, R314), the traps that control instructions and illegal words bring (R319), and ticks, interrupts and waits (R315 to R318). -/

namespace Sys2Proof.Machine

/-! ### Control instructions outside and under a repeat -/

section
variable {n : Nat} {s : State} (h : issues s n = true)
include h

theorem issueControl_of_no_repeat (f : Core → State → State) (hrep : (getCore s n).rep = none) :
    issueControl n s f = f (getCore s n) s := by
  simp [issueControl, h, hrep]

/-- Under a repeat a control instruction is illegal (R314). -/
theorem issueControl_of_repeat (f : Core → State → State) (hrep : (getCore s n).rep ≠ none) :
    issueControl n s f = trapped n 1 0 s := by
  simp [issueControl, h, Option.isSome_iff_ne_none.mpr hrep, trapCore_eq_trapped]

theorem exec_of_control {i : Instr} {u : State} (g : Core → State → State) (hrep : (getCore s n).rep = none)
    (hi : exec i s = .next (issueControl n s g)) (hg : g (getCore s n) s = u) : exec i s = .next u := by
  rw [hi, issueControl_of_no_repeat h g hrep, hg]

end

/-- REP with a count that is not 0 goes to the next word, which then issues that often. -/
theorem repeatNext_of_ne_zero (n k : Nat) (uses : List Use) (c : Core) (s : State) (hk : k ≠ 0) : repeatNext n k uses c s =
    setCore n { ({ c with rep := some k } : Core).spend uses 0 [] with pc := (c.pc + 1) % 16384 } s := by
  rw [repeatNext, if_neg hk]
  rfl

/-- REP with a count of 0 skips the next word (R314). -/
theorem repeatNext_zero (n : Nat) (uses : List Use) (c : Core) (s : State) : repeatNext n 0 uses c s =
    setCore n { c.spend uses 0 [] with pc := (c.pc + 2) % 16384 } s := rfl

/-- A branch to a word of the pond. -/
theorem jump_of_lt (n : Nat) (uses : List Use) (extra w : Nat) (c : Core) (s : State) (hw : w < 16384) :
    jump n uses extra w c s = setCore n { c.spend uses extra [] with pc := w } s := by
  rw [jump, Nat.mod_eq_of_lt hw]

/-- The decrement of DBNZ reaches 0 from 1 alone. -/
theorem sub_one_eq_zero_iff (x : Word) : x - 1 = 0 ↔ x = 1 := sub_eq_zero

section
variable {n : Nat} {s : State} (h : issues s n = true) (hrep : (getCore s n).rep = none)
include h hrep

theorem rep_branches (k : BitVec 16) (r : Fin 16) :
    (k ≠ 0 → branchesTo (.repImm n k) n s 0 (((getCore s n).pc + 1) % 16384) fun p => { p with rep := some k.toNat })
    ∧ (((getCore s n).dreg r).toNat % 65536 = 0 → branchesTo (.repReg n r) n s 0 (((getCore s n).pc + 2) % 16384) fun p => p)
    ∧ (((getCore s n).dreg r).toNat % 65536 ≠ 0 → branchesTo (.repReg n r) n s 0 (((getCore s n).pc + 1) % 16384) fun p =>
        { p with rep := some ((p.dreg r).toNat % 65536) }) := by
  refine ⟨fun hk => ?_, fun hz => ?_, fun hnz => ?_⟩
  · have hk' : k.toNat ≠ 0 := fun h0 => hk (BitVec.eq_of_toNat_eq h0)
    refine branches_of _ n s 0 _ [] _ (exec_of_control h _ hrep rfl ?_)
    rw [if_neg hk, repeatNext_of_ne_zero _ _ _ _ _ hk']
  · refine branches_of _ n s 0 _ [.otherD r] _ (exec_of_control h _ hrep rfl ?_)
    rw [hz, repeatNext_zero]
  · refine branches_of _ n s 0 _ [.otherD r] _ (exec_of_control h _ hrep rfl ?_)
    rw [repeatNext_of_ne_zero _ _ _ _ _ hnz]

theorem br_branches (cc : Fin 15) (w : BitVec 14) :
    (branchHolds (getCore s n) cc = true → branchesTo (.br n cc w) n s 2 w.toNat fun p => p)
    ∧ (branchHolds (getCore s n) cc = false → runsAs (.br n cc w) n s 0 fun p => p) := by
  rw [← cond_eq]
  refine ⟨fun hc => ?_, fun hc => ?_⟩
  · refine branches_of _ n s 2 _ (if cc.val = 0 then [] else [.cond]) _ (exec_of_control h _ hrep rfl ?_)
    rw [if_pos hc, jump_of_lt _ _ _ _ _ _ w.isLt]
  · refine runsAs_of _ n s 0 (fun p => p) [.cond] [] (exec_of_control h _ hrep rfl ?_)
    rw [if_neg (by simp [hc])]

theorem call_branches (w : BitVec 14) (hroom : (getCore s n).stack.length < 8) :
    branchesTo (.call n w) n s 2 w.toNat fun p => { p with stack := ((p.pc + 1) % 16384) :: p.stack } := by
  refine branches_of _ n s 2 _ [] _ (exec_of_control h _ hrep rfl ?_)
  rw [if_pos hroom, jump_of_lt _ _ _ _ _ _ w.isLt]

theorem ret_branches (w : Nat) (rest : List Nat) (hw : w < 16384) (hstack : (getCore s n).stack = w :: rest) :
    branchesTo (.ret n) n s 2 w fun p => { p with stack := rest } := by
  refine branches_of _ n s 2 _ [] _ (exec_of_control h _ hrep rfl ?_)
  simp only [hstack]
  exact jump_of_lt _ _ _ _ _ _ hw

theorem reti_branches (hipc : (getCore s n).ipc < 16384) :
    branchesTo (.reti n) n s 2 (getCore s n).ipc fun p => { p with flags := p.saved, ie := true } :=
  branches_of _ n s 2 _ [] _ (exec_of_control h _ hrep rfl (jump_of_lt _ _ _ _ _ _ hipc))

theorem dbnz_branches (r : Fin 16) (w : BitVec 14) :
    ((getCore s n).dreg r ≠ 1 → branchesTo (.dbnz n r w) n s 0 w.toNat fun p => { p with d := mapSet p.d r (p.dreg r - 1) })
    ∧ ((getCore s n).dreg r = 1 → runsAs (.dbnz n r w) n s 2 fun p => { p with d := mapSet p.d r 0 }) := by
  refine ⟨fun hr => ?_, fun hr => ?_⟩
  · refine branches_of _ n s 0 _ [.otherD r] _ (exec_of_control h _ hrep rfl ?_)
    rw [if_pos ((sub_one_eq_zero_iff _).not.mpr hr), jump_of_lt _ _ _ _ _ _ w.isLt]
    rfl
  · refine runsAs_of _ n s 2 _ [.otherD r] [] (exec_of_control h _ hrep rfl ?_)
    rw [if_neg (not_not.mpr ((sub_one_eq_zero_iff _).mpr hr)), (sub_one_eq_zero_iff _).mpr hr]
    rfl

/-- The traps of control instructions outside a repeat. -/
theorem control_traps : (∀ code : Byte, exec (.trap n code) s = .next (trapped n 6 code.toNat s))
    ∧ exec (.halt n) s = .next (trapped n 7 0 s)
    ∧ (∀ w : BitVec 14, 8 ≤ (getCore s n).stack.length → exec (.call n w) s = .next (trapped n 4 0 s))
    ∧ ((getCore s n).stack = [] → exec (.ret n) s = .next (trapped n 4 0 s))
    ∧ exec (.repImm n 0) s = .next (trapped n 1 0 s) := by
  refine ⟨fun code => exec_of_control h _ hrep rfl rfl, exec_of_control h _ hrep rfl rfl,
    fun w hfull => exec_of_control h _ hrep rfl ?_, fun hempty => exec_of_control h _ hrep rfl ?_,
    exec_of_control h _ hrep rfl (if_pos rfl)⟩
  · exact if_neg (Nat.not_lt.mpr hfull)
  · simp only [hempty]
    rfl

end

/-- Settles O5: outside a repeat each control instruction completes, branches or traps as its own rule says; under one every control instruction traps alike. -/
theorem controlAndTraps : Obligations.ControlAndTraps := by
  refine ⟨fun n s h hrep => ?runs, fun n s h => ⟨fun hrep => control_traps h hrep, fun w hw => ?illegal, fun hrep => ?under⟩⟩
  case runs =>
    exact ⟨runsAs_of _ n s 0 (fun p => p) _ _ (exec_of_control h _ hrep rfl rfl), fun k => (rep_branches h hrep k 0).1,
      fun r => (rep_branches h hrep 0 r).2.1, fun r => (rep_branches h hrep 0 r).2.2, fun cc w => (br_branches h hrep cc w).1,
      fun cc w => (br_branches h hrep cc w).2, call_branches h hrep, ret_branches h hrep, reti_branches h hrep,
      fun r w => (dbnz_branches h hrep r w).1, fun r w => (dbnz_branches h hrep r w).2,
      runsAs_of _ n s 0 _ _ _ (exec_of_control h _ hrep rfl rfl), runsAs_of _ n s 0 _ _ _ (exec_of_control h _ hrep rfl rfl),
      fun m => runsAs_of _ n s 0 _ _ _ (exec_of_control h _ hrep rfl rfl)⟩
  case illegal =>
    change execIllegalInstruction n w s = _
    rw [execIllegalInstruction, hw, if_pos Option.isNone_none, issue_of_issues n s _ h, trapCore_eq_trapped]
  case under =>
    intro k r cc w m b i hi
    have traps (f : Core → State → State) := congrArg (Host.Outcome.next (φ := Fault) (ρ := Refusal)) (issueControl_of_repeat h f hrep)
    simp only [List.mem_cons, List.not_mem_nil, or_false] at hi
    rcases hi with rfl | rfl | rfl | rfl | rfl | rfl | rfl | rfl | rfl | rfl | rfl | rfl | rfl | rfl <;> exact traps _

/-! ### Ticks, interrupts and waits -/

section
variable {n : Nat} {s : State} (hn : n < s.member.cores) (hp : powered s (coreDie n) = true)
  (hst : (getCore s n).st = .running)
include hn hp hst

/-- A running core of a powered die takes ticks, interrupts and ends of waits. -/
theorem runs_eq_true : (decide (n < s.member.cores) && powered s (coreDie n) && (getCore s n).st == .running) = true := by
  simp [hn, hp, hst]

theorem issues_of_not_waiting (hw : (getCore s n).waiting = none) : issues s n = true := by
  simp [issues, hn, hp, hst, hw]

theorem wait_runs (hw : (getCore s n).waiting = none) (hrep : (getCore s n).rep = none) :
    ((getCore s n).tickPending = true → runsAs (.wait n false) n s 0 fun p => { p with tickPending := false })
    ∧ ((getCore s n).anyReady = true → runsAs (.wait n true) n s 0 fun p => p)
    ∧ ((getCore s n).anyReady = false → (getCore s n).tickPending = true →
        runsAs (.wait n true) n s 0 fun p => { p with tickPending := false })
    ∧ (∀ m : Bool, (getCore s n).tickPending = false → (m && (getCore s n).anyReady) = false →
        exec (.wait n m) s = .next (setCore n { getCore s n with waiting := some m, hazard := [] } s)) := by
  have h := issues_of_not_waiting hn hp hst hw
  refine ⟨fun ht => ?_, fun hr => ?_, fun hr ht => ?_, fun m ht hr => ?_⟩
  · exact runsAs_of _ n s 0 _ [] [] (exec_of_control h _ hrep rfl (by simp [ht, Core.eatTick]))
  · exact runsAs_of _ n s 0 (fun p => p) [] [] (exec_of_control h _ hrep rfl (by simp [hr]))
  · exact runsAs_of _ n s 0 _ [] [] (exec_of_control h _ hrep rfl (by simp [hr, ht, Core.eatTick]))
  · exact exec_of_control h _ hrep rfl (by simp [hr, ht])

theorem exec_rippleTick : exec (.rippleTick n) s = .next (setCore n
    (if (getCore s n).tickPending then { getCore s n with
        ovr := addCycles (getCore s n).ovr 1, busyLast := (getCore s n).busy
        peak := max (getCore s n).peak (getCore s n).busy, busy := 0, cycles := 0 }
      else { getCore s n with
        tickPending := true, busyLast := (getCore s n).busy, peak := max (getCore s n).peak (getCore s n).busy
        busy := 0, cycles := 0 }) s) := by
  change execRippleTick n s = _
  rw [execRippleTick, if_pos (runs_eq_true hn hp hst)]
  rfl

theorem exec_interruptEntry : exec (.interruptEntry n) s = .next
    (if (getCore s n).ie && (getCore s n).tickPending && (getCore s n).rep.isNone then setCore n { getCore s n with
        ipc := if (getCore s n).waiting.isSome then ((getCore s n).pc + 1) % 16384 else (getCore s n).pc
        saved := (getCore s n).flags, ie := false, pc := 8, tickPending := false, waiting := none
        cycles := addCycles (getCore s n).cycles 3, busy := addCycles (getCore s n).busy 3, hazard := [] } s
      else s) := by
  change execInterruptEntry n s = _
  rw [execInterruptEntry, if_pos (runs_eq_true hn hp hst)]
  rfl

/-- The core after a wait that lasted some cycles. -/
def Core.afterWait (c : Core) (waited : Nat) : Core :=
  { c with waiting := none, pc := (c.pc + 1) % 16384, cycles := addCycles c.cycles waited }

theorem exec_waitEnd (waited : Nat) (m : Bool) (hw : (getCore s n).waiting = some m) : exec (.waitEnd n waited) s = .next
    (if m && (getCore s n).anyReady then setCore n ((getCore s n).afterWait waited) s
      else if (getCore s n).tickPending && !(getCore s n).ie then setCore n ((getCore s n).afterWait waited).eatTick s
      else s) := by
  change execWaitEnd n waited s = _
  rw [execWaitEnd, if_pos (runs_eq_true hn hp hst)]
  simp only [hw]
  rfl

end

/-- Settles O6: WAIT ends or begins by what is ready and pending, and the three events of a core are the branches of one guarded update each. -/
theorem ticksAndWaits : Obligations.TicksAndWaits := by
  intro n s hn hp hst
  refine ⟨wait_runs hn hp hst, fun ht => ?_, fun ht => ?_, fun hie ht hrep => ?_, fun hno => ?_, fun waited hw hr => ?_,
    fun waited m hw hr ht hie => ?_⟩
  · rw [exec_rippleTick hn hp hst, if_neg (by simp [ht])]
  · rw [exec_rippleTick hn hp hst, if_pos ht]
  · rw [exec_interruptEntry hn hp hst, if_pos (by simp [hie, ht, hrep])]
    cases hw : (getCore s n).waiting <;> simp
  · rw [exec_interruptEntry hn hp hst, if_neg]
    rcases hno with h | h | h <;> simp [h]
  · rw [exec_waitEnd hn hp hst waited true hw, if_pos (by simpa [Core.anyReady] using hr)]
    rfl
  · rw [exec_waitEnd hn hp hst waited m hw, if_neg (by simpa [Core.anyReady] using hr), if_pos (by simp [ht, hie])]
    rfl

end Sys2Proof.Machine
end

section
/-! PROOFS. The data space of a Ripple core (R299, R300) and the instructions that access it: LD and ST (R301, R310). -/

namespace Sys2Proof.Machine

/-! ### Where an address leads -/

section
variable (c : Core) (addr : Word)

theorem Core.target_misaligned (h : addr.toNat % 4 ≠ 0) : c.target addr = .misaligned := if_pos h

theorem Core.target_window {bank : Nat} (h4 : addr.toNat % 4 = 0) (hw : addr.toNat < 0x80000)
    (hbank : mapFind c.windows (addr.toNat / 0x10000) = some bank) :
    c.target addr = .window (addr.toNat / 0x10000) (addr.toNat % 0x10000) := by
  simp [Core.target, h4, hw, mapHas, hbank]

theorem Core.target_freeWindow (h4 : addr.toNat % 4 = 0) (hw : addr.toNat < 0x80000)
    (hbank : mapFind c.windows (addr.toNat / 0x10000) = none) : c.target addr = .unmapped := by
  simp [Core.target, h4, hw, mapHas, hbank]

theorem Core.target_block (h4 : addr.toNat % 4 = 0) (hlo : 0x100000 ≤ addr.toNat) (hhi : addr.toNat < 0x101000) :
    c.target addr = .block (addr.toNat - 0x100000) := by
  rw [Core.target]
  simp only [h4, ne_eq, not_true_eq_false, if_false, if_neg (show ¬ addr.toNat < 0x80000 by omega), if_pos (And.intro hlo hhi)]

theorem Core.target_tarnReg (h4 : addr.toNat % 4 = 0) (hlo : 0x400000 ≤ addr.toNat) (hhi : addr.toNat < 0x500000) :
    c.target addr = .tarnReg addr.toNat := by
  rw [Core.target]
  simp only [h4, ne_eq, not_true_eq_false, if_false, if_neg (show ¬ addr.toNat < 0x80000 by omega),
    if_neg (show ¬ (0x100000 ≤ addr.toNat ∧ addr.toNat < 0x101000) by omega), if_pos (And.intro hlo hhi)]

theorem Core.target_far (h4 : addr.toNat % 4 = 0) (hlo : 0x80000000 ≤ addr.toNat) (hhi : addr.toNat < 0x81000000) :
    c.target addr = .far (c.far.toNat * 2 ^ 24 + addr.toNat % 2 ^ 24) :=
  c.target_farWindow addr h4 (by omega)

/-- The addresses between the windows, the blocks and the far window lead nowhere (R299). -/
theorem Core.target_gap (h4 : addr.toNat % 4 = 0) (h : (0x80000 ≤ addr.toNat ∧ addr.toNat < 0x100000)
    ∨ (0x101000 ≤ addr.toNat ∧ addr.toNat < 0x400000) ∨ (0x500000 ≤ addr.toNat ∧ addr.toNat < 0x80000000)
    ∨ 0x81000000 ≤ addr.toNat) : c.target addr = .unmapped := by
  rw [Core.target]
  simp only [h4, ne_eq, not_true_eq_false, if_false, if_neg (show ¬ addr.toNat < 0x80000 by omega),
    if_neg (show ¬ (0x100000 ≤ addr.toNat ∧ addr.toNat < 0x101000) by omega),
    if_neg (show ¬ (0x400000 ≤ addr.toNat ∧ addr.toNat < 0x500000) by omega),
    if_neg (show ¬ (0x80000000 ≤ addr.toNat ∧ addr.toNat < 0x81000000) by omega)]

end

/-! ### Loads and stores by target -/

section
variable (n : Nat) (addr v : Word) (s : State)

theorem access_misaligned (h : (getCore s n).target addr = .misaligned) :
    loadWord n addr s = (.trap 2 false, s) ∧ storeWord n addr v s = (.trap 2 false, s) := by
  simp [loadWord, storeWord, h]

theorem access_unmapped (h : (getCore s n).target addr = .unmapped) :
    loadWord n addr s = (.trap 3 false, s) ∧ storeWord n addr v s = (.trap 3 false, s) := by
  simp [loadWord, storeWord, h]

theorem access_block {off : Nat} (h : (getCore s n).target addr = .block off) :
    loadWord n addr s = (.done (BitVec.ofNat 32 (rplReg s n off)) 0 false false, s)
    ∧ storeWord n addr v s = (.done 0 0 false false, rplWrite n off v s) := by
  simp [loadWord, storeWord, h]

theorem access_tarnReg {off : Nat} (h : (getCore s n).target addr = .tarnReg off) :
    loadWord n addr s = (.done (regRead s (coreDie n) off) (accessCycles n 20 s) false false, s)
    ∧ storeWord n addr v s = (.trap 3 false, s) := by
  simp [loadWord, storeWord, h]

end

/-! ### A window's bank -/

/-- A word of a pond stands at a multiple of 4. -/
theorem pondAddr_word (die bank off : Nat) (h : off % 4 = 0) : pondAddr die bank off / 4 * 4 = pondAddr die bank off := by
  unfold pondAddr dieAddr pondBase
  omega

theorem takeBad_good (addr : Nat) (s : State) (h : s.hw.ponds.bad.contains (addr / 4 * 4) = false) :
    takeBad addr s = (false, s) := by
  simp only [takeBad, h]
  rfl

theorem takeBad_bad (addr : Nat) (s : State) (h : s.hw.ponds.bad.contains (addr / 4 * 4) = true) :
    takeBad addr s = (true, { s with hw.ponds.bad := s.hw.ponds.bad.erase (addr / 4 * 4) }) := by
  simp only [takeBad, h, if_true]

/-- Only a bank in retention is woken. -/
theorem wakeBank_awake (die bank : Nat) (s : State) (h : (getBank s die bank).pwr ≠ 1) : wakeBank die bank s = s := if_neg h

theorem wakeBank_bad (die bank : Nat) (s : State) : (wakeBank die bank s).hw.ponds.bad = s.hw.ponds.bad := by
  unfold wakeBank
  dsimp only
  split <;> rfl

theorem readWord_wakeBank (die bank a : Nat) (s : State) : readWord (wakeBank die bank s) a = readWord s a := by
  unfold wakeBank
  dsimp only
  split <;> rfl

section
variable (n : Nat) (addr v : Word) (s : State) {slot off bank : Nat} (h : (getCore s n).target addr = .window slot off)
  (hbank : mapFind (getCore s n).windows slot = some bank)
include h hbank

theorem access_offBank (hp : (getBank s (coreDie n) bank).pwr = 2) :
    loadWord n addr s = (.done 0 0 true false, s) ∧ storeWord n addr v s = (.done 0 0 true false, s) := by
  simp [loadWord, storeWord, h, mapGet, hbank, hp]

theorem storeWord_window (hp : (getBank s (coreDie n) bank).pwr ≠ 2) : storeWord n addr v s =
    (.done 0 (if (getBank s (coreDie n) bank).pwr = 1 then 64 else 0) false false,
      mendWords (pondAddr (coreDie n) bank off) 4 (writeWord (pondAddr (coreDie n) bank off) v (wakeBank (coreDie n) bank s))) := by
  simp [storeWord, h, mapGet, hbank, hp]

theorem loadWord_window_good (hp : (getBank s (coreDie n) bank).pwr ≠ 2) (hoff : off % 4 = 0)
    (hgood : s.hw.ponds.bad.contains (pondAddr (coreDie n) bank off) = false) : loadWord n addr s =
    (.done (readWord s (pondAddr (coreDie n) bank off)) (if (getBank s (coreDie n) bank).pwr == 1 then 64 else 0) false false,
      wakeBank (coreDie n) bank s) := by
  rw [← pondAddr_word _ _ _ hoff, ← wakeBank_bad (coreDie n) bank] at hgood
  simp [loadWord, h, mapGet, hbank, hp, takeBad_good _ _ hgood, readWord_wakeBank]

theorem loadWord_window_bad (hp : (getBank s (coreDie n) bank).pwr = 0) (hoff : off % 4 = 0)
    (hbad : s.hw.ponds.bad.contains (pondAddr (coreDie n) bank off) = true) : loadWord n addr s =
    (.done 0 2 false true, { s with hw.ponds.bad := s.hw.ponds.bad.erase (pondAddr (coreDie n) bank off) }) := by
  have hawake := wakeBank_awake (coreDie n) bank s (by simp [hp])
  rw [← pondAddr_word _ _ _ hoff] at hbad
  simp [loadWord, h, mapGet, hbank, hp, hawake, takeBad_bad _ _ hbad, pondAddr_word _ _ _ hoff]

end

/-! ### LD and ST -/

theorem noteAccess_eq (c : Core) (berr perr : Bool) : c.noteAccess berr perr =
    { c with sticky := c.sticky ||| (if berr then 0x20#8 else 0) ||| (if perr then 0x40#8 else 0) } := by
  cases berr <;> cases perr <;> simp [Core.noteAccess, Core.stick]

theorem stepA_eq (c : Core) (an : Nat) (o : Int) :
    c.stepA an o = { c with a := mapSet c.a an (postModified (c.areg an) (c.breg an) (c.lreg an) o) } := by
  have hzero : (c.lreg an).toNat = 0 ↔ c.lreg an = 0 := ⟨fun h => BitVec.eq_of_toNat_eq h, fun h => by rw [h]; rfl⟩
  simp only [Core.stepA, postModified, hzero]

theorem trapAccess_eq (n cause : Nat) (s : State) : trapAccess n cause false s = trapped n cause 0 s
    ∧ trapAccess n cause true s = trapped n cause 0 (setCore n { getCore s n with sticky := (getCore s n).sticky ||| 0x20#8 } s) :=
  ⟨rfl, rfl⟩

section
variable {n : Nat} {dd : Fin 16} {an : Fin 8} {md : PostMod} {s t : State} (h : issues s n = true)
include h

theorem exec_ld_done {v : Word} {extra : Nat} {berr perr : Bool}
    (hload : loadWord n ((getCore s n).areg an) s = (.done v extra berr perr, t)) : exec (.ld n dd an md) s =
    .next (completesOr9 n (.addr an :: postUses md) extra [(0, dd.val)] perr
      ((((getCore t n).stepA an ((getCore t n).offset md)).setD dd v).noteAccess berr perr) t) := by
  change execLd n dd an md s = _
  rw [execLd, issue_of_issues n s _ h, hload]

theorem exec_ld_trap {cause : Nat} {berr : Bool}
    (hload : loadWord n ((getCore s n).areg an) s = (.trap cause berr, t)) :
    exec (.ld n dd an md) s = .next (trapAccess n cause berr t) := by
  change execLd n dd an md s = _
  rw [execLd, issue_of_issues n s _ h, hload]

theorem exec_st_done {v : Word} {extra : Nat} {berr perr : Bool}
    (hstore : storeWord n ((getCore s n).areg an) ((getCore s n).dreg dd) s = (.done v extra berr perr, t)) :
    exec (.st n dd an md) s = .next (completes n (.otherD dd :: .addr an :: postUses md) extra []
      (((getCore t n).stepA an ((getCore t n).offset md)).noteAccess berr false) t) := by
  change execSt n dd an md s = _
  rw [execSt, issue_of_issues n s _ h, hstore]

theorem exec_st_trap {cause : Nat} {berr : Bool}
    (hstore : storeWord n ((getCore s n).areg an) ((getCore s n).dreg dd) s = (.trap cause berr, t)) :
    exec (.st n dd an md) s = .next (trapAccess n cause berr t) := by
  change execSt n dd an md s = _
  rw [execSt, issue_of_issues n s _ h, hstore]

end

section
variable (n : Nat) (c : Core) (an : Nat) (md : PostMod) (dd : Nat) (v : Word) (extra : Nat) (berr perr : Bool)
  (uses : List Use) (writes : List Written) (t : State)

theorem ctrl_load : (((c.stepA an (c.offset md)).setD dd v).noteAccess berr perr).ctrl = c.ctrl := by
  rw [noteAccess_eq]
  rfl

/-- LD completes: the pointer moved on, the register loaded, STICKY noted. -/
theorem completes_load : ∃ stall, stall ≤ 1 ∧
    completes n uses extra writes (((c.stepA an (c.offset md)).setD dd v).noteAccess berr perr) t =
      setCore n { c.stepA an (c.offset md) with
        d := mapSet c.d dd v
        sticky := c.sticky ||| (if berr then 0x20#8 else 0) ||| (if perr then 0x40#8 else 0)
        pc := c.nextWord, rep := c.nextRep, cycles := addCycles c.cycles (1 + stall + extra)
        busy := addCycles c.busy (1 + stall + extra), hazard := writes } t := by
  rw [noteAccess_eq]
  exact completes_eq n uses extra writes _ t

theorem spend_load : ∃ stall, stall ≤ 1 ∧
    (((c.stepA an (c.offset md)).setD dd v).noteAccess berr true).spend uses extra writes =
      { c.stepA an (c.offset md) with
        d := mapSet c.d dd v, sticky := c.sticky ||| (if berr then 0x20#8 else 0) ||| 0x40#8
        cycles := addCycles c.cycles (1 + stall + extra), busy := addCycles c.busy (1 + stall + extra), hazard := writes } := by
  rw [noteAccess_eq]
  exact spend_eq uses extra writes _

/-- ST completes: the pointer moved on, STICKY noted. -/
theorem completes_store : ∃ stall, stall ≤ 1 ∧
    completes n uses extra writes ((c.stepA an (c.offset md)).noteAccess berr false) t =
      setCore n { c.stepA an (c.offset md) with
        sticky := c.sticky ||| (if berr then 0x20#8 else 0)
        pc := c.nextWord, rep := c.nextRep, cycles := addCycles c.cycles (1 + stall + extra)
        busy := addCycles c.busy (1 + stall + extra), hazard := writes } t := by
  rw [noteAccess_eq, if_neg Bool.false_ne_true]
  simp only [BitVec.ofNat_eq_ofNat, BitVec.or_zero]
  exact completes_eq n uses extra writes _ t

end

/-- Settles O7: the target of the address decides the access; what it answers decides the instruction. -/
theorem dataAccesses : Obligations.DataAccesses := by
  refine ⟨fun n addr v s => ?access, fun n dd an md s t h => ?instr⟩
  case access =>
    intro p a
    have gap (h4 : a % 4 = 0) hrange := access_unmapped n addr v s (p.target_gap addr h4 hrange)
    refine ⟨fun h4 => access_misaligned n addr v s (p.target_misaligned addr h4), fun bank h4 hw hbank => ?window,
      fun h4 hw hfree => access_unmapped n addr v s (p.target_freeWindow addr h4 hw hfree),
      fun h4 hlo hhi => access_block n addr v s (p.target_block addr h4 hlo hhi), fun h4 hlo hhi => ?tarn,
      fun h4 hlo hhi => gap h4 (.inl ⟨hlo, hhi⟩), fun h4 hlo hhi => gap h4 (.inr (.inl ⟨hlo, hhi⟩)),
      fun h4 hlo hhi => gap h4 (.inr (.inr (.inl ⟨hlo, hhi⟩))), fun h4 hlo => gap h4 (.inr (.inr (.inr hlo))),
      fun h4 hlo hhi => ?far⟩
    case window =>
      have ht := p.target_window addr h4 hw hbank
      have hoff : a % 0x10000 % 4 = 0 := by omega
      refine ⟨fun hp => ⟨fun hgood => ?_, loadWord_window_bad n addr s ht hbank hp hoff, ?_⟩, fun hp => ⟨fun hgood => ?_, ?_⟩,
        fun hp => access_offBank n addr v s ht hbank hp⟩
      · rw [loadWord_window_good n addr s ht hbank (by omega) hoff hgood, wakeBank_awake _ _ _ (by omega), hp]
        rfl
      · rw [storeWord_window n addr v s ht hbank (by omega), wakeBank_awake _ _ _ (by omega), hp]
        rfl
      · rw [loadWord_window_good n addr s ht hbank (by omega) hoff hgood, hp]
        rfl
      · rw [storeWord_window n addr v s ht hbank (by omega), hp]
        rfl
    case tarn =>
      obtain ⟨hload, hstore⟩ := access_tarnReg n addr v s (p.target_tarnReg addr h4 hlo hhi)
      exact ⟨⟨_, Nat.mod_lt _ (by decide), hload⟩, hstore⟩
    case far =>
      have ht := p.target_far addr h4 hlo hhi
      exact ⟨loadWord_of_far n _ addr s ht, storeWord_of_far n _ addr v s ht⟩
  case instr =>
    intro p offset moved
    have hmoved (c : Core) : moved c = c.stepA an (c.offset md) := by
      rw [stepA_eq]
      cases md <;> rfl
    simp only [hmoved]
    refine ⟨fun v extra berr perr hload hno9 => ?_, fun v extra berr hload h9 => ?_, fun v extra berr perr hstore => ?_,
      fun cause hload => ?_, fun cause hstore => ?_, fun cause hload => ?_, fun cause hstore => ?_⟩
    · obtain ⟨stall, hstall, hc⟩ := completes_load n (getCore t n) an md dd v extra berr perr (.addr an :: postUses md) [(0, dd.val)] t
      refine ⟨stall, [(0, dd.val)], hstall, ?_⟩
      rw [exec_ld_done h hload, completesOr9, ctrl_load, if_neg (Bool.eq_false_iff.mp hno9), hc]
    · obtain ⟨stall, hstall, hc⟩ := spend_load (getCore t n) an md dd v extra berr (.addr an :: postUses md) [(0, dd.val)]
      refine ⟨stall, [(0, dd.val)], hstall, ?_⟩
      rw [exec_ld_done h hload, completesOr9, ctrl_load, Bool.true_and, if_pos h9, hc, trapCore_eq_trapped]
    · obtain ⟨stall, hstall, hc⟩ := completes_store n (getCore t n) an md extra berr (.otherD dd :: .addr an :: postUses md) [] t
      refine ⟨stall, [], hstall, ?_⟩
      rw [exec_st_done h hstore, hc]
    · rw [exec_ld_trap h hload, (trapAccess_eq n cause t).1]
    · rw [exec_st_trap h hstore, (trapAccess_eq n cause t).1]
    · rw [exec_ld_trap h hload, (trapAccess_eq n cause t).2]
    · rw [exec_st_trap h hstore, (trapAccess_eq n cause t).2]

end Sys2Proof.Machine
end

section
/-! PROOFS. The multiply-accumulate group of a Ripple core (R303, R304, R311): the parallel loads in order, what they leave, and the accumulator after the exact result. -/

namespace Sys2Proof.Machine

/-! ### The parallel loads -/

/-- What no load at all comes to. -/
def Loaded.nothing : Loaded := { trap := none, vals := [], extra := 0, berr := false, perr := false }

/-- One more load, after loads none of which trapped. -/
def loadNext (n : Nat) (c : Core) (a : Loaded × State) (l : Nat × Nat) : Loaded × State :=
  if a.1.trap.isSome then a
  else match loadWord n (c.areg l.2) a.2 with
    | (.trap cause berr, t) => ({ a.1 with trap := some (cause, berr) }, t)
    | (.done v extra berr perr, t) =>
      ({ a.1 with vals := a.1.vals ++ [(l.1, v)], extra := a.1.extra + extra, berr := a.1.berr || berr, perr := a.1.perr || perr }, t)

theorem runLoads_eq_foldl (n : Nat) (c : Core) (ls : List (Nat × Nat)) (s : State) :
    runLoads n c ls s = ls.foldl (loadNext n c) (.nothing, s) := rfl

section
variable {n : Nat} {c : Core} {s t : State} {ld : Loaded} {l : Nat × Nat}

theorem loadNext_done {v : Word} {extra : Nat} {berr perr : Bool} (hld : ld.trap = none)
    (h : loadWord n (c.areg l.2) s = (.done v extra berr perr, t)) : loadNext n c (ld, s) l =
    ({ trap := none, vals := ld.vals ++ [(l.1, v)], extra := ld.extra + extra, berr := ld.berr || berr, perr := ld.perr || perr }, t) := by
  simp [loadNext, hld, h]

theorem loadNext_trap {cause : Nat} {berr : Bool} (hld : ld.trap = none)
    (h : loadWord n (c.areg l.2) s = (.trap cause berr, t)) :
    loadNext n c (ld, s) l = ({ ld with trap := some (cause, berr) }, t) := by
  simp [loadNext, hld, h]

/-- Nothing is loaded after a trap. -/
theorem loadNext_trapped (h : ld.trap.isSome = true) : loadNext n c (ld, s) l = (ld, s) := if_pos h

end

/-! ### What the loads leave of the core -/

/-- A core that differs from another in its data and address registers alone. -/
def Core.SameButLoads (c d : Core) : Prop := ∃ dr ar, d = { c with d := dr, a := ar }

theorem sameButLoads_afterLoads (c : Core) (ls : List (Nat × Nat)) (vals : List (Nat × Word)) :
    c.SameButLoads (afterLoads c ls vals) := by
  have hstep : ∀ (ls : List (Nat × Nat)) (d : Core), c.SameButLoads d →
      c.SameButLoads (ls.foldl (fun c l => c.stepA l.2 (c.mreg l.2).toInt) d) := by
    intro ls
    induction ls with
    | nil => exact fun d h => h
    | cons l ls ih =>
      rintro d ⟨dr, ar, rfl⟩
      exact ih _ ⟨_, _, rfl⟩
  have hset : ∀ (vals : List (Nat × Word)) (d : Core), c.SameButLoads d →
      c.SameButLoads (vals.foldl (fun c v => c.setD v.1 v.2) d) := by
    intro vals
    induction vals with
    | nil => exact fun d h => h
    | cons v vals ih =>
      rintro d ⟨dr, ar, rfl⟩
      exact ih _ ⟨_, _, rfl⟩
  exact hset vals _ (hstep ls c ⟨c.d, c.a, rfl⟩)

/-- The core after the loads of an instruction: registers, STICKY and the count of conflicts. -/
def Core.loaded (c : Core) (ls : List (Nat × Nat)) (ld : Loaded) : Core :=
  { afterLoads c ls ld.vals with
    sticky := c.sticky ||| (if ld.berr then 0x20#8 else 0#8) ||| (if ld.perr then 0x40#8 else 0#8)
    conflict := if sameBank c ls then addCycles c.conflict 1 else c.conflict }

theorem loaded_eq (c : Core) (ls : List (Nat × Nat)) (ld : Loaded) : c.loaded ls ld =
    (let r := (afterLoads c ls ld.vals).noteAccess ld.berr ld.perr
     if sameBank c ls then { r with conflict := min 0xFFFFFFFF (r.conflict + 1) } else r) := by
  obtain ⟨dr, ar, h⟩ := sameButLoads_afterLoads c ls ld.vals
  rw [Core.loaded, noteAccess_eq, h]
  cases sameBank c ls <;> rfl

section
variable (c : Core) (ls : List (Nat × Nat)) (ld : Loaded)

theorem loaded_ctrl : (c.loaded ls ld).ctrl = c.ctrl := by
  obtain ⟨dr, ar, h⟩ := sameButLoads_afterLoads c ls ld.vals
  rw [Core.loaded, h]

theorem loaded_nextWord : (c.loaded ls ld).nextWord = c.nextWord := by
  obtain ⟨dr, ar, h⟩ := sameButLoads_afterLoads c ls ld.vals
  rw [Core.loaded, h]
  rfl

theorem loaded_nextRep : (c.loaded ls ld).nextRep = c.nextRep := by
  obtain ⟨dr, ar, h⟩ := sameButLoads_afterLoads c ls ld.vals
  rw [Core.loaded, h]
  rfl

end

/-! ### The accumulator -/

section
variable (c : Core) (a : Nat) (r : Int)

theorem accumulateTo_fresh : c.accumulateTo a true r =
    ({ c with acc := mapSet c.acc a (BitVec.ofInt 72 r), pinned := c.pinned &&& ~~~(BitVec.ofNat 4 (2 ^ a)) }, false) := rfl

theorem accumulateTo_of_pinned (hp : c.pinned.getLsbD a = true) : c.accumulateTo a false r = (c, false) := by
  simp [Core.accumulateTo, hp]

theorem accumulateTo_of_inRange (hp : c.pinned.getLsbD a = false) (hlo : -2 ^ 71 ≤ r) (hhi : r < 2 ^ 71) :
    c.accumulateTo a false r = ({ c with acc := mapSet c.acc a (BitVec.ofInt 72 r) }, false) := by
  simp [Core.accumulateTo, hp, accFit_of_inRange r hlo hhi]

theorem accumulateTo_of_outOfRange (hp : c.pinned.getLsbD a = false) (hr : r < -2 ^ 71 ∨ 2 ^ 71 ≤ r) :
    c.accumulateTo a false r = (c.pin a r, true) := by
  simp [Core.accumulateTo, hp, accFit_of_outOfRange r hr, Core.pin, Core.stick]

end

/-! ### The instruction -/

/-- An instruction that completes, and where it concealed a word under TPE then traps with cause 9. -/
theorem completesOr9_eq (n : Nat) (uses : List Use) (extra : Nat) (writes : List Written) (perr : Bool) (c : Core) (s : State) :
    ∃ stall, stall ≤ 1 ∧ completesOr9 n uses extra writes perr c s =
      if perr && c.ctrl.getLsbD 5 then trapped n 9 0 (setCore n { c with
        cycles := addCycles c.cycles (1 + stall + extra), busy := addCycles c.busy (1 + stall + extra), hazard := writes } s)
      else setCore n { c with
        pc := c.nextWord, rep := c.nextRep, cycles := addCycles c.cycles (1 + stall + extra)
        busy := addCycles c.busy (1 + stall + extra), hazard := writes } s := by
  unfold completesOr9
  split
  · obtain ⟨stall, hstall, h⟩ := spend_eq uses extra writes c
    exact ⟨stall, hstall, by rw [h, trapCore_eq_trapped]⟩
  · exact completes_eq n uses extra writes c s

section
variable {n : Nat} {a : Fin 4} {x y : Fin 16} {p0 p1 : Option (Fin 8 × Fin 4)} {s : State} (fresh : Bool)
  (result : Int → Word → Word → Int) (h : issues s n = true)
include h

/-- An address that no load may reach traps before any effect. -/
theorem mulAccumulate_badLoad {cause : Nat} (hbad : badLoad (getCore s n) (parallelLoads p0 p1) = some cause) :
    mulAccumulate n a x y p0 p1 fresh result s = trapped n cause 0 s := by
  rw [mulAccumulate, issue_of_issues n s _ h]
  simp only [hbad]
  rfl

/-- The accumulation on the core that the loads leave; TPa traps after a pin. -/
theorem mulAccumulate_of_loads {t : State} {ld : Loaded} (hbad : badLoad (getCore s n) (parallelLoads p0 p1) = none)
    (hrun : runLoads n (getCore s n) (parallelLoads p0 p1) s = (ld, t)) (htrap : ld.trap = none) {c : Core} {pins : Bool}
    (hacc : ((getCore t n).loaded (parallelLoads p0 p1) ld).accumulateTo a fresh
      (result ((getCore s n).accv a).toInt ((getCore s n).dreg x) ((getCore s n).dreg y)) = (c, pins)) :
    ∃ uses writes, mulAccumulate n a x y p0 p1 fresh result s =
      if pins && c.ctrl.getLsbD a then
        trapped n 5 0 (setCore n (c.spend uses (ld.extra + flag (sameBank (getCore t n) (parallelLoads p0 p1))) writes) t)
      else completesOr9 n uses (ld.extra + flag (sameBank (getCore t n) (parallelLoads p0 p1))) writes ld.perr c t := by
  refine ⟨[.mulD x, .mulD y] ++ (parallelLoads p0 p1).flatMap (fun l => [.addr l.2, .offset l.2]),
    (3, a.val) :: ld.vals.map (fun v => (0, v.1)), ?_⟩
  rw [loaded_eq] at hacc
  rw [mulAccumulate, issue_of_issues n s _ h]
  simp only [hbad, hrun, htrap]
  unfold afterLoads at hacc
  dsimp only at hacc
  rw [hacc]
  rfl

end

/-! ### What an instruction of the group comes to -/

/-- The cycles that an instruction of the group has spent. -/
def Core.spentWith (c : Core) (stall extra : Nat) (writes : List Written) : Core :=
  { c with cycles := addCycles c.cycles (1 + stall + extra), busy := addCycles c.busy (1 + stall + extra), hazard := writes }

/-- The instruction leaves registers `r` on core `n` and goes on to the next word, unless a concealed word traps under TPE. -/
def leavesCore (i : Instr) (n : Nat) (s t : State) (extra : Nat) (perr : Bool) (r : Core) : Prop :=
  ∃ stall writes, stall ≤ 1 ∧ exec i s = .next (if perr && r.ctrl.getLsbD 5
    then trapped n 9 0 (setCore n (r.spentWith stall extra writes) t)
    else setCore n { r.spentWith stall extra writes with pc := r.nextWord, rep := r.nextRep } t)

/-- The instruction leaves registers `r` on core `n`, which then traps with cause 5. -/
def pinTraps (i : Instr) (n : Nat) (s t : State) (extra : Nat) (r : Core) : Prop :=
  ∃ stall writes, stall ≤ 1 ∧ exec i s = .next (trapped n 5 0 (setCore n (r.spentWith stall extra writes) t))

section
variable {i : Instr} {n : Nat} {a : Fin 4} {x y : Fin 16} {p0 p1 : Option (Fin 8 × Fin 4)} {s t : State} {ld : Loaded} {fresh : Bool}
  {result : Int → Word → Word → Int} (h : issues s n = true) (hi : exec i s = .next (mulAccumulate n a x y p0 p1 fresh result s))
  (hbad : badLoad (getCore s n) (parallelLoads p0 p1) = none)
  (hrun : runLoads n (getCore s n) (parallelLoads p0 p1) s = (ld, t)) (htrap : ld.trap = none)
include h hi hbad hrun htrap

theorem leavesCore_of_accumulateTo {c : Core} {pins : Bool}
    (hacc : ((getCore t n).loaded (parallelLoads p0 p1) ld).accumulateTo a fresh
      (result ((getCore s n).accv a).toInt ((getCore s n).dreg x) ((getCore s n).dreg y)) = (c, pins))
    (hno5 : (pins && c.ctrl.getLsbD a) = false) :
    leavesCore i n s t (ld.extra + flag (sameBank (getCore t n) (parallelLoads p0 p1))) ld.perr c := by
  obtain ⟨uses, writes, hm⟩ := mulAccumulate_of_loads fresh result h hbad hrun htrap hacc
  obtain ⟨stall, hstall, hc⟩ :=
    completesOr9_eq n uses (ld.extra + flag (sameBank (getCore t n) (parallelLoads p0 p1))) writes ld.perr c t
  exact ⟨stall, writes, hstall, by rw [hi, hm, if_neg (Bool.eq_false_iff.mp hno5), hc]; rfl⟩

theorem pinTraps_of_accumulateTo {c : Core}
    (hacc : ((getCore t n).loaded (parallelLoads p0 p1) ld).accumulateTo a fresh
      (result ((getCore s n).accv a).toInt ((getCore s n).dreg x) ((getCore s n).dreg y)) = (c, true))
    (h5 : c.ctrl.getLsbD a = true) :
    pinTraps i n s t (ld.extra + flag (sameBank (getCore t n) (parallelLoads p0 p1))) c := by
  obtain ⟨uses, writes, hm⟩ := mulAccumulate_of_loads fresh result h hbad hrun htrap hacc
  obtain ⟨stall, hstall, hc⟩ := spend_eq uses (ld.extra + flag (sameBank (getCore t n) (parallelLoads p0 p1))) writes c
  exact ⟨stall, writes, hstall, by rw [hi, hm, Bool.true_and, if_pos h5, hc]; rfl⟩

end

/-! ### The loads of one instruction -/

section
variable {n : Nat} {c : Core} {s t u : State} (d0 d1 : Fin 8) (a0 a1 : Fin 4)

theorem runLoads_one (l : Nat × Nat) : runLoads n c [l] s = loadNext n c (.nothing, s) l := rfl

theorem runLoads_two (l m : Nat × Nat) : runLoads n c [l, m] s = loadNext n c (runLoads n c [l] s) m := rfl

theorem runLoads_one_done {l : Nat × Nat} {v : Word} {e : Nat} {b q : Bool} (h : loadWord n (c.areg l.2) s = (.done v e b q, t)) :
    runLoads n c [l] s = ({ trap := none, vals := [(l.1, v)], extra := e, berr := b, perr := q }, t) := by
  rw [runLoads_one, loadNext_done rfl h]
  simp [Loaded.nothing]

theorem runLoads_one_trap {l : Nat × Nat} {cause : Nat} {b : Bool} (h : loadWord n (c.areg l.2) s = (.trap cause b, t)) :
    runLoads n c [l] s = ({ Loaded.nothing with trap := some (cause, b) }, t) :=
  loadNext_trap (ld := .nothing) rfl h

end

/-- Settles O8: the loads run one after another; the accumulation then meets a pinned accumulator, fits, pins, or replaces the accumulator, and the instruction completes or traps on that core. -/
theorem macInstructions : Obligations.MacInstructions := by
  refine ⟨fun n a x y p0 p1 s t ld h => ?group, fun n c d0 d1 a0 a1 s t u v0 v1 e0 e1 b0 b1 q0 q1 => ?loads⟩
  case group =>
    intro p ls hbad hrun htrap q spent pinTraps leaves sums
    have hloaded : (getCore t n).loaded ls ld = q := rfl
    have hctrl : q.ctrl = (getCore t n).ctrl := loaded_ctrl _ _ _
    have hword : q.nextWord = (getCore t n).nextWord := loaded_nextWord _ _ _
    have hrep : q.nextRep = (getCore t n).nextRep := loaded_nextRep _ _ _
    clear_value q
    have hleaves (i : Instr) (r : Core) (hr : leavesCore i n s t (ld.extra + flag (sameBank (getCore t n) ls)) ld.perr r)
        (hctrl' : r.ctrl = q.ctrl := by rfl) (hword' : r.nextWord = q.nextWord := by rfl)
        (hrep' : r.nextRep = q.nextRep := by rfl) (hcyc : r.cycles = q.cycles := by rfl)
        (hbusy : r.busy = q.busy := by rfl) : leaves i r := by
      obtain ⟨stall, writes, hstall, he⟩ := hr
      refine ⟨stall, writes, hstall, ?_⟩
      rw [he, hctrl', hword', hrep', hctrl, hword, hrep, Core.spentWith, hcyc, hbusy]
      simp only [spent, ← Nat.add_assoc]
    have hsums (i : Instr) (result : Int → Word → Word → Int)
        (hi : exec i s = .next (mulAccumulate n a x y p0 p1 false result s)) :
        sums i (result (p.accv a).toInt (p.dreg x) (p.dreg y)) := by
      have hleft {c : Core} {pins : Bool} := leavesCore_of_accumulateTo (c := c) (pins := pins) h hi hbad hrun htrap
      have hpin {c : Core} := pinTraps_of_accumulateTo (c := c) h hi hbad hrun htrap
      rw [hloaded] at hleft hpin
      refine ⟨fun hp => hleaves i q (hleft (accumulateTo_of_pinned q a _ hp) rfl),
        fun hp hlo hhi => hleaves i _ (hleft (accumulateTo_of_inRange q a _ hp hlo hhi) rfl), fun hp hr => ?_⟩
      have hacc := accumulateTo_of_outOfRange q a _ hp hr
      intro pins
      split
      next h5 =>
        obtain ⟨stall, writes, hstall, he⟩ := hpin hacc h5
        refine ⟨stall, writes, hstall, ?_⟩
        rw [he, Core.spentWith]
        simp only [spent, ← Nat.add_assoc]
        rfl
      next h5 => exact hleaves i pins (hleft hacc (by simpa using h5))
    have hmpy {c : Core} {pins : Bool} := leavesCore_of_accumulateTo (i := .mpy n a x y p0 p1) (c := c) (pins := pins) h rfl hbad hrun htrap
    rw [hloaded] at hmpy
    exact ⟨hsums _ (fun acc x y => acc + x.toInt * y.toInt) rfl, hsums _ (fun acc x y => acc - x.toInt * y.toInt) rfl,
      hsums _ (fun acc x y => acc + (x.toNat : Int) * y.toInt) rfl, hleaves _ _ (hmpy (accumulateTo_fresh q a _) rfl)⟩
  case loads =>
    refine ⟨rfl, fun h0 => ⟨runLoads_one_done h0, fun h1 => ?_⟩, fun h1 => runLoads_one_done h1,
      fun cause b h0 => ⟨?_, ?_⟩, fun a x y p0 p1 cause h hbad i hi => ?_⟩
    · exact (runLoads_two _ _).trans (by rw [runLoads_one_done h0]; exact loadNext_done rfl h1)
    · exact congrArg (·.1.trap) (runLoads_one_trap (l := (d0.val, a0.val)) h0)
    · exact congrArg (·.1.trap) ((runLoads_two _ (8 + d1.val, 4 + a1.val)).trans
        (by rw [runLoads_one_trap (l := (d0.val, a0.val)) h0, loadNext_trapped rfl]))
    · simp only [List.mem_cons, List.not_mem_nil, or_false] at hi
      rcases hi with rfl | rfl | rfl | rfl <;> exact congrArg _ (mulAccumulate_badLoad _ _ h hbad)

end Sys2Proof.Machine
end

section
/-! PROOFS. The only commands that a step stops on. -/

namespace Sys2Proof.Machine

/-- What an outcome that stops must be due to: the debug unit, or an access of a size that no bus carries. -/
def StopsOn (debug badSize : Prop) (o : Host.Outcome State Fault Refusal) : Prop :=
  (∀ r, o = .refused r → r = .debugUnit ∧ debug) ∧ (∀ f, o = .fault f → f = .illFormedCommand ∧ badSize)

/-- An outcome that goes on stops on nothing. -/
theorem stopsOn_next (debug badSize : Prop) (t : State) : StopsOn debug badSize (.next t) := ⟨nofun, nofun⟩

/-- An access of a checked size stops only where the size is none of a bus. -/
theorem stopsOn_sized {debug badSize : Prop} (size : Nat) (t : State) (h : size ≠ 1 → size ≠ 2 → size ≠ 4 → badSize) :
    StopsOn debug badSize (if !accessSize size then .fault .illFormedCommand else .next t) := by
  split
  case isTrue hs =>
    simp only [accessSize, Bool.not_eq_true', Bool.or_eq_false_iff, beq_eq_false_iff_ne] at hs
    exact ⟨nofun, fun f hf => ⟨by cases hf; rfl, h hs.1.1 hs.1.2 hs.2⟩⟩
  case isFalse => exact stopsOn_next _ _ _

/-- Settles O10: every command goes on, but for an access of a size that no bus carries and the debug unit's instruction. -/
theorem whatCanStop : Obligations.WhatCanStop := by
  intro c s
  change StopsOn (c = .jtagCoreDebug) _ (exec c s)
  cases c with
  | registerWrite m a size v => exact stopsOn_sized size _ fun h₁ h₂ h₄ => ⟨m, size, h₁, h₂, h₄, .inl ⟨a, v, rfl⟩⟩
  | mbxInDataWrite m n off size v =>
    exact stopsOn_sized size _ fun h₁ h₂ h₄ => ⟨m, size, h₁, h₂, h₄, .inr (.inl ⟨n, off, v, rfl⟩)⟩
  | mbxInCommitRead m n size =>
    exact stopsOn_sized size _ fun h₁ h₂ h₄ => ⟨m, size, h₁, h₂, h₄, .inr (.inr (.inl ⟨n, rfl⟩))⟩
  | mbxOutPop m n size =>
    exact stopsOn_sized size _ fun h₁ h₂ h₄ => ⟨m, size, h₁, h₂, h₄, .inr (.inr (.inr (.inl ⟨n, rfl⟩)))⟩
  | lockRead m d n size =>
    exact stopsOn_sized size _ fun h₁ h₂ h₄ => ⟨m, size, h₁, h₂, h₄, .inr (.inr (.inr (.inr (.inl ⟨d, n, rfl⟩))))⟩
  | ptpTsqSeqRead m p size =>
    change StopsOn _ _ (execPtpTsqSeqRead m p size s)
    unfold execPtpTsqSeqRead
    split
    case isTrue hs =>
      exact ⟨nofun, fun f hf => ⟨by cases hf; rfl, m, size, hs.1, hs.2.1, hs.2.2,
        .inr (.inr (.inr (.inr (.inr ⟨p, rfl⟩))))⟩⟩
    case isFalse => exact stopsOn_next _ _ _
  | jtagCoreDebug =>
    change StopsOn _ _ (execJtagCoreDebug s)
    unfold execJtagCoreDebug
    split
    · exact ⟨fun r hr => ⟨by cases hr; rfl, rfl⟩, nofun⟩
    · exact stopsOn_next _ _ _
  | _ => exact stopsOn_next _ _ _

end Sys2Proof.Machine
end

section
/-! PROOFS. Responses and refusals (R129 to R132, R147), the checks before a message's own rules, events and settings on record (R138 to R141, R65). -/

namespace Sys2Proof.Machine

/-! ### Responses -/

/-- The header of a response with status OK: FIELD is 0x3FF from version 3.2 on (R129, R131). -/
theorem header_ok (op ver seq len flow : Nat) :
    header op 1 ver seq len 0x8000 flow (codeOk + 0 * 256 + if 0x32 ≤ ver then noField * 65536 else 0) =
      bytesLE 2 op ++ [1] ++ bytesLE 1 ver ++ bytesLE 2 seq ++ bytesLE 2 len ++ [0x00, 0x80] ++ bytesLE 2 flow
        ++ [0, 0] ++ (if 0x32 ≤ ver then [0xFF, 0x03] else [0, 0]) := by
  have hstatus : bytesLE 4 (codeOk + 0 * 256 + if 0x32 ≤ ver then noField * 65536 else 0) =
      [0, 0] ++ (if 0x32 ≤ ver then [0xFF, 0x03] else [0, 0]) := by
    split
    · decide
    · decide
  unfold header
  rw [hstatus, ← List.append_assoc]
  rfl

/-- The header of a response without a payload (R129). -/
theorem header_refusal (op ver seq flow status : Nat) :
    header op 1 ver seq 0 0x8000 flow status =
      bytesLE 2 op ++ [1] ++ bytesLE 1 ver ++ bytesLE 2 seq ++ [0, 0, 0x00, 0x80] ++ bytesLE 2 flow ++ bytesLE 4 status := rfl

/-- A response that is not to be discarded is queued, with its bytes, unless NORESP and status OK suppress it. -/
theorem respondAt_kept (ver : Nat) (rq : Request) (op : Nat) (r : Reply) (s : State) (hbody : r.code = codeClamped → r.echo = [])
    (hkeep : s.msg.ncp.discarding.contains (destKey rq, rq.seq) = false)
    (hsend : r.code = codeOk → rq.flags.testBit 2 = false) :
    respondAt ver rq op r s = enqueue (destKey rq) {
      event := false, seq := rq.seq, opcode := op
      bytes := header op 1 ver rq.seq r.body.length 0x8000 rq.flow
        (r.code + r.reason * 256 + if 0x32 ≤ ver then r.field * 65536 else 0) ++ r.body } s := by
  have hb : (if r.code = codeClamped ∧ 0x32 ≤ ver then r.body ++ r.echo else r.body) = r.body := by
    split
    · next h => rw [hbody h.1, List.append_nil]
    · rfl
  have hs : ¬((r.code == codeOk || r.code == codeClamped) && r.code == codeOk && rq.flags.testBit 2) = true := by
    by_cases hok : r.code = codeOk
    · simp [hsend hok]
    · simp [hok]
  unfold respondAt
  dsimp only
  rw [hb, if_neg (by rw [hkeep]; decide), if_neg hs]

/-- A request done with status OK and NORESP is no longer outstanding, and nothing is sent. -/
theorem respondAt_noresp (ver : Nat) (rq : Request) (op : Nat) (r : Reply) (s : State) (hok : r.code = codeOk)
    (hkeep : s.msg.ncp.discarding.contains (destKey rq, rq.seq) = false) (hnoresp : rq.flags.testBit 2 = true) :
    respondAt ver rq op r s = dropOutstanding (destKey rq) rq.seq s := by
  unfold respondAt
  dsimp only
  rw [if_neg (by rw [hkeep]; decide), if_pos (by rw [hok, hnoresp]; decide)]

/-- A response with the status of a request that is done goes out at the request's version (R147). -/
theorem respond_done (rq : Request) (op : Nat) (r : Reply) (s : State) (h : r.code = codeOk ∨ r.code = codeClamped) :
    respond rq op r s = respondAt rq.version rq op r s := by
  unfold respond
  dsimp only
  rw [if_pos h]

/-- A refusal goes out at the lower of the request's version and the negotiated one (R147). -/
theorem respond_refusal (rq : Request) (op : Nat) (r : Reply) (s : State) (h : ¬(r.code = codeOk ∨ r.code = codeClamped)) :
    respond rq op r s = respondAt (min rq.version (negotiated s rq)) rq op r s := by
  unfold respond
  dsimp only
  rw [if_neg h]

/-- Settles O11: the response's bytes and its queue; none for NORESP done OK; a refusal at the lower version. -/
theorem responses : Obligations.Responses := by
  refine ⟨fun rq op body t hresp hkeep => ?_, fun rq op body t hnoresp hkeep => ?_,
    fun rq op code reason field t hok hcl hkeep => ?_⟩
  · unfold answered
    rw [respond_done _ _ _ _ (Or.inl rfl), respondAt_kept _ _ _ _ _ (fun _ => rfl) hkeep (fun _ => hresp)]
    unfold replyOk
    rw [header_ok]
    rfl
  · unfold answered
    rw [respond_done _ _ _ _ (Or.inl rfl), respondAt_noresp _ _ _ _ _ rfl hkeep hnoresp]
    rfl
  · rw [respond_refusal _ _ _ _ (not_or.mpr ⟨hok, hcl⟩),
      respondAt_kept _ _ _ _ _ (fun _ => rfl) hkeep (fun h => absurd h hok)]
    unfold refuse
    rw [List.append_nil, List.length_nil, header_refusal]
    rfl

/-! ### The checks before a message's own rules -/

/-- Settles O12: each check in its order, once those before it have passed. -/
theorem refusalsBeforeServing : Obligations.RefusalsBeforeServing := by
  intro op rq s hup refusing high low
  have by_gate : ∀ code reason field, gate op rq s = some (refuse code reason field s) → refusing code reason field :=
    fun code reason field hg => serve_gated op rq s _ hup hg
  refine ⟨fun hh => by_gate _ _ _ (if_pos hh), fun hh hl => by_gate _ _ _ ?_, fun hh hl => ?_⟩
  · exact (if_neg hh).trans (if_pos hl)
  have hversions : gate op rq s = _ := (if_neg hh).trans (if_neg hl)
  refine ⟨fun hm => by_gate _ _ _ ?_, fun hm => ⟨fun hready hearly => by_gate _ _ _ ?_, fun hready =>
    ⟨fun hrun hop => by_gate _ _ _ ?_, fun hrun => ⟨fun hrate hop => by_gate _ _ _ ?_, fun hrate =>
      ⟨fun hcommit hop => by_gate _ _ _ ?_, fun hcommit hproving f hf => by_gate _ _ _ ?_⟩⟩⟩⟩⟩
  · simp [hversions, hm]
  · simp [hversions, hm, hready, hearly]
  · simp [hversions, hm, hready, hrun, hop]
  · simp [hversions, hm, hready, hrun, hrate, hop]
  · simp [hversions, hm, hready, hrun, hrate, hcommit, hop]
  · simp [hversions, hm, hready, hrun, hrate, hcommit, hproving, hf, badArg]

/-! ### Events and records -/

/-- The bytes of an event of one destination: header and payload with the fields R138 puts before its own (R129, R138). -/
theorem header_event (op ver seq len flow : Nat) :
    header op 2 ver seq len 0x8000 flow 0 =
      bytesLE 2 op ++ [2] ++ bytesLE 1 ver ++ bytesLE 2 seq ++ bytesLE 2 len ++ [0x00, 0x80] ++ bytesLE 2 flow ++ [0, 0, 0, 0] := rfl

/-- An event that a destination takes, with room for it in the queue: numbered, queued and on the log. -/
theorem eventTo_queued (cls die op flow : Nat) (fields : List Byte) (s : State) (k : Nat)
    (hmask : (getDest s k).evMask.testBit cls = true) (hver : opVersion op ≤ (getDest s k).version)
    (hroom : ((getDest s k).queue.filter (·.event)).length < 256) :
    eventTo cls die op flow fields s k =
      let d := getDest s k
      let pay := eventBytes s d.nextEv cls die fields
      let m : OutMsg := { event := true, seq := d.nextEv, opcode := op
                          bytes := header op 2 d.version (d.nextEv % 65536) pay.length 0x8000 flow 0 ++ pay }
      let t := setDest k { d with nextEv := succEvent d.nextEv, queue := d.queue ++ [m] } s
      let t := { t with msg.ncp.eventLog := (m :: t.msg.ncp.eventLog).take 1024 }
      if (k = 0x0001 ∨ k = 0x0010) ∧ d.dbMask.testBit cls then ringHost cls t else t := by
  unfold eventTo
  simp only [hmask, hroom, decide_true, decide_eq_false (Nat.not_lt.mpr hver)]
  rfl

/-- An event that a destination takes, with 256 in its queue: numbered and discarded. -/
theorem eventTo_discarded (cls die op flow : Nat) (fields : List Byte) (s : State) (k : Nat)
    (hmask : (getDest s k).evMask.testBit cls = true) (hver : opVersion op ≤ (getDest s k).version)
    (hfull : 256 ≤ ((getDest s k).queue.filter (·.event)).length) :
    eventTo cls die op flow fields s k =
      let d := getDest s k
      let t := setDest k { d with nextEv := succEvent d.nextEv } s
      if (k = 0x0001 ∨ k = 0x0010) ∧ d.dbMask.testBit cls then ringHost cls t else t := by
  unfold eventTo
  simp only [hmask, decide_eq_false (Nat.not_lt.mpr hfull), decide_eq_false (Nat.not_lt.mpr hver)]
  rfl

/-- Settles O13: an event masked or newer than the version, queued, or discarded; a setting in force and a staged one. -/
theorem eventsAndRecords : Obligations.EventsAndRecords := by
  refine ⟨fun cls die op flow fields s k => ?_, fun op key rq s => ⟨rfl, rfl⟩⟩
  intro d pay m next rings
  refine ⟨fun hmask => ?_, fun hver => ?_, fun hmask hver hroom => ?_, fun hmask hver hfull => ?_⟩
  · exact if_pos (by rw [hmask]; rfl)
  · exact if_pos (by rw [decide_eq_true hver]; exact Bool.or_true _)
  · rw [eventTo_queued cls die op flow fields s k hmask hver hroom]
    simp only [header_event]
    rfl
  · rw [eventTo_discarded cls die op flow fields s k hmask hver hfull]
    rfl

end Sys2Proof.Machine
end

section
/-! PROOFS. Outcomes of messages that Nerris serves, and the sys group (R145, R146, R153, R166). -/

namespace Sys2Proof.Machine

/-! ### The outcome of a message served, by what its own body replies -/

section
variable {op : NcpOp} {rq : Request} {s t : State}

theorem next_answered {body : List Byte} (h : served op rq s = true) (hk : op.key rq = none)
    (hb : op.body rq s = replyOk body t) :
    (.next (serve op rq s) : Host.Outcome State Fault Refusal) = .next (answered rq op.opcode body t) :=
  congrArg _ (serve_answered op rq s t body h hk hb)

theorem next_recorded {body key : List Byte} (h : served op rq s = true) (hk : op.key rq = some key)
    (hb : op.body rq s = replyOk body t) :
    (.next (serve op rq s) : Host.Outcome State Fault Refusal) =
      .next (answered rq op.opcode body (recorded (op.staged rq) op.opcode key rq t)) :=
  congrArg _ (serve_recorded op rq s t body key h hk hb)

theorem next_later (h : served op rq s = true) (hb : op.body rq s = replyLater t) :
    (.next (serve op rq s) : Host.Outcome State Fault Refusal) = .next t :=
  congrArg _ (serve_later op rq s t h hb)

theorem next_refused {code reason field : Nat} (h : served op rq s = true) (hc : code ≠ codeOk) (hc' : code ≠ codeClamped)
    (hb : op.body rq s = refuse code reason field t) :
    (.next (serve op rq s) : Host.Outcome State Fault Refusal) = .next (respond rq op.opcode (refuse code reason field t) t) :=
  congrArg _ (serve_refused op rq s t code reason field h hc hc' hb)

/-- A refusal for a field of the payload. -/
theorem next_badArg {field : Nat} (h : served op rq s = true) (hb : op.body rq s = badArg field s) :
    (.next (serve op rq s) : Host.Outcome State Fault Refusal) = .next (refusedWith rq op.opcode codeBadArg field s) :=
  next_refused h (by decide) (by decide) hb

end

/-! ### `sys.hello` and `sys.reset` -/

theorem sysHelloBody_agreed (rq : Request) (s : State) (v : Nat) (hv : v = min 0x32 (byteAt rq.payload 1)) (hlow : 0x10 ≤ v)
    (hmin : byteAt rq.payload 0 ≤ v) :
    sysHelloBody rq s =
      let t := setDest (destKey rq) { getDest s (destKey rq) with version := v } s
      replyLater (respondAt v rq 0 (replyOk (helloPayload t v (destKey rq)) t) t) := by
  have hchoose : chooseVersion (byteAt rq.payload 0) (byteAt rq.payload 1) = some v := by
    simp only [chooseVersion, ← hv]
    exact if_pos ⟨hlow, hmin⟩
  unfold sysHelloBody
  rw [hchoose]

theorem sysHelloBody_none (rq : Request) (s : State)
    (h : min 0x32 (byteAt rq.payload 1) < max 0x10 (byteAt rq.payload 0)) :
    sysHelloBody rq s = replyLater (respondAt (negotiated s rq) rq 0
      { refuse codeBadVersion 0x32 noField s with body := helloPayload s 0 (destKey rq) } s) := by
  have hchoose : chooseVersion (byteAt rq.payload 0) (byteAt rq.payload 1) = none := if_neg (by omega)
  unfold sysHelloBody
  rw [hchoose]

/-- A reset of the part or of a die, without a forced slot. -/
theorem sysResetBody_done (rq : Request) (s : State) (hscope : byteAt rq.payload 0 ≤ 2) (hslot : byteAt rq.payload 2 = 0)
    (hdie : byteAt rq.payload 0 = 2 → (s.member.has (byteAt rq.payload 1) && !isShore (byteAt rq.payload 1)) = true)
    (hcommit : byteAt rq.payload 0 ≠ 1 → s.msg.commit = none) :
    sysResetBody rq s = replyOk [] { s with msg.ncp.resetDue := some (byteAt rq.payload 0, byteAt rq.payload 1, 0) } := by
  unfold sysResetBody
  dsimp only
  rw [if_neg (by omega), if_neg (fun ⟨h, hn⟩ => by rw [hdie h] at hn; exact absurd hn (by decide)), if_neg (by omega),
    if_neg (by omega), if_neg (fun ⟨h, hn⟩ => by rw [hcommit h] at hn; exact absurd hn (by decide)), hslot]
  rfl

theorem isShore_of_two_le (die : Nat) (h : 2 ≤ die) : isShore die = false := by
  simp [isShore]
  omega

/-- Settles O14: each message's body, met by what its payload says. -/
theorem systemMessages : Obligations.SystemMessages := by
  intro rq s
  refine ⟨fun h v hv hlow hmin => ⟨?_, rfl⟩, fun h hnone => ?_, fun h => ?_, fun h hscope hslot => ?_,
    fun h hscope hslot hcommit => ?_, fun h hscope hslot hcommit hhas hdie => ?_, fun h hscope => ?_, fun h => ?_, fun h => ?_,
    fun h => ⟨Config.powerEstimate s.sys.ao.power.code, ?_⟩⟩
  · exact next_later h (sysHelloBody_agreed rq s v hv hlow hmin)
  · exact next_later h (sysHelloBody_none rq s hnone)
  · exact next_answered h rfl rfl
  · have hb := sysResetBody_done rq s (by omega) hslot (by omega) (by omega)
    rw [hscope] at hb
    exact next_answered h rfl hb
  · have hb := sysResetBody_done rq s (by omega) hslot (by omega) (fun _ => hcommit)
    rw [hscope] at hb
    exact next_answered h rfl hb
  · have hb := sysResetBody_done rq s (by omega) hslot (fun _ => by rw [hhas, isShore_of_two_le _ hdie]; rfl) (fun _ => hcommit)
    rw [hscope] at hb
    exact next_answered h rfl hb
  · exact next_badArg h (if_pos (by omega))
  · exact next_answered h rfl rfl
  · exact next_answered h rfl rfl
  · exact next_answered h rfl rfl

end Sys2Proof.Machine
end

section
/-! PROOFS. Commits (R53 to R57, R59, R155): requests for one, its phases, and what is staged. -/

namespace Sys2Proof.Machine

/-! ### `cfg.commit` -/

section
variable (rq : Request) (s : State)

theorem cfgCommitBody_pending (h : s.msg.commit.isSome = true) : cfgCommitBody rq s = refuse codeBusy 0 noField s := if_pos h

theorem cfgCommitBody_none_pending (h : s.msg.commit = none) :
    cfgCommitBody rq s =
      let c := fieldLE rq.payload 0 8
      if s.time.index + 2 ^ 31 < c then badArg 0 s
      else if c < s.time.index + 64 ∨ (geometryStaged s = true ∧ c < s.time.index + commitU s + 64) then refuse codeLate 0 0 s
      else if (stagedDies s).isEmpty then replyOk (bytesLE 8 c ++ bytesLE 1 0) s
      else
        let x : Commit :=
          { c := c, request := rq, dies := serviceDies s, u := commitU s, geometry := geometryStaged s, prepared := [], replies := []
            received := [], armSent := false, armed := [], reported := [], shore := 0
            mesh := !s.rend.geo.table.mesh.sameAs s.rend.geoStage.table.mesh }
        replyLater (emitAll (x.dies.map fun d => .prepare d c) (setCommit (some x) s)) :=
  if_neg (by rw [h]; decide)

end

/-- An index far enough ahead is not LATE (R55). -/
theorem commit_in_time (rq : Request) (s : State) (hnear : s.time.index + 64 ≤ fieldLE rq.payload 0 8)
    (hgeo : geometryStaged s = true → s.time.index + commitU s + 64 ≤ fieldLE rq.payload 0 8) :
    ¬(fieldLE rq.payload 0 8 < s.time.index + 64
      ∨ (geometryStaged s = true ∧ fieldLE rq.payload 0 8 < s.time.index + commitU s + 64)) :=
  not_or.mpr ⟨Nat.not_lt.mpr hnear, fun ⟨hg, hlt⟩ => Nat.not_lt.mpr (hgeo hg) hlt⟩

/-- Settles O15: the checks of `cfg.commit` in their order. -/
theorem commitRequests : Obligations.CommitRequests := by
  refine ⟨fun rq s h hnone hfar hnear hgeo => ⟨fun hempty => ?_, fun hstaged =>
    ⟨!s.rend.geo.table.mesh.sameAs s.rend.geoStage.table.mesh, ?_⟩⟩, fun rq s h => ⟨fun hpending => ?_, fun hnone hfar => ?_,
      fun hnone hnear => ?_, fun hnone hgeo hnear hfar => ?_⟩⟩
  · have hintime := commit_in_time rq s hnear hgeo
    refine next_answered h rfl ((cfgCommitBody_none_pending rq s hnone).trans ?_)
    exact (if_neg (by omega)).trans ((if_neg hintime).trans
      (if_pos (by rw [hempty]; rfl)))
  · have hintime := commit_in_time rq s hnear hgeo
    refine next_later h ((cfgCommitBody_none_pending rq s hnone).trans ?_)
    exact (if_neg (by omega)).trans ((if_neg hintime).trans
      (if_neg (by rw [List.isEmpty_iff]; exact hstaged)))
  · exact next_refused h (by decide) (by decide) (cfgCommitBody_pending rq s hpending)
  · exact next_badArg h ((cfgCommitBody_none_pending rq s hnone).trans (if_pos hfar))
  · refine next_refused h (by decide) (by decide) ((cfgCommitBody_none_pending rq s hnone).trans ?_)
    exact (if_neg (by omega)).trans (if_pos (Or.inl hnear))
  · refine next_refused h (by decide) (by decide) ((cfgCommitBody_none_pending rq s hnone).trans ?_)
    exact (if_neg (by omega)).trans (if_pos (Or.inr ⟨hgeo, hnear⟩))

/-! ### The phases of a commit -/

section
variable {die : Nat} {c : Commit} {s : State}

/-- A die that may answer a prepare: the commit names it, it has not answered yet, and it answers. -/
theorem execCommitPrepare_of_answers (h : s.msg.commit = some c) (hdie : c.dies.contains die = true)
    (hnew : c.prepared.contains die = false) (hans : dieAnswers s die = true) :
    execCommitPrepare die s = .next (
      let t := if isTarn die then setTile die { getTile s die with stage := 0 } s else s
      let t := if die = 2 then t.member.tarnDies.foldl (fun s d => copyShadow d s) t else t
      setCommit (some { c with prepared := c.prepared ++ [die], replies := mapSet c.replies die (notReady t die) }) t) := by
  unfold execCommitPrepare
  rw [h]
  exact congrArg _ (if_neg (by rw [hdie, hnew, hans]; decide))

/-- The reply of a die that has prepared, while no arm is sent. -/
theorem execCommitReadyReply_of_open (h : s.msg.commit = some c) (hup : nerrisUp s = true) (harm : c.armSent = false)
    (hprep : c.prepared.contains die = true) (hnew : c.received.contains die = false) :
    execCommitReadyReply die s = .next (
      let c := { c with received := c.received ++ [die] }
      if !(c.dies.all fun d => c.received.contains d) then setCommit (some c) s
      else if c.deadline < s.time.index ∨ c.replies.any (fun e => e.2.isSome) then cancelCommit c s
      else sendArms c s) := by
  unfold execCommitReadyReply
  rw [h]
  exact congrArg _ (if_neg (by rw [hup, harm, hprep, hnew]; decide))

theorem execCommitArm_of_open (h : s.msg.commit = some c) (harm : c.armSent = true) (hdie : c.dies.contains die = true)
    (hnew : c.armed.contains die = false) (hpow : powered s die = true) :
    execCommitArm die s = .next (
      if armLate s die c.c then fatal 6 die s
      else
        let s := setCommit (some { c with armed := c.armed ++ [die] }) s
        if isTarn die then setTile die { getTile s die with armed := some c.c, stage := 0 } s else s) := by
  unfold execCommitArm
  rw [h]
  exact congrArg _ (if_neg (by rw [harm, hdie, hnew, hpow]; decide))

theorem execCommitSwapReport_of_swapped (h : s.msg.commit = some c) (hup : nerrisUp s = true) (hdie : c.dies.contains die = true)
    (hnew : c.reported.contains die = false) (hsw : hasSwapped s c die = true) :
    execCommitSwapReport die s = .next (
      let c := { c with reported := c.reported ++ [die] }
      if !(c.dies.all fun d => c.reported.contains d) then setCommit (some c) s
      else
        let s := { (setCommit none s) with chain.insertStage := [] }
        let s := if c.mesh then meshEvent s else s
        respond c.request 0x0100 (replyOk (bytesLE 8 c.c ++ bytesLE 1 (maskOf c.dies)) s) s) := by
  unfold execCommitSwapReport
  rw [h]
  exact congrArg _ (if_neg (by rw [hup, hdie, hnew, hsw]; decide))

end

/-- Some reply names a reason exactly where not all are without one. -/
theorem any_isSome_eq_not_all_isNone (l : AMap (Option Nat)) :
    (l.any fun e => e.2.isSome) = !(l.all fun e => e.2.isNone) := by
  induction l with
  | nil => rfl
  | cons e l ih => cases h : e.2 <;> simp [h, ih]

theorem commit_prepares (die : Nat) (c : Commit) (s : State) (h : s.msg.commit = some c) (hdie : c.dies.contains die = true)
    (hnew : c.prepared.contains die = false) (hans : dieAnswers s die = true) :
    (isTarn die = false → exec (.commitPrepare die) s = .next { s with
        msg.commit := some { c with prepared := c.prepared ++ [die], replies := mapSet c.replies die (notReady s die) } })
    ∧ (isTarn die = true → die ≠ 2 →
      let t := setTile die { getTile s die with stage := 0 } s
      exec (.commitPrepare die) s = .next { t with
        msg.commit := some { c with prepared := c.prepared ++ [die], replies := mapSet c.replies die (notReady t die) } })
    ∧ (die = 2 →
      let t := s.member.tarnDies.foldl (fun s d => copyShadow d s) (setTile 2 { getTile s 2 with stage := 0 } s)
      exec (.commitPrepare 2) s = .next { t with
        msg.commit := some { c with prepared := c.prepared ++ [2], replies := mapSet c.replies 2 (notReady t 2) } }) := by
  have hexec := execCommitPrepare_of_answers h hdie hnew hans
  refine ⟨fun htarn => ?_, fun htarn htwo => ?_, fun htwo => ?_⟩
  · have htwo : die ≠ 2 := by rintro rfl; exact absurd htarn (by decide)
    refine hexec.trans ?_
    simp only [htarn, if_neg htwo]
    rfl
  · refine hexec.trans ?_
    simp only [htarn, if_neg htwo]
    rfl
  · subst htwo
    exact hexec

/-! ### Staged routes withdrawn -/

theorem freeRouteOpt_eq (h : Option Nat) (s : State) : ∃ r, freeRouteOpt h s = { s with route := r } := by
  cases h with
  | none => exact ⟨s.route, rfl⟩
  | some h => exact ⟨_, rfl⟩

theorem unstage_eq (e : Nat) (s : State) : ∃ r, unstage e s = { s with route := r } := by
  unfold unstage
  split
  · exact ⟨s.route, rfl⟩
  · next x _ =>
    obtain ⟨r, hr⟩ := freeRouteOpt_eq x.handle { s with route.stage := mapErase s.route.stage e }
    exact ⟨r, hr⟩

/-- Discarding staged routes changes the routes alone. -/
theorem discardRoutes_eq (s : State) : ∃ r, discardRoutes s = { s with route := r } := by
  unfold discardRoutes
  induction s.route.stage generalizing s with
  | nil => exact ⟨s.route, rfl⟩
  | cons e es ih =>
    obtain ⟨r, hr⟩ := unstage_eq e.1 s
    obtain ⟨r', hr'⟩ := ih (unstage e.1 s)
    exact ⟨r', by rw [List.foldl_cons, hr', hr]⟩

/-- Settles O16: a reply, an arm and a swap report each advance the commit; the last of its kind ends its phase. -/
theorem commitRuns : Obligations.CommitRuns := by
  refine ⟨fun die c s h => ⟨fun hd hn ha ht => (commit_prepares die c s h hd hn ha).1 ht,
    fun hd hn ha ht htwo => (commit_prepares die c s h hd hn ha).2.1 ht htwo,
    fun hd hn ha => (commit_prepares 2 c s h hd hn ha).2.2 rfl, fun hup harm hprep hnew => ⟨fun hopen => ?_, fun hall =>
      ⟨fun ⟨htime, hready⟩ => ?_, fun hbad => ?_⟩⟩, fun hup harm hdue => ?_, fun harm hd hn hpow => ⟨fun hlate htarn => ?_,
      fun hlate htarn => ?_, fun hlate => ?_⟩, fun hup hd hn hsw => ⟨fun hopen => ?_, fun hall hmesh => ?_, fun hall hmesh => ?_⟩⟩,
    fun c s => ⟨⟨_, rfl⟩, fun hperiod => ?_⟩, fun rq s => ⟨fun h => ?_, fun h hnone => ?_, ?_⟩⟩
  · exact (execCommitReadyReply_of_open h hup harm hprep hnew).trans (congrArg _ (if_pos (by dsimp only; rw [hopen]; rfl)))
  · refine (execCommitReadyReply_of_open h hup harm hprep hnew).trans (congrArg _ ((if_neg (by dsimp only; rw [hall]; decide)).trans
      (if_neg (not_or.mpr ⟨Nat.not_lt.mpr htime, ?_⟩))))
    dsimp only
    rw [any_isSome_eq_not_all_isNone, hready]
    decide
  · refine (execCommitReadyReply_of_open h hup harm hprep hnew).trans (congrArg _ ((if_neg (by dsimp only; rw [hall]; decide)).trans
      (if_pos (hbad.imp id fun hnot => ?_))))
    dsimp only
    rw [any_isSome_eq_not_all_isNone, hnot]
    rfl
  · change execCommitArmDeadline s = _
    unfold execCommitArmDeadline
    rw [h]
    refine congrArg _ (if_neg ?_)
    rw [hup, harm]
    exact not_or.mpr ⟨by decide, not_or.mpr ⟨by decide, Nat.not_lt.mpr hdue⟩⟩
  · refine (execCommitArm_of_open h harm hd hn hpow).trans ?_
    simp only [hlate, htarn]
    rfl
  · refine (execCommitArm_of_open h harm hd hn hpow).trans ?_
    simp only [hlate, htarn]
    rfl
  · exact (execCommitArm_of_open h harm hd hn hpow).trans (congrArg _ (if_pos hlate))
  · exact (execCommitSwapReport_of_swapped h hup hd hn hsw).trans (congrArg _ (if_pos (by dsimp only; rw [hopen]; rfl)))
  · refine (execCommitSwapReport_of_swapped h hup hd hn hsw).trans (congrArg _ ((if_neg (by dsimp only; rw [hall]; decide)).trans ?_))
    simp only [hmesh]
    rfl
  · refine (execCommitSwapReport_of_swapped h hup hd hn hsw).trans (congrArg _ ((if_neg (by dsimp only; rw [hall]; decide)).trans ?_))
    simp only [hmesh]
    rfl
  · have hsame : ∀ t : State, t.rend = s.rend → armPeriod c.c t = t := fun t ht => if_pos (by rw [ht]; exact hperiod)
    unfold sendArms
    rw [hsame (setCommit (some { c with armSent := true }) s) rfl]
    rfl
  · exact next_answered h rfl rfl
  · exact next_answered h rfl (if_neg (by rw [hnone]; decide))
  · obtain ⟨r, hr⟩ := discardRoutes_eq s
    unfold discardStaged discardPorts
    rw [hr]
    exact ⟨rfl, rfl, rfl, rfl, rfl, rfl, rfl, rfl, rfl, rfl, rfl, rfl⟩

end Sys2Proof.Machine
end

section
/-! PROOFS. `cfg.rate` and the restart at a new rate (R155, R185, R287, R596). -/

namespace Sys2Proof.Machine

/-! ### The Outlets held for a rate change -/

/-- The Outlets of a list held for a rate change. -/
def holdForRate (ds : List Nat) (m : AMap Outlet) : AMap Outlet :=
  ds.foldl (fun (m : AMap Outlet) d => mapMod outlet0 m d fun o => { o with rate := true }) m

theorem mapMod_makes {P : Outlet → Prop} {f : Outlet → Outlet} (hf : ∀ o, P (f o)) (m : AMap Outlet) (d k : Nat)
    (h : k = d ∨ P (mapGet outlet0 m k)) : P (mapGet outlet0 (mapMod outlet0 m d f) k) := by
  unfold mapMod
  by_cases hk : k = d
  · rw [hk, mapGet_mapSet_same]
    exact hf _
  · rw [mapGet_mapSet_other _ _ _ _ _ hk]
    exact h.resolve_left hk

/-- What a change brings about and leaves so holds of every Outlet of the list that it changes. -/
theorem mapMods_make {P : Outlet → Prop} {f : Outlet → Outlet} (hf : ∀ o, P (f o)) (ds : List Nat) (m : AMap Outlet) (k : Nat)
    (h : k ∈ ds ∨ P (mapGet outlet0 m k)) : P (mapGet outlet0 (ds.foldl (fun m d => mapMod outlet0 m d f) m) k) := by
  induction ds generalizing m with
  | nil => exact h.resolve_left List.not_mem_nil
  | cons d ds ih =>
    refine ih _ ?_
    by_cases hk : k ∈ ds
    · exact Or.inl hk
    · exact Or.inr (mapMod_makes hf m d k (h.imp (fun hm => (List.mem_cons.mp hm).resolve_right hk) id))

/-- Every Outlet of the list is held, and one that was held stays so. -/
theorem holdForRate_rate (ds : List Nat) (m : AMap Outlet) (k : Nat) (h : k ∈ ds ∨ (mapGet outlet0 m k).rate = true) :
    (mapGet outlet0 (holdForRate ds m) k).rate = true :=
  mapMods_make (P := fun o => o.rate = true) (fun _ => rfl) ds m k h

/-! ### `cfg.rate` -/

theorem cfgRateBody_cases (rq : Request) (s : State) (hrate : byteAt rq.payload 0 ≤ 5) (hmclk : byteAt rq.payload 1 ≤ 1) :
    cfgRateBody rq s =
      if s.msg.commit.isSome then refuse codeBusy 0 noField s
      else replyLater { s with
        msg.ncp.rateChange := some { request := rq, rate := byteAt rq.payload 0, mclk512 := byteAt rq.payload 1 == 1
                                     mute := if rendering s then 65 else 0 }
        outs.outlets := holdForRate s.member.outletDies s.outs.outlets } := by
  have hbad : firstBad [(0, decide (byteAt rq.payload 0 ≤ 5)), (1, decide (byteAt rq.payload 1 ≤ 1))] = none := by
    simp [firstBad, hrate, hmclk]
  unfold cfgRateBody
  dsimp only
  rw [hbad]
  rfl

theorem cfgRateBody_bad (rq : Request) (s : State) (f : Nat)
    (h : firstBad [(0, decide (byteAt rq.payload 0 ≤ 5)), (1, decide (byteAt rq.payload 1 ≤ 1))] = some f) :
    cfgRateBody rq s = badArg f s := by
  unfold cfgRateBody
  dsimp only
  rw [h]

/-- RATE_RESTART while a change is accepted. -/
theorem execRateRestart_of_change (r : RateChange) (s : State) (h : s.msg.ncp.rateChange = some r) (hup : nerrisUp s = true) :
    execRateRestart s = .next (
      let s := setFreshIndex (takeRate r.rate r.mclk512 { stopTimeline s with msg.ncp.rateChange := none })
      let s := (List.range s.member.slices).foldl (fun s sl => shedObjects sl (sliceCount s sl) s) (restartObjects s)
      let s := s.member.tarnDies.foldl (fun s d => rateChain s d) s
      let s := releaseRateHold (clearSoundKeepHeat s)
      let s := noteSetting false
        { layer := 1, opcode := 0x0104, flow := r.request.flow, key := [], payload := r.request.payload.take 2 } s
      let s := if s.sys.ao.power = .run then startTimeline false s else s
      respond r.request 0x0104 (replyOk (bytesLE 8 s.time.index) s) s) := by
  unfold execRateRestart
  rw [h]
  exact congrArg _ (if_neg (by rw [hup]; decide))

/-- Settles O17: `cfg.rate` by its checks; the restart as the accepted change says. -/
theorem rateChanges : Obligations.RateChanges := by
  refine ⟨fun rq s h => ⟨fun hrate hmclk hnone => ⟨holdForRate s.member.outletDies s.outs.outlets, ?_, fun d hd => ?_⟩,
    fun hrate => ?_, fun hrate hmclk => ?_, fun hrate hmclk hpending => ?_⟩, fun r s h hup => ⟨?_, rfl, rfl⟩⟩
  · exact next_later h ((cfgRateBody_cases rq s hrate hmclk).trans (if_neg (by rw [hnone]; decide)))
  · exact holdForRate_rate _ _ _ (Or.inl hd)
  · exact next_badArg h (cfgRateBody_bad rq s 0 (by simp [firstBad, Nat.not_le.mpr hrate]))
  · exact next_badArg h (cfgRateBody_bad rq s 1 (by simp [firstBad, hrate, Nat.not_le.mpr hmclk]))
  · exact next_refused h (by decide) (by decide) ((cfgRateBody_cases rq s hrate hmclk).trans (if_pos hpending))
  · exact execRateRestart_of_change r s h hup

end Sys2Proof.Machine
end

section
/-! PROOFS. Image slots, their writing, and recovery (R62, R76 to R84, R153). -/

namespace Sys2Proof.Machine

/-! ### Flash erased and written -/

/-- Nothing is listed under a key that a filter drops. -/
theorem mapFind_filter_none {α : Type} (m : AMap α) (p : Nat × α → Bool) (k : Nat) (h : ∀ a, p (k, a) = false) :
    mapFind (m.filter p) k = none := by
  induction m with
  | nil => rfl
  | cons e m ih =>
    obtain ⟨j, a⟩ := e
    by_cases hp : p (j, a) = true
    · have hj : j ≠ k := by
        rintro rfl
        rw [h a] at hp
        exact absurd hp (by decide)
      rw [List.filter_cons_of_pos hp, mapFind, if_neg hj, ih]
    · rw [List.filter_cons_of_neg hp, ih]

theorem flashByte_flashErase_inside (lo hi a : Nat) (s : State) (hlo : lo ≤ a) (hhi : a < hi) :
    flashByte (flashErase lo hi s) a = 0xFF := by
  unfold flashByte mapGet flashErase
  rw [mapFind_filter_none]
  · rfl
  · intro v
    simp [Nat.not_lt.mpr hlo, Nat.not_le.mpr hhi]

theorem mapFind_flashPut_other (f : List Host.Cell) (a b : Nat) (v : Byte) (h : b ≠ a) :
    mapFind (flashPut f a v) b = mapFind f b := by
  unfold flashPut
  split
  · exact mapFind_mapErase_other _ _ _ h
  · exact mapFind_mapSet_other _ _ _ _ h

theorem flashByte_flashWrite_outside (a b : Nat) (bs : List Byte) (s : State) (h : a + bs.length ≤ b) :
    flashByte (flashWrite a bs s) b = flashByte s b := by
  suffices hfold : ∀ (es : List (Byte × Nat)) (f : List Host.Cell), (∀ e ∈ es, e.2 < bs.length) →
      mapFind (es.foldl (fun f e => flashPut f (a + e.2) e.1) f) b = mapFind f b by
    unfold flashByte mapGet flashWrite
    rw [hfold _ _ fun e he => by
      have hlt := List.snd_lt_of_mem_zipIdx he
      omega]
  intro es
  induction es with
  | nil => exact fun _ _ => rfl
  | cons e es ih =>
    intro f hes
    have he := hes e List.mem_cons_self
    rw [List.foldl_cons, ih _ fun e' he' => hes e' (List.mem_cons_of_mem _ he'), mapFind_flashPut_other _ _ _ _ (by omega)]

/-! ### `cfg.save` and image installation -/

section
variable {rq : Request} {s : State}

/-- Work of Spring is taken on outside its error state and its self-tests. -/
theorem withCrypto_of_ok (r : Reply) (herr : s.sys.spring.cryptoErr = false) (htest : s.sys.spring.selftesting = none) :
    withCrypto s r = r := by
  unfold withCrypto cryptoRefusal
  rw [herr, htest]
  rfl

theorem cfgSaveBody_of_slot {k : Nat} (herr : s.sys.spring.cryptoErr = false) (htest : s.sys.spring.selftesting = none)
    (hslot : s.sys.spring.slot = some k) :
    cfgSaveBody rq s =
      let contents := overlayContents s
      let off := overlayOffset (imgHeader (slotReader s k))
      if !allowSave s then refuse codeDenied 0 noField s
      else if s.sys.slotWrite.isSome then refuse codeBusy 0 noField s
      else if commitSector < off + contents.length + 48 then refuse codeNoResource 0 noField s
      else match overlayMac s contents (headerDigest (slotReader s k)) with
        | none => refuse codeFault 0 noField s
        | some mac =>
          replyLater (beginSlotWrite
            { opcode := 0x0102, request := rq, slot := 1 - k, generation := (s.sys.spring.generation + 1) % 2 ^ 32
              image := imageCells (slotReader s k) ++ overlayCells off (contents ++ mac) } s) := by
  unfold cfgSaveBody
  rw [withCrypto_of_ok _ herr htest, hslot] <;> rfl

theorem cfgImageInstallBody_of_good {bs : List Byte} {t : State} (herr : s.sys.spring.cryptoErr = false)
    (htest : s.sys.spring.selftesting = none) (hidle : s.sys.slotWrite = none) (hfetch : fetchReference rq 0 s = .ok (bs, t))
    (hgood : installFault t (bytesReader bs) = none) :
    cfgImageInstallBody rq s = replyLater (beginSlotWrite
      { opcode := 0x0103, request := rq, slot := 1 - t.sys.spring.slot.getD 1, generation := (t.sys.spring.generation + 1) % 2 ^ 32
        image := imageCells (bytesReader bs) } t) := by
  unfold cfgImageInstallBody
  rw [withCrypto_of_ok _ herr htest, if_neg (by rw [hidle]; decide), hfetch]
  dsimp only
  rw [hgood]

end

/-! ### The end of a slot's write -/

theorem interruptSlotWrite_of_write (w : SlotWrite) (s : State) (h : s.sys.slotWrite = some w) :
    interruptSlotWrite s =
      flashWrite (slotBase w.slot) ([0x5A, 0x57, 0x54, 0x58] ++ bytesLE 124 (Config.freeBits s.free).toNat)
        { flashErase (slotBase w.slot) (slotBase w.slot + slotSize) { s with sys.slotWrite := none } with free := s.free + 1 } := by
  unfold interruptSlotWrite
  rw [h]
  rfl

theorem length_bytesLE (n v : Nat) : (bytesLE n v).length = n := by
  induction n generalizing v with
  | zero => rfl
  | succ n ih => rw [bytesLE, List.length_cons, ih]

/-- A slot whose write ended early is erased beyond the header's first 128 bytes. -/
theorem flashByte_interruptSlotWrite (w : SlotWrite) (s : State) (h : s.sys.slotWrite = some w) (a : Nat)
    (hlo : slotBase w.slot + 128 ≤ a) (hhi : a < slotBase w.slot + slotSize) : flashByte (interruptSlotWrite s) a = 0xFF := by
  rw [interruptSlotWrite_of_write w s h, flashByte_flashWrite_outside]
  · exact flashByte_flashErase_inside _ _ a _ (by omega) hhi
  · rw [List.length_append, length_bytesLE]
    exact hlo

/-- A slot's write that ends without a commit record is answered with the code of its end. -/
theorem failSlotWrite_of_request (w : SlotWrite) (code outcome : Nat) (s : State) (h : w.opcode ≠ 5) :
    failSlotWrite w code outcome s =
      refusedWith w.request w.opcode code noField (imageEvent w outcome (interruptSlotWrite s)) := if_neg h

theorem execSlotWriteDone_of_write (w : SlotWrite) (s : State) (h : s.sys.slotWrite = some w) (hop : w.opcode ≠ 5) (bad : Bool) :
    execSlotWriteDone bad s = .next (
      if bad then failSlotWrite w codeFault 1 s
      else respond w.request w.opcode (replyOk (bytesLE 1 w.slot ++ bytesLE 3 0 ++ bytesLE 4 w.generation) (commitSlot w s))
        (imageEvent w 0 (commitSlot w s))) := by
  unfold execSlotWriteDone
  rw [h]
  dsimp only
  rw [if_neg hop]

/-! ### The minimal responder -/

section
variable {rq : Request} {s : State}

theorem execSysRecover_of_responder (h : responderUp s = true) : execSysRecover rq s = .next (recoverMessage rq s) :=
  congrArg _ (if_pos h)

theorem recoverMessage_chunk (hstep : s.sys.boot.step = .recovery) (hfrom : rq.sender = 0x0001 ∨ rq.sender = 0x0010)
    (hidle : s.sys.slotWrite = none) (hlong : 8 ≤ rq.payload.length) (hshort : rq.payload.length ≤ 1008)
    (hplace : fieldLE rq.payload 0 4 = s.sys.spring.stagedBytes)
    (hroom : s.sys.spring.stagedBytes + (rq.payload.drop 8).length ≤ 0x400000) (hmore : (byteAt rq.payload 4).testBit 0 = false) :
    recoverMessage rq s = responderSays rq 5 codeOk 0 [] { stageChunk (fieldLE rq.payload 0 4) (rq.payload.drop 8) s with
      sys.spring.stagedBytes := s.sys.spring.stagedBytes + (rq.payload.drop 8).length } := by
  have hchunk : (rq.payload.drop 8).length ≤ 1000 := by
    rw [List.length_drop]
    omega
  unfold recoverMessage
  dsimp only
  rw [if_neg (not_not_intro hstep), if_neg (by omega), if_neg (by rw [hidle]; decide),
    if_neg (not_or.mpr ⟨by omega, not_or.mpr ⟨not_not_intro hplace, by omega⟩⟩), if_neg (by omega), hplace,
    if_pos (by unfold bit; rw [hmore]; rfl)]

theorem recoverMessage_denied (hstep : s.sys.boot.step = .recovery) (h₁ : rq.sender ≠ 0x0001) (h₂ : rq.sender ≠ 0x0010) :
    recoverMessage rq s = responderSays rq 5 codeDenied 0 [] s :=
  (if_neg (not_not_intro hstep)).trans (if_pos ⟨h₁, h₂⟩)

theorem recoverMessage_misplaced (hstep : s.sys.boot.step = .recovery) (hfrom : rq.sender = 0x0001)
    (hidle : s.sys.slotWrite = none) (hplace : fieldLE rq.payload 0 4 ≠ s.sys.spring.stagedBytes) :
    recoverMessage rq s = responderSays rq 5 codeBadArg 0 [] s :=
  (if_neg (not_not_intro hstep)).trans ((if_neg (fun h => h.1 hfrom)).trans ((if_neg (by rw [hidle]; decide)).trans
    (if_pos (Or.inr (Or.inl hplace)))))

theorem execSpringResponderMessage_of_responder (h : responderUp s = true) :
    execSpringResponderMessage rq s = .next (
      let (op, s) := match fullMailbox rq s with
        | some n =>
          let b := getIn s n
          (winWord b.words 0 % 65536, setIn n { b with st := .empty, owner := 0, ack := true } s)
        | none => (0, s)
      if op = 0 then responderSays rq 0 (if s.sys.boot.step = .stopped then codeFault else codeBusy) 0 (responderHello s) s
      else if op = 5 then recoverMessage rq s
      else responderSays rq op codeBadOpcode 0 [] s) := by
  unfold execSpringResponderMessage
  exact congrArg _ (if_neg (by rw [h]; decide))

/-- A message that stands in no mailbox is taken as `sys.hello`. -/
theorem execSpringResponderMessage_hello (h : responderUp s = true) (hbox : fullMailbox rq s = none) :
    execSpringResponderMessage rq s = .next (
      responderSays rq 0 (if s.sys.boot.step = .stopped then codeFault else codeBusy) 0 (responderHello s) s) := by
  rw [execSpringResponderMessage_of_responder h, hbox]
  rfl

theorem execSpringResponderMessage_other (h : responderUp s = true) (n : Nat) (hbox : fullMailbox rq s = some n)
    (hnot : winWord (getIn s n).words 0 % 65536 ≠ 0) (hnot' : winWord (getIn s n).words 0 % 65536 ≠ 5) :
    execSpringResponderMessage rq s = .next (responderSays rq (winWord (getIn s n).words 0 % 65536) codeBadOpcode 0 []
      (setIn n { getIn s n with st := .empty, owner := 0, ack := true } s)) := by
  rw [execSpringResponderMessage_of_responder h, hbox]
  exact congrArg _ ((if_neg hnot).trans (if_neg hnot'))

end

/-- Settles O18: `cfg.save` and its kin by their checks; a write's two ends; the responder by the step of the start-up. -/
theorem imagesAndRecovery : Obligations.ImagesAndRecovery := by
  refine ⟨fun rq s => ⟨fun h => ?_, fun h herr htest k hslot => ⟨fun hno => ?_, fun hallow hbusy => ?_,
      fun hallow hidle hroom mac hmac => ?_⟩, fun h herr htest hidle bs t hfetch hgood => ?_⟩,
    fun w s h hop => ⟨?_, ?_, ?_, rfl, ?_, fun a hlo hhi => flashByte_interruptSlotWrite w s h a hlo hhi⟩,
    fun rq s hup => ⟨fun hstep hfrom hidle hlong hshort hplace hroom hmore => ?_, fun hstep h₁ h₂ => ?_,
      fun hstep hfrom hidle hplace => ?_, fun hstep => ?_, fun hbox hstep => ?_, fun hbox hstep => ?_, fun n hbox hnot hnot' => ?_⟩⟩
  · exact next_answered h rfl rfl
  · exact next_refused h (by decide) (by decide) ((cfgSaveBody_of_slot herr htest hslot).trans (if_pos (by rw [hno]; rfl)))
  · exact next_refused h (by decide) (by decide) ((cfgSaveBody_of_slot herr htest hslot).trans
      ((if_neg (by rw [hallow]; decide)).trans (if_pos hbusy)))
  · refine next_later h ((cfgSaveBody_of_slot herr htest hslot).trans ((if_neg (by rw [hallow]; decide)).trans
      ((if_neg (by rw [hidle]; decide)).trans ((if_neg (Nat.not_lt.mpr hroom)).trans ?_))))
    rw [hmac]
    rfl
  · have hb := cfgImageInstallBody_of_good herr htest hidle hfetch hgood
    exact next_later h hb
  · exact (execSlotWriteDone_of_write w s h hop false).trans rfl
  · refine (execSlotWriteDone_of_write w s h hop true).trans ?_
    exact congrArg _ (failSlotWrite_of_request w codeFault 1 s hop)
  · change execSlotWriteTimeout s = _
    unfold execSlotWriteTimeout
    rw [h]
    exact congrArg _ (failSlotWrite_of_request w codeTimeout 2 s hop)
  · rw [interruptSlotWrite_of_write w s h]
    rfl
  · exact (execSysRecover_of_responder hup).trans (congrArg _ (recoverMessage_chunk hstep hfrom hidle hlong hshort hplace hroom hmore))
  · exact (execSysRecover_of_responder hup).trans (congrArg _ (recoverMessage_denied hstep h₁ h₂))
  · exact (execSysRecover_of_responder hup).trans (congrArg _ (recoverMessage_misplaced hstep hfrom hidle hplace))
  · exact (execSysRecover_of_responder hup).trans (congrArg _ (if_pos hstep))
  · refine (execSpringResponderMessage_hello hup hbox).trans ?_
    rw [if_neg hstep]
  · refine (execSpringResponderMessage_hello hup hbox).trans ?_
    rw [if_pos hstep]
  · exact execSpringResponderMessage_other hup n hbox hnot hnot'

end Sys2Proof.Machine
end

section
/-! PROOFS. Start-up step by step, and the Kyoler links (R30 to R35, R60 to R63). -/

namespace Sys2Proof.Machine

/-! ### Ponds cleared at start-up -/

/-- A memory range cleared: inside it every byte reads as after reset, outside as before. -/
theorem memByte_memClear (m : List Host.Cell) (lo hi a : Nat) :
    memByte (memClear m lo hi) a = if lo ≤ a ∧ a < hi then memDefault a else memByte m a := by
  unfold memByte mapGet memClear
  induction m with
  | nil => split <;> rfl
  | cons e m ih =>
    obtain ⟨j, v⟩ := e
    by_cases hin : lo ≤ j ∧ j < hi
    · rw [List.filter_cons_of_neg (by simp; omega), ih, mapFind]
      by_cases hj : j = a
      · rw [if_pos (hj ▸ hin), if_pos (hj ▸ hin)]
      · rw [if_neg hj]
    · rw [List.filter_cons_of_pos (by simp; omega), mapFind, mapFind]
      by_cases hj : j = a
      · rw [if_pos hj, if_pos hj, if_neg (hj ▸ hin)]
      · rw [if_neg hj, if_neg hj, ih]

/-- The ponds of some dies cleared, in memory alone. -/
def clearPonds (ds : List Nat) (m : List Host.Cell) : List Host.Cell :=
  ds.foldl (fun m d => memClear m (pondAddr d 0 0) (pondAddr d 256 0)) m

theorem memByte_clearPonds (ds : List Nat) (m : List Host.Cell) (a : Nat)
    (h : (∃ d ∈ ds, pondAddr d 0 0 ≤ a ∧ a < pondAddr d 256 0) ∨ memByte m a = memDefault a) :
    memByte (clearPonds ds m) a = memDefault a := by
  induction ds generalizing m with
  | nil => exact h.resolve_left (by simp)
  | cons d ds ih =>
    refine ih _ ?_
    rw [memByte_memClear]
    by_cases hd : pondAddr d 0 0 ≤ a ∧ a < pondAddr d 256 0
    · exact Or.inr (if_pos hd)
    · rw [if_neg hd]
      exact h.imp (fun ⟨k, hk, hka⟩ => ⟨k, (List.mem_cons.mp hk).resolve_left (fun he => hd (he ▸ hka)), hka⟩) id

/-- At a start that no fatal error caused, every pond of the dies is cleared, and only memory changes. -/
theorem foldl_clear_eq (ds : List Nat) (s : State) (m : List Host.Cell) (h : s.sys.boot.cause ≠ .fatal) :
    ds.foldl (fun (s : State) (d : Nat) =>
        if d = activeShore s ∧ s.sys.boot.cause = .fatal then clearMem (pondAddr d 0 0) (pondAddr d 48 0) s else zeroPonds d s)
      { s with hw.mem := m } = { s with hw.mem := clearPonds ds m } := by
  induction ds generalizing m with
  | nil => rfl
  | cons d ds ih =>
    rw [List.foldl_cons, if_neg (fun hd => h hd.2)]
    exact ih _

theorem execPondInitDone_cleared (s : State) (hstep : s.sys.boot.step = .ponds) (h : s.sys.boot.cause ≠ .fatal) :
    execPondInitDone s = .next { s with
      hw.mem := clearPonds (s.member.dies.filter (powered s)) s.hw.mem, sys.boot.step := .apply } := by
  unfold execPondInitDone
  rw [if_neg (not_not_intro hstep)]
  dsimp only
  have hfold := foldl_clear_eq (s.member.dies.filter (powered s)) s s.hw.mem h
  rw [show ({ s with hw.mem := s.hw.mem } : State) = s from rfl] at hfold
  rw [hfold]

/-! ### The first steps -/

section
variable {s : State}

theorem execPllLock_of_rails (hstep : s.sys.boot.step = .rails) (hrails : (usedGroups s).all (railUp s) = true) (locked : Bool)
    (test : Nat) :
    execPllLock locked test s = .next (
      if !locked then stopBoot 2 s
      else if test ≠ 0 then stopBoot 3 { senseFuses s with sys.spring.cryptoErr := true }
      else if lifecycleFault (senseFuses s) then stopBoot 4 (senseFuses s)
      else deriveKeys { senseFuses s with
        sys.spring.selftestOk := true, sys.spring.stage := 2, msg.mbx.pciTraining := true, sys.boot.step := .links }) :=
  congrArg _ (if_neg (not_or.mpr ⟨not_not_intro hstep, by rw [hrails]; decide⟩))

theorem execImageVerified_of_image (hstep : s.sys.boot.step = .image) :
    execImageVerified s = .next (
      if lifecycle s = 3 then enterRecovery s
      else match chooseSlot s with
        | none => enterRecovery s
        | some (k, fallback) => { bootSlot k fallback (s.member.dies.filter (powered s)) s with sys.boot.step := .dram }) :=
  congrArg _ (if_neg (not_not_intro hstep))

theorem execDramTrainingDone_of_dram (hstep : s.sys.boot.step = .dram) (ok : Bool) (units : Nat) :
    execDramTrainingDone ok units s = .next (
      if !ok then stopBoot 7 { s with hw.dram.st := 3 }
      else { s with
        hw.dram.units := if s.hw.dram.st = 2 then s.hw.dram.units else min 64 units
        hw.dram.st := 1, sys.boot.step := .ponds }) :=
  congrArg _ (if_neg (not_not_intro hstep))

theorem execImageApply_good {k : Nat} {p : ImageParts} (hstep : s.sys.boot.step = .apply) (hslot : s.sys.spring.slot = some k)
    (hread : readImage s k = some p) : execImageApply s = .next (toNetwork (applyImage p s)) := by
  unfold execImageApply
  rw [if_neg (not_not_intro hstep), hslot]
  dsimp only
  rw [hread]

theorem execImageApply_abandoned {k : Nat} (hstep : s.sys.boot.step = .apply) (hslot : s.sys.spring.slot = some k)
    (hread : readImage s k = none) : execImageApply s = .next (abandonSlot k s) := by
  unfold execImageApply
  rw [if_neg (not_not_intro hstep), hslot]
  dsimp only
  rw [hread]

theorem execNetworkStart_of_network (hstep : s.sys.boot.step = .network) :
    execNetworkStart s = .next { s with
      time.ptp.sec := 0, time.ptp.ns := 0, time.ptp.sub := 0, time.ptp.dither := 0, time.ptp.running := true
      time.mclk.st := if s.time.mclk.ref = 3 then 3 else 0, sys.boot.step := .render } := by
  unfold execNetworkStart
  rw [if_neg (not_not_intro hstep)]

theorem execRenderStart_of_render (hstep : s.sys.boot.step = .render) :
    execRenderStart s = .next (beginGuard (dueRollback (announceReady (startChannels (firstTimeline (commitAll s)))))) := by
  unfold execRenderStart
  rw [if_neg (not_not_intro hstep)]

end

/-! ### Kyoler links -/

section
variable (n lanes loA hiA loB hiB : Nat) (l : Link) {s : State}

theorem trainedLink_up (hver : max loA loB ≤ min hiA hiB) (hlanes : lanes = 16 ∨ lanes = 8) :
    trainedLink lanes loA hiA loB hiB l = { l with
      state := 1, major := min hiA hiB / 16, minor := min hiA hiB % 16, lanes := lanes, retraining := false, retrains := []
      flitFails := 0 } := by
  refine if_pos ?_
  rw [decide_eq_true hver]
  simpa using hlanes

theorem trainedLink_failed (h : ¬(max loA loB ≤ min hiA hiB ∧ (lanes = 16 ∨ lanes = 8))) :
    (trainedLink lanes loA hiA loB hiB l).state = 2 := by
  unfold trainedLink
  dsimp only
  rw [if_neg (by simpa using h)]

theorem execKyolerTrainingDone_at_start {a b : Nat} (hends : s.member.links[n]? = some (a, b)) (ha : powered s a = true)
    (hb : powered s b = true) (hdue : (dueLinks s).contains n = true) (hstep : s.sys.boot.step = .links)
    (hnew : (getLink s n).state ≠ 1) :
    execKyolerTrainingDone n lanes loA hiA loB hiB s =
      .next (linkAtStart n (trainedLink lanes loA hiA loB hiB (getLink s n)) b s) := by
  unfold execKyolerTrainingDone linkEnds
  rw [hends]
  dsimp only
  rw [ha, hb, hdue, if_neg (by decide), if_pos rfl, if_pos ⟨hstep, hnew⟩]

theorem execKyolerFlitParityError_up (dir flit : Nat) (hup : (getLink s n).state = 1) (hno : (getLink s n).retraining = false) :
    execKyolerFlitParityError n dir flit s = .next (emit (.replay n dir flit) (setLink s n { getLink s n with
      replays := (getLink s n).replays + 1, flitDir := dir, flitNo := flit
      flitFails := if (getLink s n).flitDir = dir ∧ (getLink s n).flitNo = flit ∧ 0 < (getLink s n).flitFails
        then (getLink s n).flitFails + 1 else 1 })) := by
  have hagain : ((getLink s n).flitDir == dir && (getLink s n).flitNo == flit && decide (0 < (getLink s n).flitFails)) = true ↔
      ((getLink s n).flitDir = dir ∧ (getLink s n).flitNo = flit ∧ 0 < (getLink s n).flitFails) := by
    simp [and_assoc]
  unfold execKyolerFlitParityError
  dsimp only
  rw [if_neg (not_or.mpr ⟨not_not_intro hup, by rw [hno]; decide⟩), if_congr hagain rfl rfl]

theorem execKyolerRetrain_due (hup : (getLink s n).state = 1) (hno : (getLink s n).retraining = false)
    (hfails : 4 ≤ (getLink s n).flitFails) :
    execKyolerRetrain n s = .next (
      let times := s.now :: (getLink s n).retrains.filter fun t => decide (s.now < t + 156250000)
      if 3 ≤ times.length then
        match s.member.links[n]? with
        | some ends => linkFailed n ends (setLink s n { getLink s n with retrains := times })
        | none => s
      else emit (.retrain n) (setLink s n { getLink s n with retraining := true, retrains := times, flitFails := 0 })) :=
  congrArg _ (if_neg (not_or.mpr ⟨not_not_intro hup, not_or.mpr ⟨by rw [hno]; decide, Nat.not_lt.mpr hfails⟩⟩))

theorem execKyolerRetrainDone_retraining (ok : Bool) (h : (getLink s n).retraining = true) :
    execKyolerRetrainDone n ok s = .next (
      if ok then setLink s n { getLink s n with retraining := false }
      else match s.member.links[n]? with
        | some ends => linkFailed n ends s
        | none => s) :=
  congrArg _ (if_neg (by rw [h]; decide))

end

/-- Settles O19: each step of the start-up in its state, and each event of a link in its own. -/
theorem startUp : Obligations.StartUp := by
  refine ⟨fun s => ⟨fun hstep hrails => ⟨fun hlife => ?_, ?_, fun k hk => ?_⟩, fun hstep hlife k fallback hslot => ?_,
      fun hstep hnone => ?_, fun hstep hst units hunits => ?_, fun hstep hst units => ?_, fun hstep units => ?_,
      fun hstep hcause => ⟨_, execPondInitDone_cleared s hstep hcause, rfl, rfl, fun die hdie a hlo hhi => ?_⟩⟩,
    fun s => ⟨fun hstep k p hslot hread => ?_, fun hstep k hslot hread => ?_, fun hstep => ?_, fun hstep => ?_⟩,
    fun n lanes loA hiA loB hiB l s => ⟨fun hver hlanes => trainedLink_up lanes loA hiA loB hiB l hver hlanes,
      fun h₁ h₂ => trainedLink_failed _ _ _ _ _ _ fun h => h.2.elim h₁ h₂,
      fun hver => trainedLink_failed _ _ _ _ _ _ fun h => Nat.not_le.mpr hver h.1,
      fun a b hends ha hb hdue hstep hnew => ?_, fun hup hno dir flit => ?_, fun hup hno hfails => ⟨fun hfew => ?_,
      fun hmany ends hends => ?_⟩, fun h => ⟨?_, fun ends hends => ?_⟩⟩⟩
  · exact (execPllLock_of_rails hstep hrails true 0).trans (congrArg _ ((if_neg (by decide)).trans
      ((if_neg (by decide)).trans (if_neg (by rw [hlife]; decide)))))
  · exact execPllLock_of_rails hstep hrails false 0
  · exact (execPllLock_of_rails hstep hrails true k).trans (congrArg _ (if_pos hk))
  · refine (execImageVerified_of_image hstep).trans ?_
    rw [if_neg hlife, hslot]
  · refine (execImageVerified_of_image hstep).trans (congrArg _ ?_)
    by_cases hlife : lifecycle s = 3
    · exact if_pos hlife
    · rw [if_neg hlife, hnone.resolve_left hlife]
  · refine (execDramTrainingDone_of_dram hstep true units).trans ?_
    rw [if_neg hst, Nat.min_eq_right hunits]
    rfl
  · refine (execDramTrainingDone_of_dram hstep true units).trans ?_
    rw [if_pos hst]
    rfl
  · exact execDramTrainingDone_of_dram hstep false units
  · have hclear := memByte_clearPonds (s.member.dies.filter (powered s)) s.hw.mem a (Or.inl ⟨die, hdie, hlo, hhi⟩)
    exact hclear
  · exact execImageApply_good hstep hslot hread
  · exact execImageApply_abandoned hstep hslot hread
  · exact execNetworkStart_of_network hstep
  · exact execRenderStart_of_render hstep
  · exact execKyolerTrainingDone_at_start n lanes loA hiA loB hiB hends ha hb hdue hstep hnew
  · exact execKyolerFlitParityError_up n dir flit hup hno
  · exact (execKyolerRetrain_due n hup hno hfails).trans (congrArg _ (if_neg (Nat.not_le.mpr hfew)))
  · refine (execKyolerRetrain_due n hup hno hfails).trans (congrArg _ ((if_pos hmany).trans ?_))
    rw [hends]
  · exact execKyolerRetrainDone_retraining n true h
  · refine (execKyolerRetrainDone_retraining n false h).trans ?_
    rw [hends]
    rfl

end Sys2Proof.Machine
end

section
/-! PROOFS. Resets (R153, R554, R557, R566 to R570, R590): what each keeps, clears and leaves to follow. -/

namespace Sys2Proof.Machine

/-! ### Work in progress ended -/

theorem drawWide_eq (s : State) : ∃ n, (drawWide s).2 = { s with free := n } := by
  unfold drawWide
  suffices h : ∀ (ks : List Nat) (a : BitVec 8192) (n : Nat), ∃ m, (ks.foldl (fun (a : BitVec 8192 × State) k =>
      let (v, s) := drawFree a.2
      (a.1 ||| (v.setWidth 8192 <<< (1024 * k)), s)) (a, { s with free := n })).2 = { s with free := m } from h _ _ s.free
  intro ks
  induction ks with
  | nil => exact fun _ n => ⟨n, rfl⟩
  | cons k ks ih => exact fun _ n => ih _ (n + 1)

/-- What a slot's write cut short changes. -/
theorem interruptSlotWrite_eq (s : State) : ∃ fl fr, interruptSlotWrite s =
    { s with hw.flash := fl, free := fr, sys.slotWrite := none } ∧ (s.sys.slotWrite = none → fl = s.hw.flash) := by
  cases h : s.sys.slotWrite with
  | none =>
    refine ⟨s.hw.flash, s.free, ?_, fun _ => rfl⟩
    unfold interruptSlotWrite
    rw [h]
    dsimp only
    rw [← h]
  | some w => exact ⟨_, _, interruptSlotWrite_of_write w s h, nofun⟩

/-- What fuse blowing cut short changes. -/
theorem interruptBlow_eq (s : State) : ∃ fu fr, interruptBlow s =
    { s with hw.fuses := fu, free := fr, sys.spring.blowing := none } ∧ (s.sys.spring.blowing = none → fu = s.hw.fuses) := by
  cases h : s.sys.spring.blowing with
  | none =>
    refine ⟨s.hw.fuses, s.free, ?_, fun _ => rfl⟩
    unfold interruptBlow
    rw [h]
    dsimp only
    rw [← h]
  | some w =>
    obtain ⟨n, hn⟩ := drawWide_eq s
    unfold interruptBlow
    rw [h]
    dsimp only
    rw [hn]
    exact ⟨_, _, rfl, nofun⟩

/-- What a reset ends: a slot's write and fuse blowing, each without a trace where there was none. -/
theorem endWork_eq (s : State) : ∃ fu fl fr, endWork s =
      { s with hw.fuses := fu, hw.flash := fl, free := fr, sys.slotWrite := none, sys.spring.blowing := none }
    ∧ (s.sys.spring.blowing = none → fu = s.hw.fuses) ∧ (s.sys.slotWrite = none → fl = s.hw.flash) := by
  obtain ⟨fl, fr, hslot, hflash⟩ := interruptSlotWrite_eq s
  obtain ⟨fu, fr', hblow, hfuses⟩ := interruptBlow_eq (interruptSlotWrite s)
  rw [hslot] at hfuses
  exact ⟨fu, fl, fr', by unfold endWork; rw [hblow, hslot], hfuses, hflash⟩

/-- The whole of what a cold reset leaves, but for the three things that ending work may change. -/
theorem coldClear_eq (s : State) : ∃ fu fl fr, coldClear s =
      { State.reset with
        member := s.member, now := s.now, free := fr, pending := s.pending, wire := s.wire, bus := s.bus
        hw := { Hw.reset with
          fuses := fu, flash := fl
          dram := { Hw.reset.dram with order := regOr s 3 (dieAddr (activeShore s) 0x230000) % 4 } }
        sys := { Sys.reset with
          ao := { s.sys.ao with power := .run, changing := false, aoIntN := false, rstScope := 1, rstDie := 0 }
          temps := s.sys.temps, jtag := s.sys.jtag, red := { Red.reset with active := s.sys.red.active } }
        outs := { Outs.reset with dacClr := s.outs.dacClr } }
    ∧ (s.sys.spring.blowing = none → fu = s.hw.fuses) ∧ (s.sys.slotWrite = none → fl = s.hw.flash) := by
  obtain ⟨fu, fl, fr, hend, hfuses, hflash⟩ := endWork_eq s
  refine ⟨fu, fl, fr, ?_, hfuses, hflash⟩
  unfold coldClear
  rw [hend]
  rfl

/-! ### Rails lowered, and a start that may follow -/

/-- Rails lowered outside a set: the enables, what is in range, the hold and what is wanted. -/
theorem lowerTo_eq (keep : BitVec 6) (s : State) : ∃ en ir tg hd, lowerTo keep s =
      { s with sys.ao.enables := en, sys.ao.inRange := ir, sys.ao.target := tg, sys.ao.holdDone := hd }
    ∧ (keep = 0 → tg = 0) := by
  unfold lowerTo
  dsimp only
  split
  · exact ⟨_, _, _, _, rfl, fun h => by rw [h]; exact BitVec.zero_and⟩
  · exact ⟨_, _, _, _, rfl, id⟩

/-- With no enable high nothing falls. -/
theorem lowerTo_zero_of_low (s : State) (h : s.sys.ao.enables = 0) : lowerTo 0 s = { s with sys.ao.target := 0 } := by
  have hnone : nextDrop { s with sys.ao.target := 0 } = none := by
    unfold nextDrop
    rw [h]
    exact List.find?_eq_none.mpr fun g _ => by simp
  unfold lowerTo
  dsimp only
  rw [hnone]

/-- A cold start begins, or nothing happens. -/
theorem tryStart_cases (s : State) : tryStart s = s ∨ tryStart s = startRails s := by
  unfold tryStart
  split
  · exact Or.inr rfl
  · exact Or.inl rfl

theorem tryStart_held (s : State) (h : s.sys.ao.holdDone = false) : tryStart s = s := if_neg (by rw [h]; simp)

/-! ### Cold reset -/

/-- A cold reset: what it clears, its cause and group; only the rails and the step of a start may go on from there. -/
theorem coldReset_eq (cause group : Nat) (s : State) : ∃ (ao : Ao) (step : BootStep) (active : Nat),
    coldReset cause group s =
      { coldClear s with sys.ao := ao, sys.boot.step := step, sys.red.active := active, sys.jtag := Sys.reset.jtag }
    ∧ ao.cause = cause ∧ ao.group = group ∧ ao.rstScope = 1 ∧ ao.power = .run ∧ ao.railRestartDue = false := by
  let u : State := { coldClear s with
    sys.ao.cause := cause, sys.ao.group := group, sys.ao.coldWaiting := true, sys.ao.railRestartDue := false
    sys.jtag := Sys.reset.jtag }
  obtain ⟨en, ir, tg, hd, hlow, -⟩ := lowerTo_eq 0 u
  obtain ⟨fu, fl, fr, hclear, -, -⟩ := coldClear_eq s
  have hreset : coldReset cause group s = tryStart (lowerTo 0 u) := rfl
  rw [hreset, hlow]
  obtain hsame | hstart := tryStart_cases { u with
    sys.ao.enables := en, sys.ao.inRange := ir, sys.ao.target := tg, sys.ao.holdDone := hd }
  · rw [hsame]
    refine ⟨_, u.sys.boot.step, u.sys.red.active, rfl, rfl, rfl, ?_, ?_, rfl⟩
    · exact congrArg (fun t : State => t.sys.ao.rstScope) hclear
    · exact congrArg (fun t : State => t.sys.ao.power) hclear
  · rw [hstart]
    refine ⟨_, .rails, 0, rfl, rfl, rfl, ?_, ?_, rfl⟩
    · exact congrArg (fun t : State => t.sys.ao.rstScope) hclear
    · exact congrArg (fun t : State => t.sys.ao.power) hclear

/-- A cold reset that finds every enable low and their hold running: the start waits. -/
theorem coldReset_low (cause group : Nat) (s : State) (hlow : s.sys.ao.enables = 0) (hhold : s.sys.ao.holdDone = false) :
    coldReset cause group s = { coldClear s with
      sys.ao := { s.sys.ao with
        power := .run, changing := false, aoIntN := false, rstScope := 1, rstDie := 0, cause := cause, group := group
        coldWaiting := true, railRestartDue := false, target := 0 }
      sys.jtag := Sys.reset.jtag } := by
  obtain ⟨fu, fl, fr, hclear, -, -⟩ := coldClear_eq s
  unfold coldReset
  rw [hclear]
  dsimp only
  refine (congrArg tryStart (lowerTo_zero_of_low _ ?_)).trans (tryStart_held _ ?_)
  · exact hlow
  · exact hhold

theorem shutOff_eq (cause group : Nat) (s : State) : ∃ (ao : Ao),
    shutOff cause group s = { coldClear s with sys.ao := ao, sys.jtag := Sys.reset.jtag }
    ∧ ao.cause = cause ∧ ao.group = group ∧ ao.target = 0 ∧ ao.coldWaiting = false := by
  obtain ⟨en, ir, tg, hd, hlow, htarget⟩ := lowerTo_eq 0 { coldClear s with
    sys.ao.cause := cause, sys.ao.group := group, sys.ao.coldWaiting := false, sys.jtag := Sys.reset.jtag }
  exact ⟨_, hlow, rfl, rfl, htarget rfl, rfl⟩

/-- What a cold reset keeps and clears. -/
theorem coldReset_clears (cause group : Nat) (s : State) (hblow : s.sys.spring.blowing = none) (hwrite : s.sys.slotWrite = none) :
    let t := coldReset cause group s
    t.sys.ao.cause = cause ∧ t.sys.ao.group = group ∧ t.sys.ao.rstScope = 1 ∧ t.sys.ao.power = .run ∧ t.sys.ao.railRestartDue = false
    ∧ t.hw.fuses = s.hw.fuses ∧ t.hw.flash = s.hw.flash ∧ t.hw.mem = [] ∧ t.hw.regs = [] ∧ t.hw.counters = [] ∧ t.hw.links = []
    ∧ t.cores = [] ∧ t.rend = Rend.reset ∧ t.chain = Chain.reset ∧ t.route = Routing.reset ∧ t.net = Net.reset ∧ t.msg = Msg.reset
    ∧ t.time = Timeline.reset ∧ t.sys.lockstep = Sys.reset.lockstep ∧ t.sys.fatal = Sys.reset.fatal ∧ t.journal = none
    ∧ t.hw.dram.order = regOr s 3 (dieAddr (activeShore s) 0x230000) % 4 := by
  obtain ⟨ao, step, active, heq, hcause, hgroup, hscope, hpower, hdue⟩ := coldReset_eq cause group s
  obtain ⟨fu, fl, fr, hclear, hfuses, hflash⟩ := coldClear_eq s
  dsimp only
  rw [heq, hclear]
  exact ⟨hcause, hgroup, hscope, hpower, hdue, hfuses hblow, hflash hwrite, rfl, rfl, rfl, rfl, rfl, rfl, rfl, rfl, rfl, rfl, rfl,
    rfl, rfl, rfl, rfl⟩

/-! ### RESET_N -/

section
variable {s : State} {ns : Nat}

theorem execResetNAssert_short (h : ns < 100) : execResetNAssert ns s = .next s := congrArg _ (if_pos (Or.inl h))

theorem execResetNAssert_long (h : 1000 ≤ ns) (hvdd : s.sys.ao.vdd = true) :
    execResetNAssert ns s = .next (coldReset 1 0 { s with sys.ao.resetN := false }) := by
  unfold execResetNAssert
  rw [if_neg (not_or.mpr ⟨by omega, by rw [hvdd]; decide⟩), if_pos h]
  rfl

theorem execResetNAssert_between (h₁ : 100 ≤ ns) (h₂ : ns < 1000) (hvdd : s.sys.ao.vdd = true) :
    execResetNAssert ns s =
      .next (if (Config.freeBits s.free).getLsbD 0 then coldReset 1 0 { s with free := s.free + 1, sys.ao.resetN := false }
        else { s with free := s.free + 1 }) := by
  unfold execResetNAssert
  rw [if_neg (not_or.mpr ⟨by omega, by rw [hvdd]; decide⟩), if_neg (by omega)]
  rfl

end

/-! ### Resets that `sys.reset` has asked for -/

theorem execWarmReset_of_due {die slot : Nat} {s : State} (h : s.msg.ncp.resetDue = some (0, die, slot))
    (hsafe : (warmClear s).sys.boot.safe = false) (hrun : (warmClear s).sys.ao.power = .run) :
    execWarmReset s = .next (announceReady (startChannels (startTimeline false
      { warmClear s with sys.boot.cause := .warm, sys.boot.step := .ready }))) := by
  unfold execWarmReset
  rw [h]
  simp only [hsafe, hrun, Bool.false_eq_true, if_false, if_true]

theorem execDieReset_of_due {die slot : Nat} {s : State} (h : s.msg.ncp.resetDue = some (2, die, slot)) :
    execDieReset die s = .next (
      let t := dieEvent die 0 { s with msg.ncp.resetDue := none, sys.ao.rstScope := 2, sys.ao.rstDie := die }
      let u := resetTarn die t
      if isOutlet die then dieEvent die 1 (resetOutlet true die t)
      else if (getTile t die).ticking then setTile die { getTile u die with inReset := true, index := (getTile t die).index } u
      else dieEvent die 1 u) := by
  unfold execDieReset
  rw [h]
  exact congrArg _ (if_neg (not_not_intro rfl))

/-- Settles O21: the pins, the cold reset, and the resets of `sys.reset`. -/
theorem resets : Obligations.Resets := by
  refine ⟨fun s => ⟨fun low => ?_, ?_, fun ns h => execResetNAssert_short h, fun ns h hvdd => execResetNAssert_long h hvdd,
      fun ns h₁ h₂ hvdd => execResetNAssert_between h₁ h₂ hvdd, fun h => ?_, fun die hpow => ?_⟩,
    fun cause group s hblow hwrite => coldReset_clears cause group s hblow hwrite,
    fun die slot s => ⟨fun h => ?_, fun h hsafe hrun => execWarmReset_of_due h hsafe hrun, fun h hout => ?_,
      fun h hout => ⟨fun htick => ?_, fun htick => ?_⟩, fun htarn hin => ?_, rfl, rfl, rfl⟩⟩
  · refine ⟨_, rfl, ?_⟩
    rw [coldReset_low 0 0 _ rfl rfl]
    exact ⟨rfl, rfl, rfl, rfl, rfl, rfl⟩
  · obtain ⟨fu, fl, fr, hclear, hfuses, hflash⟩ := coldClear_eq s
    refine ⟨_, rfl, ?_⟩
    rw [hclear]
    exact ⟨rfl, rfl, rfl, rfl, rfl, rfl, hfuses, hflash⟩
  · exact congrArg _ (if_neg (by rw [h]; decide))
  · obtain ⟨ao, heq, hcause, -, htarget, hwait⟩ := shutOff_eq 4 0 s
    refine ⟨{ shutOff 4 0 s with sys.ao.lockedOff := true }, congrArg _ (if_neg (by rw [hpow]; decide)), ?_⟩
    rw [heq]
    exact ⟨hcause, htarget, rfl, hwait⟩
  · change execColdReset s = _
    unfold execColdReset
    simp only [h]
  · exact (execDieReset_of_due h).trans (congrArg _ (if_pos hout))
  · exact (execDieReset_of_due h).trans (congrArg _ ((if_neg (by rw [hout]; decide)).trans (if_pos htick)))
  · exact (execDieReset_of_due h).trans (congrArg _ ((if_neg (by rw [hout]; decide)).trans (if_neg (by rw [htick]; decide))))
  · exact congrArg _ (if_pos ⟨htarn, hin⟩)

end Sys2Proof.Machine
end

section
/-! PROOFS. Tick markers, holdover and late work on a Tarn (R48, R51, R254, R262, R288, R528, R569), and the order of a tick's work (R45 to R50). -/

namespace Sys2Proof.Machine

/-! ### Tick markers -/

section
variable {die : Nat} {s : State}

/-- A marker that reaches a Tarn which is there and powered. -/
theorem execTickMarkerRx_of_present (k : Nat) (hdie : s.member.tarnDies.contains die = true) (hpow : powered s die = true) :
    execTickMarkerRx die k s = .next (
      if (getTile s die).inReset then rejoinTarn die k s
      else if !(getTile s die).ticking then s
      else if k = (getTile s die).index ∨ k = (getTile s die).index + 1 then
        let w := getWarden s die
        let s := setTile die { getTile s die with markerAt := k, missing := 0, holdover := false } s
        if w.declared then setWarden die { w with declared := false } s else s
      else fatal 5 die s) :=
  congrArg _ (if_neg (by rw [hdie, hpow]; decide))

theorem execTickMarkerRx_agreed (k : Nat) (hdie : s.member.tarnDies.contains die = true) (hpow : powered s die = true)
    (hin : (getTile s die).inReset = false) (htick : (getTile s die).ticking = true)
    (hk : k = (getTile s die).index ∨ k = (getTile s die).index + 1) (hdecl : (getWarden s die).declared = false) :
    execTickMarkerRx die k s = .next (setTile die { getTile s die with markerAt := k, missing := 0, holdover := false } s) := by
  rw [execTickMarkerRx_of_present k hdie hpow, if_neg (by rw [hin]; decide), if_neg (by rw [htick]; decide), if_pos hk]
  exact congrArg _ (if_neg (by rw [hdecl]; decide))

theorem execTickMarkerRx_error (k : Nat) (hdie : s.member.tarnDies.contains die = true) (hpow : powered s die = true)
    (hin : (getTile s die).inReset = false) (htick : (getTile s die).ticking = true) (hk : k ≠ (getTile s die).index)
    (hk' : k ≠ (getTile s die).index + 1) : execTickMarkerRx die k s = .next (fatal 5 die s) := by
  rw [execTickMarkerRx_of_present k hdie hpow, if_neg (by rw [hin]; decide), if_neg (by rw [htick]; decide),
    if_neg (not_or.mpr ⟨hk, hk'⟩)]

/-! ### The stage deadline -/

/-- The late channels or feeds of a tile among those named. -/
def homedOn (s : State) (die : Nat) (cs : List Nat) : List Nat :=
  cs.filter fun c => isChannel s.member c && homeTile s.member c == die

theorem execStageDeadline_ticking (ins sls chs fds : List Nat) (hdie : s.member.tarnDies.contains die = true)
    (hpow : powered s die = true) (htick : (getTile s die).ticking = true) (hin : (getTile s die).inReset = false) :
    execStageDeadline die ins sls chs fds s = .next (
      let mine := fun id => match getObj s id with
        | some o => sliceDie o.slice == die
        | none => false
      let t := (ins.filter mine).foldl (fun t id => lateInput (getTile s die).index id t) s
      let t := (sls.filter fun sl => sliceDie sl == die).foldl (fun t sl => lateSlice sl t) t
      let t := (homedOn s die chs).foldl (fun t c =>
        count (0x3000 + 8 * (die - 2) + 4) (setTile die { getTile t die with chnOverrun := true } (repeatFeed c t))) t
      (homedOn s die fds).foldl (fun t c => count 0x11000 (repeatFeed c t)) t) :=
  congrArg _ (if_neg (by rw [hdie, hpow, htick, hin]; decide))

theorem homedOn_single (c : Nat) (hc : isChannel s.member c = true) (hhome : homeTile s.member c = die) :
    homedOn s die [c] = [c] :=
  List.filter_cons_of_pos (by rw [hc, hhome]; exact beq_self_eq_true die)

/-! ### Partial sums -/

theorem execPartialSumArrival_ticking (src index first : Nat) (sums : List Int) (hdie : s.member.tarnDies.contains die = true)
    (hpow : powered s die = true) (htick : (getTile s die).ticking = true) (hin : (getTile s die).inReset = false)
    (hsrc : s.member.tarnDies.contains src = true) (hne : src ≠ die) :
    execPartialSumArrival die src index first sums s = .next (
      if index < (getTile s die).ownIndex then
        count (0x08C0 + 8 * (die - 2) + 4) (setTile die { getTile s die with misalign := true } s)
      else if (getTile s die).ownIndex < index then fatal 5 die s
      else
        let ids := (List.range s.member.speakers).filter fun i => decide (first ≤ i) && homeTile s.member i == die
        setTile die { getTile s die with
          arrived := mapSet (getTile s die).arrived src (addSums (mapGet (fun _ => []) (getTile s die).arrived src) (ids.zip sums)) } s) := by
  unfold execPartialSumArrival
  dsimp only
  rw [if_neg (by simp [List.contains_iff_mem.mp hdie, List.contains_iff_mem.mp hsrc, hpow, htick, hin, hne.symm])]
  rfl

end

/-- Settles O22: markers, holdover, the stage deadline and partial sums, each by its own case. -/
theorem markersAndDeadlines : Obligations.MarkersAndDeadlines := by
  refine ⟨fun die k s hdie hpow => ⟨fun hin htick hk hdecl => execTickMarkerRx_agreed k hdie hpow hin htick hk hdecl,
      fun hin htick hk hk' => execTickMarkerRx_error k hdie hpow hin htick hk hk',
      fun hin => (execTickMarkerRx_of_present k hdie hpow).trans (congrArg _ (if_pos hin))⟩,
    fun die s hdie hpow htick => ⟨fun hhold hwhy => ?_, fun hin => execStageDeadline_ticking [] [] [] [] hdie hpow htick hin,
      fun hin id o hobj hslice => ?_, fun hin sl hsl => ?_, fun hin c hc hhome => ⟨?_, ?_⟩,
      fun hin src hsrc hne index first sums => ⟨fun hold => ?_, fun hnew => ?_, fun heq => ?_⟩⟩⟩
  · refine congrArg _ (if_pos ⟨hdie, hpow, htick, by rw [hhold]; rfl, hwhy.imp id fun hdecl => ?_⟩)
    exact Bool.or_eq_true_iff.mpr (Or.inl hdecl)
  · refine (execStageDeadline_ticking [id] [] [] [] hdie hpow htick hin).trans ?_
    dsimp only
    rw [List.filter_cons_of_pos]
    · rfl
    · rw [hobj]
      exact beq_iff_eq.mpr hslice
  · refine (execStageDeadline_ticking [] [sl] [] [] hdie hpow htick hin).trans ?_
    have hfilter : [sl].filter (fun sl => sliceDie sl == die) = [sl] := List.filter_cons_of_pos (beq_iff_eq.mpr hsl)
    dsimp only
    rw [hfilter]
    rfl
  · refine (execStageDeadline_ticking [] [] [c] [] hdie hpow htick hin).trans ?_
    dsimp only
    rw [homedOn_single c hc hhome]
    rfl
  · refine (execStageDeadline_ticking [] [] [] [c] hdie hpow htick hin).trans ?_
    dsimp only
    rw [homedOn_single c hc hhome]
    rfl
  · exact (execPartialSumArrival_ticking src index first sums hdie hpow htick hin hsrc hne).trans (congrArg _ (if_pos hold))
  · exact (execPartialSumArrival_ticking src index first sums hdie hpow htick hin hsrc hne).trans
      (congrArg _ ((if_neg (by omega)).trans (if_pos hnew)))
  · exact (execPartialSumArrival_ticking src index first sums hdie hpow htick hin hsrc hne).trans
      (congrArg _ ((if_neg (by omega)).trans (if_neg (by omega))))

/-! ### The order of a tick's work -/

theorem execTarnTick_ticking {die : Nat} {s : State} (hdie : s.member.tarnDies.contains die = true) (hpow : powered s die = true)
    (htick : (getTile s die).ticking = true) (hin : (getTile s die).inReset = false) :
    execTarnTick die s = .next (
      let s := forceBuses (getTile s die).index s
      let t := getTile s die
      let late := decide (t.markerAt < t.index)
      let t := muteStep { t with index := t.index + 1, missing := if late then t.missing + 1 else 0 }
      tileStages die t.index (setTile die t s)) := by
  unfold execTarnTick
  rw [if_neg (by rw [hdie, hpow, htick, hin]; decide)]

theorem execMasterTick_rendering {s : State} (cycles : Nat) (phase : Int) (hrend : rendering s = true) (hup : nerrisUp s = true) :
    execMasterTick cycles phase s = .next (
      let s := advanceTime cycles s
      let k := s.time.index + 1
      let (s, d) := mclkTick k phase (forceBuses (k - 1) s)
      muteRate (tickWork k (slipStreams k d s))) := by
  unfold execMasterTick
  rw [if_neg (by rw [hrend, hup]; decide)]

/-- Settles O26: the master tick and a Tarn's, stage by stage. -/
theorem ticks : Obligations.Ticks := by
  refine ⟨fun cycles phase s => ⟨fun hrend hup => ?_, fun hrend => ?_, fun k => rfl, fun k => rfl⟩,
    fun die s hdie hpow htick hin => ?_⟩
  · exact execMasterTick_rendering cycles phase hrend hup
  · change execMasterTick cycles phase s = _
    unfold execMasterTick
    rw [if_pos (Or.inl (by rw [hrend]; rfl))]
  · refine (execTarnTick_ticking hdie hpow htick hin).trans ?_
    simp only [decide_eq_true_eq]
    rfl

end Sys2Proof.Machine
end

section
/-! PROOFS. Attestation, self-test, debug tokens and fuses (R83, R87 to R104, R135, R163). -/

namespace Sys2Proof.Machine

/-! ### The error state -/

/-- With no attestation in progress nothing is dropped. -/
theorem dropAttesting_of_none (s : State) (h : s.sys.spring.attesting = none) : dropAttesting s = s := by
  unfold dropAttesting
  rw [h]

/-- `sec.fault` and what it reports leave an attestation in progress as it was. -/
theorem cryptoFault_attesting (test : Nat) (s : State) :
    (cryptoFault test s).sys.spring.attesting = s.sys.spring.attesting := by
  unfold cryptoFault faultEvent
  obtain ⟨m, w, h⟩ := event_eq 19 _ 0x0C80 0xFFFF (bytesLE 1 test) { s with
    sys.spring.cryptoErr := true, sys.spring.selftestOk := false, sys.spring.attestKey := none, sys.spring.saveKey := none }
  rw [h]

theorem withCrypto_of_error (s : State) (r : Reply) (h : s.sys.spring.cryptoErr = true) :
    withCrypto s r = refuse codeFault 0 noField s := by
  unfold withCrypto cryptoRefusal
  rw [h]
  rfl

/-! ### Attestation and self-test -/

section
variable {rq : Request} {s : State}

theorem secAttestBody_sized (hlow : 16 ≤ rq.payload.length) (hhigh : rq.payload.length ≤ 64) :
    secAttestBody rq s = withCrypto s (if s.sys.spring.attesting.isSome then refuse codeBusy 0 noField s
      else replyLater { s with sys.spring.attesting := some rq }) :=
  if_neg (by omega)

theorem execAttestationSigned_keyed {key : BitVec 384} (h : s.sys.spring.attesting = some rq)
    (hkey : s.sys.spring.attestKey = some key) :
    execAttestationSigned s = .next (
      let t := { s with sys.spring.attesting := none, free := s.free + 1 }
      let report := attestReport t key rq.payload
      answered rq 0x0C00 (report ++ bytesBE 96 (Config.ecdsaSign key report (Config.freeBits s.free).toNat).toNat) t) := by
  unfold execAttestationSigned
  rw [h]
  dsimp only
  rw [hkey]
  rfl

theorem execAttestationSigned_keyless (h : s.sys.spring.attesting = some rq) (hkey : s.sys.spring.attestKey = none) :
    execAttestationSigned s = .next (refusedWith rq 0x0C00 codeFault noField { s with sys.spring.attesting := none }) := by
  unfold execAttestationSigned
  rw [h]
  dsimp only
  rw [hkey]
  rfl

theorem execSelftestComplete_of_test (k : Nat) (h : s.sys.spring.selftesting = some rq) :
    execSelftestComplete k s = .next (answered rq 0x0C07 (bytesLE 1 (flag (k != 0)) ++ bytesLE 1 k)
      (if k = 0 then { s with sys.spring.selftesting := none }
        else dropAttesting (cryptoFault k { s with sys.spring.selftesting := none }))) := by
  unfold execSelftestComplete
  rw [h]
  rfl

/-! ### Debug tokens -/

theorem tokenGood_parts (p : List Byte) (h : tokenGood s p = true) :
    lifecycle s = 2 ∧ s.sys.spring.challenge = some (BitVec.ofNat 256 (fieldBE p 32 32)) ∧ debugEpoch s ≤ byteAt p 1 := by
  simp only [tokenGood, Bool.and_eq_true, beq_iff_eq, decide_eq_true_eq] at h
  obtain ⟨⟨⟨⟨hlife, -⟩, hchallenge⟩, hepoch⟩, -⟩ := h
  exact ⟨hlife, hchallenge, hepoch⟩

end

/-- Settles O24: each message by its checks; what the hardware reports by what is in progress. -/
theorem attestationAndDebug : Obligations.AttestationAndDebug := by
  refine ⟨fun rq s => ⟨fun h => ⟨fun hlen => next_badArg h (if_pos hlen), fun hlow hhigh => ⟨fun herr => ?_, fun herr htest =>
      ⟨fun hbusy => ?_, fun hidle => ?_⟩⟩⟩, fun h key hkey => ⟨_, execAttestationSigned_keyed h hkey⟩,
      fun h hkey => execAttestationSigned_keyless h hkey, fun h herr htest => ?_, fun h => ⟨?_, fun k hk => ?_⟩,
      fun k hstep hidle hup => ?_, fun k hstep => ?_⟩,
    fun rq s herr htest => ⟨fun h => ?_, fun h hgood => ?_, fun h hbad => ?_, fun hlife => ?_, fun hnone => ?_, fun hepoch => ?_⟩⟩
  · exact next_refused h (by decide) (by decide) ((secAttestBody_sized hlow hhigh).trans (withCrypto_of_error _ _ herr))
  · exact next_refused h (by decide) (by decide) ((secAttestBody_sized hlow hhigh).trans
      ((withCrypto_of_ok _ herr htest).trans (if_pos hbusy)))
  · exact next_later h ((secAttestBody_sized hlow hhigh).trans
      ((withCrypto_of_ok _ herr htest).trans (if_neg (by rw [hidle]; decide))))
  · exact next_later h (withCrypto_of_ok _ herr htest)
  · exact execSelftestComplete_of_test 0 h
  · refine (execSelftestComplete_of_test k h).trans ?_
    rw [if_neg hk, bne_iff_ne.mpr hk]
    rfl
  · change execEntropyHealthFail k s = _
    unfold execEntropyHealthFail
    rw [hstep]
    exact congrArg _ (dropAttesting_of_none _ ((cryptoFault_attesting k s).trans hidle))
  · change execEntropyHealthFail k s = _
    unfold execEntropyHealthFail
    rw [hstep]
  · exact next_answered h rfl (withCrypto_of_ok _ herr htest)
  · exact next_answered h rfl ((withCrypto_of_ok _ herr htest).trans (if_pos hgood))
  · exact next_refused h (by decide) (by decide) ((withCrypto_of_ok _ herr htest).trans (if_neg (by rw [hbad]; decide)))
  · exact Bool.eq_false_iff.mpr fun hgood => hlife (tokenGood_parts _ hgood).1
  · exact Bool.eq_false_iff.mpr fun hgood =>
      absurd (hnone.symm.trans (tokenGood_parts _ hgood).2.1) nofun
  · exact Bool.eq_false_iff.mpr fun hgood => Nat.not_le.mpr hepoch (tokenGood_parts _ hgood).2.2

/-! ### Fuses -/

section
variable {rq : Request} {s : State}

theorem withFuses_of_idle (r : Reply) (herr : s.sys.spring.cryptoErr = false) (htest : s.sys.spring.selftesting = none)
    (hidle : s.sys.spring.blowing = none) : withFuses s r = r := by
  unfold withFuses
  rw [withCrypto_of_ok _ herr htest, if_neg (by rw [hidle]; decide)]

theorem execFusesBlown_of_blowing {w : FuseWork} (h : s.sys.spring.blowing = some (rq, w)) :
    execFusesBlown s = .next (
      let s := { s with sys.spring.blowing := none }
      let s := if w.opcode = 0x0C03 ∨ w.opcode = 0x0C06 then blowNow w.bits s else { s with hw.fuses := s.hw.fuses ||| w.bits }
      let s := if w.bits &&& flagFuses 3 = 0 then s else { s with sys.spring.attestKey := none, sys.spring.saveKey := none }
      answered rq w.opcode w.reply s) := by
  unfold execFusesBlown
  rw [h]
  rfl

/-- A transition that an owner has signed and the state allows. -/
theorem secLifecycleBody_of_idle (herr : s.sys.spring.cryptoErr = false) (htest : s.sys.spring.selftesting = none)
    (hidle : s.sys.spring.blowing = none) :
    secLifecycleBody rq s =
      if ((lifecycle s == 1 && byteAt rq.payload 0 == 2)
          || ((lifecycle s == 1 || lifecycle s == 2) && byteAt rq.payload 0 == 3))
        && namesPart s rq.payload 16 && ownerSigned s (byteAt rq.payload 1) rq.payload 32 then
        blow rq 0x0C02 (transition (byteAt rq.payload 0)) [] s
      else denied s :=
  withFuses_of_idle _ herr htest hidle

end

/-- Settles O25: each request by its signature and its state; the fuses blown by what they are. -/
theorem fuses : Obligations.Fuses := by
  refine ⟨fun rq s herr htest hidle => ⟨fun h hlife hfrom key hkey => ?_, fun h hlife => ?_, fun h hsigned =>
      ⟨fun hlife htarget => ?_, fun hlife htarget => ?_, fun htarget => ?_⟩, fun h hunsigned => ?_,
      fun h hsigned hkey hother => ?_, fun h hkey hother => ?_, fun h hsigned => ⟨fun hmore => ?_, fun hfull => ?_⟩⟩,
    fun s => ⟨fun rq w hblow hrma => ⟨fun hop => ?_, fun hop hop' => ?_⟩, fun rq w hblow hrma hop => ?_,
      fun hdue hready hup => ?_, fun hdue => ?_⟩⟩
  · refine next_later h ((withFuses_of_idle _ herr htest hidle).trans ((if_neg ?_).trans ?_))
    · simp [hlife, hfrom]
    · rw [hkey]
      rfl
  · exact next_refused h (by decide) (by decide) ((withFuses_of_idle _ herr htest hidle).trans (if_pos (Or.inl hlife)))
  · refine next_later h ((secLifecycleBody_of_idle herr htest hidle).trans ((if_pos ?_).trans ?_))
    · simp [hlife, htarget, hsigned.1, hsigned.2]
    · rw [htarget]
      rfl
  · refine next_later h ((secLifecycleBody_of_idle herr htest hidle).trans ((if_pos ?_).trans ?_))
    · simp [hlife, htarget, hsigned.1, hsigned.2]
    · rw [htarget]
      rfl
  · refine next_refused h (by decide) (by decide) ((secLifecycleBody_of_idle herr htest hidle).trans (if_neg ?_))
    have h₂ : byteAt rq.payload 0 ≠ 2 := by omega
    have h₃ : byteAt rq.payload 0 ≠ 3 := by omega
    simp [h₂, h₃]
  · refine next_refused h (by decide) (by decide) ((secLifecycleBody_of_idle herr htest hidle).trans (if_neg ?_))
    simp only [Bool.and_eq_true, not_and]
    exact fun hgood hsig => hunsigned ⟨hgood.2, hsig⟩
  · refine next_later h ((withFuses_of_idle _ herr htest hidle).trans ((if_neg (by omega)).trans (if_pos ⟨hother, hsigned.1, ?_⟩)))
    rw [← hother]
    exact hsigned.2
  · exact next_refused h (by decide) (by decide) ((withFuses_of_idle _ herr htest hidle).trans
      ((if_neg (by omega)).trans (if_neg fun hall => hother hall.1)))
  · refine next_later h ((withFuses_of_idle _ herr htest hidle).trans ((if_neg ?_).trans (if_neg (by omega))))
    rw [hsigned.1, hsigned.2]
    decide
  · refine next_refused h (by decide) (by decide) ((withFuses_of_idle _ herr htest hidle).trans ((if_neg ?_).trans (if_pos hfull)))
    rw [hsigned.1, hsigned.2]
    decide
  · refine (execFusesBlown_of_blowing hblow).trans ?_
    simp only [if_pos hop, if_pos hrma]
    rfl
  · refine (execFusesBlown_of_blowing hblow).trans ?_
    simp only [if_neg (not_or.mpr ⟨hop, hop'⟩), if_pos hrma]
  · refine (execFusesBlown_of_blowing hblow).trans ?_
    simp only [if_neg hrma, hop]
    rfl
  · change execRollbackFuseBlow s = _
    unfold execRollbackFuseBlow
    rw [if_neg (by rw [hdue, hready, hup]; decide)]
    rfl
  · change execRollbackFuseBlow s = _
    unfold execRollbackFuseBlow
    rw [if_pos (Or.inl (by rw [hdue]; rfl))]

end Sys2Proof.Machine
end

section
/-! PROOFS. DRAM written by the blocks of the Shore: what a write changes, and what memory reads afterwards (R361 to R364, R512 to R515). -/

namespace Sys2Proof.Machine

/-! ### An access to DRAM changes page prediction and counters alone -/

theorem touchRow_eq (s : State) (d : Nat) : ∃ bs cs, touchRow s d = { s with hw.dram.banks := bs, hw.counters := cs } :=
  ⟨_, _, rfl⟩

theorem touchDram_eq (addr n : Nat) (s : State) : ∃ bs cs, touchDram addr n s = { s with hw.dram.banks := bs, hw.counters := cs } := by
  unfold touchDram
  dsimp only
  split
  · exact ⟨s.hw.dram.banks, s.hw.counters, rfl⟩
  · generalize List.range _ = js
    generalize (addr % 2 ^ 36 - dramBase) / 256 * 256 = d
    induction js generalizing s with
    | nil => exact ⟨s.hw.dram.banks, s.hw.counters, rfl⟩
    | cons j js ih =>
      obtain ⟨bs, cs, h⟩ := touchRow_eq s (d + 256 * j)
      obtain ⟨bs', cs', h'⟩ := ih (touchRow s (d + 256 * j))
      exact ⟨bs', cs', by rw [List.foldl_cons, h', h]⟩

theorem foldl_touchDram_eq {α : Type} (place : State → α → Nat) (n : Nat) (js : List α) (s : State) :
    ∃ bs cs, js.foldl (fun s j => touchDram (place s j) n s) s = { s with hw.dram.banks := bs, hw.counters := cs } := by
  induction js generalizing s with
  | nil => exact ⟨s.hw.dram.banks, s.hw.counters, rfl⟩
  | cons j js ih =>
    obtain ⟨bs, cs, h⟩ := touchDram_eq (place s j) n s
    obtain ⟨bs', cs', h'⟩ := ih (touchDram (place s j) n s)
    exact ⟨bs', cs', by rw [List.foldl_cons, h', h]⟩

/-! ### A write to DRAM -/

theorem mendWords_eq (addr n : Nat) (s : State) : ∃ bad, mendWords addr n s = { s with hw.ponds.bad := bad } := by
  unfold mendWords
  split
  · exact ⟨s.hw.ponds.bad, rfl⟩
  · exact ⟨_, rfl⟩

/-- A write to DRAM changes memory as it says, page prediction, counters and the words whose parity fails. -/
theorem dramWrite_eq (addr : Nat) (bs : List Byte) (s : State) : ∃ banks cs bad, dramWrite addr bs s =
    { s with hw.mem := memPuts s.hw.mem addr bs, hw.dram.banks := banks, hw.counters := cs, hw.ponds.bad := bad } := by
  obtain ⟨banks, cs, htouch⟩ := touchDram_eq addr bs.length (writeBytes addr bs s)
  obtain ⟨bad, hmend⟩ := mendWords_eq addr bs.length (touchDram addr bs.length (writeBytes addr bs s))
  exact ⟨banks, cs, bad, by unfold dramWrite; rw [hmend, htouch]; rfl⟩

/-- Bytes just written to DRAM read as written. -/
theorem readBytes_dramWrite (addr : Nat) (bs : List Byte) (s : State) : readBytes (dramWrite addr bs s) addr bs.length = bs := by
  obtain ⟨banks, cs, bad, h⟩ := dramWrite_eq addr bs s
  rw [h]
  refine List.ext_getElem (by simp [readBytes, memGets]) fun k _ hk => ?_
  simp only [readBytes, memGets, List.getElem_map, List.getElem_range]
  exact memByte_memPuts_inside _ _ _ _ hk

/-- What a ring's transfers leave: everything but hardware and routes. -/
structure LeavesAllButRoutes (s t : State) : Prop where
  msg   : t.msg = s.msg
  sys   : t.sys = s.sys
  rend  : t.rend = s.rend
  time  : t.time = s.time
  chain : t.chain = s.chain
  outs  : t.outs = s.outs

/-- A write to DRAM changes nothing but hardware. -/
theorem dramWrite_frame (addr : Nat) (bs : List Byte) (s : State) :
    (dramWrite addr bs s).route = s.route ∧ LeavesAllButRoutes s (dramWrite addr bs s) := by
  obtain ⟨banks, cs, bad, h⟩ := dramWrite_eq addr bs s
  rw [h]
  exact ⟨rfl, rfl, rfl, rfl, rfl, rfl, rfl⟩

theorem LeavesAllButRoutes.trans {s t u : State} (h : LeavesAllButRoutes s t) (h' : LeavesAllButRoutes t u) : LeavesAllButRoutes s u :=
  ⟨h'.msg.trans h.msg, h'.sys.trans h.sys, h'.rend.trans h.rend, h'.time.trans h.time, h'.chain.trans h.chain, h'.outs.trans h.outs⟩

theorem foldl_dramWrite_eq {α : Type} (place : State → α → Nat) (bytes : α → List Byte) (es : List α) (s : State) :
    ∃ mem banks cs bad, es.foldl (fun s e => dramWrite (place s e) (bytes e) s) s =
      { s with hw.mem := mem, hw.dram.banks := banks, hw.counters := cs, hw.ponds.bad := bad } := by
  induction es generalizing s with
  | nil => exact ⟨s.hw.mem, s.hw.dram.banks, s.hw.counters, s.hw.ponds.bad, rfl⟩
  | cons e es ih =>
    obtain ⟨b, c, d, h⟩ := dramWrite_eq (place s e) (bytes e) s
    obtain ⟨m', b', c', d', h'⟩ := ih (dramWrite (place s e) (bytes e) s)
    exact ⟨m', b', c', d', by rw [List.foldl_cons, h', h]⟩

/-! ### Rings (R361 to R364) -/

section
variable {ring : Nat} {r : Ring} {s : State}

theorem execRingFetch_idle (h : mapFind s.route.rings ring = some r) (hidle : r.capture = true) : execRingFetch ring s = .next s := by
  unfold execRingFetch
  rw [h]
  exact congrArg _ (if_pos (Or.inl hidle))

theorem execRingCaptureBlock_idle (h : mapFind s.route.rings ring = some r) (hidle : r.capture = false) :
    execRingCaptureBlock ring s = .next s := by
  unfold execRingCaptureBlock
  rw [h]
  exact congrArg _ (if_pos (Or.inl (by rw [hidle]; rfl)))

/-- A sample of a playback ring is played: within the fill, not yet overwritten, and read without a parity error on any channel. -/
def Ring.plays (r : Ring) (s : State) (fill i : Nat) : Bool :=
  decide (i < fill) && decide (fill ≤ i + r.length) && !((List.range r.channels).any fun c => dramBad s (basinStart s + r.place i c))

/-- The 64 samples of every channel from a first one, those that are not played 0. -/
def Ring.fetched (r : Ring) (s : State) (fill i0 : Nat) : AMap Int :=
  (List.range 64).flatMap fun j => (List.range r.channels).map fun c =>
    ((i0 + j) * 64 + c, if r.plays s fill (i0 + j) then signed 32 (fieldLE (readBytes s (basinStart s + r.place (i0 + j) c) 4) 0 4) else 0)

theorem Ring.plays_iff (r : Ring) (s : State) (fill i : Nat) : r.plays s fill i = true ↔
    i < fill ∧ fill ≤ i + r.length ∧ ∀ c, c < r.channels → dramBad s (basinStart s + r.place i c) = false := by
  simp [Ring.plays, and_assoc]

theorem Ring.mem_fetched (r : Ring) (s : State) (fill i0 j c : Nat) (hj : j < 64) (hc : c < r.channels) :
    ((i0 + j) * 64 + c, if i0 + j < fill ∧ fill ≤ i0 + j + r.length
        ∧ ∀ c', c' < r.channels → dramBad s (basinStart s + r.place (i0 + j) c') = false
      then signed 32 (fieldLE (readBytes s (basinStart s + r.place (i0 + j) c) 4) 0 4) else 0) ∈ r.fetched s fill i0 := by
  rw [if_congr (r.plays_iff s fill (i0 + j)).symm rfl rfl]
  exact List.mem_flatMap.mpr ⟨j, List.mem_range.mpr hj, List.mem_map.mpr ⟨c, List.mem_range.mpr hc, rfl⟩⟩

/-- A playback ring's fetch: the ring's record, the device index in Basin, and nothing else beside DRAM's own bookkeeping. -/
theorem execRingFetch_plays (h : mapFind s.route.rings ring = some r) (hplay : r.capture = false) (hrend : s.time.rendering = true)
    (hup : nerrisUp s = true) (hnear : r.next s.time.index ≤ s.time.index + 128) :
    let i0 := r.next s.time.index
    let fill := fieldLE (readBytes s (basinStart s + r.offset) 8) 0 8
    ∃ (u : State) (kept : AMap Int),
      execRingFetch ring s = .next (dramWrite (basinStart s + r.offset + 8) (bytesLE 8 (i0 + 64)) u)
      ∧ u.route.rings = mapSet s.route.rings ring { r with device := i0 + 64, fill := fill, block := kept ++ r.fetched s fill i0 }
      ∧ LeavesAllButRoutes s u := by
  unfold execRingFetch
  rw [h]
  dsimp only
  rw [if_neg (not_or.mpr ⟨by rw [hplay]; decide, not_or.mpr ⟨by unfold rendering; rw [hrend]; decide,
    not_or.mpr ⟨by rw [hup]; decide, Nat.not_lt.mpr hnear⟩⟩⟩)]
  obtain ⟨banks, cs, htouch⟩ := foldl_touchDram_eq (fun t j => basinStart t + r.place (r.next s.time.index + j) 0)
    (4 * r.channels) (List.range 64) s
  rw [htouch]
  exact ⟨_, _, rfl, rfl, rfl, rfl, rfl, rfl, rfl, rfl⟩

/-- The block of a capture ring that starts at its device index. -/
theorem Ring.first_eq_device {i : Nat} (hi : i / 64 = r.device) (hstart : r.start ≤ r.device) (hblock : (r.device - r.start) % 64 = 0) :
    max r.device (r.start + (i / 64 - r.start) / 64 * 64) = r.device := by
  omega

/-- A capture ring's block: its samples in DRAM, the device index in Basin, and the ring's record moved on. -/
theorem execRingCaptureBlock_full {i : Nat} {v : Int} {rest : AMap Int} (h : mapFind s.route.rings ring = some r)
    (hcap : r.capture = true) (hhead : r.block = (i, v) :: rest) (hi : i / 64 = r.device) (hstart : r.start ≤ r.device)
    (hblock : (r.device - r.start) % 64 = 0) (hfull : ∃ e ∈ r.block, r.device + 63 ≤ e.1 / 64) :
    ∃ u : State,
      execRingCaptureBlock ring s = .next (dramWrite (basinStart s + r.offset + 8) (bytesLE 8 (r.device + 64)) u)
      ∧ u.route.rings = mapSet s.route.rings ring { r with
          device := r.device + 64, block := r.block.filter fun e => decide (r.device + 64 ≤ e.1 / 64) }
      ∧ LeavesAllButRoutes s u := by
  have hany : (r.block.any fun e => decide (r.device + 63 ≤ e.1 / 64)) = true := by
    obtain ⟨e, he, hle⟩ := hfull
    exact List.any_eq_true.mpr ⟨e, he, decide_eq_true hle⟩
  unfold execRingCaptureBlock
  simp only [h, hhead, Ring.first_eq_device hi hstart hblock]
  rw [← hhead, if_neg (by rw [hcap, hany]; decide)]
  obtain ⟨mem, banks, cs, bad, hwrites⟩ := foldl_dramWrite_eq (fun t (e : Nat × Int) => basinStart t + r.place (e.1 / 64) (e.1 % 64))
    (fun e => bytesS 4 e.2) (r.block.filter fun e => decide (r.device ≤ e.1 / 64) && decide (e.1 / 64 < r.device + 64)) s
  rw [hwrites]
  exact ⟨_, rfl, rfl, rfl, rfl, rfl, rfl, rfl, rfl⟩

end

/-! ### Route changes and crossfades (R334, R336 to R338) -/

/-- A value in range is left as it is by saturation. -/
theorem satInt_of_range (n : Nat) (v : Int) (hlo : -(2 ^ (n - 1) : Nat) ≤ v) (hhi : v < (2 ^ (n - 1) : Nat)) : satInt n v = v := by
  unfold satInt clampInt
  omega

section
variable {e n : Nat} {new : Option Nat} {s : State}

theorem changeRoute_idle (h : (getDst s e).fading = false) : changeRoute e new n s = startFade e new n s :=
  if_pos (by rw [h]; rfl)

theorem startFade_fades (hn : n ≠ 0) (hrend : s.time.rendering = true) :
    startFade e new n s =
      setDst e { getDst s e with route := new, old := (getDst s e).route, fading := true, fadeN := n, fadeAt := 0 } (count 0x3A00 s) :=
  if_neg (not_or.mpr ⟨hn, by change ¬(!s.time.rendering) = true; rw [hrend]; decide⟩)

theorem startFade_at_once (hnow : n = 0 ∨ s.time.rendering = false) (hroute : (getDst s e).route = none) :
    startFade e new n s =
      setDst e { getDst s e with route := new, old := none, fading := false, fadeN := 0, fadeAt := 0 } (count 0x3A00 s) := by
  have hfree : (if (getDst s e).route = new then none else (getDst s e).route) = none := by rw [hroute]; exact ite_self none
  refine (if_pos (hnow.imp id fun h => ?_)).trans ?_
  · change (!s.time.rendering) = true
    rw [h]
    rfl
  · rw [hfree]
    rfl

/-- A change behind a crossfade in progress. -/
theorem changeRoute_waits (h : (getDst s e).fading = true) :
    changeRoute e new n s =
      setDst e { getDst s e with pending := some (new, n) } (match (getDst s e).pending with
        | some (h, _) => count 0x3A01 (freeRouteOpt h s)
        | none => s) := by
  refine (if_neg (by rw [h]; decide)).trans ?_
  cases (getDst s e).pending <;> rfl

theorem endFade_done (hfade : (getDst s e).fading = true) (hover : (getDst s e).fadeN ≤ (getDst s e).fadeAt) {h : Nat}
    (hold : (getDst s e).old = some h) :
    endFade e s =
      let t := setDst e { getDst s e with fading := false, old := none, fadeN := 0, fadeAt := 0, pending := none } (freeRoute h s)
      match (getDst s e).pending with
      | some (k, m) => startFade e k m t
      | none => t := by
  refine (if_pos ⟨hfade, hover⟩).trans ?_
  rw [hold]
  rfl

theorem endFade_idle (h : (getDst s e).fading = false ∨ (getDst s e).fadeAt < (getDst s e).fadeN) : endFade e s = s :=
  if_neg fun ⟨hfade, hover⟩ => h.elim (fun hno => Bool.noConfusion (hno.symm.trans hfade)) (fun hlt => Nat.not_le.mpr hlt hover)

/-- What a route makes of its source's sample before saturation (R334). -/
def Route.gained (r : Route) (x : Int) : Int := roundDiv (x * gainQ r.gain * (if r.invert then -1 else 1)) (2 ^ 20)

theorem routeSample_of_route (get : Nat → Int) {h : Nat} {r : Route} (hr : getRoute s h = some r) :
    routeSample get (some h) s =
      (satInt 32 (r.gained (get r.src)), if satInt 32 (r.gained (get r.src)) = r.gained (get r.src) then s else count (gainCounter r.src) s) := by
  unfold routeSample
  rw [Option.bind_some, hr]
  rfl

theorem routeSample_in_range (get : Nat → Int) {h : Nat} {r : Route} (hr : getRoute s h = some r) (hlo : -2 ^ 31 ≤ r.gained (get r.src))
    (hhi : r.gained (get r.src) < 2 ^ 31) : routeSample get (some h) s = (r.gained (get r.src), s) := by
  rw [routeSample_of_route get hr, satInt_of_range 32 _ hlo hhi, if_pos rfl]

theorem routeSample_above (get : Nat → Int) {h : Nat} {r : Route} (hr : getRoute s h = some r) (hhi : 2 ^ 31 ≤ r.gained (get r.src)) :
    routeSample get (some h) s = (2 ^ 31 - 1, count (gainCounter r.src) s) := by
  have hsat : satInt 32 (r.gained (get r.src)) = 2 ^ 31 - 1 := by
    unfold satInt clampInt
    omega
  rw [routeSample_of_route get hr, hsat, if_neg (by omega)]

theorem routeSample_below (get : Nat → Int) {h : Nat} {r : Route} (hr : getRoute s h = some r) (hlo : r.gained (get r.src) < -2 ^ 31) :
    routeSample get (some h) s = (-2 ^ 31, count (gainCounter r.src) s) := by
  have hsat : satInt 32 (r.gained (get r.src)) = -2 ^ 31 := by
    unfold satInt clampInt
    omega
  rw [routeSample_of_route get hr, hsat, if_neg (by omega)]

/-- A crossfade's sample weights the new and the old route by where the fade stands (R337). -/
theorem dstSample_fading (get : Nat → Int) {a b : Nat} {ra rb : Route} (hroute : (getDst s e).route = some a)
    (hold : (getDst s e).old = some b) (ha : getRoute s a = some ra) (hb : getRoute s b = some rb)
    (hfade : (getDst s e).fading = true) (hmore : (getDst s e).fadeAt < (getDst s e).fadeN)
    (hx : -2 ^ 31 ≤ ra.gained (get ra.src)) (hx' : ra.gained (get ra.src) < 2 ^ 31)
    (hy : -2 ^ 31 ≤ rb.gained (get rb.src)) (hy' : rb.gained (get rb.src) < 2 ^ 31) :
    let d := getDst s e
    let v := roundDiv (rb.gained (get rb.src) * (d.fadeN - 1 - d.fadeAt : Nat) + ra.gained (get ra.src) * (d.fadeAt + 1 : Nat)) d.fadeN
    (-2 ^ 31 ≤ v) → v < 2 ^ 31 → dstSample get e s = (v, setDst e { d with fadeAt := d.fadeAt + 1, last := v } s) := by
  intro d v hv hv'
  unfold dstSample
  dsimp only
  rw [hroute, routeSample_in_range get ha hx hx', if_pos ⟨hfade, hmore⟩, hold]
  dsimp only
  rw [routeSample_in_range get hb hy hy']
  dsimp only
  have hsat : satInt 32 v = v := satInt_of_range 32 v hv hv'
  simp only [d, v] at hsat ⊢
  rw [hsat, if_pos rfl]

/-- A value found under a key stands in the map with it. -/
theorem mem_of_mapFind {α : Type} {m : AMap α} {k : Nat} {a : α} (h : mapFind m k = some a) : (k, a) ∈ m := by
  induction m with
  | nil => exact absurd h nofun
  | cons c m ih =>
    obtain ⟨j, b⟩ := c
    rw [mapFind] at h
    split at h
    · next hj =>
      cases h
      exact hj ▸ List.mem_cons_self
    · exact List.mem_cons_of_mem _ (ih h)

/-- A direct source that a destination in use takes hands its sample over. -/
theorem execDirectSampleHandoff_used {source h : Nat} {sample : Int} {r : Route} (hsrc : isSource s.member source = true)
    (hin : isIngress source = true) (hup : nerrisUp s = true) (hrend : s.time.rendering = true) (hout : isObjectInput e = false)
    (hroute : (getDst s e).route = some h) (hr : getRoute s h = some r) (hfrom : r.src = source)
    (hlisted : (mapFind s.route.dsts e).isSome = true) :
    execDirectSampleHandoff source sample s = .next (
      let v := if epKind source < 0x12 then satInt 32 sample else ingressSample s source
      emit (.direct source v) { s with route.direct := mapSet s.route.direct source v }) := by
  obtain ⟨d, hd⟩ := Option.isSome_iff_exists.mp hlisted
  have hget : getDst s e = d := by unfold getDst mapGet; rw [hd]; rfl
  have hcarries : ((e, d).2.route.bind (getRoute s)) = some r := by rw [← hget, hroute]; exact hr
  have hused : (s.route.dsts.any fun d => !isObjectInput d.1 && (d.2.route :: d.2.old :: []).any fun h =>
      match h.bind (getRoute s) with
      | some r => r.src == source
      | none => false) = true := by
    refine List.any_eq_true.mpr ⟨(e, d), mem_of_mapFind hd, ?_⟩
    rw [hout]
    exact List.any_eq_true.mpr ⟨d.route, List.mem_cons_self, by rw [hcarries]; exact beq_iff_eq.mpr hfrom⟩
  unfold execDirectSampleHandoff
  refine congrArg _ (if_neg ?_)
  rw [hsrc, hin, hup]
  change ¬(_ ∨ _ ∨ (!(s.route.dsts.any _)) = true ∨ _ ∨ (!s.time.rendering) = true)
  rw [hrend]
  exact not_or.mpr ⟨by decide, not_or.mpr ⟨by decide, not_or.mpr ⟨fun hno => Bool.noConfusion (hused.symm.trans ((Bool.not_eq_true' _).mp hno)),
    by decide⟩⟩⟩

end

/-! ### `route` messages (R156, R598) -/

section
variable {rq : Request} {s : State}

/-- A setting done at once, with the place of its record named. -/
theorem next_recorded_as {op : NcpOp} {t : State} {body key : List Byte} {staged : Bool} (h : served op rq s = true)
    (hk : op.key rq = some key) (hst : op.staged rq = staged) (hb : op.body rq s = replyOk body t) :
    (.next (serve op rq s) : Host.Outcome State Fault Refusal) = .next (answered rq op.opcode body (recorded staged op.opcode key rq t)) :=
  hst ▸ next_recorded h hk hb

/-- `route.set` with endpoints of the member: what stands in its way, or the handle that it takes. -/
theorem routeSetBody_of_endpoints (hsrc : isSource s.member (fieldLE rq.payload 0 4) = true)
    (hdst : isDestination s.member (fieldLE rq.payload 4 4) = true)
    (hrender : isIngress (fieldLE rq.payload 0 4) = true ∨ isObjectInput (fieldLE rq.payload 4 4) = false) :
    routeSetBody rq s =
      if !(byteAt rq.payload 12).testBit 0 && stageLocked s (fieldLE rq.payload 4 4) then refuse codeBusy 0 noField s
      else match mapFree s.route.routes 4096 with
        | none => refuse codeNoResource 1 noField s
        | some h =>
          let g := min (fieldS rq.payload 8 2) 3072
          let n := min (fieldLE rq.payload 10 2) 1024
          let dst := fieldLE rq.payload 4 4
          let staged := (byteAt rq.payload 12).testBit 0
          let r : Route := { src := fieldLE rq.payload 0 4, dst := dst, gain := g, invert := (byteAt rq.payload 12).testBit 1, fade := n
                             staged := staged }
          let fields := [(8, decide (fieldS rq.payload 8 2 ≤ 3072)), (10, decide (fieldLE rq.payload 10 2 ≤ 1024))]
          let s := { s with route.routes := mapSet s.route.routes h r }
          let s :=
            if staged then
              let s := forgetStagedRoute dst (unstage dst s)
              { s with route.stage := mapSet s.route.stage dst { handle := some h, clears := none, fade := n } }
            else changeRoute dst (some h) n (withdrawClear dst s)
          replyUsed (firstBad fields) (bytesLE 2 h ++ bytesLE 2 n)
            (echoUnless [10] fields (withField 10 2 n (withField 8 2 (g % 65536).toNat rq.payload))) s := by
  unfold routeSetBody
  dsimp only
  rw [hsrc, hdst, if_neg (by decide), if_neg (by
    rintro (hno | hboth)
    · exact absurd hno (by decide)
    · obtain h | h := hrender <;> simp [h] at hboth)] <;> (cases mapFree s.route.routes 4096 <;> rfl)

theorem routeSetBody_full (hsrc : isSource s.member (fieldLE rq.payload 0 4) = true)
    (hdst : isDestination s.member (fieldLE rq.payload 4 4) = true)
    (hrender : isIngress (fieldLE rq.payload 0 4) = true ∨ isObjectInput (fieldLE rq.payload 4 4) = false)
    (hlock : stageLocked s (fieldLE rq.payload 4 4) = false) (hfull : mapFree s.route.routes 4096 = none) :
    routeSetBody rq s = refuse codeNoResource 1 noField s := by
  rw [routeSetBody_of_endpoints hsrc hdst hrender, if_neg (by rw [hlock, Bool.and_false]; decide), hfull]

/-- The route that a `route.set` within its limits makes. -/
def routeOf (p : List Byte) : Route :=
  { src := fieldLE p 0 4, dst := fieldLE p 4 4, gain := fieldS p 8 2, invert := (byteAt p 12).testBit 1, fade := fieldLE p 10 2
    staged := (byteAt p 12).testBit 0 }

theorem routeSetBody_set {h : Nat} (hsrc : isSource s.member (fieldLE rq.payload 0 4) = true)
    (hdst : isDestination s.member (fieldLE rq.payload 4 4) = true)
    (hrender : isIngress (fieldLE rq.payload 0 4) = true ∨ isObjectInput (fieldLE rq.payload 4 4) = false)
    (hgain : fieldS rq.payload 8 2 ≤ 3072) (hfade : fieldLE rq.payload 10 2 ≤ 1024) (hfree : mapFree s.route.routes 4096 = some h)
    (hlock : (byteAt rq.payload 12).testBit 0 = false → stageLocked s (fieldLE rq.payload 4 4) = false) :
    routeSetBody rq s =
      let dst := fieldLE rq.payload 4 4
      let t := { s with route.routes := mapSet s.route.routes h (routeOf rq.payload) }
      replyOk (bytesLE 2 h ++ bytesLE 2 (fieldLE rq.payload 10 2))
        (if (byteAt rq.payload 12).testBit 0 then
          let u := forgetStagedRoute dst (unstage dst t)
          { u with route.stage := mapSet u.route.stage dst { handle := some h, clears := none, fade := fieldLE rq.payload 10 2 } }
        else changeRoute dst (some h) (fieldLE rq.payload 10 2) (withdrawClear dst t)) := by
  have hopen : ¬(!(byteAt rq.payload 12).testBit 0 && stageLocked s (fieldLE rq.payload 4 4)) = true := by
    cases hst : (byteAt rq.payload 12).testBit 0
    · simp [hlock hst]
    · simp
  have hfits : firstBad [(8, decide (fieldS rq.payload 8 2 ≤ 3072)), (10, decide (fieldLE rq.payload 10 2 ≤ 1024))] = none := by
    simp [firstBad, hgain, hfade]
  rw [routeSetBody_of_endpoints hsrc hdst hrender, if_neg hopen, hfree]
  dsimp only
  rw [hfits, min_eq_left hgain, min_eq_left hfade]
  rfl

theorem unstage_of_none {e : Nat} {t : State} (h : mapFind t.route.stage e = none) : unstage e t = t := by
  unfold unstage
  rw [h]

theorem routeClearBody_of_route {r : Route} (hr : getRoute s (fieldLE rq.payload 0 2) = some r) (hfade : fieldLE rq.payload 2 2 ≤ 1024) :
    (r.staged = false → (byteAt rq.payload 4).testBit 0 = false → stageLocked s r.dst = false →
      routeClearBody rq s = replyOk [] (clearRoute (fieldLE rq.payload 0 2) r (fieldLE rq.payload 2 2) s))
    ∧ (r.staged = true → s.msg.commit = none →
      routeClearBody rq s = replyOk [] (forgetStagedRoute r.dst (unstage r.dst s))) := by
  unfold routeClearBody
  dsimp only
  rw [hr]
  dsimp only
  rw [if_neg (Nat.not_lt.mpr hfade), min_eq_left hfade]
  refine ⟨fun hst hbit hlock => ?_, fun hst hnone => ?_⟩
  · rw [if_neg (by rw [hst]; decide), if_neg (by rw [hbit]; decide), if_neg (by rw [hlock]; decide)]
    rfl
  · rw [if_pos hst, if_neg (by rw [hnone]; decide)]
    rfl

theorem routeGetBody_of_route {r : Route} (hr : getRoute s (fieldLE rq.payload 0 2) = some r) :
    routeGetBody rq s = replyOk (bytesLE 4 r.src ++ bytesLE 4 r.dst ++ bytesS 2 r.gain ++ bytesLE 2 r.fade
      ++ bytesLE 1 (flag r.staged + 2 * flag r.invert) ++ [0, 0, 0] ++ bytesLE 1 (routeState s (fieldLE rq.payload 0 2) r)) s := by
  have hbits : flagAt r.staged 0 + flagAt r.invert 1 = flag r.staged + 2 * flag r.invert := by
    cases r.staged <;> cases r.invert <;> rfl
  unfold routeGetBody
  dsimp only
  rw [hr]
  dsimp only
  rw [hbits]
  rfl

/-! ### `route.basin.cfg` -/

/-- A ring given a place, before its channels are counted. -/
theorem routeBasinCfgBody_of_ring (hring : byteAt rq.payload 0 ≤ 15) (hch : byteAt rq.payload 2 ≠ 0) :
    routeBasinCfgBody rq s =
      let ring := byteAt rq.payload 0
      let dir := byteAt rq.payload 1
      let ch := byteAt rq.payload 2
      let len := fieldLE rq.payload 4 4
      let off := fieldLE rq.payload 8 8
      let size := ringBytes ch len
      match firstBad [(1, decide (dir < 2)), (2, decide (ch ≤ 64)), (4, decide (256 ≤ len) && decide (len ≤ 16777216)),
          (8, off % 4096 == 0 && inBasin s off size && !ringOverlaps s ring off size && !dumpOverlaps s off size)] with
      | some f => badArg f s
      | none =>
        if (if dir = 1 then 512 else 2048) < ringChannels s (dir == 1) ring + ch then refuse codeNoResource 0 noField s
        else
          let start := fieldLE rq.payload 16 8
          let from_ := max start (if rendering s then s.time.index + 256 else 0)
          replyUsed (if start < from_ then some 16 else none) (bytesLE 8 from_) []
            { s with route.rings := (mapSet s.route.rings ring
              { capture := dir == 1, channels := ch, length := len, offset := off, start := from_
                device := from_, fill := 0, block := [] }) } := by
  unfold routeBasinCfgBody
  dsimp only
  rw [if_neg (Nat.not_lt.mpr hring), if_neg hch] <;> rfl

end

/-- A ring that fits in Basin, with a start far enough ahead, is placed. -/
theorem routeBasinCfgBody_placed {rq : Request} {s : State} (hring : byteAt rq.payload 0 ≤ 15) (hch : byteAt rq.payload 2 ≠ 0)
    (hdir : byteAt rq.payload 1 < 2) (hmany : byteAt rq.payload 2 ≤ 64) (hlen : 256 ≤ fieldLE rq.payload 4 4)
    (hlen' : fieldLE rq.payload 4 4 ≤ 16777216) (halign : fieldLE rq.payload 8 8 % 4096 = 0)
    (hin : fieldLE rq.payload 8 8 + ringBytes (byteAt rq.payload 2) (fieldLE rq.payload 4 4) ≤ basinSize s)
    (hrings : ringOverlaps s (byteAt rq.payload 0) (fieldLE rq.payload 8 8) (ringBytes (byteAt rq.payload 2) (fieldLE rq.payload 4 4)) = false)
    (hdump : dumpOverlaps s (fieldLE rq.payload 8 8) (ringBytes (byteAt rq.payload 2) (fieldLE rq.payload 4 4)) = false)
    (hroom : ringChannels s (byteAt rq.payload 1 == 1) (byteAt rq.payload 0) + byteAt rq.payload 2
      ≤ if byteAt rq.payload 1 = 1 then 512 else 2048)
    (hstart : s.time.rendering = true → s.time.index + 256 ≤ fieldLE rq.payload 16 8) :
    routeBasinCfgBody rq s = replyOk (bytesLE 8 (fieldLE rq.payload 16 8))
      { s with route.rings := (mapSet s.route.rings (byteAt rq.payload 0)
        { capture := byteAt rq.payload 1 == 1, channels := byteAt rq.payload 2, length := fieldLE rq.payload 4 4
          offset := fieldLE rq.payload 8 8, start := fieldLE rq.payload 16 8, device := fieldLE rq.payload 16 8, fill := 0, block := [] }) } := by
  have hleast : max (fieldLE rq.payload 16 8) (if rendering s then s.time.index + 256 else 0) = fieldLE rq.payload 16 8 := by
    refine max_eq_left ?_
    split
    · next h => exact hstart h
    · exact Nat.zero_le _
  have hfirst : ∀ b, b = true → firstBad [(1, decide (byteAt rq.payload 1 < 2)), (2, decide (byteAt rq.payload 2 ≤ 64)),
      (4, decide (256 ≤ fieldLE rq.payload 4 4) && decide (fieldLE rq.payload 4 4 ≤ 16777216)), (8, b)] = none := by
    rintro _ rfl
    simp [firstBad, hdir, hmany, hlen, hlen']
  rw [routeBasinCfgBody_of_ring hring hch]
  dsimp only
  rw [hfirst _ (by simp [halign, inBasin, hin, hrings, hdump])]
  dsimp only
  rw [if_neg (Nat.not_lt.mpr hroom), hleast, if_neg (Nat.lt_irrefl _)]
  rfl

/-- A ring that would lie over the dump area is refused for its offset. -/
theorem routeBasinCfgBody_dump {rq : Request} {s : State} (hring : byteAt rq.payload 0 ≤ 15) (hch : byteAt rq.payload 2 ≠ 0)
    (hdir : byteAt rq.payload 1 < 2) (hmany : byteAt rq.payload 2 ≤ 64) (hlen : 256 ≤ fieldLE rq.payload 4 4)
    (hlen' : fieldLE rq.payload 4 4 ≤ 16777216)
    (hdump : dumpOverlaps s (fieldLE rq.payload 8 8) (ringBytes (byteAt rq.payload 2) (fieldLE rq.payload 4 4)) = true) :
    routeBasinCfgBody rq s = badArg 8 s := by
  have hfirst : ∀ b, b = false → firstBad [(1, decide (byteAt rq.payload 1 < 2)), (2, decide (byteAt rq.payload 2 ≤ 64)),
      (4, decide (256 ≤ fieldLE rq.payload 4 4) && decide (fieldLE rq.payload 4 4 ≤ 16777216)), (8, b)] = some 8 := by
    rintro _ rfl
    simp [firstBad, hdir, hmany, hlen, hlen']
  rw [routeBasinCfgBody_of_ring hring hch]
  dsimp only
  rw [hfirst _ (by simp [hdump])]

/-- Settles O27: messages by what they name, crossfades by where they stand, rings by their direction. -/
theorem routes : Obligations.Routes := by
  refine ⟨fun rq s => ⟨fun h => ⟨fun hsrc => ?_, fun hsrc hdst => ?_, fun hsrc hdst hrender => ⟨fun hst hlock hfull => ?_,
        fun hgain hfade k hfree => ⟨fun hst hlock => ?_, fun hst hnone => ?_⟩⟩⟩,
      fun h => ⟨fun hr => ?_, fun r hr hst hbit hlock hfade => ?_, fun r hr hst hnone hfade => ?_⟩, fun h r hr => ?_, fun h => ?_,
      fun h => ⟨fun hring hch => ?_, fun hring hch hdir hmany hlen hlen' halign hin hrings hdump hroom hstart => ?_,
        fun hring hch hdir hmany hlen hlen' hdump => ?_, fun hring => ?_⟩⟩,
    fun e n new s => ⟨fun hidle hn hrend => (changeRoute_idle hidle).trans (startFade_fades hn hrend),
      fun hidle hnow hroute => (changeRoute_idle hidle).trans (startFade_at_once hnow hroute), fun hfade hnone => ?_,
      fun k m hfade hpend => ?_, fun hfade hover hnone k hold => ?_, fun hfade hover k m hold hpend => ?_,
      fun hidle => congrArg _ (endFade_idle hidle), fun get k r hr => ⟨fun hlo hhi => routeSample_in_range get hr hlo hhi,
        fun hhi => routeSample_above get hr hhi, fun hlo => routeSample_below get hr hlo⟩, fun get => rfl,
      fun get a b ra rb hroute hold ha hb hfade hmore hx hx' hy hy' hv hv' =>
        dstSample_fading get hroute hold ha hb hfade hmore hx hx' hy hy' hv hv',
      fun source sample k r hsrc hin hup hrend hout hroute hr hfrom hlisted =>
        execDirectSampleHandoff_used hsrc hin hup hrend hout hroute hr hfrom hlisted⟩,
    fun ring s => ⟨fun hnone => ⟨?_, ?_⟩, fun r h hcap => execRingFetch_idle h hcap, fun r h hplay => execRingCaptureBlock_idle h hplay,
      fun r h hplay hrend hup hnear => ?_, fun r h hcap i v rest hhead hi hstart hblock hfull => ?_⟩⟩
  · exact next_badArg h (if_pos (by rw [hsrc]; rfl))
  · exact next_badArg h ((if_neg (by rw [hsrc]; decide)).trans (if_pos (Or.inl (by rw [hdst]; rfl))))
  · exact next_refused h (by decide) (by decide) (routeSetBody_full hsrc hdst hrender hlock hfull)
  · refine next_recorded_as h rfl hst ((routeSetBody_set hsrc hdst hrender hgain hfade hfree fun _ => hlock).trans ?_)
    have hbit : (byteAt rq.payload 12).testBit 0 = false := hst
    dsimp only
    rw [if_neg (by rw [hbit]; decide)]
    rfl
  · refine next_recorded_as h rfl hst ((routeSetBody_set hsrc hdst hrender hgain hfade hfree
      fun hno => Bool.noConfusion (hno.symm.trans hst)).trans ?_)
    have hbit : (byteAt rq.payload 12).testBit 0 = true := hst
    have hbare := unstage_of_none (t := { s with route.routes := mapSet s.route.routes k (routeOf rq.payload) }) hnone
    dsimp only
    rw [if_pos hbit, hbare]
    rfl
  · refine next_badArg h ?_
    change routeClearBody rq s = _
    unfold routeClearBody
    dsimp only
    rw [hr]
  · exact next_answered h rfl ((routeClearBody_of_route hr hfade).1 hst hbit hlock)
  · exact next_answered h rfl ((routeClearBody_of_route hr hfade).2 hst hnone)
  · exact next_answered h rfl (routeGetBody_of_route hr)
  · exact next_answered h rfl rfl
  · refine next_recorded_as h rfl rfl ((if_neg (Nat.not_lt.mpr hring)).trans (if_pos hch))
  · exact next_recorded_as h rfl rfl
      (routeBasinCfgBody_placed hring hch hdir hmany hlen hlen' halign hin hrings hdump hroom hstart)
  · exact next_badArg h (routeBasinCfgBody_dump hring hch hdir hmany hlen hlen' hdump)
  · exact next_badArg h (if_pos hring)
  · rw [changeRoute_waits hfade, hnone]
  · rw [changeRoute_waits hfade, hpend]
    rfl
  · refine congrArg _ ((endFade_done hfade hover hold).trans ?_)
    rw [hnone]
  · refine congrArg _ ((endFade_done hfade hover hold).trans ?_)
    rw [hpend]
  · change execRingFetch ring s = _
    unfold execRingFetch
    rw [hnone]
  · change execRingCaptureBlock ring s = _
    unfold execRingCaptureBlock
    rw [hnone]
  · obtain ⟨u, kept, hexec, hrings, hkeeps⟩ := execRingFetch_plays h hplay hrend hup hnear
    obtain ⟨hroute, hwrite⟩ := dramWrite_frame (basinStart s + r.offset + 8) (bytesLE 8 (r.next s.time.index + 64)) u
    obtain ⟨hmsg, hsys, hrend', htime, hchain, houts⟩ := hkeeps.trans hwrite
    have hring := (congrArg (fun x => mapFind x.rings ring) hroute).trans
      ((congrArg (fun x => mapFind x ring) hrings).trans (mapFind_mapSet_same s.route.rings ring _))
    exact ⟨_, _, hexec, hring, rfl, rfl, hplay, rfl, rfl, rfl, rfl, readBytes_dramWrite _ _ _, hmsg, hsys, hrend', htime, hchain, houts,
      fun j c hj hc => List.mem_append_right kept (r.mem_fetched s _ _ j c hj hc)⟩
  · obtain ⟨u, hexec, hrings, hkeeps⟩ := execRingCaptureBlock_full h hcap hhead hi hstart hblock hfull
    obtain ⟨hroute, hwrite⟩ := dramWrite_frame (basinStart s + r.offset + 8) (bytesLE 8 (r.device + 64)) u
    obtain ⟨hmsg, hsys, hrend', htime, hchain, houts⟩ := hkeeps.trans hwrite
    exact ⟨_, hexec, by rw [hroute, hrings], readBytes_dramWrite _ _ _, hmsg, hsys, hrend', htime, hchain, houts⟩

end Sys2Proof.Machine
end

section
/-! PROOFS. Register writes, W1S actions, external outputs and the memory messages (R12 to R17, R40 to R43, R98, R150, R162, R325, R498 to R501). -/

namespace Sys2Proof.Machine

/-! ### Writes on the bus -/

section
variable {m : Master} {addr size : Nat} {v : Word} {s : State}

/-- What a write that is let through does at its place. -/
def writeThrough (m : Master) (size : Nat) (v : Word) (s : State) : Place → State
  | .reg die off => if size ≠ 4 then posted m (busErr s) else posted m (noteReg 1 die off (regWrite m die off v s))
  | .pond die bank off => pondWrite m die bank off size v s
  | .rom _ => busErr s
  | .code core off => busOk [] (writeBytes (codeAddr core 0 + off) (bytesLE size v.toNat) s)
  | .dram d => if s.hw.dram.st ≠ 1 then busErr s else busOk [] (dramWrite (dramAddr s d) (bytesLE size v.toNat) s)
  | _ => s

/-- An aligned write to a place that answers: the firewall decides. -/
theorem busWrite_placed {p : Place} (hp : placeOf s (masterDie s m) addr = p) (hnot : p ≠ .nothing) (hdead : p ≠ .dead)
    (halign : addr % size = 0) :
    busWrite m addr size v s = if !permitted s m p true then firewallRefuse m p true addr s else writeThrough m size v s p := by
  have hal : ¬(!aligned addr size) = true := by simp [aligned, halign]
  unfold busWrite
  rw [hp]
  cases p with
  | nothing => exact absurd rfl hnot
  | dead => exact absurd rfl hdead
  | _ => exact if_neg hal

theorem posted_of_internal (hm : m ≠ .pcie) (t : State) : posted m t = t := if_neg hm

theorem busWrite_reg {die off : Nat} (hp : placeOf s (masterDie s m) addr = .reg die off) (halign : addr % size = 0)
    (hok : permitted s m (.reg die off) true = true) (hm : m ≠ .pcie) :
    busWrite m addr size v s = if size ≠ 4 then busErr s else noteReg 1 die off (regWrite m die off v s) := by
  rw [busWrite_placed hp nofun nofun halign, if_neg (by rw [hok]; decide), writeThrough, posted_of_internal hm,
    posted_of_internal hm]

theorem busWrite_refused {p : Place} (hp : placeOf s (masterDie s m) addr = p) (hnot : p ≠ .nothing) (hdead : p ≠ .dead)
    (halign : addr % size = 0) (hno : permitted s m p true = false) :
    busWrite m addr size v s = firewallRefuse m p true addr s := by
  rw [busWrite_placed hp hnot hdead halign, if_pos (by rw [hno]; rfl)]

theorem pondWrite_owned {die bank off : Nat} (hown : ownsBank s m die bank = true) (hpwr : (getBank s die bank).pwr ≠ 2) :
    pondWrite m die bank off size v s = busOk [] (mendWords (pondAddr die bank off) size
      (writeBytes (pondAddr die bank off) (bytesLE size v.toNat) (wakeBank die bank s))) :=
  (if_neg (by rw [hown]; decide)).trans (if_neg hpwr)

/-! ### Plain and sealed registers -/

theorem regWrite_plain {die off mask : Nat} (hplain : storedMask s die off = some (mask, false)) (hmay : mayStore m die off = true)
    (hcoef : isTarn die = false ∨ off < 0x442000 ∨ 0x444000 ≤ off ∨ controls m = true) :
    regWrite m die off v s = busOk [] (regPut (dieAddr die off) (v.toNat &&& mask) s) := by
  have hopen : ¬(isTarn die = true ∧ 0x442000 ≤ off ∧ off < 0x444000 ∧ (!controls m) = true) := by
    rintro ⟨htarn, hlo, hhi, hno⟩
    obtain h | h | h | h := hcoef
    · exact Bool.noConfusion (h.symm.trans htarn)
    · exact Nat.not_lt.mpr hlo h
    · exact Nat.not_le.mpr hhi h
    · rw [h] at hno
      exact absurd hno (by decide)
  unfold regWrite
  rw [hplain]
  dsimp only
  rw [Bool.false_and, if_neg (by decide), if_neg hopen, if_pos hmay]

theorem regWrite_sealed {die off mask : Nat} (hlocked : storedMask s die off = some (mask, true)) (hseal : isSealed s die = true) :
    regWrite m die off v s = busOk [] { s with sys.spring.sealViol := true } := by
  unfold regWrite
  rw [hlocked]
  dsimp only
  rw [hseal, if_pos (by decide)]

/-! ### W1S actions and RPL_XDONE -/

theorem execW1sActionDone_nerris {die bit : Nat} (hp : placeOf s (activeShore s) (addr % 2 ^ 40) = .reg die 0x15000)
    (hshore : isShore die = true) (hbit : bit < 3 ∨ 16 ≤ bit) (hsmall : bit < 32) (again : Bool) :
    execW1sActionDone addr bit again s = .next (if !again then
      { s with msg.mbx.dblNerris := s.msg.mbx.dblNerris &&& ~~~(BitVec.ofNat 32 (2 ^ bit)) } else s) := by
  unfold execW1sActionDone
  rw [hp]
  refine congrArg _ (if_congr ?_ rfl rfl)
  simp [hshore, hbit, hsmall]

theorem execRplXdoneWrite_reached {core : Nat} (hcore : core < s.member.cores) (hpow : powered s (masterDie s m) = true)
    (hp : placeOf s (masterDie s m) (dieAddr (coreDie core) (0x500700 + (core % 16) * 0x1000))
      = .reg (coreDie core) (0x500700 + (core % 16) * 0x1000))
    (hok : permitted s m (.reg (coreDie core) (0x500700 + (core % 16) * 0x1000)) true = true) :
    execRplXdoneWrite m core v s = .next (busOk [] (xdoneWrite core v.toNat s)) := by
  unfold execRplXdoneWrite
  dsimp only
  rw [if_neg (not_or.mpr ⟨Nat.not_le.mpr hcore, by rw [hpow]; decide⟩), hp, if_neg (not_not_intro rfl), if_neg (by rw [hok]; decide)]

theorem xdoneWrite_tagged {core w : Nat} (hbound : (mapGet xslot0 (getCore s core).slots (w % 64)).bound = true)
    (htag : w / 256 % 256 = (mapGet xslot0 (getCore s core).slots (w % 64)).tag) :
    xdoneWrite core w s = setCore core { getCore s core with
      slots := mapSet (getCore s core).slots (w % 64)
        { mapGet xslot0 (getCore s core).slots (w % 64) with done := true, ready := false } } s := by
  unfold xdoneWrite
  dsimp only
  rw [if_neg (by rw [hbound]; decide), if_pos htag]

theorem xdoneWrite_stale {core w : Nat} (hbound : (mapGet xslot0 (getCore s core).slots (w % 64)).bound = true)
    (htag : w / 256 % 256 ≠ (mapGet xslot0 (getCore s core).slots (w % 64)).tag) :
    xdoneWrite core w s = count (0x12000 + core) (setCore core ((getCore s core).stick 7) s) := by
  unfold xdoneWrite
  dsimp only
  rw [if_neg (by rw [hbound]; decide), if_neg htag]

end

/-! ### The memory messages -/

section
variable {rq : Request} {s : State}

theorem memReadBody_allowed (h₁ : 4 ≤ fieldLE rq.payload 8 2) (h₂ : fieldLE rq.payload 8 2 ≤ 1000) (h₃ : fieldLE rq.payload 8 2 % 4 = 0)
    (hok : memRefused s (fieldLE rq.payload 0 8) (fieldLE rq.payload 8 2) false = none) :
    memReadBody rq s = replyOk (readRange (fieldLE rq.payload 0 8) (fieldLE rq.payload 8 2) s).1
      (readRange (fieldLE rq.payload 0 8) (fieldLE rq.payload 8 2) s).2 := by
  unfold memReadBody
  dsimp only
  rw [if_neg (by omega), hok]

/-- A `mem.write` of one word is one access of the control cluster. -/
theorem memWriteBody_word (hlen : fieldLE rq.payload 8 2 = 4) (halign : fieldLE rq.payload 0 8 % 4 = 0) (hlong : 20 ≤ rq.payload.length)
    (hok : memRefused s (fieldLE rq.payload 0 8) 4 true = none) :
    memWriteBody rq s =
      let t := busWrite .controlCluster (fieldLE rq.payload 0 8) 4 (BitVec.ofNat 32 (fieldLE rq.payload 16 4)) s
      if t.bus.error then refuse codeDenied 0 noField t else replyOk [] t := by
  have hunit : memUnit (fieldLE rq.payload 0 8) = 4 := if_pos halign
  unfold memWriteBody
  dsimp only
  rw [hlen, if_neg (by decide), if_neg (Nat.not_lt.mpr hlong), hok, hunit, show List.range (4 / 4) = [0] from rfl]
  simp only [List.foldl_cons, List.foldl_nil, Nat.mul_zero, Nat.add_zero, Bool.false_or]
  generalize busWrite .controlCluster (fieldLE rq.payload 0 8) 4 (BitVec.ofNat 32 (fieldLE rq.payload 16 4)) s = t
  rfl

theorem slice_eq_take_drop (bs : List Byte) (off n : Nat) (h : off + n ≤ bs.length) : slice bs off n = (bs.drop off).take n := by
  refine List.ext_getElem (by simp [slice]; omega) fun k hk hk' => ?_
  simp only [slice, List.length_map, List.length_range] at hk
  simp [slice, List.getElem?_eq_getElem (show off + k < bs.length by omega)]

theorem memBasinReadBody_inside (h₁ : 1 ≤ fieldLE rq.payload 8 2) (h₂ : fieldLE rq.payload 8 2 ≤ 1000)
    (hin : fieldLE rq.payload 0 8 + fieldLE rq.payload 8 2 ≤ basinSize s) :
    memBasinReadBody rq s = replyOk (readBytes s (basinStart s + fieldLE rq.payload 0 8) (fieldLE rq.payload 8 2))
      (touchDram (basinStart s + fieldLE rq.payload 0 8) (fieldLE rq.payload 8 2) s) :=
  (if_neg (by omega)).trans (if_neg (by simp [inBasin, hin]))

theorem memBasinWriteBody_inside (h₁ : 1 ≤ fieldLE rq.payload 8 2) (h₂ : fieldLE rq.payload 8 2 ≤ 992)
    (hlong : 16 + fieldLE rq.payload 8 2 ≤ rq.payload.length)
    (hin : fieldLE rq.payload 0 8 + fieldLE rq.payload 8 2 ≤ basinSize s) :
    memBasinWriteBody rq s = replyOk []
      (dramWrite (basinStart s + fieldLE rq.payload 0 8) ((rq.payload.drop 16).take (fieldLE rq.payload 8 2)) s) := by
  rw [← slice_eq_take_drop _ _ _ hlong]
  exact (if_neg (by omega)).trans ((if_neg (by omega)).trans (if_neg (by simp [inBasin, hin])))

theorem memBasinMap_inside (halign : fieldLE rq.payload 0 8 % 0x10_0000 = 0)
    (hin : fieldLE rq.payload 0 8 + 0x1000_0000 ≤ basinSize s) :
    memBasinMapOp.body rq s = replyOk [] { s with msg.mbx.bar2 := fieldLE rq.payload 0 8 / 0x10_0000 } := by
  unfold memBasinMapOp memBasinMapBody bar2Size
  dsimp only
  rw [if_neg (not_or.mpr ⟨not_not_intro halign, Nat.not_lt.mpr hin⟩)]

theorem memBasinMap_misaligned (halign : fieldLE rq.payload 0 8 % 0x10_0000 ≠ 0) : memBasinMapOp.body rq s = badArg 0 s := by
  unfold memBasinMapOp memBasinMapBody
  dsimp only
  rw [if_pos (Or.inl halign)]

/-- The copy of a reference that lies in Basin: its bytes where its CRC matches or its version has none. -/
theorem takeReference_inside {k : Nat} (hlen : refLength rq.payload k ≤ 0x200_0000)
    (hin : refOffset rq.payload k + refLength rq.payload k ≤ basinSize s) :
    let data := readBytes s (basinStart s + refOffset rq.payload k) (refLength rq.payload k)
    takeReference rq.version k rq.payload s =
      if (decide (rq.version < 0x30) || (crc32 data).toNat == refCrc rq.payload k) then .ok data else .error (1, k + 12) := by
  unfold takeReference
  dsimp only
  rw [if_neg (Nat.not_lt.mpr hlen), if_neg (by simp [inBasin, hin])]
  exact if_congr (by simp) rfl rfl

theorem execBasinReferenceCopy_inside {k : Nat} {o : Outstanding} (hup : nerrisUp s = true)
    (ho : (s.msg.ncp.outstanding.find? fun o => o.dest == destKey rq && o.seq == rq.seq) = some o)
    (hk : referencePlace o.opcode = some k) (hlen : refLength rq.payload k ≤ 0x200_0000)
    (hin : refOffset rq.payload k + refLength rq.payload k ≤ basinSize s) :
    let data := readBytes s (basinStart s + refOffset rq.payload k) (refLength rq.payload k)
    let good := decide (rq.version < 0x30) || (crc32 data).toNat == refCrc rq.payload k
    execBasinReferenceCopy rq s = .next { s with msg.ncp.copies := s.msg.ncp.copies ++ [{
      dest := destKey rq, seq := rq.seq, ok := good, data := if good then data else [] }] } := by
  unfold execBasinReferenceCopy
  rw [if_neg (by rw [hup]; decide), ho]
  dsimp only
  rw [hk]
  dsimp only
  rw [takeReference_inside hlen hin, if_neg (by simp [inBasin, hin, hlen])]
  generalize (decide (rq.version < 0x30) || (crc32 (readBytes s (basinStart s + refOffset rq.payload k)
    (refLength rq.payload k))).toNat == refCrc rq.payload k) = good
  cases good <;> rfl

end

/-- Settles O28: writes by where they lead; messages by their range. -/
theorem registersAndMemory : Obligations.RegistersAndMemory := by
  refine ⟨fun m addr size v s hsize hpow hidle hm => ⟨fun die off hp halign hok => ⟨fun hword => ?_, fun hpart => ?_⟩,
      fun die off mask hplain hmay hcoef => regWrite_plain hplain hmay hcoef, fun die off mask hlocked hseal => regWrite_sealed hlocked hseal,
      fun die off hp halign hno => ?_, fun hp => ?_, fun hp => ?_, fun die bank off hp halign hok hown hpwr => ?_,
      fun core off hp halign hok => ?_, fun d hp halign hok hst => ?_⟩,
    fun rq m addr bit core v s => ⟨fun die hp hshore hbit hsmall => ⟨?_, ?_⟩, ?_, ⟨fun h h₁ h₂ h₃ hok => ?_, fun h hlen => ?_,
      fun h hlen halign hlong hok => ⟨fun hgood => ?_, fun hbad => ?_⟩, fun h h₁ h₂ hin => ?_, fun h h₁ h₂ hlong hin => ?_,
      fun h halign hin => ?_, fun h halign => ?_, fun h => ?_⟩,
      fun hup o ho k hk hlen hin => execBasinReferenceCopy_inside hup ho hk hlen hin⟩⟩
  · rw [exec_registerWrite_eq_busWrite m addr size v s hsize hpow hidle, busWrite_reg hp halign hok hm, if_neg (not_not_intro hword)]
  · rw [exec_registerWrite_eq_busWrite m addr size v s hsize hpow hidle, busWrite_reg hp halign hok hm, if_pos hpart]
  · rw [exec_registerWrite_eq_busWrite m addr size v s hsize hpow hidle, busWrite_refused hp nofun nofun halign hno]
  · rw [exec_registerWrite_eq_busWrite m addr size v s hsize hpow hidle, busWrite_of_dead m _ size v s hp hm]
  · rw [exec_registerWrite_eq_busWrite m addr size v s hsize hpow hidle]
    unfold busWrite
    rw [hp]
  · rw [exec_registerWrite_eq_busWrite m addr size v s hsize hpow hidle, busWrite_placed hp nofun nofun halign,
      if_neg (by rw [hok]; decide)]
    exact congrArg _ (pondWrite_owned hown hpwr)
  · rw [exec_registerWrite_eq_busWrite m addr size v s hsize hpow hidle, busWrite_placed hp nofun nofun halign,
      if_neg (by rw [hok]; decide)]
    rfl
  · rw [exec_registerWrite_eq_busWrite m addr size v s hsize hpow hidle, busWrite_placed hp nofun nofun halign,
      if_neg (by rw [hok]; decide)]
    exact congrArg _ (if_neg (not_not_intro hst))
  · exact execW1sActionDone_nerris hp hshore hbit hsmall false
  · exact execW1sActionDone_nerris hp hshore hbit hsmall true
  · intro die p c x hcore hpow hp hok hbound
    have hexec := execRplXdoneWrite_reached (v := v) hcore hpow hp hok
    refine ⟨fun htag => hexec.trans ?_, fun htag => hexec.trans ?_⟩
    · rw [xdoneWrite_tagged hbound htag]
    · rw [xdoneWrite_stale hbound htag]
      rfl
  · have hb := memReadBody_allowed h₁ h₂ h₃ hok
    exact next_answered h rfl hb
  · exact next_badArg h (if_pos hlen)
  · rw [hlen] at hok
    refine next_answered h rfl ((memWriteBody_word hlen halign hlong hok).trans ?_)
    exact if_neg (by rw [hgood]; decide)
  · rw [hlen] at hok
    refine next_refused h (by decide) (by decide) ((memWriteBody_word hlen halign hlong hok).trans ?_)
    exact if_pos hbad
  · exact next_answered h rfl (memBasinReadBody_inside h₁ h₂ hin)
  · exact next_answered h rfl (memBasinWriteBody_inside h₁ h₂ hlong hin)
  · have hb := memBasinMap_inside halign hin
    exact next_recorded_as h rfl rfl hb
  · exact next_badArg h (memBasinMap_misaligned halign)
  · exact next_answered h rfl rfl

end Sys2Proof.Machine
end

section
/-! PROOFS. The mailboxes and NCP over UDP (O29). -/

namespace Sys2Proof.Machine
open Host

/-! ### Inbound mailboxes -/

section
variable {m : Master} {n id : Nat} {s : State}

theorem execMbxInDataWrite_eq (off : Nat) (v : Word) (hup : shoreUp s = true) (hn : n < 4)
    (hoff : off < 1024) (hal : off % 4 = 0) :
    exec (.mbxInDataWrite m n off 4 v) s = .next (mbxWriteWord m n (off / 4) v s) := by
  change execMbxInDataWrite m n off 4 v s = _
  unfold execMbxInDataWrite
  rw [if_neg (by decide), if_neg (by rw [hup]; simp; omega), if_neg (by simp [hal])]

theorem execMbxInCommitRead_eq (hup : shoreUp s = true) (hn : n < 4) :
    exec (.mbxInCommitRead m n 4) s = .next (mbxCommit m n s) := by
  change execMbxInCommitRead m n 4 s = _
  unfold execMbxInCommitRead
  rw [if_neg (by decide), if_neg (by rw [hup]; simp; omega), if_neg (by decide)]

/-- A write that the ALLOW field and the abort mark let through goes by the mailbox's state. -/
theorem mbxWriteWord_allowed (k : Nat) (v : Word) (hid : senderId m = some id)
    (hall : allowed (getIn s n).allow id = true) (hab : (getIn s n).abortMark ≠ some id) :
    ((getIn s n).st = .empty → mbxWriteWord m n k v s = busOk [] (setIn n { getIn s n with
        words := mapSet (getIn s n).words k v, st := .filling, owner := id, ack := false, lastAccess := s.now } s))
    ∧ ((getIn s n).st = .filling → (getIn s n).owner = id → mbxWriteWord m n k v s =
        busOk [] (setIn n { getIn s n with words := mapSet (getIn s n).words k v, lastAccess := s.now } s))
    ∧ (((getIn s n).st = .full ∨ ((getIn s n).st = .filling ∧ (getIn s n).owner ≠ id)) →
        mbxWriteWord m n k v s = mbxRefuseWrite m n 3 s) := by
  unfold mbxWriteWord
  simp only [hid]
  rw [if_neg (by rw [hall]; decide), if_neg hab]
  refine ⟨fun hst => ?_, fun hst ho => ?_, fun hst => ?_⟩
  · simp only [hst]
  · simp only [hst]
    rw [if_pos ho]
  · obtain hst | ⟨hst, ho⟩ := hst
    · simp only [hst]
    · simp only [hst]
      rw [if_neg ho]

theorem mbxWriteWord_disallowed (k : Nat) (v : Word) (hid : senderId m = some id)
    (hall : allowed (getIn s n).allow id = false) : mbxWriteWord m n k v s = mbxRefuseWrite m n 1 s := by
  unfold mbxWriteWord
  simp only [hid]
  rw [if_pos (by rw [hall]; decide)]

theorem mbxRefuseWrite_bus (case : Nat) (hp : m ≠ .pcie) (hq : m ≠ .qspi) :
    mbxRefuseWrite m n case s = busErr s := by
  cases m with
  | pcie => exact absurd rfl hp
  | qspi => exact absurd rfl hq
  | _ => rfl

/-- A commit read by a sender without a mark goes by the mailbox's state and owner. -/
theorem mbxCommit_unmarked (hid : senderId m = some id) (hab : (getIn s n).abortMark ≠ some id)
    (hdrop : m = .pcie → (getIn s n).dropMark = false) :
    mbxCommit m n s =
      if (getIn s n).st = .filling ∧ (getIn s n).owner = id then
        if 1008 < winWord (getIn s n).words 1 / 65536 then
          busOk [commitValue 3 (getIn s n).owner] (mbxErr (2 ^ (8 + n))
            (setIn n { getIn s n with st := .empty, owner := 0, lastAccess := s.now } s))
        else
          busOk [commitValue 0 (getIn s n).owner] (wakeOnCommit (weirPush (8 + n)
            (requestFlow (getIn s n).owner (winWord (getIn s n).words 0 % 65536) (winWord (getIn s n).words 2 / 65536)) 1 0 (0x10 + n) n
            (setIn n { getIn s n with
              words := mapSet (getIn s n).words 2
                (BitVec.ofNat 32 (winWord (getIn s n).words 2 / 65536 * 65536 + (getIn s n).owner))
              st := .full, lastAccess := s.now } s)))
      else busOk [commitValue (if (getIn s n).st = .empty then 3 else 1) (getIn s n).owner] s := by
  have hmark : ¬ (m == .pcie && (getIn s n).dropMark) = true := by
    rw [Bool.and_eq_true, beq_iff_eq]
    rintro ⟨hm, hd⟩
    rw [hdrop hm] at hd
    exact absurd hd (by decide)
  unfold mbxCommit
  simp only [hid]
  rw [if_neg hab, if_neg hmark]

theorem mbxStale_eq (hst : (getIn s n).st = .filling) :
    mbxStale n s = mbxErr (2 ^ (12 + n)) (setIn n { getIn s n with st := .empty, owner := 0, aborted := true } s) :=
  if_pos hst

theorem execMbxStaleRelease_eq (hup : shoreUp s = true) (hn : n < 4) :
    exec (.mbxStaleRelease n) s = .next (mbxStale n s) := by
  change execMbxStaleRelease n s = _
  unfold execMbxStaleRelease
  rw [if_pos ⟨hup, hn⟩]

theorem execMbxInPop_full (hup : shoreUp s = true) (hn : n < 4) (hner : nerrisUp s = true)
    (hst : (getIn s n).st = .full) :
    exec (.mbxInPop n) s = .next (acceptRequest (fieldLE (winBytes (getIn s n).words 1024) 0 2)
      (requestOf (getIn s n).owner 0 (winBytes (getIn s n).words 1024))
      (setIn n { getIn s n with st := .empty, owner := 0, ack := true } s)) := by
  change execMbxInPop n s = _
  unfold execMbxInPop
  dsimp only
  rw [if_pos ⟨hner, hup, hn, hst⟩]

end

section
variable {op : Nat} {rq : Request} {s : State}

theorem acceptRequest_unknown (hk : knownOp op = false) :
    acceptRequest op rq s = respond rq op (refuse codeBadOpcode 0 noField s) s := by
  unfold acceptRequest
  dsimp only
  rw [if_pos (by rw [hk]; decide)]

/-- A known request of a version both sides know, from a sender that may send it, is taken up to the limit. -/
theorem acceptRequest_known (hk : knownOp op = true) (hv : rq.version ≤ negotiated s rq)
    (ho : opVersion op ≤ rq.version) (hm : mayRequest rq.sender op rq.payload = true) :
    acceptRequest op rq s =
      if outstandingLimit (destKey rq) ≤ outstandingOf s (destKey rq) then
        respond rq op (refuse codeBusy 0 noField s) s
      else { s with msg.ncp.outstanding :=
        s.msg.ncp.outstanding ++ [{ dest := destKey rq, seq := rq.seq, opcode := op }] } := by
  unfold acceptRequest
  dsimp only
  rw [if_neg (by rw [hk]; decide), if_neg (by omega), if_neg (by omega), if_neg (by rw [hm]; decide)]

end

/-! ### Outbound mailboxes -/

section
variable {n dest : Nat} {s : State}

/-- The oldest message goes into the lowest-numbered mailbox that admits its destination, when it is empty. -/
theorem execResponseDelivery_mailbox (hup : shoreUp s = true) (hner : nerrisUp s = true)
    (hsus : s.msg.ncp.suspended = false ∨ (dest ≠ 1 ∧ dest ≠ 0x10)) (hdest : dest < 0x200000)
    {o : OutMsg} {rest : List OutMsg} (hq : (getDest s dest).queue = o :: rest)
    (hbox : ((List.range 4).find? fun n => allowed (getOut s n).allow dest) = some n) (hfull : (getOut s n).full = false) :
    let t := setOut n { getOut s n with words := wordsOf o.bytes, full := true, dest := dest } s
    let u := setDest dest { getDest t dest with queue := rest } t
    exec (.responseDelivery dest) s = .next (if o.event then u else dropOutstanding dest o.seq u) := by
  have hheld : ¬ (s.msg.ncp.suspended && (dest == 0x0001 || dest == 0x0010)) = true := by
    obtain h | ⟨h1, h2⟩ := hsus
    · simp [h]
    · simp [h1, h2]
  intro t u
  change execResponseDelivery dest s = _
  unfold execResponseDelivery
  simp only [hq, hbox]
  rw [if_neg (by rw [hup, hner]; simp), if_neg hheld, if_neg (by omega), if_neg (by rw [hfull]; decide)]

theorem execResponseDelivery_empty (hq : (getDest s dest).queue = []) :
    exec (.responseDelivery dest) s = .next s := by
  change execResponseDelivery dest s = _
  unfold execResponseDelivery
  simp only [hq]

/-- Nothing leaves for a suspended host (R141). -/
theorem execResponseDelivery_suspended (hsus : s.msg.ncp.suspended = true) (hd : dest = 1 ∨ dest = 0x10) :
    exec (.responseDelivery dest) s = .next s := by
  have hheld : (s.msg.ncp.suspended && (dest == 0x0001 || dest == 0x0010)) = true := by
    obtain rfl | rfl := hd
    · simp [hsus]
    · simp [hsus]
  change execResponseDelivery dest s = _
  unfold execResponseDelivery
  dsimp only
  cases hq : (getDest s dest).queue with
  | nil => rfl
  | cons o rest =>
    dsimp only
    rw [if_pos hheld, ite_self]

theorem execMbxOutPop_eq {m : Master} (hup : shoreUp s = true) (hn : n < 4) :
    exec (.mbxOutPop m n 4) s = .next (mbxPop m n s) := by
  change execMbxOutPop m n 4 s = _
  unfold execMbxOutPop
  rw [if_neg (by decide), if_neg (by rw [hup]; simp; omega), if_neg (by decide)]

theorem mbxPop_own {m : Master} {id : Nat} (hid : senderId m = some id) (hf : (getOut s n).full = true)
    (hd : (getOut s n).dest = id) :
    mbxPop m n s = busOk [BitVec.ofNat 32 (winWord (getOut s n).words 0)]
      (setOut n { getOut s n with words := [], full := false, dest := 0 } s) := by
  unfold mbxPop
  simp only [hid]
  rw [if_pos ⟨hf, hd⟩]

theorem mbxPop_other {m : Master} {id : Nat} (hid : senderId m = some id)
    (h : (getOut s n).full = false ∨ (getOut s n).dest ≠ id) :
    mbxPop m n s = if m = .pcie then busOk [0] s else if m = .qspi then answer true 3 [0] s else busErr s := by
  unfold mbxPop
  simp only [hid]
  refine if_neg ?_
  rintro ⟨hf, hd⟩
  obtain h | h := h
  · exact absurd (h.symm.trans hf) (by decide)
  · exact h hd

end

/-! ### NCP over UDP -/

section
variable {port srcPort : Nat} {addr : BitVec 128} {bs : List Byte} {s : State}

/-- A fragment, a datagram out of the bounds of a message, and one whose length is not that of its header. -/
theorem execNcpUdpDatagram_malformed {fragment : Bool} (hner : nerrisUp s = true) (hport : s.msg.ncp.mgmt.port = some port)
    (hbad : fragment = true ∨ 1080 < bs.length ∨ bs.length < 16
      ∨ bs.length ≠ 16 + fieldLE bs 6 2 + (if bit (byteAt bs 2) 3 then 56 else 0)) :
    exec (.ncpUdpDatagram port addr srcPort fragment bs) s = .next (udpDiscard port s) := by
  change execNcpUdpDatagram port addr srcPort fragment bs s = _
  unfold execNcpUdpDatagram
  dsimp only
  rw [if_neg (by rw [hner, hport]; simp), if_pos hbad]

/-- An unsigned `sys.hello` from a source without a session, with one of the four free, opens it. -/
theorem execNcpUdpDatagram_opens (hner : nerrisUp s = true) (hport : s.msg.ncp.mgmt.port = some port)
    (h16 : 16 ≤ bs.length) (h1080 : bs.length ≤ 1080) (hlen : bs.length = 16 + fieldLE bs 6 2)
    (hsig : bit (byteAt bs 2) 3 = false) (hop : fieldLE bs 0 2 = 0) (hnone : sessionOf s addr srcPort = none)
    {k : Nat} (hfree : mapFree s.msg.ncp.sessions 4 = some k) :
    exec (.ncpUdpDatagram port addr srcPort false bs) s =
      .next (acceptRequest 0 (requestOf 0x20 k bs) (openSession k addr srcPort s)) := by
  change execNcpUdpDatagram port addr srcPort false bs s = _
  unfold execNcpUdpDatagram
  simp only [hnone, hfree, hop, hsig]
  rw [if_neg (by rw [hner, hport]; simp), if_neg (by simp; omega), if_pos trivial]

/-- A signed request of a session is taken when its MAC is right and its counter has risen. -/
theorem execNcpUdpDatagram_signed (hner : nerrisUp s = true) (hport : s.msg.ncp.mgmt.port = some port)
    (h16 : 16 ≤ bs.length) (h1080 : bs.length ≤ 1080) (hlen : bs.length = 16 + fieldLE bs 6 2 + 56)
    (hsig : bit (byteAt bs 2) 3 = true) (hok : s.sys.spring.cryptoErr = false) (hop : fieldLE bs 0 2 ≠ 0)
    (hop' : fieldLE bs 0 2 ≠ 0x0C00) {k : Nat} {se : Session} (hsome : sessionOf s addr srcPort = some k)
    (hse : mapFind s.msg.ncp.sessions k = some se) :
    exec (.ncpUdpDatagram port addr srcPort false bs) s =
      .next (if (udpMac s se.nonce (fieldLE bs (16 + fieldLE bs 6 2) 8) (bs.take (16 + fieldLE bs 6 2))).toNat
            = fieldBE bs (16 + fieldLE bs 6 2 + 8) 48 ∧ se.lastIn < fieldLE bs (16 + fieldLE bs 6 2) 8 then
          acceptRequest (fieldLE bs 0 2) (requestOf 0x20 k bs)
            { s with msg.ncp.sessions := (mapSet s.msg.ncp.sessions k
                { se with lastIn := fieldLE bs (16 + fieldLE bs 6 2) 8, lastValid := s.now }) }
        else udpAuthFailed port s) := by
  have hget : ∀ d : Nat → Session, mapGet d s.msg.ncp.sessions k = se := fun d => by rw [mapGet, hse]; rfl
  change execNcpUdpDatagram port addr srcPort false bs s = _
  unfold execNcpUdpDatagram
  simp only [hsome, hget, hsig]
  rw [if_neg (by rw [hner, hport]; simp), if_neg (by simp; omega), if_neg (by simp [hop, hop']),
    if_neg (by simp [hok])]

end

theorem execUdpSessionTimeout_eq {n : Nat} {s : State} (hner : nerrisUp s = true)
    (hs : mapHas s.msg.ncp.sessions n = true) : exec (.udpSessionTimeout n) s = .next (endSession n s) := by
  change execUdpSessionTimeout n s = _
  unfold execUdpSessionTimeout
  rw [if_pos ⟨hner, hs⟩]

/-- Settles O29. -/
theorem mailboxes : Obligations.Mailboxes := by
  unfold Obligations.Mailboxes
  refine ⟨fun m n off id v s hup hn hid => ?_, fun m n dest id s hup => ?_⟩
  · refine ⟨fun hoff hal hall hab => ?_, fun hoff hal hall hp hq => ?_, fun hab hdrop => ?_, fun hst => ?_,
      fun hst => ?_, fun hner hst => execMbxInPop_full hup hn hner hst, fun op rq hk hv ho hm hlim => ?_,
      fun op rq hk => acceptRequest_unknown hk, fun op rq hk hv ho hm hlim => ?_⟩
    · obtain ⟨hempty, hfill, hfull⟩ := mbxWriteWord_allowed (off / 4) v hid hall hab
      rw [execMbxInDataWrite_eq off v hup hn hoff hal]
      refine ⟨fun hst => by rw [hempty hst], fun hst ho => by rw [hfill hst ho], fun hst => ?_⟩
      rw [hfull hst]
      rfl
    · rw [execMbxInDataWrite_eq off v hup hn hoff hal, mbxWriteWord_disallowed _ v hid hall,
        mbxRefuseWrite_bus 1 hp hq]
    · rw [execMbxInCommitRead_eq hup hn, mbxCommit_unmarked hid hab hdrop]
      refine ⟨fun hst ho hlen => ?_, fun hst ho hlen => ?_, fun hst => ?_, fun hst => ?_⟩
      · rw [if_pos ⟨hst, ho⟩, if_neg (by omega), commitValue, Nat.zero_add]
        subst ho
        rfl
      · rw [if_pos ⟨hst, ho⟩, if_pos hlen, ho, commitValue]
      · rw [if_neg (by simp [hst]), if_pos hst, commitValue]
      · rw [if_neg (by obtain h | ⟨_, h⟩ := hst <;> simp [h]), if_neg (by obtain h | ⟨h, _⟩ := hst <;> simp [h]),
          commitValue]
    · rw [execMbxStaleRelease_eq hup hn, mbxStale_eq hst]
    · rw [execMbxStaleRelease_eq hup hn, mbxStale, if_neg hst]
    · rw [acceptRequest_known hk hv ho hm, if_neg (by omega)]
    · rw [acceptRequest_known hk hv ho hm, if_pos hlim]
  · refine ⟨fun hner hsus hdest o rest hq hbox hfull => execResponseDelivery_mailbox hup hner hsus hdest hq hbox hfull,
      fun hq => execResponseDelivery_empty hq, fun hsus hd => execResponseDelivery_suspended hsus hd,
      fun hn hid => ?_, fun port srcPort addr bs hner hport => ?_, fun hner hs => execUdpSessionTimeout_eq hner hs⟩
    · rw [execMbxOutPop_eq hup hn]
      refine ⟨fun hf hd => by rw [mbxPop_own hid hf hd], fun h => ?_⟩
      rw [mbxPop_other hid h]
      cases m with
      | pcie => rfl
      | qspi => rfl
      | _ => rfl
    · refine ⟨execNcpUdpDatagram_malformed hner hport (.inl rfl), fun hlen => ?_,
        fun h16 h1080 hlen hsig hop hnone k hfree =>
          execNcpUdpDatagram_opens hner hport h16 h1080 hlen hsig hop hnone hfree,
        fun h16 h1080 hlen hsig hok hop hop' k se hsome hse => ?_⟩
      · exact execNcpUdpDatagram_malformed hner hport (.inr (by omega))
      · rw [execNcpUdpDatagram_signed hner hport h16 h1080 hlen hsig hok hop hop' hsome hse]
        exact ⟨fun hgood => by rw [if_pos hgood], fun hbad => by rw [if_neg hbad]⟩

end Sys2Proof.Machine
end

section
/-! PROOFS. Doorbells, PCIe, vectors and lock registers (O30). -/

namespace Sys2Proof.Machine
open Host

/-! ### Doorbells -/

/-- One bit of DBL_NERRIS rung. -/
def ringNerrisBit (b : Nat) (s : State) : State :=
  if !s.msg.mbx.dblNerris.getLsbD b then
    weirPush 12 2793 1 b 0 b { s with msg.mbx.dblNerris := s.msg.mbx.dblNerris ||| BitVec.ofNat 32 (2 ^ b) }
  else s

/-- Ringing a mask rings the bits that it has, in rising order. -/
theorem ringNerris_eq (mask : Nat) (s : State) :
    ringNerris mask s = ((List.range 32).filter mask.testBit).foldl (fun t b => ringNerrisBit b t) s := by
  rw [List.foldl_filter]
  unfold ringNerris ringNerrisBit
  congr 1
  funext t b
  cases mask.testBit b with
  | true => rw [Bool.true_and, if_pos rfl]
  | false => rfl

theorem filter_testBit_two_pow (b : Nat) (hb : b < 32) : (List.range 32).filter (2 ^ b).testBit = [b] := by
  have hbit : (2 ^ b).testBit = fun k => decide (b = k) := funext fun k => Nat.testBit_two_pow
  rw [hbit]
  clear hbit
  decide +revert

theorem ringNerris_two_pow (b : Nat) (hb : b < 32) (s : State) : ringNerris (2 ^ b) s = ringNerrisBit b s := by
  rw [ringNerris_eq, filter_testBit_two_pow b hb]
  rfl

section
variable {m : Master} {id : Nat} {s : State}

/-- A master that has a sender ID, at a Shore that runs. -/
theorem senderHeard (hup : shoreUp s = true) (hid : senderId m = some id) :
    ((senderId m).isSome && shoreUp s) = true := by
  rw [hid, hup]
  rfl

theorem execDblOutDrained_eq (h : ((senderId m).isSome && shoreUp s) = true) :
    exec (.dblOutDrained m) s = .next (busOk [] (ringNerris 1 s)) := by
  change execDblOutDrained m s = _
  unfold execDblOutDrained
  rw [if_pos h]

theorem execDblHostSuspend_eq (h : ((senderId m).isSome && shoreUp s) = true) :
    exec (.dblHostSuspend m) s = .next (busOk [] { ringNerris 2 s with msg.ncp.suspended := true }) := by
  change execDblHostSuspend m s = _
  unfold execDblHostSuspend
  rw [if_pos h]

theorem execDblHostResume_eq (h : ((senderId m).isSome && shoreUp s) = true) :
    exec (.dblHostResume m) s = .next (busOk [] { ringNerris 4 s with msg.ncp.suspended := false }) := by
  change execDblHostResume m s = _
  unfold execDblHostResume
  rw [if_pos h]

theorem execDblHostClear_eq (mask : Word) (h : ((senderId m).isSome && shoreUp s) = true) :
    exec (.dblHostClear m mask) s = .next (busOk [] (clearHostBits mask s)) := by
  change execDblHostClear m mask s = _
  unfold execDblHostClear
  rw [if_pos h]

theorem execDblRplRing_eq {core bit : Nat} (hup : shoreUp s = true) (hcore : core < s.member.cores)
    (hpow : powered s (coreDie core) = true) (hbit : bit < 16) :
    exec (.dblRplRing core bit) s = .next (busOk [] (ringNerris (2 ^ (16 + bit)) s)) := by
  change execDblRplRing core bit s = _
  unfold execDblRplRing
  rw [if_pos ⟨hup, hcore, hpow, hbit⟩]

/-- Only sender 0x8000 acknowledges. -/
theorem execDblNerrisAck_eq (mask : Word) (hup : shoreUp s = true) (hid : senderId m = some id) :
    exec (.dblNerrisAck m mask) s = .next (if id = 0x8000 then
      busOk [] { s with msg.mbx.dblNerris := s.msg.mbx.dblNerris &&& ~~~mask } else busErr s) := by
  change execDblNerrisAck m mask s = _
  unfold execDblNerrisAck
  simp only [hup, hid, Option.some.injEq, true_and]

end

theorem clearHostBits_dblHost (mask : Word) (s : State) :
    (clearHostBits mask s).msg.mbx.dblHost = s.msg.mbx.dblHost &&& ~~~(mask.setWidth 22) := by
  obtain ⟨pba, w, h⟩ := withVectors_eq s (fun t => { t with msg.mbx.dblHost := t.msg.mbx.dblHost &&& ~~~(mask.setWidth 22) })
  rw [clearHostBits, h]

/-! ### PCIe and its vectors -/

theorem execPcieReset_flr {s : State} (hup : shoreUp s = true) :
    let t := forgetDest 1 (releaseClaims 1 s)
    exec (.pcieReset true) s = .next { t with msg.mbx.flrs := min 65535 (t.msg.mbx.flrs + 1) } := by
  intro t
  change execPcieReset true s = _
  unfold execPcieReset
  dsimp only
  rw [if_neg (by rw [hup]; decide), if_pos rfl]

theorem execPcieReset_hot {s : State} (hup : shoreUp s = true) :
    let t := forgetDest 1 (releaseClaims 1 s)
    exec (.pcieReset false) s = .next { t with msg.mbx.hotResets := min 65535 (t.msg.mbx.hotResets + 1) } := by
  intro t
  change execPcieReset false s = _
  unfold execPcieReset
  dsimp only
  rw [if_neg (by rw [hup]; decide), if_neg (by decide)]

theorem execPcieLinkUp_eq {s : State} {speed width : Nat} (hup : shoreUp s = true) (ht : s.msg.mbx.pciTraining = true)
    (hp : pinsDriven s = false) (hs : 1 ≤ speed) (hs' : speed ≤ 4) (hw : 1 ≤ width) (hw' : width ≤ 2) :
    exec (.pcieLinkUp speed width) s = .next { s with
      msg.mbx.pciSpeed := speed, msg.mbx.pciWidth := width, msg.mbx.pciTraining := false } := by
  change execPcieLinkUp speed width s = _
  unfold execPcieLinkUp
  rw [if_pos ⟨hup, ht, by rw [hp]; rfl, hs, hs', hw, hw'⟩]

theorem execMsixVectorUnmask_eq {s : State} {v : Nat} (hup : shoreUp s = true) (hv : v < 32) :
    exec (.msixVectorUnmask v) s = .next (unmaskVector v s) := by
  change execMsixVectorUnmask v s = _
  unfold execMsixVectorUnmask
  rw [if_neg (by rw [hup]; simp; omega)]

/-- An unmasked vector that is not pending, or is held by the function mask, stays quiet. -/
theorem unmaskVector_quiet {s : State} {v : Nat} (h : s.msg.mbx.msixPba.getLsbD v = false ∨ s.msg.mbx.msixFmask = true) :
    unmaskVector v s = { s with msg.mbx.msixMask := s.msg.mbx.msixMask &&& ~~~(BitVec.ofNat 32 (2 ^ v)) } := by
  have hquiet : ¬ (s.msg.mbx.msixPba.getLsbD v && !s.msg.mbx.msixFmask) = true := by
    obtain h | h := h
    · simp [h]
    · simp [h]
  unfold unmaskVector
  dsimp only
  rw [if_neg hquiet]

/-- A pending vector, unmasked, fires while its cause stands and is no longer pending. -/
theorem unmaskVector_pending {s : State} {v : Nat} (hp : s.msg.mbx.msixPba.getLsbD v = true)
    (hf : s.msg.mbx.msixFmask = false) :
    let t := { s with msg.mbx.msixMask := s.msg.mbx.msixMask &&& ~~~(BitVec.ofNat 32 (2 ^ v)) }
    let u := { t with msg.mbx.msixPba := t.msg.mbx.msixPba &&& ~~~(BitVec.ofNat 32 (2 ^ v)) }
    unmaskVector v s = if msixCause t v then emit (.msix v) u else u := by
  intro t u
  unfold unmaskVector
  dsimp only
  rw [if_pos (by rw [hp, hf]; rfl)]

/-! ### Lock registers -/

section
variable {m : Master} {die n id : Nat} {v : Word} {s : State}

theorem execLockRead_eq (hr : reachesRegs s m die = true) (hn : n < lockCount die) :
    exec (.lockRead m die n 4) s = .next (lockAcquire m die n s) := by
  change execLockRead m die n 4 s = _
  unfold execLockRead
  rw [if_neg (by decide), if_neg (by rw [hr]; decide), if_neg (by omega), if_neg (by decide)]

theorem execLockWrite_eq (hr : reachesRegs s m die = true) (hn : n < lockCount die) :
    exec (.lockWrite m die n v) s = .next (lockRelease m die n v s) := by
  change execLockWrite m die n v s = _
  unfold execLockWrite
  rw [if_neg (by rw [hr]; decide), if_neg (by omega)]

theorem execLockForce_eq (hr : reachesRegs s m die = true) (hn : n < lockCount die) :
    exec (.lockForce m die v) s = .next (lockForced m die v s) := by
  change execLockForce m die v s = _
  unfold execLockForce
  rw [if_neg (by rw [hr]; simp; omega)]

theorem lockAcquire_eq (hid : senderId m = some id) :
    lockAcquire m die n s = if mapGet (fun _ => 0) s.msg.locks.owners (die * 64 + n) = 0 then
        busOk [0] { s with msg.locks.owners := mapSet s.msg.locks.owners (die * 64 + n) id }
      else busOk [BitVec.ofNat 32 (0x80000000 + mapGet (fun _ => 0) s.msg.locks.owners (die * 64 + n))] s := by
  unfold lockAcquire
  simp only [hid]
  rfl

theorem lockRelease_eq (hid : senderId m = some id) :
    lockRelease m die n v s = if mapGet (fun _ => 0) s.msg.locks.owners (die * 64 + n) = id ∧ v.toNat % 65536 = id then
        busOk [] { s with msg.locks.owners := mapErase s.msg.locks.owners (die * 64 + n) }
      else busOk [] (lockFail die n id s) := by
  unfold lockRelease
  simp only [hid]
  rfl

theorem lockForced_eq (hid : senderId m = some id) :
    lockForced m die v s = if id = 0x8000 then
        busOk [] { s with msg.locks.owners := mapErase s.msg.locks.owners (die * 64 + v.toNat % 64) }
      else busOk [] (lockFail die (v.toNat % 64) id s) := by
  unfold lockForced
  simp only [hid]

/-- LOCK_ERR keeps the first refused write. -/
theorem getLockErr_lockFail : getLockErr (lockFail die n id s) die =
    if (getLockErr s die).valid then getLockErr s die else { index := n, sender := id % 32768, valid := true } := by
  unfold lockFail
  obtain ⟨pba, w, h⟩ := withVectors_eq s (fun t =>
    if (getLockErr t die).valid then t
    else { t with msg.locks.errs := mapSet t.msg.locks.errs die { index := n, sender := id % 32768, valid := true } })
  rw [h]
  cases hvalid : (getLockErr s die).valid with
  | true =>
    rw [if_pos rfl, if_pos rfl]
    rfl
  | false =>
    rw [if_neg (by decide), if_neg (by decide)]
    exact mapGet_mapSet_same _ _ _ _

end

/-- Settles O30. -/
theorem doorbellsAndLocks : Obligations.DoorbellsAndLocks := by
  unfold Obligations.DoorbellsAndLocks
  refine ⟨fun m id core bit mask s hup hid => ?_, fun m die n id v s hr hn hid => ?_⟩
  · have hheard := senderHeard hup hid
    refine ⟨execDblOutDrained_eq hheard, execDblHostSuspend_eq hheard, execDblHostResume_eq hheard,
      fun hcore hpow hbit => execDblRplRing_eq hup hcore hpow hbit, fun b hb hclear => ?_, fun b hb hset => ?_,
      fun hid' => ?_, fun hid' => ?_, execDblHostClear_eq mask hheard, clearHostBits_dblHost mask s,
      ⟨execPcieReset_flr hup, execPcieReset_hot hup⟩,
      fun speed width ht hp hs hs' hw hw' => execPcieLinkUp_eq hup ht hp hs hs' hw hw', fun v hv => ?_⟩
    · rw [ringNerris_two_pow b hb, ringNerrisBit, if_pos (by rw [hclear]; rfl)]
    · rw [ringNerris_two_pow b hb, ringNerrisBit, if_neg (by rw [hset]; decide)]
    · rw [execDblNerrisAck_eq mask hup hid, if_pos hid']
    · rw [execDblNerrisAck_eq mask hup hid, if_neg hid']
    · rw [execMsixVectorUnmask_eq hup hv]
      refine ⟨fun h => by rw [unmaskVector_quiet h], fun hp hf hc => ?_, fun hp hf hc => ?_⟩
      · rw [unmaskVector_pending hp hf, if_pos hc, emit]
      · rw [unmaskVector_pending hp hf, if_neg (by rw [hc]; decide)]
  · refine ⟨fun ho => ?_, fun ho => ?_, fun ho hv => ?_, fun ho => ?_, fun h => ?_, fun h => ?_, fun h => ?_, fun h => ?_⟩
    · rw [execLockRead_eq hr hn, lockAcquire_eq hid, if_pos ho]
    · rw [execLockRead_eq hr hn, lockAcquire_eq hid, if_neg ho]
    · rw [execLockWrite_eq hr hn, lockRelease_eq hid, if_pos ⟨ho, hv⟩]
    · rw [execLockWrite_eq hr hn, lockRelease_eq hid, if_neg (not_and_or.mpr ho)]
    · rw [execLockForce_eq hr hn, lockForced_eq hid, if_pos h]
    · rw [execLockForce_eq hr hn, lockForced_eq hid, if_neg h]
    · rw [getLockErr_lockFail, if_neg (by rw [h]; decide)]
    · rw [getLockErr_lockFail, if_pos h]

end Sys2Proof.Machine
end

section
/-! PROOFS. Clocks and frames of ports, and the `port` messages (O32). -/

namespace Sys2Proof.Machine
open Host

/-! ### Clock loss and return -/

section
variable {kind index dir rate bits : Nat} {s : State}

theorem loseClock_fades (hkind : kind < 2) (hw : isWatched s kind index dir = true)
    (hst : (getPort s (portKey kind dir index)).st = 2) (hfade : 0 < (getPort s (portKey kind dir index)).fade) :
    loseClock kind index dir s =
      clockRefLost kind index dir (portClock kind index dir 0 (count (lossCounter kind dir index)
        (setPort (portKey kind dir index) { getPort s (portKey kind dir index) with
            st := 3, fadeUp := false, errRun := 0, losses := (getPort s (portKey kind dir index)).losses + 1
            frames := 0, queue := [], skip := 0, block := 192 }
          (setSrcState (convOf kind dir index) { getSrcState s (convOf kind dir index) with locked := false } s)))) := by
  unfold loseClock
  dsimp only
  rw [if_neg (by simp [hw, hst]), if_pos ⟨hkind, hfade⟩, if_pos hkind]

theorem loseClock_unwatched (h : isWatched s kind index dir = false ∨ (getPort s (portKey kind dir index)).st = 0) :
    loseClock kind index dir s = s := by
  have hidle : !isWatched s kind index dir ∨ (getPort s (portKey kind dir index)).st = 0
      ∨ ((getPort s (portKey kind dir index)).st = 3 ∧ !(getPort s (portKey kind dir index)).fadeUp) := by
    obtain h | h := h
    · exact .inl (by rw [h]; rfl)
    · exact .inr (.inl h)
  unfold loseClock
  dsimp only
  rw [if_pos hidle]

/-- A port that runs on the rate of the part, or is SLAVED to it, is admitted by its fade. -/
theorem admitClock_direct (p : PortState) (hkind : kind < 2) (hmode : portMode s kind dir index < 2) :
    admitClock kind dir index p s = setPort (portKey kind dir index) { p with st := 3, fadeUp := true } s := by
  unfold admitClock
  dsimp only
  rw [if_neg (by omega), if_neg (by omega), if_neg (by omega)]

theorem execClockReturn_stopped (hn : nerrisUp s = true) (hw : isWatched s kind index dir = true)
    (hst : (getPort s (portKey kind dir index)).st = 0) :
    let q : PortState := { getPort s (portKey kind dir index) with
      rate := rate, frameLen := if kind = 0 then bits % 2048 else 0, errRun := 0, frames := 0, queue := [], skip := 0 }
    exec (.clockReturn kind index dir rate bits) s =
      .next (if clockMatches s kind dir index rate bits then portClock kind index dir 1 (admitClock kind dir index q s)
        else portClock kind index dir 2 (setPort (portKey kind dir index) { q with st := 1, fadeUp := false } s)) := by
  intro q
  change execClockReturn kind index dir rate bits s = _
  unfold execClockReturn
  dsimp only
  rw [if_neg (by simp [hn, hw, hst])]

theorem execRateClassChange_watched (hn : nerrisUp s = true) (hw : isWatched s kind index dir = true) (hkind : kind < 2) :
    let t := setPort (portKey kind dir index)
      { getPort s (portKey kind dir index) with rate := rate, cls := rateClass rate } s
    exec (.rateClassChange kind index dir rate) s =
      .next (if rateClass rate = (getPort s (portKey kind dir index)).cls then t
        else event 3 (activeShore t) 0x0681 0xFFFF
          (bytesLE 1 kind ++ bytesLE 1 index ++ bytesLE 1 dir ++ bytesLE 1 0 ++ bytesLE 4 rate) t) := by
  intro t
  change execRateClassChange kind index dir rate s = _
  unfold execRateClassChange
  dsimp only
  rw [if_neg (by rw [hn, hw]; simp), if_neg (by omega : ¬ (kind = 2 ∧ (getPort s (portKey kind dir index)).cls = 0))]

end

/-! ### Converters of streams -/

theorem convPort_stream {c : Nat} (hc : 64 ≤ c) : convPort c = none := by
  unfold convPort
  rw [if_neg (by omega), if_neg (by omega)]

theorem execSrcLock_stream {c : Nat} {s : State} (hen : (getSrc s c).enable = true) (hc : 64 ≤ c)
    (hl : (getSrcState s c).locked = false) :
    exec (.srcLock c) s = .next (setSrcState c { getSrcState s c with locked := true } s) := by
  change execSrcLock c s = _
  unfold execSrcLock
  simp only [convPort_stream hc]
  rw [if_neg (by simp [hen, hl])]

theorem execSrcUnlock_stream {c : Nat} {s : State} (hen : (getSrc s c).enable = true) (hc : 64 ≤ c)
    (hl : (getSrcState s c).locked = true) :
    exec (.srcUnlock c) s =
      .next (count (0x3540 + 4 * c) (setSrcState c { getSrcState s c with locked := false } s)) := by
  change execSrcUnlock c s = _
  unfold execSrcUnlock
  simp only [convPort_stream hc]
  rw [if_neg (by simp [hen, hl])]

/-! ### TDM frames -/

theorem tdmKey_input (port : Nat) : tdmKey 0 port = port := by
  simp [tdmKey]

theorem loadMask_errRun (p : PortState) : (loadMask p).errRun = p.errRun := by
  unfold loadMask
  cases p.maskBuf with
  | none => rfl
  | some m =>
    dsimp only
    split <;> rfl

section
variable {port bits ns : Nat} {slots : List Int} {c : TdmCfg} {s : State}

/-- A short frame is counted, and the second in a row loses the clock (R353). -/
theorem execTdmInputFrame_short (hn : nerrisUp s = true) (hc : mapFind s.route.tdm port = some c)
    (hbits : bits < c.slots * c.width ∨ 2047 < bits) :
    let p := getPort s (portKey 0 0 port)
    let t := count (0x3400 + 8 * port + 1) (setPort (portKey 0 0 port) { loadMask p with
      frameLen := bits % 2048, errRun := p.errRun + 1 } s)
    exec (.tdmInputFrame port bits slots ns) s = .next (if 2 ≤ p.errRun + 1 then loseClock 0 port 0 t else t) := by
  intro p t
  change execTdmInputFrame port bits slots ns s = _
  unfold execTdmInputFrame
  simp only [tdmKey_input, hc]
  rw [if_neg (by rw [hn]; decide), if_pos hbits]

/-- A frame that is long enough gives the next tick the words of its enabled slots. -/
theorem execTdmInputFrame_good (hn : nerrisUp s = true) (hc : mapFind s.route.tdm port = some c)
    (hlow : c.slots * c.width ≤ bits) (hhigh : bits ≤ 2047) (hmode : portMode s 0 0 port = 0)
    (hst : (getPort s (portKey 0 0 port)).st = 2) :
    let p := getPort s (portKey 0 0 port)
    let frame := (List.range c.slots).map fun i => if p.mask.testBit i then wordIn c.width (slots.getD i 0) else 0
    exec (.tdmInputFrame port bits slots ns) s = .next (setPort (portKey 0 0 port) (loadMask { p with
      frameLen := bits, errRun := 0, queue := [frame], hist := (frame :: p.hist).take 66, frames := p.frames + 1 }) s) := by
  intro p frame
  have hlive : (ownClock s 0 0 port || p.st == 2 || p.st == 3 || (p.st == 1 && p.fadeUp)) = true := by
    simp [p, hst]
  change execTdmInputFrame port bits slots ns s = _
  unfold execTdmInputFrame
  simp only [tdmKey_input, hc, hmode]
  rw [if_neg (by rw [hn]; decide), if_neg (by omega), if_neg (by rw [hlive]; decide), Nat.mod_eq_of_lt (by omega)]
  rfl

end

/-! ### AES3 frames -/

theorem counter_countBy (id n : Nat) (s : State) : counter (countBy id n s) id = counter s id + n :=
  counter_setCounter_same _ _ _

theorem counter_countBy_other {id j : Nat} (n : Nat) (s : State) (h : j ≠ id) : counter (countBy id n s) j = counter s j :=
  counter_setCounter_other _ _ _ _ h

/-- Within a block, past its second frame, a frame without a preamble only moves the block on. -/
theorem aesBlock_inside {port : Nat} {f : AesFrame} {p : PortState} {s : State} (hlow : 2 ≤ p.block) (hhigh : p.block < 191)
    (hz : f.zPreamble = false) :
    aesBlock port f p s = ({ p with capA := p.capA ++ [f.statusL], capB := p.capB ++ [f.statusR], block := p.block + 1
                                    vNow := p.vNow || f.validL || f.validR }, false, s) := by
  have h192 : p.block ≠ 192 := by omega
  have h0 : p.block ≠ 0 := by omega
  have h1 : p.block ≠ 1 := by omega
  have h191 : p.block ≠ 191 := by omega
  unfold aesBlock
  simp [h192, h0, h1, h191, hz]

theorem aesKey_input (port : Nat) : aesKey 0 port = port := by
  simp [aesKey]

/-- A frame of a converter's input: the port state that it leaves. -/
def aesPort (f : AesFrame) (p : PortState) (frame : List Int) : PortState :=
  { p with capA := p.capA ++ [f.statusL], capB := p.capB ++ [f.statusR], block := p.block + 1
           vNow := p.vNow || f.validL || f.validR, errRun := 0
           queue := [frame], hist := (frame :: p.hist).take 66, frames := p.frames + 1 }

/-- Both words of a frame: 0 for non-audio, the word itself when its parity is good, the last good one otherwise. -/
def aesWords (f : AesFrame) (p : PortState) : List Int :=
  let last := p.queue.getLast?.getD p.held
  let word := fun (ok mute : Bool) (v : Int) (j : Nat) => if mute then 0 else if ok then wordIn 24 v else last.getD j 0
  [word f.parityOkL (p.nonAudio.getLsbD 0) f.left 0, word f.parityOkR (p.nonAudio.getLsbD 1) f.right 1]

theorem execAes3InputFrame_eq {port : Nat} {f : AesFrame} {s : State} {c : AesCfg} (hn : nerrisUp s = true)
    (hc : mapFind s.route.aes port = some c) (hmode : portMode s 1 0 port = 2)
    (hst : (getPort s (portKey 1 0 port)).st = 2) (hlow : 2 ≤ (getPort s (portKey 1 0 port)).block)
    (hhigh : (getPort s (portKey 1 0 port)).block < 191) (hz : f.zPreamble = false) (hb : f.biphaseOk = true) :
    exec (.aes3InputFrame port f) s =
      .next (setPort (portKey 1 0 port)
        (aesPort f (getPort s (portKey 1 0 port)) (aesWords f (getPort s (portKey 1 0 port))))
        (countBy (0x3500 + 8 * port + 3) (flag f.validL + flag f.validR)
          (countBy (0x3500 + 8 * port) (flag (!f.parityOkL) + flag (!f.parityOkR)) s))) := by
  have hhas : mapHas s.route.aes port = true := by rw [mapHas, hc]; rfl
  change execAes3InputFrame port f s = _
  unfold execAes3InputFrame
  simp only [aesKey_input, aesBlock_inside hlow hhigh hz, hb, hmode]
  rw [if_neg (by rw [hn, hhas]; decide), if_neg (by simp), if_neg (by simp [hst])]
  rfl

/-! ### `port` messages -/

section
variable {rq : Request} {s : State}

theorem portTdmCfgBody_ok (hport : byteAt rq.payload 0 < s.member.tdmPorts) (hdir : byteAt rq.payload 1 < 2)
    (hslots : 1 ≤ byteAt rq.payload 2) (hslots' : byteAt rq.payload 2 ≤ 32)
    (hw : byteAt rq.payload 3 = 16 ∨ byteAt rq.payload 3 = 20 ∨ byteAt rq.payload 3 = 24 ∨ byteAt rq.payload 3 = 32)
    (hoff : byteAt rq.payload 4 ≤ 31) (hrate : byteAt rq.payload 6 ≤ 5)
    (hclk : byteAt rq.payload 2 * byteAt rq.payload 3 * rateHz (byteAt rq.payload 6) ≤ 50000000)
    (hmaster : byteAt rq.payload 5 = 0 ∨ (byteAt rq.payload 5 = 1 ∧ sameFamily (byteAt rq.payload 6) s.time.rate = true
      ∧ masterFrame (byteAt rq.payload 2 * byteAt rq.payload 3) * rateHz (byteAt rq.payload 6) ≤ 50000000)) :
    portTdmCfgBody rq s = replyOk [] { s with
      route.tdmStage := (mapSet s.route.tdmStage (byteAt rq.payload 1 * 16 + byteAt rq.payload 0)
        { slots := byteAt rq.payload 2, width := byteAt rq.payload 3, offset := byteAt rq.payload 4
          master := byteAt rq.payload 5 == 1, rate := byteAt rq.payload 6
          hiZ := (byteAt rq.payload 7).testBit 0, mask := fieldLE rq.payload 8 4 }) } := by
  have hwidth : (byteAt rq.payload 3 == 16 || byteAt rq.payload 3 == 20 || byteAt rq.payload 3 == 24
      || byteAt rq.payload 3 == 32) = true := by
    simpa [or_assoc] using hw
  have hle : byteAt rq.payload 5 ≤ 1 := by omega
  have hfirst : firstBad [(0, decide (byteAt rq.payload 0 < s.member.tdmPorts)), (1, decide (byteAt rq.payload 1 < 2)),
      (2, decide (1 ≤ byteAt rq.payload 2) && decide (byteAt rq.payload 2 ≤ 32)),
      (3, byteAt rq.payload 3 == 16 || byteAt rq.payload 3 == 20 || byteAt rq.payload 3 == 24 || byteAt rq.payload 3 == 32),
      (4, decide (byteAt rq.payload 4 ≤ 31)), (5, decide (byteAt rq.payload 5 ≤ 1)), (6, decide (byteAt rq.payload 6 ≤ 5))]
      = none := by
    rw [hwidth]
    simp [firstBad, hport, hdir, hslots, hslots', hoff, hle, hrate]
  have hfamily : ¬ (byteAt rq.payload 5 == 1 && !sameFamily (byteAt rq.payload 6) s.time.rate) = true := by
    obtain h | ⟨_, h, _⟩ := hmaster <;> simp [h]
  have hframe : ¬ (byteAt rq.payload 5 == 1
      && decide (50000000 < masterFrame (byteAt rq.payload 2 * byteAt rq.payload 3) * rateHz (byteAt rq.payload 6))) = true := by
    obtain h | ⟨_, _, h⟩ := hmaster
    · simp [h]
    · simp [Nat.not_lt.mpr h]
  unfold portTdmCfgBody
  simp only [hfirst]
  rw [if_neg (Nat.not_lt.mpr hclk), if_neg hfamily, if_neg hframe, tdmKey]

theorem portTdmCfgBody_port (hport : s.member.tdmPorts ≤ byteAt rq.payload 0) : portTdmCfgBody rq s = badArg 0 s := by
  simp [portTdmCfgBody, firstBad, Nat.not_lt.mpr hport]

theorem portTdmCfgBody_slots (hport : byteAt rq.payload 0 < s.member.tdmPorts) (hdir : byteAt rq.payload 1 < 2)
    (hslots : byteAt rq.payload 2 = 0 ∨ 32 < byteAt rq.payload 2) : portTdmCfgBody rq s = badArg 2 s := by
  have hbad : (decide (1 ≤ byteAt rq.payload 2) && decide (byteAt rq.payload 2 ≤ 32)) = false := by
    rw [← Bool.decide_and]
    exact decide_eq_false (by omega)
  simp [portTdmCfgBody, firstBad, hport, hdir, hbad]

/-- While the part is not rendering no frame runs, and the mask waits in the buffer. -/
theorem portTdmMaskBody_idle (hport : byteAt rq.payload 0 < s.member.tdmPorts) (hdir : byteAt rq.payload 1 < 2)
    (hidle : s.time.rendering = false) :
    portTdmMaskBody rq s = replyOk [] (setPort (portKey 0 (byteAt rq.payload 1) (byteAt rq.payload 0))
      { getPort s (portKey 0 (byteAt rq.payload 1) (byteAt rq.payload 0)) with
        maskBuf := some (fieldLE rq.payload 4 4), maskLate := false } s) := by
  have hfirst : firstBad [(0, decide (byteAt rq.payload 0 < s.member.tdmPorts)), (1, decide (byteAt rq.payload 1 < 2))]
      = none := by simp [firstBad, hport, hdir]
  unfold portTdmMaskBody
  simp only [hfirst, rendering, hidle, Bool.false_and]
  rfl

theorem portAesCfgBody_ok (hport : byteAt rq.payload 0 < 2) (hdir : byteAt rq.payload 1 < 2) (hrate : byteAt rq.payload 2 ≤ 5)
    (hfam : byteAt rq.payload 1 = 0 ∨ sameFamily (byteAt rq.payload 2) s.time.rate = true) :
    portAesCfgBody rq s = replyOk [] { s with
      route.aesStage := (mapSet s.route.aesStage (byteAt rq.payload 1 * 2 + byteAt rq.payload 0)
        { rate := byteAt rq.payload 2, pro := (byteAt rq.payload 3).testBit 0, valid := (byteAt rq.payload 3).testBit 1
          status := if (byteAt rq.payload 3).testBit 0 then
              (slice rq.payload 4 24).take 23 ++ [crcc ((slice rq.payload 4 24).take 23)]
            else slice rq.payload 4 24 }) } := by
  have hfirst : firstBad [(0, decide (byteAt rq.payload 0 < 2)), (1, decide (byteAt rq.payload 1 < 2)),
      (2, decide (byteAt rq.payload 2 ≤ 5))] = none := by simp [firstBad, hport, hdir, hrate]
  have hfamily : ¬ (byteAt rq.payload 1 = 1 ∧ !sameFamily (byteAt rq.payload 2) s.time.rate) := by
    obtain h | h := hfam <;> simp [h]
  unfold portAesCfgBody
  simp only [hfirst]
  rw [if_neg hfamily, aesKey]

theorem portWclkCfgBody_ok (hrate : byteAt rq.payload 1 ≤ 5) (hfam : sameFamily (byteAt rq.payload 1) s.time.rate = true) :
    portWclkCfgBody rq s = replyOk [] { s with
      route.wclkOut := (byteAt rq.payload 0).testBit 0, route.wclkRef := (byteAt rq.payload 0).testBit 1
      route.wclkRate := byteAt rq.payload 1 } := by
  unfold portWclkCfgBody
  dsimp only
  rw [if_neg (by omega), if_neg (by rw [hfam]; decide)]

theorem portWclkCfgBody_rate (hrate : 5 < byteAt rq.payload 1) : portWclkCfgBody rq s = badArg 1 s := by
  unfold portWclkCfgBody
  dsimp only
  rw [if_pos hrate]

theorem two_le_tdmPorts (m : Member) : 2 ≤ m.tdmPorts := by
  cases m <;> decide

/-- A converter of a TDM or AES3 port that is turned off: its delay is 0. -/
theorem portSrcCfgBody_off (hkind : byteAt rq.payload 0 < 2) (hindex : byteAt rq.payload 1 < 2) (hdir : byteAt rq.payload 2 ≤ 1)
    (hen : byteAt rq.payload 3 = 0) (hset : byteAt rq.payload 4 ≤ 1) :
    portSrcCfgBody rq s = replyOk [0, 0, 0, 0] { s with
      route.srcStage := mapSet s.route.srcStage (convOf (byteAt rq.payload 0) (byteAt rq.payload 2) (byteAt rq.payload 1))
        { enable := false, set := byteAt rq.payload 4 } } := by
  have hlimit : byteAt rq.payload 1 < (if byteAt rq.payload 0 = 0 then s.member.tdmPorts else if byteAt rq.payload 0 = 1 then 2
      else if byteAt rq.payload 2 = 0 then 128 else 64) := by
    have := two_le_tdmPorts s.member
    split
    · omega
    · rw [if_pos (by omega)]
      exact hindex
  have hk2 : byteAt rq.payload 0 ≤ 2 := by omega
  have hfirst : firstBad [(0, decide (byteAt rq.payload 0 ≤ 2)), (1, decide (byteAt rq.payload 1 <
      (if byteAt rq.payload 0 = 0 then s.member.tdmPorts else if byteAt rq.payload 0 = 1 then 2
        else if byteAt rq.payload 2 = 0 then 128 else 64))), (2, decide (byteAt rq.payload 2 ≤ 1)),
      (3, decide (byteAt rq.payload 3 ≤ 1)), (4, decide (byteAt rq.payload 4 ≤ 1))] = none := by
    simp [firstBad, hk2, decide_eq_true hlimit, hdir, hen, hset]
  unfold portSrcCfgBody
  simp only [hfirst]
  rw [if_neg (by omega : ¬ byteAt rq.payload 0 = 2), hen, if_pos (by decide)]
  rfl

theorem portSrcCfgBody_kind (hkind : 2 < byteAt rq.payload 0) : portSrcCfgBody rq s = badArg 0 s := by
  simp [portSrcCfgBody, firstBad, Nat.not_le.mpr hkind]

theorem portStatusBody_ok (hkind : byteAt rq.payload 0 < 2) (hindex : byteAt rq.payload 1 < 2) (hdir : byteAt rq.payload 2 ≤ 1)
    (hmeas : byteAt rq.payload 0 = 0 ∨ byteAt rq.payload 2 = 0) :
    portStatusBody rq s = replyOk (bytesLE 4 (portMeasured s (byteAt rq.payload 0) (byteAt rq.payload 2) (byteAt rq.payload 1))
      ++ bytesLE 1 (portSt s (byteAt rq.payload 0) (byteAt rq.payload 2) (byteAt rq.payload 1)) ++ [0, 0, 0]
      ++ bytesLE 4 (counter s (lossCounter (byteAt rq.payload 0) (byteAt rq.payload 2) (byteAt rq.payload 1)))) s := by
  have hlimit : byteAt rq.payload 1 < (if byteAt rq.payload 0 = 0 then s.member.tdmPorts
      else if byteAt rq.payload 0 = 1 then 2 else 1) := by
    have := two_le_tdmPorts s.member
    split
    · omega
    · rw [if_pos (by omega)]
      exact hindex
  have hk2 : byteAt rq.payload 0 ≤ 2 := by omega
  have hk : byteAt rq.payload 0 ≠ 2 := by omega
  have hfirst : firstBad [(0, decide (byteAt rq.payload 0 ≤ 2)), (1, decide (byteAt rq.payload 1 <
      (if byteAt rq.payload 0 = 0 then s.member.tdmPorts else if byteAt rq.payload 0 = 1 then 2 else 1))),
      (2, decide (byteAt rq.payload 2 ≤ (if byteAt rq.payload 0 = 2 then 0 else 1)))] = none := by
    simp [firstBad, hk2, hk, decide_eq_true hlimit, hdir]
  unfold portStatusBody
  simp only [hfirst]
  rw [if_neg (by omega : ¬ (byteAt rq.payload 0 = 1 ∧ byteAt rq.payload 2 = 1))]
  rfl

end

/-- Settles O32. -/
theorem ports : Obligations.Ports := by
  unfold Obligations.Ports
  refine ⟨fun kind index dir s => ?_, fun rq s => ?_⟩
  · refine ⟨fun hkind hw hst hfade => ?_, fun h => ?_, fun hn hw hst rate bits => ?_, fun hn hw hkind rate => ?_,
      fun c hen hc => ⟨execSrcLock_stream hen hc, execSrcUnlock_stream hen hc⟩,
      fun c hc hi hn hkind hdir bits slots ns => ?_, fun c hc hi hn hkind hdir f hmode hst hlow hhigh hz hb => ?_⟩
    · exact congrArg Outcome.next (loseClock_fades hkind hw hst hfade)
    · exact congrArg Outcome.next (loseClock_unwatched h)
    · rw [execClockReturn_stopped hn hw hst]
      refine ⟨fun hm hkind hmode => ?_, fun hm => ?_⟩
      · rw [if_pos hm, admitClock_direct _ hkind hmode]
      · rw [if_neg (by rw [hm]; decide)]
    · rw [execRateClassChange_watched hn hw hkind]
      exact ⟨fun h => by rw [if_pos h], fun h => by rw [if_neg h]⟩
    · subst hkind hdir
      refine ⟨fun hbits => ?_, fun hlow hhigh hmode hst => execTdmInputFrame_good hn hc hlow hhigh hmode hst⟩
      rw [execTdmInputFrame_short hn hc hbits, loadMask_errRun]
      exact ⟨fun h => by rw [if_neg (by omega)], fun h => by rw [if_pos (by omega)]⟩
    · subst hkind hdir
      refine ⟨_, execAes3InputFrame_eq hn hc hmode hst hlow hhigh hz hb, ?_⟩
      rw [getPort_setPort_same]
      refine ⟨hst, rfl, rfl, rfl, ?_, rfl, rfl, rfl, rfl⟩
      change counter (countBy _ _ (countBy _ _ s)) _ = _
      rw [counter_countBy_other _ _ (by omega), counter_countBy, Nat.add_assoc]
  · refine ⟨fun h => ⟨fun hport hdir hs hs' hw hoff hrate hclk hm => ?_, fun hport => ?_, fun hport hdir hs => ?_⟩,
      fun h hport hdir hidle => ?_, fun h hport hdir hrate hfam => ?_, fun h hrate hfam => ?_, fun h hrate => ?_,
      fun h hkind hindex hdir hen hset => ?_, fun h hkind => ?_, fun h hkind hindex hdir hm => ?_⟩
    · exact next_recorded h rfl (portTdmCfgBody_ok hport hdir hs hs' hw hoff hrate hclk hm)
    · exact next_badArg h (portTdmCfgBody_port hport)
    · exact next_badArg h (portTdmCfgBody_slots hport hdir hs)
    · exact next_recorded h rfl (portTdmMaskBody_idle hport hdir hidle)
    · exact next_recorded h rfl (portAesCfgBody_ok hport hdir hrate hfam)
    · exact next_recorded h rfl (portWclkCfgBody_ok hrate hfam)
    · exact next_badArg h (portWclkCfgBody_rate hrate)
    · exact next_recorded h rfl (portSrcCfgBody_off hkind hindex hdir hen hset)
    · exact next_badArg h (portSrcCfgBody_kind hkind)
    · exact next_answered h rfl (portStatusBody_ok hkind hindex hdir hm)

end Sys2Proof.Machine
end

section
/-! PROOFS. Links, flow control, addresses and frames of the switch (O33). -/

namespace Sys2Proof.Machine
open Host

/-! ### Counting and reporting -/

/-- What reports do: counters, messages to destinations, vectors and what is given out; nothing else. -/
def ReportsOnly (s t : State) : Prop :=
  ∃ cs mb nc w, t = { s with hw.counters := cs, msg.mbx := mb, msg.ncp := nc, wire := w }

theorem ReportsOnly.refl (s : State) : ReportsOnly s s := ⟨_, _, _, _, rfl⟩

theorem ReportsOnly.trans {s t u : State} (h : ReportsOnly s t) (h' : ReportsOnly t u) : ReportsOnly s u := by
  obtain ⟨cs, mb, nc, w, rfl⟩ := h
  obtain ⟨cs', mb', nc', w', rfl⟩ := h'
  exact ⟨cs', mb', nc', w', rfl⟩

theorem ReportsOnly.hw_mem {s t : State} (h : ReportsOnly s t) : t.hw.mem = s.hw.mem := by
  obtain ⟨cs, mb, nc, w, rfl⟩ := h
  rfl

theorem ReportsOnly.msg_weir {s t : State} (h : ReportsOnly s t) : t.msg.weir = s.msg.weir := by
  obtain ⟨cs, mb, nc, w, rfl⟩ := h
  rfl

theorem ReportsOnly.net {s t : State} (h : ReportsOnly s t) : t.net = s.net := by
  obtain ⟨cs, mb, nc, w, rfl⟩ := h
  rfl

theorem ReportsOnly.getNet {s t : State} (h : ReportsOnly s t) (p : Nat) : getNet t p = getNet s p := by
  unfold Machine.getNet
  rw [h.net]

theorem reports_countBy (id n : Nat) (s : State) : ReportsOnly s (countBy id n s) := ⟨_, _, _, _, rfl⟩

theorem reports_emit (e : Emission) (s : State) : ReportsOnly s (emit e s) := ⟨_, _, _, _, rfl⟩

theorem reports_ringHost (c : Nat) (s : State) : ReportsOnly s (ringHost c s) := by
  obtain ⟨pba, w, h⟩ := withVectors_eq s (fun t => { t with msg.mbx.dblHost := t.msg.mbx.dblHost ||| BitVec.ofNat 22 (2 ^ c) })
  exact ⟨_, _, _, _, h⟩

/-- An event offered to one destination. -/
theorem reports_eventTo (cls die op flow : Nat) (fields : List Byte) (s : State) (k : Nat) :
    ReportsOnly s (eventTo cls die op flow fields s k) := by
  by_cases hmask : (!(getDest s k).evMask.testBit cls || decide ((getDest s k).version < opVersion op)) = true
  · rw [eventTo, if_pos hmask]
    exact .refl s
  · unfold eventTo
    simp only [if_neg hmask]
    split_ifs
    · exact .trans ⟨_, _, _, _, rfl⟩ (reports_ringHost _ _)
    · exact .trans ⟨_, _, _, _, rfl⟩ (reports_ringHost _ _)
    · exact ⟨_, _, _, _, rfl⟩
    · exact ⟨_, _, _, _, rfl⟩

theorem reports_event (cls die op flow : Nat) (fields : List Byte) (s : State) :
    ReportsOnly s (event cls die op flow fields s) := by
  have hall : ∀ (ks : List Nat) (t : State), ReportsOnly t (ks.foldl (eventTo cls die op flow fields) t) := by
    intro ks
    induction ks with
    | nil => exact .refl
    | cons k ks ih => exact fun t => (reports_eventTo cls die op flow fields t k).trans (ih _)
  unfold event
  split
  · exact hall _ s
  · exact .refl s

theorem reports_netCountBy (p n v : Nat) (s : State) : ReportsOnly s (netCountBy p n v s) := by
  unfold netCountBy
  dsimp only
  split
  · exact reports_countBy _ _ _
  · exact (reports_countBy _ _ _).trans (reports_event _ _ _ _ _ _)

theorem reports_netCount (p n : Nat) (s : State) : ReportsOnly s (netCount p n s) := reports_netCountBy p n 1 s

/-- A counter that does not cross a multiple of 2³¹ is counted without a report (R395). -/
theorem netCount_quiet {p n : Nat} {s : State} (h : netCounter s p n % 2 ^ 31 ≠ 2 ^ 31 - 1) :
    netCount p n s = count (0x4000 + 0x40 * p + n) s := by
  have hsame : counter s (netId p n) / 2 ^ 31 = (counter s (netId p n) + 1) / 2 ^ 31 := by
    unfold netCounter at h
    omega
  unfold netCount netCountBy
  dsimp only
  rw [if_pos hsame]
  rfl

/-! ### A port's fill and its link -/

theorem reports_sendPause (i time : Nat) (s : State) : ReportsOnly s (sendPause i time s) := by
  unfold sendPause
  dsimp only
  split_ifs
  · exact (reports_emit _ _).trans (reports_netCount _ _ _)
  · exact (reports_emit _ _).trans (reports_netCount _ _ _)
  · exact .refl s

/-- A fill check reports, and at a threshold notes whether the port has sent XOFF. -/
theorem checkFill_eq (i : Nat) (s : State) :
    ReportsOnly s (checkFill i s) ∨ ∃ b, ReportsOnly (setNet i { getNet s i with xoff := b } s) (checkFill i s) := by
  have hset : ∀ x id v, ReportsOnly (setNet i x s) (setNet i x (setCounter id v s)) := fun x id v => ⟨_, _, _, _, rfl⟩
  unfold checkFill
  dsimp only
  split_ifs
  · exact .inl ⟨_, _, _, _, rfl⟩
  · exact .inr ⟨true, (hset _ _ _).trans ((reports_netCount _ _ _).trans (reports_sendPause _ _ _))⟩
  · exact .inr ⟨false, (hset _ _ _).trans (reports_sendPause _ _ _)⟩
  · exact .inl ⟨_, _, _, _, rfl⟩

/-- A fill check changes nothing of a port but its XOFF. -/
theorem getNet_checkFill (i j : Nat) (s : State) : ∃ b, getNet (checkFill i s) j = { getNet s j with xoff := b } := by
  obtain h | ⟨b, h⟩ := checkFill_eq i s
  · exact ⟨(getNet s j).xoff, h.getNet j⟩
  · rw [h.getNet]
    by_cases hj : j = i
    · subst hj
      exact ⟨b, getNet_setNet_same _ _ _⟩
    · exact ⟨(getNet s j).xoff, getNet_setNet_other _ _ _ _ hj⟩

theorem checkFill_kept (i : Nat) (s : State) :
    (checkFill i s).hw.mem = s.hw.mem ∧ (checkFill i s).msg.weir = s.msg.weir := by
  obtain h | ⟨b, h⟩ := checkFill_eq i s
  · exact ⟨h.hw_mem, h.msg_weir⟩
  · exact ⟨h.hw_mem, h.msg_weir⟩

theorem getNet_checkFills (j : Nat) (s : State) : ∃ b, getNet (checkFills s) j = { getNet s j with xoff := b } := by
  have hall : ∀ (is : List Nat) (t : State),
      ∃ b, getNet (is.foldl (fun s i => checkFill i s) t) j = { getNet t j with xoff := b } := by
    intro is
    induction is with
    | nil => exact fun t => ⟨_, rfl⟩
    | cons i is ih =>
      intro t
      obtain ⟨b, hb⟩ := getNet_checkFill i j t
      obtain ⟨b', hb'⟩ := ih (checkFill i t)
      exact ⟨b', by rw [List.foldl_cons, hb', hb]⟩
  exact hall _ s

/-- What a link that falls leaves of its port. -/
theorem getNet_dropLink {p : Nat} {s : State} (hl : (getNet s p).link = true) :
    (getNet (dropLink p s) p).link = false ∧ (getNet (dropLink p s) p).txQ = []
      ∧ (getNet (dropLink p s) p).hostQ = [] ∧ (getNet (dropLink p s) p).linkDowns = (getNet s p).linkDowns + 1 := by
  unfold dropLink
  dsimp only
  rw [if_neg (by rw [hl]; decide)]
  have hreports : ∀ (n : Nat) (t : State),
      getNet (netLink p 0 (netCountBy p 34 n (netCount p 33 t))) p = getNet t p := fun n t =>
    (((reports_netCount p 33 t).trans (reports_netCountBy p 34 n _)).trans (reports_event _ _ _ _ _ _)).getNet p
  obtain ⟨b, hb⟩ := getNet_checkFills p (netLink p 0 (netCountBy p 34 _ (netCount p 33 (setNet p _ _))))
  rw [hb, hreports, getNet_setNet_same]
  exact ⟨rfl, rfl, rfl, rfl⟩

theorem dropLink_down {p : Nat} {s : State} (hl : (getNet s p).link = false) : dropLink p s = s := by
  unfold dropLink
  dsimp only
  rw [if_pos (by rw [hl]; decide)]

section
variable {port : Nat} {s : State}

theorem execLinkUp_eq (partner : Nat) (hp : port < 4) (hup : shoreUp s = true) (hm : (getNet s port).mode ≠ 0)
    (hl : (getNet s port).link = false) (hpins : pinsDriven s = false) :
    exec (.linkUp port partner) s = .next (joinAll port (netLink port 1 (setNet port { getNet s port with
      link := true, partner := if (getNet s port).mode = 1 then partner % 4 else 0xFF } s))) := by
  change execLinkUp port partner s = _
  unfold execLinkUp
  dsimp only
  rw [if_neg (by simp [hup, hm, hl, hpins]; omega)]

theorem execLinkDown_eq (hp : port < 4) (hup : shoreUp s = true) :
    exec (.linkDown port) s = .next (dropLink port s) := by
  change execLinkDown port s = _
  unfold execLinkDown
  rw [if_pos ⟨hp, hup⟩]

/-! ### PAUSE and PFC -/

theorem execPauseFrameRx_eq {time : Nat} (hp : port < 4) (hup : shoreUp s = true) (hl : (getNet s port).link = true)
    (ht : time < 65536) : exec (.pauseFrameRx port time) s = .next (pauseRx port time s) := by
  change execPauseFrameRx port time s = _
  unfold execPauseFrameRx
  rw [if_neg (by simp [hup, hl]; omega), Nat.mod_eq_of_lt ht]

theorem pauseRx_pfc {time : Nat} (hf : (getNet s port).flags.testBit 2 = true) :
    pauseRx port time s = netCount port 13 (netCount port 11 s) := by
  unfold pauseRx
  exact if_pos hf

theorem pauseRx_ignored {time : Nat} (hf : (getNet s port).flags.testBit 2 = false)
    (ho : obeysPause (getNet s port) = false) : pauseRx port time s = netCount port 11 s := by
  unfold pauseRx
  dsimp only
  rw [if_neg (by rw [usesPfc, hf]; decide), if_pos (by rw [ho]; rfl)]

theorem getNet_pauseRx_obeyed {time : Nat} (ho : obeysPause (getNet s port) = true) :
    getNet (pauseRx port time s) port = { getNet s port with pauseEnd := if time = 0 then none else some time } := by
  have hf : ¬ usesPfc (getNet s port) = true := by
    unfold obeysPause at ho
    unfold usesPfc
    intro h
    simp [h] at ho
  unfold pauseRx
  dsimp only
  rw [if_neg hf, if_neg (by rw [ho]; decide), (reports_netCountBy _ _ _ _).getNet, getNet_setNet_same]

/-- One class of a PFC frame. -/
def pfcClass (port classes : Nat) (times : List Nat) (s : State) (c : Nat) : State :=
  if classes.testBit c && (getNet s port).pfcMask.testBit c then
    netCountBy port (56 + c) (times.getD c 0 % 65536) (setNet port { getNet s port with
      pfcEnd := (if times.getD c 0 % 65536 = 0 then mapErase (getNet s port).pfcEnd c
        else mapSet (getNet s port).pfcEnd c (times.getD c 0 % 65536)) } s)
  else s

theorem pfcRx_used {classes : Nat} {times : List Nat} (hf : (getNet s port).flags.testBit 2 = true) :
    pfcRx port classes times s = (List.range 8).foldl (pfcClass port classes times) (netCount port 12 s) := by
  unfold pfcRx
  dsimp only
  rw [if_neg (by rw [(reports_netCount _ _ _).getNet, usesPfc, hf]; decide)]
  rfl

/-- One class of a PFC frame writes its own timer only. -/
theorem getNet_pfcClass (classes : Nat) (times : List Nat) (c : Nat) :
    getNet (pfcClass port classes times s c) port = if classes.testBit c && (getNet s port).pfcMask.testBit c then
      { getNet s port with pfcEnd := (if times.getD c 0 % 65536 = 0 then mapErase (getNet s port).pfcEnd c
          else mapSet (getNet s port).pfcEnd c (times.getD c 0 % 65536)) }
      else getNet s port := by
  unfold pfcClass
  split
  · rw [(reports_netCountBy _ _ _ _).getNet, getNet_setNet_same]
  · rfl

/-- The classes of a PFC frame in order: the mask and PAUSE stay, and an obeyed class with a time in the list has it. -/
theorem foldl_pfcClass (classes : Nat) (times : List Nat) (cs : List Nat) :
    let t := cs.foldl (pfcClass port classes times) s
    (getNet t port).pfcMask = (getNet s port).pfcMask ∧ (getNet t port).pauseEnd = (getNet s port).pauseEnd
      ∧ ∀ c, classes.testBit c = true → (getNet s port).pfcMask.testBit c = true → times.getD c 0 % 65536 ≠ 0 →
          (c ∈ cs ∨ mapFind (getNet s port).pfcEnd c = some (times.getD c 0 % 65536)) →
          mapFind (getNet t port).pfcEnd c = some (times.getD c 0 % 65536) := by
  induction cs generalizing s with
  | nil => exact ⟨rfl, rfl, fun c _ _ _ h => h.resolve_left (List.not_mem_nil)⟩
  | cons k cs ih =>
    intro t
    obtain ⟨hmask, hpause, hfind⟩ := ih (s := pfcClass port classes times s k)
    have hk := getNet_pfcClass (port := port) (s := s) classes times k
    have hm : (getNet (pfcClass port classes times s k) port).pfcMask = (getNet s port).pfcMask := by
      rw [hk]; split <;> rfl
    have hp : (getNet (pfcClass port classes times s k) port).pauseEnd = (getNet s port).pauseEnd := by
      rw [hk]; split <;> rfl
    refine ⟨hmask.trans hm, hpause.trans hp, fun c hc hcm ht hin => hfind c hc (by rw [hm]; exact hcm) ht ?_⟩
    by_cases hck : c = k
    · subst hck
      refine .inr ?_
      rw [hk, if_pos (by rw [hc, hcm]; rfl), if_neg ht]
      exact mapFind_mapSet_same _ _ _
    · obtain hmem | hold := hin
      · exact .inl ((List.mem_cons.mp hmem).resolve_left hck)
      · refine .inr ?_
        rw [hk]
        split_ifs
        · exact (mapFind_mapErase_other _ _ _ hck).trans hold
        · exact (mapFind_mapSet_other _ _ _ _ hck).trans hold
        · exact hold

theorem execPfcFrameRx_eq {classes : Nat} {times : List Nat} (hp : port < 4) (hup : shoreUp s = true)
    (hl : (getNet s port).link = true) : exec (.pfcFrameRx port classes times) s = .next (pfcRx port classes times s) := by
  change execPfcFrameRx port classes times s = _
  unfold execPfcFrameRx
  rw [if_neg (by simp [hup, hl]; omega)]

theorem execPauseTimerExpiry_all (hp : port < 4) :
    exec (.pauseTimerExpiry port none) s = .next (setNet port { getNet s port with pauseEnd := none } s) := by
  change execPauseTimerExpiry port none s = _
  unfold execPauseTimerExpiry
  dsimp only
  rw [if_neg (by omega)]

theorem execPauseTimerExpiry_class (c : Nat) (hp : port < 4) : exec (.pauseTimerExpiry port (some c)) s =
    .next (setNet port { getNet s port with pfcEnd := mapErase (getNet s port).pfcEnd c } s) := by
  change execPauseTimerExpiry port (some c) s = _
  unfold execPauseTimerExpiry
  dsimp only
  rw [if_neg (by omega)]

theorem execPauseRefresh_eq (hp : port < 4) : exec (.pauseRefresh port) s =
    .next (if (getNet s port).xoff = true then sendPause port 0xFFFF s else s) := by
  change execPauseRefresh port s = _
  unfold execPauseRefresh
  simp only [hp, true_and]

/-! ### Addresses, stale frames and reports -/

theorem execAddressAgeOut_eq {mac : BitVec 48} {e : MacEntry} (he : mapFind s.net.macs mac.toNat = some e) :
    exec (.addressAgeOut mac) s = .next (if swCfg s = 0 then s
      else netCount e.port 31 { s with net.macs := mapErase s.net.macs mac.toNat }) := by
  change execAddressAgeOut mac s = _
  unfold execAddressAgeOut
  simp only [he]

theorem execHostTxStale_eq {f : QFrame} (hp : port < 4)
    (hf : ((getNet s port).txQ.find? fun g => g.host && g.id == f.id) = some f) :
    exec (.hostTxStale port f.id) s =
      .next (netCount port 35 (setNet port { getNet s port with txQ := (getNet s port).txQ.erase f } s)) := by
  change execHostTxStale port f.id s = _
  unfold execHostTxStale
  simp only [hf]
  rw [if_pos hp]

/-- The frame-error counters of a port (R395). -/
def frameErrors : List Nat := [5, 6, 7, 8, 40, 41, 42, 43, 44, 45, 46, 47]

theorem execFrameErrorReport_fcs (hp : port < 4) (hn : nerrisUp s = true)
    (hlast : mapFind s.msg.ncp.lastSent (0x60000 + port) = none)
    (h5 : mapGet (fun _ => 0) (getNet s port).lastErr 5 < netCounter s port 5)
    (hrest : ∀ n, n ∈ [6, 7, 8, 40, 41, 42, 43, 44, 45, 46, 47] →
      netCounter s port n ≤ mapGet (fun _ => 0) (getNet s port).lastErr n) :
    let t := counterEvent 13 (0x4000 + 0x40 * port + 5)
      { s with msg.ncp.lastSent := mapSet s.msg.ncp.lastSent (0x60000 + port) s.now }
    exec (.frameErrorReport port) s = .next (setNet port { getNet t port with
      lastErr := (frameErrors.map fun n => (n, netCounter t port n)) } t) := by
  intro t
  have hrisen : (frameErrors.filter fun n => decide (mapGet (fun _ => 0) (getNet s port).lastErr n < counter s (netId port n)))
      = [5] := by
    unfold frameErrors
    have hnone : ([6, 7, 8, 40, 41, 42, 43, 44, 45, 46, 47].filter fun n =>
        decide (mapGet (fun _ => 0) (getNet s port).lastErr n < counter s (netId port n))) = [] :=
      List.filter_eq_nil_iff.mpr fun n hn' => by simpa [netCounter] using hrest n hn'
    rw [List.filter_cons, hnone]
    exact if_pos (decide_eq_true h5)
  have honce : oncePerSecond (0x60000 + port) s =
      some { s with msg.ncp.lastSent := mapSet s.msg.ncp.lastSent (0x60000 + port) s.now } := by
    unfold oncePerSecond
    simp only [hlast]
  have hids : [5, 6, 7, 8] ++ (List.range 8).map (· + 40) = frameErrors := by decide
  change execFrameErrorReport port s = _
  unfold execFrameErrorReport
  simp only [hids, hrisen, honce]
  rw [if_neg (by simp [hn]; omega)]
  rfl


/-! ### Frames received -/

theorem execNetFrameRx_fault {f : Frame} {n : Nat} (hp : port < 4) (hup : shoreUp s = true)
    (hl : (getNet s port).link = true) (hf : frameFault (getNet s port) f = some n) :
    exec (.netFrameRx port f) s = .next (stomp port f.bytes (netCount port n s)) := by
  change execNetFrameRx port f s = _
  unfold execNetFrameRx
  simp only [hf]
  rw [if_neg (by simp [hup, hl]; omega)]

/-- A good frame that does not wake the part: nothing in SLEEP; otherwise counted and sent on. -/
theorem execNetFrameRx_good {f : Frame} (hp : port < 4) (hup : shoreUp s = true) (hl : (getNet s port).link = true)
    (hf : frameFault (getNet s port) f = none) (hw : wakesPart s port f.bytes = false) :
    let d := dstMac f.bytes
    let t := netCount port (if d = macBroadcast then 4 else if macGroup d then 3 else 2)
      (netCountBy port 1 (frameLength f.bytes) (netCount port 0 s))
    let u := if isTagged f.bytes then netCount port 14 t else t
    exec (.netFrameRx port f) s = .next (if s.sys.ao.power = .sleep then s
      else if isMacControl f.bytes then macControl port f.bytes u else switchFrame port f.bytes u) := by
  intro d t u
  change execNetFrameRx port f s = _
  unfold execNetFrameRx
  simp only [hf, hw]
  rw [if_neg (by simp [hup, hl]; omega)]
  rfl

theorem frameFault_coding {x : NetPort} {f : Frame} (h : f.codingOk = false) : frameFault x f = some 8 := by
  simp [frameFault, h]

theorem frameFault_short {x : NetPort} {f : Frame} (h : f.codingOk = true) (hn : frameLength f.bytes < 64) :
    frameFault x f = some 6 := by
  simp [frameFault, h, hn]

theorem frameFault_long {x : NetPort} {f : Frame} (h : f.codingOk = true) (hn : 64 ≤ frameLength f.bytes)
    (hm : x.maxFrame < frameLength f.bytes) : frameFault x f = some 7 := by
  simp [frameFault, h, Nat.not_lt.mpr hn, hm]

/-- A frame of a length that the port takes fails only by its check sequence. -/
theorem frameFault_length {x : NetPort} {f : Frame} (h : f.codingOk = true) (hn : 64 ≤ frameLength f.bytes)
    (hm : frameLength f.bytes ≤ x.maxFrame) : frameFault x f = if f.fcsOk then none else some 5 := by
  unfold frameFault
  dsimp only
  rw [if_neg (by rw [h]; decide), if_neg (by omega), if_neg (by omega)]
  cases f.fcsOk <;> rfl

/-! ### Frames sent -/

theorem execHostFrameTx_host {f : QFrame} (hp : port < 4) (hup : shoreUp s = true) (hl : (getNet s port).link = true)
    (hf : nextFrame (getNet s port) = some f) (hh : f.host = true) (hptp : f.ptp = none) (hs : f.stamp = false) :
    exec (.hostFrameTx port) s = .next (checkFills (sendFrame port f.cls f.bytes (setNet port { getNet s port with
      txQ := (getNet s port).txQ.erase f, hostNext := (getNet s port).hostNext.filter (· != f.cls) } s))) := by
  change execHostFrameTx port s = _
  unfold execHostFrameTx
  simp only [hf, hptp, hh, hs, if_true, List.append_nil]
  rw [if_neg (by simp [hup, hl]; omega)]
  rfl

theorem execHostFrameTx_none (hf : nextFrame (getNet s port) = none) : exec (.hostFrameTx port) s = .next s := by
  change execHostFrameTx port s = _
  unfold execHostFrameTx
  simp only [hf, ite_self]

theorem nextFrame_paused {x : NetPort} (h : x.pauseEnd.isSome = true) : nextFrame x = none := by
  unfold nextFrame
  rw [if_pos h]

/-! ### The receive DMA -/

theorem hostClass_nil {p : Nat} (h : (getNet s p).hostQ = []) : hostClass s p = none := by
  unfold hostClass
  simp only [h]

theorem hostClass_single {p : Nat} {f : QFrame} (h : (getNet s p).hostQ = [f]) : hostClass s p = some f.cls := by
  unfold hostClass
  simp only [h, List.map_cons, List.map_nil, List.foldl_cons, List.foldl_nil, Nat.zero_max]

/-- A higher class than `c` waits at some port's host queue. -/
def hostWaitsAbove (s : State) (c : Nat) : Bool :=
  (List.range 4).any fun p => match hostClass s p with
    | some d => decide (c < d)
    | none => false

theorem hostWaitsAbove_single {f : QFrame} (hq : (getNet s port).hostQ = [f])
    (hothers : ∀ p, p < 4 → p ≠ port → (getNet s p).hostQ = []) : hostWaitsAbove s f.cls = false := by
  refine List.any_eq_false.mpr fun p hp => ?_
  by_cases h : p = port
  · subst h
    simp [hostClass_single hq]
  · simp [hostClass_nil (hothers p (List.mem_range.mp hp) h)]

/-- The DMA with one frame at the port and none at the others takes that frame. -/
theorem execRxDmaComplete_discard {f : QFrame} (hp : port < 4) (hn : nerrisUp s = true) (hq : (getNet s port).hostQ = [f])
    (hothers : ∀ p, p < 4 → p ≠ port → (getNet s p).hostQ = []) (hc : classifyFrame s port f.bytes = none) :
    exec (.rxDmaComplete port) s = .next (checkFill port
      (count (if macGroup (dstMac f.bytes) then 0x4291 else 0x4290) (setNet port { getNet s port with hostQ := [] } s))) := by
  have habove := hostWaitsAbove_single hq hothers
  have hfind : [f].find? (fun g => g.cls == f.cls) = some f := by simp
  change execRxDmaComplete port s = _
  unfold execRxDmaComplete
  simp only [hostClass_single hq, hq, hfind, hc, List.erase_cons_head]
  rw [if_neg (by simp [hn]; omega), if_neg (by exact ne_true_of_eq_false habove)]

/-- The item in a queue that a frame's slot and time-stamp are noted in. -/
def noteFrame (f : QFrame) (slot : Nat) (t : State) : State :=
  let q := getQueue t f.cls
  let mark := fun (it : WeirItem) => { it with
    flags := 1 + flagAt (isTagged f.bytes) 1 + flagAt (macGroup (dstMac f.bytes)) 2
    sec := f.sec % 2 ^ 48, ns := f.ns, frac := f.frac }
  let u := setQueue f.cls { q with items := nthMod q.items (q.items.length - 1) mark } t
  let index := (q.items.getLast?.map (·.index)).getD 0
  { u with msg.weir.buffers := mapSet u.msg.weir.buffers index (slot, (f.bytes.length + 2047) / 2048) }

theorem execRxDmaComplete_taken {f : QFrame} {flow slot : Nat} {u : State} (hp : port < 4) (hn : nerrisUp s = true)
    (hq : (getNet s port).hostQ = [f]) (hothers : ∀ p, p < 4 → p ≠ port → (getNet s p).hostQ = [])
    (hc : classifyFrame s port f.bytes = some flow) (hslot : freeSlots s ((f.bytes.length + 2047) / 2048) = some slot)
    (hoffer : weirOffer f.cls flow 0 (frameLength f.bytes) port (slotAddr s slot)
      (setNet port { getNet s port with hostQ := [] } s) = (u, true)) :
    exec (.rxDmaComplete port) s =
      .next (checkFill port (writeBytes (slotAddr s slot) f.bytes (noteFrame f slot u))) := by
  have habove := hostWaitsAbove_single hq hothers
  have hfind : [f].find? (fun g => g.cls == f.cls) = some f := by simp
  change execRxDmaComplete port s = _
  unfold execRxDmaComplete
  simp only [hostClass_single hq, hq, hfind, hc, List.erase_cons_head, hslot, hoffer]
  rw [if_neg (by simp [hn]; omega), if_neg (by exact ne_true_of_eq_false habove)]
  rfl

theorem execRxDmaComplete_none (hq : (getNet s port).hostQ = []) : exec (.rxDmaComplete port) s = .next s := by
  change execRxDmaComplete port s = _
  unfold execRxDmaComplete
  simp only [hostClass_nil hq, ite_self]

/-- An item offered to the Weir leaves the network as it is. -/
theorem weirOffer_net (q flow kind len src data : Nat) (s : State) : (weirOffer q flow kind len src data s).1.net = s.net := by
  have hready : ∀ t : State, (weirReady q flow t).net = t.net := by
    intro t
    unfold weirReady
    dsimp only
    split <;> rfl
  unfold weirOffer
  dsimp only
  split
  · exact hready _
  · split_ifs <;> rfl

end

/-- Settles O33. -/
theorem switch : Obligations.Switch := by
  unfold Obligations.Switch
  refine ⟨fun port s hp hup => ?_, fun port s hp hup hl => ?_⟩
  · refine ⟨fun hm hl hpins partner => execLinkUp_eq partner hp hup hm hl hpins, execLinkDown_eq hp hup, dropLink_down,
      getNet_dropLink, fun hl time ht => ?_, fun hl hf classes times => ?_,
      ⟨execPauseTimerExpiry_all hp, fun c => execPauseTimerExpiry_class c hp⟩, fun hx => ?_, fun hx => ?_,
      fun mac e he => ?_, fun f _ _ hf => execHostTxStale_eq hp hf,
      fun hn hlast h5 hrest => execFrameErrorReport_fcs hp hn hlast h5 hrest⟩
    · rw [execPauseFrameRx_eq hp hup hl ht]
      refine ⟨fun hf h11 h13 => ?_, fun hf hf' h11 => ?_, fun ho hne => ⟨_, rfl, ?_⟩, ?_⟩
      · rw [pauseRx_pfc hf, netCount_quiet h11, netCount_quiet]
        rw [netCounter, count, counter_countBy_other _ _ (by unfold netId; omega)]
        exact h13
      · rw [pauseRx_ignored hf (by simp [obeysPause, hf']), netCount_quiet h11]
      · rw [getNet_pauseRx_obeyed ho, if_neg hne]
      · exact fun ho => ⟨_, execPauseFrameRx_eq hp hup hl (by decide), by rw [getNet_pauseRx_obeyed ho, if_pos rfl]⟩
    · refine ⟨_, execPfcFrameRx_eq hp hup hl, ?_⟩
      obtain ⟨-, hpause, hfind⟩ := foldl_pfcClass (s := netCount port 12 s) (port := port) classes times (List.range 8)
      rw [(reports_netCount _ _ _).getNet] at hpause hfind
      rw [pfcRx_used hf]
      exact ⟨fun c hc hbit hm ht => hfind c hbit hm ht (.inl (List.mem_range.mpr hc)), hpause⟩
    · rw [execPauseRefresh_eq hp, if_pos hx]
    · rw [execPauseRefresh_eq hp, if_neg (by rw [hx]; decide)]
    · rw [execAddressAgeOut_eq he]
      exact ⟨fun h => by rw [if_neg h], fun h => by rw [if_pos h]⟩
  · refine ⟨fun f n hf => execNetFrameRx_fault hp hup hl hf, fun f => ⟨frameFault_coding, frameFault_short, frameFault_long,
        fun h hn hm hfcs => ?_, fun h hn hm hfcs => ?_⟩, fun f hf hw hpow => ?_, fun f hf hpow hw => ?_,
      fun f hf hh hptp hs => execHostFrameTx_host hp hup hl hf hh hptp hs, execHostFrameTx_none, nextFrame_paused,
      fun hn f hq hothers hc => execRxDmaComplete_discard hp hn hq hothers hc,
      fun hn f flow slot u hq hothers hc hslot hoffer => ?_, execRxDmaComplete_none⟩
    · rw [frameFault_length h hn hm, hfcs]; rfl
    · rw [frameFault_length h hn hm, hfcs]; rfl
    · rw [execNetFrameRx_good hp hup hl hf hw, if_neg hpow]
    · rw [execNetFrameRx_good hp hup hl hf hw, if_pos hpow]
    · have hnet : getNet u port = { getNet s port with hostQ := [] } := by
        have h := weirOffer_net f.cls flow 0 (frameLength f.bytes) port (slotAddr s slot)
          (setNet port { getNet s port with hostQ := [] } s)
        rw [hoffer] at h
        unfold getNet
        rw [h]
        exact getNet_setNet_same s port _
      obtain ⟨hmem, hweir⟩ := checkFill_kept port (writeBytes (slotAddr s slot) f.bytes (noteFrame f slot u))
      obtain ⟨b, hb⟩ := getNet_checkFill port port (writeBytes (slotAddr s slot) f.bytes (noteFrame f slot u))
      refine ⟨_, execRxDmaComplete_taken hp hn hq hothers hc hslot hoffer, hmem, ?_, _, congrArg (·.buffers) hweir⟩
      rw [hb]
      exact congrArg (·.hostQ) hnet

end Sys2Proof.Machine
end

section
/-! PROOFS. The `net` messages (O34). -/

namespace Sys2Proof.Machine
open Host

/-! ### Settings of a port -/

/-- What `net.port.cfg` makes of its port. -/
def netPortSet (x : NetPort) (mode maxF part flags mask : Nat) : NetPort :=
  let y : NetPort := { x with mode := mode, maxFrame := maxF, partition := part, flags := flags % 16, pfcMask := mask }
  let z : NetPort := if obeysPause y then y else { y with pauseEnd := none }
  if flags.testBit 2 then z else { z with pfcEnd := [] }

/-- The PFC bit is the request's own, since four flag bits are kept. -/
theorem netPortSet_eq (x : NetPort) (mode maxF part flags mask : Nat) :
    let y : NetPort := { x with mode := mode, maxFrame := maxF, partition := part, flags := flags % 16, pfcMask := mask }
    let z : NetPort := if obeysPause y then y else { y with pauseEnd := none }
    netPortSet x mode maxF part flags mask = if usesPfc z then z else { z with pfcEnd := [] } := by
  intro y z
  have hbit : (flags % 16).testBit 2 = flags.testBit 2 := by simpa using Nat.testBit_mod_two_pow flags 4 2
  have hpfc : usesPfc z = flags.testBit 2 := by
    unfold z usesPfc
    split <;> exact hbit
  rw [hpfc]
  rfl

section
variable {rq : Request} {s : State}

/-- The frame length and partition asked for, when the part has them. -/
theorem netPortCfgBody_ok (hport : byteAt rq.payload 0 < 4) (hmode : byteAt rq.payload 1 ≤ 4)
    (hlow : 64 ≤ fieldLE rq.payload 2 2) (hhigh : fieldLE rq.payload 2 2 ≤ 9216) (hpart : 4 ≤ fieldLE rq.payload 4 2)
    (hpart' : fieldLE rq.payload 4 2 ≤ 1024)
    (hsizes : portSizes s (byteAt rq.payload 0) (fieldLE rq.payload 4 2) (fieldLE rq.payload 2 2) (byteAt rq.payload 6)
      = (fieldLE rq.payload 4 2, fieldLE rq.payload 2 2)) :
    let port := byteAt rq.payload 0
    let t := if byteAt rq.payload 1 ≠ (getNet s port).mode ∨ fieldLE rq.payload 4 2 ≠ (getNet s port).partition
      then dropLink port s else s
    netPortCfgBody rq s = replyOk (bytesLE 2 (fieldLE rq.payload 2 2) ++ bytesLE 2 (fieldLE rq.payload 4 2))
      (checkFill port (setNet port (netPortSet (getNet t port) (byteAt rq.payload 1) (fieldLE rq.payload 2 2)
        (fieldLE rq.payload 4 2) (byteAt rq.payload 6) (byteAt rq.payload 7)) t)) := by
  intro port t
  have hfirst : firstBad [(0, decide (byteAt rq.payload 0 < 4)), (1, decide (byteAt rq.payload 1 ≤ 4)),
      (2, decide (64 ≤ fieldLE rq.payload 2 2) && decide (fieldLE rq.payload 2 2 ≤ 9216)),
      (4, decide (4 ≤ fieldLE rq.payload 4 2) && decide (fieldLE rq.payload 4 2 ≤ 1024))] = none := by
    simp [firstBad, hport, hmode, hlow, hhigh, hpart, hpart']
  unfold netPortCfgBody
  simp only [hfirst, hsizes]
  rw [if_neg (Nat.lt_irrefl _), if_neg (Nat.lt_irrefl _), netPortSet_eq]
  rfl

theorem netPortCfgBody_port (hport : 4 ≤ byteAt rq.payload 0) : netPortCfgBody rq s = badArg 0 s := by
  simp [netPortCfgBody, firstBad, Nat.not_lt.mpr hport]

theorem portSizes_le (port part maxF flags : Nat) :
    (portSizes s port part maxF flags).1 ≤ part ∧ (portSizes s port part maxF flags).2 ≤ maxF := by
  unfold portSizes
  refine ⟨Nat.min_le_left _ _, ?_⟩
  dsimp only
  split
  · exact (Nat.min_le_left _ _).trans (Nat.min_le_left _ _)
  · exact Nat.min_le_left _ _

theorem netPortStatusBody_ok (hport : byteAt rq.payload 0 < 4) :
    let x := getNet s (byteAt rq.payload 0)
    netPortStatusBody rq s = replyOk (bytesLE 1 (flag x.link) ++ bytesLE 1 x.mode
      ++ bytesLE 1 (if x.mode = 1 then x.partner else 0xFF) ++ [0] ++ bytesLE 4 x.linkDowns) s :=
  if_neg (Nat.not_le.mpr hport)

/-! ### Filters and VLAN -/

theorem netFilterSetBody_hash (hport : byteAt rq.payload 0 < 4) (hmem : s.member = .evr8) (hkind : byteAt rq.payload 1 = 1)
    (hlen : 72 ≤ rq.payload.length) :
    netFilterSetBody rq s = replyOk [] (setNet (byteAt rq.payload 0)
      { getNet s (byteAt rq.payload 0) with hash := slice rq.payload 8 64 } s) := by
  simp [netFilterSetBody, firstBad, hport, hmem, hkind, hlen]

theorem netFilterSetBody_pattern (hport : byteAt rq.payload 0 < 4) (hmem : s.member ≠ .evr8)
    (hkind : byteAt rq.payload 1 = 0) (hn : byteAt rq.payload 2 ≤ 15) (hlen : 136 ≤ rq.payload.length)
    (hmask : ((slice rq.payload 8 128).all (· == 0)) = false) :
    netFilterSetBody rq s = replyOk [] (setNet (byteAt rq.payload 0) { getNet s (byteAt rq.payload 0) with
      patterns := mapSet (getNet s (byteAt rq.payload 0)).patterns (byteAt rq.payload 2)
        (slice rq.payload 8 128, BitVec.ofNat 32 (fieldLE rq.payload 4 4)) } s) := by
  have hfirst : firstBad [(0, decide (byteAt rq.payload 0 < 4)), (1, byteAt rq.payload 1 == if s.member = .evr8 then 1 else 0),
      (2, byteAt rq.payload 1 == 1 || decide (byteAt rq.payload 2 ≤ 15)),
      (8, decide (8 + (if byteAt rq.payload 1 = 1 then 64 else 128) ≤ rq.payload.length))] = none := by
    simp [firstBad, hport, hmem, hkind, hn, hlen]
  unfold netFilterSetBody
  simp only [hfirst]
  rw [if_neg (by omega : ¬ byteAt rq.payload 1 = 1), if_neg (by rw [hmask]; decide)]

theorem netVlanCfgBody_ok (hport : byteAt rq.payload 0 < 4) (hvid : fieldLE rq.payload 2 2 ≤ 4095)
    (hmap : ∀ i, i < 8 → byteAt rq.payload (4 + i) ≤ 7) :
    netVlanCfgBody rq s = replyOk [] (setNet (byteAt rq.payload 0) { getNet s (byteAt rq.payload 0) with
      pvid := fieldLE rq.payload 2 2, prioMap := ((List.range 8).map fun i => byteAt rq.payload (4 + i)) } s) := by
  have hfirst : firstBad ([(0, decide (byteAt rq.payload 0 < 4)), (2, decide (fieldLE rq.payload 2 2 ≤ 4095))]
      ++ ((List.range 8).map fun i => byteAt rq.payload (4 + i)).zipIdx.map fun e => (4 + e.2, decide (e.1 ≤ 7))) = none := by
    simp [List.range_succ, firstBad, hport, hvid, hmap 0 (by decide), hmap 1 (by decide), hmap 2 (by decide),
      hmap 3 (by decide), hmap 4 (by decide), hmap 5 (by decide), hmap 6 (by decide), hmap 7 (by decide)]
  unfold netVlanCfgBody
  simp only [hfirst]

/-! ### Management settings -/

theorem applyMgmt_mgmt (m : Mgmt) : (applyMgmt m s).msg.ncp.mgmt = m := by
  have hall : ∀ (ss : AMap Session) (t : State), (ss.foldl (fun t e => endSession e.1 t) t).msg.ncp.mgmt = t.msg.ncp.mgmt := by
    intro ss
    induction ss with
    | nil => exact fun t => rfl
    | cons e ss ih => exact fun t => ih (endSession e.1 t)
  exact hall _ _

theorem netMgmtCfgBody_off (hsender : rq.sender ≠ 0x8000) (hport : byteAt rq.payload 0 = 0xFF) :
    netMgmtCfgBody rq s = replyOk [] s := by
  simp [netMgmtCfgBody, firstBad, hport, hsender]

theorem netMgmtCfgBody_port (hport : byteAt rq.payload 0 ≠ 0xFF) (hport' : 4 ≤ byteAt rq.payload 0) :
    netMgmtCfgBody rq s = badArg 0 s := by
  simp [netMgmtCfgBody, firstBad, hport, Nat.not_lt.mpr hport']

/-- Served management settings apply after the response; those of a UDP session first let it leave. -/
theorem execNetMgmtCfg_eq (h : served netMgmtCfgOp rq s = true) :
    exec (.netMgmtCfg rq) s = .next (if (netMgmtCfgBody rq s).code == codeOk then
        applyMgmt (mgmtOf rq.payload) (if rq.sender = 0x20 then flushSession rq.session (serve netMgmtCfgOp rq s)
          else serve netMgmtCfgOp rq s)
      else serve netMgmtCfgOp rq s) := by
  obtain ⟨hn, hg⟩ := (served_iff _ _ _).mp h
  change execNetMgmtCfg rq s = _
  unfold execNetMgmtCfg
  dsimp only
  rw [hn, hg, Option.isNone_none, Bool.true_and, Bool.true_and]

theorem netCountersReadBody_ok (hport : byteAt rq.payload 0 < 4) (hn : 1 ≤ byteAt rq.payload 2)
    (hend : byteAt rq.payload 1 + byteAt rq.payload 2 ≤ 64) :
    netCountersReadBody rq s = replyOk ((List.range (byteAt rq.payload 2)).flatMap fun i =>
      bytesLE 8 (counter s (0x4000 + 0x40 * byteAt rq.payload 0 + (byteAt rq.payload 1 + i)))) s := by
  have h125 : byteAt rq.payload 2 ≤ 125 := by omega
  have hfirst : firstBad [(0, decide (byteAt rq.payload 0 < 4)), (2, decide (1 ≤ byteAt rq.payload 2)
      && decide (byteAt rq.payload 2 ≤ 125) && decide (byteAt rq.payload 1 + byteAt rq.payload 2 ≤ 64))] = none := by
    simp [firstBad, hport, hn, h125, hend]
  unfold netCountersReadBody
  simp only [hfirst, netCounter, netId]

end

/-- Settles O34. -/
theorem networkMessages : Obligations.NetworkMessages := by
  unfold Obligations.NetworkMessages
  intro rq s
  refine ⟨fun h hport hmode hlow hhigh hpart hpart' hsizes => ?_, fun h hport => next_badArg h (netPortCfgBody_port hport),
    portSizes_le _, fun h hport => next_answered h rfl (netPortStatusBody_ok hport),
    fun h hport hmem hkind hlen => next_recorded h rfl (netFilterSetBody_hash hport hmem hkind hlen),
    fun h hport hmem hkind hn hlen hmask => next_recorded h rfl (netFilterSetBody_pattern hport hmem hkind hn hlen hmask),
    fun h hport hvid hmap => next_recorded h rfl (netVlanCfgBody_ok hport hvid hmap),
    fun h hs hs' hport => ?_, fun h hport hport' => ?_, applyMgmt_mgmt,
    fun h hport hn hend => next_answered h rfl (netCountersReadBody_ok hport hn hend)⟩
  · exact next_recorded h rfl (netPortCfgBody_ok hport hmode hlow hhigh hpart hpart' hsizes)
  · have hb := netMgmtCfgBody_off (s := s) hs' hport
    rw [execNetMgmtCfg_eq h, hb, if_pos (by rfl), if_neg hs]
    exact congrArg (fun t => Outcome.next (applyMgmt (mgmtOf rq.payload) t)) (serve_recorded netMgmtCfgOp rq s s [] [] h rfl hb)
  · have hb := netMgmtCfgBody_port (s := s) hport hport'
    rw [execNetMgmtCfg_eq h, hb, if_neg (by exact ne_true_of_eq_false rfl)]
    exact next_badArg h hb

end Sys2Proof.Machine
end

section
/-! PROOFS. The Weir (O35). -/

namespace Sys2Proof.Machine
open Host

/-! ### Admission -/

section
variable {q flow : Nat} {s : State}

theorem getQueue_countBy (id n q : Nat) (s : State) : getQueue (countBy id n s) q = getQueue s q := rfl

/-- A flow that becomes ready leaves the items of its queue. -/
theorem weirReady_items (q flow : Nat) (s : State) :
    (getQueue (weirReady q flow s) q).items = (getQueue s q).items := by
  unfold weirReady
  dsimp only
  split
  · rfl
  · rw [getQueue_setQueue_same]

/-- The descriptor of an item that queue `q` takes. -/
def weirItem (s : State) (flow kind len src data : Nat) : WeirItem :=
  { index := ((List.range 16384).find? fun i => !weirUsed s i).getD 0, flow := flow, kind := kind, len := len, src := src
    data := data, at_ := s.msg.weir.arrivals, flags := 0, sec := 0, ns := 0, frac := 0 }

theorem weirOffer_taken (kind len src data : Nat) (h : weirMayTake s q = true) :
    (weirOffer q flow kind len src data s).2 = true
      ∧ (getQueue (weirOffer q flow kind len src data s).1 q).items
        = (getQueue s q).items ++ [weirItem s flow kind len src data] := by
  unfold weirOffer
  dsimp only
  rw [if_pos h]
  refine ⟨rfl, (weirReady_items q flow _).trans ?_⟩
  change (getQueue (setQueue q _ s) q).items = _
  rw [getQueue_setQueue_same]
  rfl

/-- A refused item sets the queue's back-pressure and is not queued. -/
theorem weirOffer_held (kind len src data : Nat) (h : weirMayTake s q = false) :
    (weirOffer q flow kind len src data s).2 = false
      ∧ getQueue (weirOffer q flow kind len src data s).1 q = { getQueue s q with bp := true } := by
  have hcount : ∀ t : State,
      getQueue (if weirFree t = 0 then count 0x6080 t else t) q = getQueue t q := by
    intro t
    split <;> rfl
  have hsource : ∀ t : State,
      getQueue (if q = 13 then count 0x6081 t else if q = 14 then count 0x6082 t else t) q = getQueue t q := by
    intro t
    split_ifs <;> rfl
  have hbp : getQueue (if (getQueue s q).bp then s
      else count (0x6001 + 4 * q) (setQueue q { getQueue s q with bp := true } s)) q = { getQueue s q with bp := true } := by
    cases hb : (getQueue s q).bp with
    | true => rw [if_pos rfl, ← hb]
    | false => exact getQueue_setQueue_same s q _
  unfold weirOffer
  dsimp only
  rw [if_neg (by rw [h]; decide)]
  exact ⟨rfl, (hsource _).trans ((hcount _).trans hbp)⟩

end

/-! ### Dispatch and completion -/

section
variable {q : Nat} {s : State}

theorem execWeirDispatch_some {flow t : Nat} {rest : List (Nat × Nat)} {it : WeirItem} (hq : weirNext s = some q)
    (hr : (getQueue s q).ready = (flow, t) :: rest)
    (hi : ((getQueue s q).items.find? fun i => i.flow == flow) = some it) :
    let u := setQueue q { getQueue s q with ready := rest, items := (getQueue s q).items.erase it, bp := false } s
    exec .weirDispatch s = .next { u with
      msg.weir.inService := s.msg.weir.inService ++ [(it.index, flow, q)]
      msg.weir.lastAt := mapSet s.msg.weir.lastAt (weirPrio u q) q
      msg.weir.promoted := s.msg.weir.promoted.erase q } := by
  intro u
  change execWeirDispatch s = _
  unfold execWeirDispatch
  simp only [hq, hr, hi]
  rfl

theorem execWeirDispatch_none (hq : weirNext s = none) : exec .weirDispatch s = .next s := by
  change execWeirDispatch s = _
  unfold execWeirDispatch
  simp only [hq]

/-- The next queue of a priority level, round robin. -/
def weirRobin (s : State) (p : Nat) : Option Nat :=
  let l := (weirWaiting s).filter fun q => weirPrio s q == p
  match l.find? (fun q => decide (mapGet (fun _ => 32) s.msg.weir.lastAt p < q)) with
  | some q => some q
  | none => l.head?

theorem weirRobin_prio {p : Nat} (h : weirRobin s p = some q) : weirPrio s q = p := by
  have hmem : q ∈ (weirWaiting s).filter fun q => weirPrio s q == p := by
    unfold weirRobin at h
    dsimp only at h
    split at h
    · next hf =>
      cases h
      exact List.mem_of_find?_eq_some hf
    · exact List.mem_of_head? h
  exact eq_of_beq (List.mem_filter.mp hmem).2

theorem weirRobin_isSome {p r : Nat} (hr : r ∈ weirWaiting s) (hp : weirPrio s r = p) : (weirRobin s p).isSome = true := by
  have hmem : r ∈ (weirWaiting s).filter fun q => weirPrio s q == p :=
    List.mem_filter.mpr ⟨hr, beq_iff_eq.mpr hp⟩
  unfold weirRobin
  dsimp only
  split
  · rfl
  · exact List.isSome_head?.mpr (List.ne_nil_of_mem hmem)

/-- While a queue of priority 7 has a ready flow, a queue of that level is next. -/
theorem weirNext_top {r : Nat} (hr : r < 32) (hready : (getQueue s r).ready ≠ []) (hp : weirPrio s r = 7)
    (h : weirNext s = some q) : weirPrio s q = 7 := by
  have hwait : r ∈ weirWaiting s :=
    List.mem_filter.mpr ⟨List.mem_range.mpr hr, by simpa [List.isEmpty_iff] using hready⟩
  obtain ⟨t, ht⟩ := Option.isSome_iff_exists.mp (weirRobin_isSome hwait hp)
  have hnext : weirNext s = some t := by
    unfold weirRobin at ht
    dsimp only at ht
    unfold weirNext
    split at ht
    · next hf =>
      simp only [hf]
      exact ht
    · next hf => simp only [hf, ht]
  rw [hnext] at h
  cases h
  exact weirRobin_prio ht

/-- An item in service leaves it with its receive buffer. -/
theorem weirFinish_found {index : Nat} {e : Nat × Nat × Nat} (he : (s.msg.weir.inService.find? fun x => x.1 == index) = some e) :
    let u := { s with
      msg.weir.inService := s.msg.weir.inService.erase e, msg.weir.buffers := mapErase s.msg.weir.buffers index }
    weirFinish index s = match weirOldest u e.2.1 with
      | none => u
      | some r => weirReady r e.2.1 u := by
  intro u
  unfold weirFinish
  simp only [he]
  rfl

theorem execWeirDone_cluster {index : Nat} (h : index < 16384) :
    exec (.weirDone .controlCluster index) s = .next (busOk [] (weirFinish index s)) := by
  change execWeirDone .controlCluster index s = _
  unfold execWeirDone
  dsimp only
  rw [Nat.mod_eq_of_lt h]

theorem execWeirDone_dma {index : Nat} (h : index < 16384) :
    exec (.weirDone .weirDma index) s = .next (weirFinish index s) := by
  change execWeirDone .weirDma index s = _
  unfold execWeirDone
  dsimp only
  rw [Nat.mod_eq_of_lt h]

theorem execWeirDone_other {m : Master} {index : Nat} (hc : m ≠ .controlCluster) (hd : m ≠ .weirDma) :
    exec (.weirDone m index) s = .next (busErr s) := by
  cases m with
  | controlCluster => exact absurd rfl hc
  | weirDma => exact absurd rfl hd
  | _ => rfl

/-! ### Promotion and settings -/

theorem execWeirAgePromotion_due (ha : weirAge s ≠ 0) (hq : q < 32) (hr : (getQueue s q).ready ≠ [])
    (hp : s.msg.weir.promoted.contains q = false) : exec (.weirAgePromotion q) s =
      .next (count (0x6003 + 4 * q) { s with msg.weir.promoted := s.msg.weir.promoted ++ [q] }) := by
  change execWeirAgePromotion q s = _
  unfold execWeirAgePromotion
  rw [if_pos ⟨ha, hq, by simpa [List.isEmpty_iff] using hr, by rw [hp]; rfl⟩]

theorem execWeirAgePromotion_off (ha : weirAge s = 0) : exec (.weirAgePromotion q) s = .next s := by
  change execWeirAgePromotion q s = _
  unfold execWeirAgePromotion
  rw [if_neg fun h => h.1 ha]

/-- Settings within their ranges are taken as they are. -/
theorem weirCfgOp_body_ok {rq : Request} (hq : byteAt rq.payload 0 = q) (hq' : q < 32) (h14 : q ≠ 14) (h15 : q ≠ 15)
    (hprio : byteAt rq.payload 1 ≤ 7) (hlow : 1 ≤ fieldLE rq.payload 2 2) (hhigh : fieldLE rq.payload 2 2 ≤ 16384)
    (hres : fieldLE rq.payload 4 2 ≤ 2047)
    (hage : fieldLE rq.payload 6 2 = 0 ∨ (100 ≤ fieldLE rq.payload 6 2 ∧ fieldLE rq.payload 6 2 ≤ 10000))
    (htotal : (((List.range 32).filter (· ≠ q)).map (weirReserve s)).sum + fieldLE rq.payload 4 2 ≤ 16384) :
    weirCfgOp.body rq s = replyOk (bytesLE 1 q ++ bytesLE 1 (byteAt rq.payload 1) ++ bytesLE 2 (fieldLE rq.payload 2 2)
        ++ bytesLE 2 (fieldLE rq.payload 4 2) ++ bytesLE 2 (fieldLE rq.payload 6 2))
      (regPut (weirAgeAddr s) (fieldLE rq.payload 6 2) (regPut (weirCfgAddr s q)
        (byteAt rq.payload 1 + fieldLE rq.payload 2 2 * 16 + fieldLE rq.payload 4 2 * 2 ^ 19) s)) := by
  have hp : (if q = 14 ∨ q = 15 then 7 else min 7 (byteAt rq.payload 1)) = byteAt rq.payload 1 := by
    rw [if_neg (by omega)]
    omega
  have hl : clampNat 1 16384 (fieldLE rq.payload 2 2) = fieldLE rq.payload 2 2 := by
    unfold clampNat
    omega
  have hr : min 2047 (fieldLE rq.payload 4 2) = fieldLE rq.payload 4 2 := by omega
  have ha : (if fieldLE rq.payload 6 2 = 0 then 0 else clampNat 100 10000 (fieldLE rq.payload 6 2))
      = fieldLE rq.payload 6 2 := by
    unfold clampNat
    split <;> omega
  unfold weirCfgOp
  simp only [hq, hp, hl, hr, ha]
  rw [if_neg (by omega), if_neg (by omega)]
  simp [firstBad, replyUsed]

theorem weirCfgOp_body_queue {rq : Request} (hq : 32 ≤ byteAt rq.payload 0) : weirCfgOp.body rq s = badArg 0 s := by
  unfold weirCfgOp
  dsimp only
  rw [if_pos hq]

end

/-- Settles O35. -/
theorem weirQueues : Obligations.WeirQueues := by
  unfold Obligations.WeirQueues
  intro q s
  refine ⟨fun flow kind len src data h => ?_, fun flow kind len src data h => ?_,
    fun hq flow t rest it hr hi => execWeirDispatch_some hq hr hi, execWeirDispatch_none,
    fun p hp hr hprio hq => weirNext_top hp hr hprio hq, fun index e hidx he => ?_,
    fun m index hc hd => execWeirDone_other hc hd, execWeirAgePromotion_due, execWeirAgePromotion_off,
    fun rq h hq => ⟨fun hq' h14 h15 hprio hlow hhigh hres hage htotal => ?_, fun hq' => ?_⟩⟩
  · obtain ⟨htaken, hitems⟩ := weirOffer_taken (flow := flow) kind len src data h
    exact ⟨htaken, _, hitems, rfl, rfl, rfl, rfl, rfl⟩
  · obtain ⟨hheld, hqueue⟩ := weirOffer_held (flow := flow) kind len src data h
    rw [hqueue]
    exact ⟨hheld, rfl, rfl⟩
  · intro u
    rw [execWeirDone_cluster hidx, execWeirDone_dma hidx, weirFinish_found he]
    refine ⟨fun hnone => ?_, fun r hr => ?_⟩
    · rw [hnone]
      exact ⟨rfl, rfl⟩
    · rw [hr]
  · subst hq
    exact next_recorded h rfl (weirCfgOp_body_ok rfl hq' h14 h15 hprio hlow hhigh hres hage htotal)
  · exact next_badArg h (weirCfgOp_body_queue (hq.symm ▸ hq'))

end Sys2Proof.Machine
end

section
/-! PROOFS. PTP and the media clock (O36). -/

namespace Sys2Proof.Machine
open Host

/-! ### Settings and adjustments -/

theorem byteAt_le (bs : List Byte) (i : Nat) : byteAt bs i ≤ 255 := Nat.le_of_lt_succ (BitVec.isLt _)

section
variable {rq : Request} {s : State}

theorem timePtpCfgBody_ok (hprofile : byteAt rq.payload 0 = 0) (hclock : byteAt rq.payload 2 ≤ 2)
    (hmask : byteAt rq.payload 4 < 16)
    (hports : byteAt rq.payload 4 = 0 ∨ byteAt rq.payload 2 ≠ 0 ∨ maskCount (byteAt rq.payload 4) = 1)
    (h1 : s.time.ptp.servo ≠ 1) (h2 : s.time.ptp.servo ≠ 2) :
    timePtpCfgBody rq s = replyOk [] (setPtp { s.time.ptp with
      profile := 0, domain := byteAt rq.payload 1, clock := byteAt rq.payload 2
      twoStep := (byteAt rq.payload 3).testBit 0, p2p := (byteAt rq.payload 3).testBit 1
      slaveOnly := (byteAt rq.payload 3).testBit 2, mask := byteAt rq.payload 4, prio1 := byteAt rq.payload 5
      prio2 := byteAt rq.payload 6, servo := (if byteAt rq.payload 4 = 0 then 3 else 0), gm := false
      pstate := (if byteAt rq.payload 4 = 0 then 3 else 1), gmId := 0, offset := 0, okRun := 0, badRun := 0, seqs := []
      sent := [], sync := none, syncDiff := 0, peer := [], pathDelay := 0, gmKey := [] } s) := by
  have hroles : (byteAt rq.payload 4 == 0 || byteAt rq.payload 2 != 0 || maskCount (byteAt rq.payload 4) == 1) = true := by
    simpa [or_assoc] using hports
  have hfirst : firstBad [(0, decide (0 ≤ 3)), (1, decide (byteAt rq.payload 1 ≤ 255)),
      (2, decide (byteAt rq.payload 2 ≤ 2)), (3, 0 != 3 || (byteAt rq.payload 3).testBit 1),
      (4, decide (byteAt rq.payload 4 < 16) && (byteAt rq.payload 4 == 0 || byteAt rq.payload 2 != 0
        || maskCount (byteAt rq.payload 4) == 1))] = none := by
    rw [hroles]
    simp [firstBad, byteAt_le, hclock, hmask]
  unfold timePtpCfgBody
  simp only [hprofile, if_true, hfirst]
  rw [if_neg (by simp), if_neg (by omega)]

theorem timePtpCfgBody_profile (hprofile : 3 < byteAt rq.payload 0) : timePtpCfgBody rq s = badArg 0 s := by
  simp [timePtpCfgBody, firstBad, Nat.not_le.mpr hprofile]

theorem timeAdjustBody_denied (hmask : s.time.ptp.mask ≠ 0) (hgm : s.time.ptp.gm = false) :
    timeAdjustBody rq s = refuse codeDenied 1 noField s := by
  unfold timeAdjustBody
  dsimp only
  rw [if_pos (by simp [hmask, hgm])]

section
variable (hrule : s.time.ptp.mask = 0 ∨ s.time.ptp.gm = true)
include hrule

theorem timeAdjustBody_allowed : ¬ (!(s.time.ptp.mask == 0 || s.time.ptp.gm)) = true := by
  obtain h | h := hrule <;> simp [h]

theorem timeAdjustBody_incr (hkind : byteAt rq.payload 0 = 0) (hlow : 27460302904 ≤ fieldLE rq.payload 8 8)
    (hhigh : fieldLE rq.payload 8 8 ≤ 27515278485) :
    timeAdjustBody rq s = replyOk [] (setPtp { s.time.ptp with incr := fieldLE rq.payload 8 8 } s) := by
  have hclamp : clampNat incrMin incrMax (fieldLE rq.payload 8 8) = fieldLE rq.payload 8 8 := by
    unfold clampNat incrMin incrMax
    omega
  unfold timeAdjustBody
  simp only [hkind, hclamp]
  rw [if_neg (timeAdjustBody_allowed hrule), if_pos trivial]
  rfl

theorem timeAdjustBody_offset (hkind : byteAt rq.payload 0 = 1) (hsize : (fieldS rq.payload 8 8).natAbs < 1000000000)
    (hpos : 0 ≤ (s.time.ptp.sec * 1000000000 + s.time.ptp.ns : Nat) + fieldS rq.payload 8 8) :
    timeAdjustBody rq s = replyOk [] (setPtp (ptpOffset (fieldS rq.payload 8 8) s.time.ptp) s) := by
  unfold timeAdjustBody
  simp only [hkind]
  rw [if_neg (timeAdjustBody_allowed hrule), if_neg (by unfold ptpNs; omega)]

theorem timeAdjustBody_time (hkind : byteAt rq.payload 0 = 2) (hns : fieldLE rq.payload 16 4 < 1000000000) :
    timeAdjustBody rq s = replyOk [] (setPtp { s.time.ptp with
      sec := fieldLE rq.payload 8 8, ns := fieldLE rq.payload 16 4, sub := 0 } s) := by
  unfold timeAdjustBody
  simp only [hkind]
  rw [if_neg (timeAdjustBody_allowed hrule), if_neg (by omega)]

theorem timeAdjustBody_kind (hkind : 2 < byteAt rq.payload 0) : timeAdjustBody rq s = badArg 0 s := by
  unfold timeAdjustBody
  dsimp only
  rw [if_neg (timeAdjustBody_allowed hrule)]
  split
  · omega
  · omega
  · omega
  · rfl

end

theorem timeMclkCfgBody_local (href : byteAt rq.payload 0 = 3) :
    timeMclkCfgBody rq s = replyOk [] (setMclk { s.time.mclk with
      ref := 3, tdmPort := byteAt rq.payload 1, mclkOut := (byteAt rq.payload 2).testBit 0, st := 3 } s) := by
  unfold timeMclkCfgBody
  simp only [href]
  rw [if_neg (by decide), if_neg (by omega), if_neg (by omega), if_neg (by omega)]
  rfl

theorem timeMclkCfgBody_ptp (href : byteAt rq.payload 0 = 0) (hst : s.time.mclk.st = 0) :
    timeMclkCfgBody rq s = replyOk [] (setMclk { s.time.mclk with
      ref := 0, tdmPort := byteAt rq.payload 1, mclkOut := (byteAt rq.payload 2).testBit 0, st := 0 } s) := by
  unfold timeMclkCfgBody
  simp only [href, hst, ite_self]
  rw [if_neg (by decide), if_neg (by omega), if_neg (by omega), if_neg (by omega)]
  rfl

theorem timeMclkCfgBody_ref (href : 3 < byteAt rq.payload 0) : timeMclkCfgBody rq s = badArg 0 s := by
  unfold timeMclkCfgBody
  dsimp only
  rw [if_pos href]

end

/-! ### PTP messages -/

section
variable {port : Nat} {msg : PtpMessage} {s : State}

theorem execPtpMessageRx_domain (hn : nerrisUp s = true) (hrun : s.time.ptp.running = true) (hp : port < 4)
    (hd : msg.domain ≠ s.time.ptp.domain) :
    exec (.ptpMessageRx port msg) s = .next (count (0x4200 + 0x20 * port + 10) s) := by
  change execPtpMessageRx port msg s = _
  unfold execPtpMessageRx
  dsimp only
  rw [if_neg (by simp [hn, hrun]; omega), if_pos hd]
  rfl

/-- A message of the domain, of a type that is counted, at a port of the instance. -/
theorem execPtpMessageRx_served {k : Nat} (hn : nerrisUp s = true) (hrun : s.time.ptp.running = true) (hp : port < 4)
    (hd : msg.domain = s.time.ptp.domain) (hk : ptpRxCounter msg.msgType = some k)
    (hmask : s.time.ptp.mask.testBit port = true) :
    exec (.ptpMessageRx port msg) s = .next (ptpServe port msg (ptpCount port k s)) := by
  change execPtpMessageRx port msg s = _
  unfold execPtpMessageRx
  simp only [hk]
  rw [if_neg (by simp [hn, hrun]; omega), if_neg (not_not_intro hd), if_pos hmask]

theorem ptpServe_pdelay (htype : msg.msgType = 2) (hp2p : s.time.ptp.p2p = true) :
    ptpServe port msg s = emit (.ptp port 5 msg.seq) s := by
  unfold ptpServe
  simp only [htype]
  rw [if_pos hp2p]

/-- A two-step Sync at the slave port waits for its Follow_Up. -/
theorem ptpServe_sync (htype : msg.msgType = 0) (hst : s.time.ptp.pstate = 9) (hport : s.time.ptp.slavePort = port)
    (htwo : msg.twoStep = true) :
    ptpServe port msg s = setPtp { s.time.ptp with
      sync := some (msg.seq, (msg.rxSec * 1000000000 + msg.rxNs : Nat) - msg.correction / 65536) } s := by
  unfold ptpServe
  simp only [htype]
  rw [if_neg (by simp [hst, hport]), if_pos htwo]

theorem execPtpMessageInterval_eq {kind : Nat} (hn : nerrisUp s = true) (hp : port < 4)
    (hs : sendsPtp s.time.ptp port kind = true) :
    let n := mapGet (fun _ => 0) s.time.ptp.seqs (kind * 4 + port)
    exec (.ptpMessageInterval port kind) s = .next (queuePtp port kind n
      (setPtp { s.time.ptp with seqs := mapSet s.time.ptp.seqs (kind * 4 + port) ((n + 1) % 65536) } s)) := by
  intro n
  change execPtpMessageInterval port kind s = _
  unfold execPtpMessageInterval
  dsimp only
  rw [if_neg (by simp [hn, hs]; omega)]

theorem execPtpTsqSeqRead_eq {m : Master} (hp : port < 4) (hup : shoreUp s = true) :
    exec (.ptpTsqSeqRead m port 4) s = .next (ptpTsqRead m port s) := by
  change execPtpTsqSeqRead m port 4 s = _
  unfold execPtpTsqSeqRead
  rw [if_neg (by decide), if_neg (by simp [hup]; omega), if_neg (by decide)]

theorem ptpTsqRead_cluster {e : Nat × Nat × Nat × Nat} {rest : List (Nat × Nat × Nat × Nat)}
    (hq : (getNet s port).tsq = e :: rest) :
    ptpTsqRead .controlCluster port s = busOk [BitVec.ofNat 32 (e.1 + 65536)]
      (setNet port { getNet s port with tsq := rest, tsqPopped := e, tsqValid := true } s) := by
  unfold ptpTsqRead
  simp only [hq]
  rfl

end

/-! ### Servo, holdover and the synthesiser's states -/

section
variable {s : State}

theorem reports_timeLock (ref st : Nat) (s : State) : ReportsOnly s (timeLock ref st s) := reports_event _ _ _ _ _ _

theorem ReportsOnly.time {s t : State} (h : ReportsOnly s t) : t.time = s.time := by
  obtain ⟨cs, mb, nc, w, rfl⟩ := h
  rfl

theorem mclkTo_taken {st : Nat} (hn : nerrisUp s = true) (href : s.time.mclk.ref ≠ 3) (hst : s.time.mclk.st ≠ st) :
    let t := setMclk { s.time.mclk with st := st, slewing := if st = 1 then false else s.time.mclk.slewing } s
    mclkTo st s = timeLock s.time.mclk.ref st (if st = 0 then count 0x4282 t else if st = 2 then count 0x4281 t else t) := by
  intro t
  unfold mclkTo
  dsimp only
  rw [if_neg (by simp [hn, href, hst])]

theorem mclkTo_local {st : Nat} (href : s.time.mclk.ref = 3) : mclkTo st s = s := by
  unfold mclkTo
  dsimp only
  rw [if_pos (.inr (.inl href))]

/-- The synthesiser's states leave the PTP clock. -/
theorem mclkTo_ptp (st : Nat) (s : State) : (mclkTo st s).time.ptp = s.time.ptp := by
  unfold mclkTo
  dsimp only
  split
  · rfl
  · rw [(reports_timeLock _ _ _).time]
    split_ifs <;> rfl

theorem refLost_ptp (ref port : Nat) (s : State) : (refLost ref port s).time.ptp = s.time.ptp := by
  unfold refLost
  split
  · exact mclkTo_ptp _ _
  · rfl

theorem servoTo_ptp (st : Nat) (s : State) : (servoTo st s).time.ptp = { s.time.ptp with servo := st } := by
  unfold servoTo
  split
  · next h => rw [← h]
  · rw [(reports_timeLock _ _ _).time]
    rfl

theorem execAnnounceTimeout_eq (hn : nerrisUp s = true) (hmask : s.time.ptp.mask ≠ 0) (hgm : s.time.ptp.gm = false) :
    exec .announceTimeout s = .next (becomeMaster (refLost 0 0 (servoTo 2 s))) := by
  change execAnnounceTimeout s = _
  unfold execAnnounceTimeout
  rw [if_neg (by simp [hn, hmask, hgm])]

theorem becomeMaster_slaveOnly (h : s.time.ptp.slaveOnly = true) :
    becomeMaster s = setPtp { s.time.ptp with pstate := 4, gm := false, gmKey := [] } s := by
  unfold becomeMaster
  dsimp only
  rw [if_pos (.inl h)]

/-- A new master keeps the servo's state and the increment. -/
theorem becomeMaster_kept (s : State) :
    (becomeMaster s).time.ptp.servo = s.time.ptp.servo ∧ (becomeMaster s).time.ptp.incr = s.time.ptp.incr := by
  unfold becomeMaster
  dsimp only
  split
  · exact ⟨rfl, rfl⟩
  · exact ⟨rfl, rfl⟩

theorem execMclkLock_eq (h : s.time.mclk.ref = 0 → s.time.ptp.servo = 1) : exec .mclkLock s = .next (mclkTo 1 s) := by
  change execMclkLock s = _
  unfold execMclkLock
  rw [if_neg (by rintro ⟨h0, h1⟩; exact h1 (h h0))]

end

/-- Settles O36. -/
theorem clocks : Obligations.Clocks := by
  unfold Obligations.Clocks
  intro rq s
  refine ⟨fun h => ⟨fun hprofile hclock hmask hports h1 h2 => ?_, fun hprofile => ?_⟩,
    fun h => ⟨fun hmask hgm => ?_, fun hrule => ⟨fun hkind hlow hhigh => ?_, fun hkind hsize hpos => ?_,
      fun hkind hns => ?_, fun hkind => ?_⟩⟩,
    fun h => next_answered h rfl rfl, fun h href => next_recorded h rfl (timeMclkCfgBody_local href),
    fun h href hst => next_recorded h rfl (timeMclkCfgBody_ptp href hst),
    fun h href => next_badArg h (timeMclkCfgBody_ref href),
    fun hn hrun port msg hp => ⟨fun hd => execPtpMessageRx_domain hn hrun hp hd, fun hd htype hmask hp2p => ?_,
      fun hd htype hmask hst hport htwo => ?_⟩,
    fun hn hmask hgm hservo hslave => ?_, fun hn hmask hgm hservo => ⟨_, execAnnounceTimeout_eq hn hmask hgm, ?_, ?_⟩,
    fun port kind hn hp hs => execPtpMessageInterval_eq hn hp hs,
    fun port hp hup e rest hq => ⟨?_, execPtpTsqSeqRead_eq hp hup⟩,
    fun hn href => ⟨fun hst hservo => ?_, fun hst => ?_, fun hst => ?_⟩, fun href => ?_, fun n hrun => ?_⟩
  · exact next_recorded h rfl (timePtpCfgBody_ok hprofile hclock hmask hports h1 h2)
  · exact next_badArg h (timePtpCfgBody_profile hprofile)
  · exact next_refused h (by decide) (by decide) (timeAdjustBody_denied hmask hgm)
  · exact next_answered h rfl (timeAdjustBody_incr hrule hkind hlow hhigh)
  · exact next_answered h rfl (timeAdjustBody_offset hrule hkind hsize hpos)
  · exact next_answered h rfl (timeAdjustBody_time hrule hkind hns)
  · exact next_badArg h (timeAdjustBody_kind hrule hkind)
  · rw [execPtpMessageRx_served (k := 6) hn hrun hp hd (by rw [htype]; rfl) hmask, ptpServe_pdelay (s := ptpCount port 6 s) htype hp2p]
    rfl
  · rw [execPtpMessageRx_served (k := 0) hn hrun hp hd (by rw [htype]; rfl) hmask, ptpServe_sync (s := ptpCount port 0 s) htype hst hport htwo]
    rfl
  · have hservo' : servoTo 2 s = s := if_pos hservo
    rw [execAnnounceTimeout_eq hn hmask hgm, hservo', becomeMaster_slaveOnly (by rw [refLost_ptp]; exact hslave), refLost_ptp]
  · rw [(becomeMaster_kept _).1, refLost_ptp, servoTo_ptp]
  · rw [(becomeMaster_kept _).2, refLost_ptp, servoTo_ptp]
  · rw [execPtpTsqSeqRead_eq hp hup, ptpTsqRead_cluster hq]
  · rw [execMclkLock_eq hservo, mclkTo_taken hn href hst]
    rfl
  · exact congrArg Outcome.next (mclkTo_taken hn href hst)
  · exact congrArg Outcome.next (mclkTo_taken hn href hst)
  · exact ⟨(execMclkLock_eq fun h => absurd (href.symm.trans h) (by decide)).trans (congrArg _ (mclkTo_local href)),
      congrArg Outcome.next (mclkTo_local href), congrArg Outcome.next (mclkTo_local href)⟩
  · exact if_pos (by rw [hrun]; rfl)

end Sys2Proof.Machine
end

section
/-! PROOFS. Stream messages and packets (O37). -/

namespace Sys2Proof.Machine
open Host

/-! ### Adding a stream -/

/-- An audio stream that passes the layout's checks has channels. -/
theorem channels_pos_of_checks {x : Stream} (h : firstBad (streamChecks x) = none) (hk : x.kind ≠ 2) : 0 < x.channels := by
  by_contra hz
  have h0 : x.channels = 0 := by omega
  by_cases hk2 : x.kind ≤ 2
  · simp [streamChecks, firstBad, h0, hk, hk2] at h
  · simp [streamChecks, firstBad, hk2] at h

section
variable {rq : Request} {s : State}

theorem streamRxAddBody_checks {f : Nat} (h : firstBad (streamChecks (streamOf rq.payload)) = some f) :
    streamRxAddBody rq s = badArg f s := by
  unfold streamRxAddBody
  simp only [h]

theorem streamRxAddBody_clash (h : firstBad (streamChecks (streamOf rq.payload)) = none)
    (hkey : (s.net.rx.any fun e => streamKey e.2 == streamKey (streamOf rq.payload)) = true) :
    streamRxAddBody rq s = refuse codeBadArg 4 16 s := by
  unfold streamRxAddBody
  simp only [h, hkey, if_true]

/-- A receive stream with a key, a handle and channels of its own, outside a group and with no report to send. -/
theorem streamRxAddBody_ok {hd first : Nat} (h : firstBad (streamChecks (streamOf rq.payload)) = none)
    (hk : (streamOf rq.payload).kind ≠ 2)
    (hkey : (s.net.rx.any fun e => streamKey e.2 == streamKey (streamOf rq.payload)) = false)
    (hgroup : (streamOf rq.payload).group = 0xFFFF) (hfree : mapFree s.net.rx 128 = some hd)
    (hsum : ((usedRuns s.net.rx).map (·.2)).sum + (streamOf rq.payload).channels ≤ 2048)
    (hrun : freeRun (usedRuns s.net.rx) 2048 (streamOf rq.payload).channels = some first)
    (hjoin : (streamOf rq.payload).kind = 1
      ∨ ipIsGroup (streamOf rq.payload).ipv (streamOf rq.payload).addr.toNat = false)
    {po : Nat} (ho : offsetUsed (fieldLE rq.payload 8 4) (streamOf rq.payload).pkt (rateHz (streamOf rq.payload).rate)
      (rateHz s.time.rate) = (po, false)) :
    streamRxAddBody rq s = replyOk (bytesLE 2 hd ++ bytesLE 2 first ++ bytesLE 4 (samplesNs po (rateHz s.time.rate)))
      (setRx hd { streamOf rq.payload with first := first, po := po, poNs := samplesNs po (rateHz s.time.rate) } s) := by
  have hn : (streamOf rq.payload).channels ≠ 0 := Nat.ne_of_gt (channels_pos_of_checks h hk)
  have hmate : (s.net.rx.find? fun e => (streamOf rq.payload).group != 0xFFFF && e.2.group == (streamOf rq.payload).group)
      = none := by
    rw [hgroup]
    exact List.find?_eq_none.mpr fun e _ => by simp
  have hquiet : ¬ ((streamOf rq.payload).kind != 1
      && ipIsGroup (streamOf rq.payload).ipv (streamOf rq.payload).addr.toNat) = true := by
    obtain h | h := hjoin <;> simp [h]
  unfold streamRxAddBody
  simp only [h, hkey, hfree, if_neg hk, if_neg hn, hrun, ho, hmate]
  rw [if_neg (by decide), if_neg (by omega), if_neg hquiet]
  rfl

theorem streamTxAddBody_kind (hk : (streamOf rq.payload).kind = 2) : streamTxAddBody rq s = badArg 0 s := by
  unfold streamTxAddBody
  dsimp only
  rw [if_pos hk]

theorem streamTxAddBody_ok {hd first : Nat} (h : firstBad (streamChecks (streamOf rq.payload)) = none)
    (hk : (streamOf rq.payload).kind ≠ 2)
    (hports : ∀ q, q < 4 → (getNet s q).mode = 0 ∨ streamFrameSize (streamOf rq.payload) ≤ (getNet s q).maxFrame)
    (hfree : mapFree s.net.tx 64 = some hd)
    (hsum : ((usedRuns s.net.tx).map (·.2)).sum + (streamOf rq.payload).channels ≤ 512)
    (hrun : freeRun (usedRuns s.net.tx) 512 (streamOf rq.payload).channels = some first)
    (harp : (streamOf rq.payload).kind = 1
      ∨ ipIsGroup (streamOf rq.payload).ipv (streamOf rq.payload).addr.toNat = true)
    {po : Nat} (ho : offsetUsed (fieldLE rq.payload 8 4) (streamOf rq.payload).pkt (rateHz (streamOf rq.payload).rate)
      (rateHz s.time.rate) = (po, false)) :
    let r := Config.freeBits s.free
    streamTxAddBody rq s = replyOk (bytesLE 2 hd ++ bytesLE 2 first)
      (setTx hd { streamOf rq.payload with
        first := first, po := po, poNs := samplesNs po (rateHz s.time.rate), seq := some (r.toNat % 65536)
        ssrc := r.toNat / 65536 % 2 ^ 32, fade := 64, fadeUp := true } { s with free := s.free + 1 }) := by
  intro r
  have hfits : ((List.range 4).any fun p => (getNet s p).mode != 0
      && decide ((getNet s p).maxFrame < streamFrameSize (streamOf rq.payload))) = false := by
    refine List.any_eq_false.mpr fun q hq => ?_
    obtain hm | hm := hports q (List.mem_range.mp hq)
    · simp [hm]
    · simp [Nat.not_lt.mpr hm]
  have hquiet : ¬ ((decide ((streamOf rq.payload).kind = 0))
      && !ipIsGroup (streamOf rq.payload).ipv (streamOf rq.payload).addr.toNat) = true := by
    obtain h | h := harp <;> simp [h]
  unfold streamTxAddBody
  simp only [if_neg hk, h, hfits, hfree, hrun, ho, drawFree]
  rw [if_neg (by decide), if_neg (by omega), if_neg hquiet]
  rfl

/-! ### Streams in use -/

theorem namedStream_found {z : Stream} (hdir : byteAt rq.payload 0 ≤ 1)
    (hz : mapFind (if byteAt rq.payload 0 = 0 then s.net.rx else s.net.tx) (fieldLE rq.payload 2 2) = some z) :
    namedStream s rq.payload = .ok z := by
  unfold namedStream
  rw [if_neg (by omega), hz]

theorem streamRemoveBody_dir (hdir : 1 < byteAt rq.payload 0) : streamRemoveBody rq s = badArg 0 s := by
  have hnamed : namedStream s rq.payload = .error 0 := if_pos hdir
  unfold streamRemoveBody
  simp only [hnamed]

theorem streamRemoveBody_removing {z : Stream} (hz : namedStream s rq.payload = .ok z) (hr : z.removing = true) :
    streamRemoveBody rq s = badArg 2 s := by
  unfold streamRemoveBody
  simp only [hz, hr, if_true]

/-- A stream that plays fades out before it goes. -/
theorem streamRemoveBody_fades {z : Stream} (hz : namedStream s rq.payload = .ok z) (hr : z.removing = false)
    (hrend : s.time.rendering = true) (hfade : z.fade ≠ 0) :
    let t := forgetStream (byteAt rq.payload 0) (fieldLE rq.payload 2 2) z s
    let w : Stream := { z with removing := true, fadeUp := false }
    streamRemoveBody rq s = replyOk [] (if byteAt rq.payload 0 = 0 then setRx (fieldLE rq.payload 2 2) w t
      else setTx (fieldLE rq.payload 2 2) w t) := by
  intro t w
  have hplays : ¬ (!rendering t ∨ z.fade = 0) := by
    have ht : rendering t = true := hrend
    simp [ht, hfade]
  unfold streamRemoveBody
  simp only [hz]
  rw [if_neg (by rw [hr]; decide), if_neg hplays]

theorem streamRemoveBody_idle {z : Stream} (hz : namedStream s rq.payload = .ok z) (hr : z.removing = false)
    (hrend : s.time.rendering = false) :
    let t := forgetStream (byteAt rq.payload 0) (fieldLE rq.payload 2 2) z s
    streamRemoveBody rq s = replyOk [] (if byteAt rq.payload 0 = 0 then freeRx (fieldLE rq.payload 2 2) t
      else { t with net.tx := mapErase t.net.tx (fieldLE rq.payload 2 2) }) := by
  intro t
  have hidle : !rendering t ∨ z.fade = 0 := by
    have ht : rendering t = false := hrend
    exact .inl (by rw [ht]; rfl)
  unfold streamRemoveBody
  simp only [hz]
  rw [if_neg (by rw [hr]; decide), if_pos hidle]

theorem streamStatusBody_rx {z : Stream} (hz : namedStream s rq.payload = .ok z) (hdir : byteAt rq.payload 0 = 0) :
    let h := fieldLE rq.payload 2 2
    streamStatusBody rq s = replyOk (bytesLE 1 z.st ++ [0, 0, 0] ++ bytesLE 4 (counter s (0x4400 + 8 * h))
      ++ bytesLE 4 (counter s (0x4400 + 8 * h + 1)) ++ bytesLE 4 (counter s (0x4400 + 8 * h + 2))) s := by
  intro h
  unfold streamStatusBody
  simp only [hz, hdir]
  rfl

theorem streamOptsBody_tx {z : Stream} (hz : namedStream s rq.payload = .ok z) (hdir : byteAt rq.payload 0 = 1)
    (hmask : byteAt rq.payload 8 % 16 ≠ 0) (hdscp : byteAt rq.payload 9 ≤ 63) (hpcp : byteAt rq.payload 10 ≤ 7)
    (httl : 1 ≤ byteAt rq.payload 11) :
    streamOptsBody rq s = replyOk (rq.payload.take 8 ++ bytesLE 1 (byteAt rq.payload 8 % 16) ++ bytesLE 1 (byteAt rq.payload 9)
        ++ bytesLE 1 (byteAt rq.payload 10) ++ bytesLE 1 (byteAt rq.payload 11) ++ slice rq.payload 12 2 ++ [0, 0])
      (setTx (fieldLE rq.payload 2 2) { z with
        clockOff := fieldLE rq.payload 4 4, portMask := byteAt rq.payload 8 % 16, dscp := byteAt rq.payload 9
        pcp := byteAt rq.payload 10, ttl := byteAt rq.payload 11, srcPort := fieldLE rq.payload 12 2 } s) := by
  have hd : min 63 (byteAt rq.payload 9) = byteAt rq.payload 9 := by omega
  have hp : min 7 (byteAt rq.payload 10) = byteAt rq.payload 10 := by omega
  have ht : max 1 (byteAt rq.payload 11) = byteAt rq.payload 11 := by omega
  unfold streamOptsBody
  simp only [hz, hd, hp, ht, hdir]
  rw [if_neg hmask, if_neg (by decide)]
  simp [firstBad, replyUsed, bytesLE]

end

/-! ### Packets received -/

section
variable {h : Nat} {p : StreamPacket} {x : Stream} {s : State}

theorem packetPlace_count (s : State) (id : Nat) (x : Stream) (p : StreamPacket) :
    packetPlace (count id s) x p = packetPlace s x p := rfl

/-- A packet of the wrong type or length is counted and discarded. -/
theorem execStreamPacketRx_misfit (hn : nerrisUp s = true) (hpow : s.sys.ao.power = .run) (hx : getRx s h = some x)
    (hk : x.kind ≠ 2) (hr : x.removing = false)
    (hbad : (x.kind = 0 ∧ p.payloadType ≠ x.ptype) ∨ p.payload.length % (x.format / 8 * x.channels) ≠ 0
      ∨ p.payload.length / (x.format / 8 * x.channels) < 1 ∨ 2 * x.pkt < p.payload.length / (x.format / 8 * x.channels)) :
    exec (.streamPacketRx h p) s = .next (count (if x.kind = 1 then 0x4293 else 0x4292) s) := by
  change execStreamPacketRx h p s = _
  unfold execStreamPacketRx
  simp only [hx]
  rw [if_neg (by simp [hn, hpow, hk, hr]), if_pos hbad]

theorem packetFits (hptype : p.payloadType = x.ptype) (hwhole : p.payload.length % (x.format / 8 * x.channels) = 0)
    (hsome : 1 ≤ p.payload.length / (x.format / 8 * x.channels))
    (hfit : p.payload.length / (x.format / 8 * x.channels) ≤ 2 * x.pkt) :
    ¬ ((x.kind = 0 ∧ p.payloadType ≠ x.ptype) ∨ p.payload.length % (x.format / 8 * x.channels) ≠ 0
      ∨ p.payload.length / (x.format / 8 * x.channels) < 1
      ∨ 2 * x.pkt < p.payload.length / (x.format / 8 * x.channels)) := by
  rintro (⟨_, h⟩ | h | h | h)
  · exact h hptype
  · exact h hwhole
  · exact absurd hsome (Nat.not_le.mpr h)
  · exact absurd hfit (Nat.not_le.mpr h)

section
variable (hn : nerrisUp s = true) (hpow : s.sys.ao.power = .run) (hx : getRx s h = some x) (hk : x.kind ≠ 2)
  (hr : x.removing = false) (hptype : p.payloadType = x.ptype) (hwhole : p.payload.length % (x.format / 8 * x.channels) = 0)
  (hsome : 1 ≤ p.payload.length / (x.format / 8 * x.channels))
  (hfit : p.payload.length / (x.format / 8 * x.channels) ≤ 2 * x.pkt)
include hn hpow hx hk hr hptype hwhole hsome hfit

/-- A packet whose place is past is late. -/
theorem execStreamPacketRx_late (hplace : packetPlace s x p ≤ streamPos s x s.time.index) :
    exec (.streamPacketRx h p) s = .next (count (0x4400 + 8 * h + 2) (count (0x4400 + 8 * h) s)) := by
  change execStreamPacketRx h p s = _
  unfold execStreamPacketRx
  simp only [hx]
  rw [if_neg (by simp [hn, hpow, hk, hr]), if_neg (packetFits hptype hwhole hsome hfit), if_pos (.inr hplace)]

/-- A packet whose place another has filled is a duplicate. -/
theorem execStreamPacketRx_duplicate {fs : List Int} (hrend : s.time.rendering = true)
    (hplace : streamPos s x s.time.index < packetPlace s x p)
    (hheld : mapFind x.buffer (packetPlace s x p).toNat = some (true, fs)) :
    exec (.streamPacketRx h p) s = .next (count (0x4400 + 8 * h + 3) (count (0x4400 + 8 * h) s)) := by
  have hnotlate : ¬ (!rendering (count (0x4400 + 8 * h) s) ∨
      packetPlace (count (0x4400 + 8 * h) s) x p ≤ streamPos (count (0x4400 + 8 * h) s) x s.time.index) := by
    have ht : rendering (count (0x4400 + 8 * h) s) = true := hrend
    rw [ht]
    rintro (h' | h')
    · exact absurd h' (by decide)
    · exact absurd h' (not_le.mpr hplace)
  change execStreamPacketRx h p s = _
  unfold execStreamPacketRx
  simp only [hx, packetPlace_count, hheld]
  rw [if_neg (by simp [hn, hpow, hk, hr]), if_neg (packetFits hptype hwhole hsome hfit), if_neg (by exact hnotlate)]

/-- A packet in time, whose place is free, is held from its place on; a stream that had none runs again. -/
theorem execStreamPacketRx_held (hrend : s.time.rendering = true) (hplace : streamPos s x s.time.index < packetPlace s x p)
    (hheld : mapFind x.buffer (packetPlace s x p).toNat = none) (hrate : sameRate s x = true)
    (hreach : packetPlace s x p ≤ streamPos s x s.time.index + (x.po + 2 * x.pkt + (rateHz x.rate + 999) / 1000 : Nat))
    (hst : x.st ≠ 2) :
    let t := setRx h { x with
      buffer := placeFrames true (packetPlace s x p).toNat (packetFrames x p.payload) x.buffer
      lastPkt := packetFrames x p.payload, missing := 0, lossAt := none, st := 1
      fade := (if (x.st == 0 || x.st == 3) = true then 0 else x.fade), fadeUp := true } (count (0x4400 + 8 * h) s)
    exec (.streamPacketRx h p) s = .next (if (x.st != 1) = true then streamEvent 0 h 1 t else t) := by
  intro t
  have hnotlate : ¬ (!rendering (count (0x4400 + 8 * h) s) ∨
      packetPlace (count (0x4400 + 8 * h) s) x p ≤ streamPos (count (0x4400 + 8 * h) s) x s.time.index) := by
    have ht : rendering (count (0x4400 + 8 * h) s) = true := hrend
    rw [ht]
    rintro (h' | h')
    · exact absurd h' (by decide)
    · exact absurd h' (not_le.mpr hplace)
  have hrate' : sameRate (count (0x4400 + 8 * h) s) x = true := hrate
  change execStreamPacketRx h p s = _
  unfold execStreamPacketRx
  simp only [hx, packetPlace_count, hheld, hrate']
  rw [if_neg (by simp [hn, hpow, hk, hr]), if_neg (packetFits hptype hwhole hsome hfit), if_neg (by exact hnotlate), if_pos trivial,
    if_neg (by exact not_lt.mpr hreach), if_neg hst]

end

/-! ### Packets missing -/

theorem mapHas_of_mapFind {α : Type} {m : AMap α} {k : Nat} {a : α} (h : mapFind m k = some a) : mapHas m k = true := by
  rw [mapHas, h]
  rfl

/-- Frames put only where the buffer holds none leave what it holds. -/
theorem mapFind_foldl_unheld {α β : Type} (place : β → Nat) (val : β → α) (m : AMap α) (k : Nat) (a : α) (es : List β)
    (h : ∀ e ∈ es, place e ≠ k) (hm : mapFind m k = some a) :
    mapFind (es.foldl (fun b e => mapSet b (place e) (val e)) m) k = some a := by
  induction es generalizing m with
  | nil => exact hm
  | cons e es ih =>
    refine ih (mapSet m (place e) (val e)) (fun e' he' => h e' (List.mem_cons_of_mem _ he')) ?_
    rw [mapFind_mapSet_other _ _ _ _ (h e List.mem_cons_self).symm]
    exact hm

/-- The buffer of a stream in which the packet before plays again. -/
def replayBuffer (s : State) (x : Stream) : AMap (Bool × List Int) :=
  let h := firstHole x.buffer x.buffer.length ((streamPos s x s.time.index).toNat + 1)
  let last := match mapFind x.buffer (h - 1) with
    | some e => e.2
    | none => x.lastOut
  let again := joinFrames (min 16 x.pkt) last ((List.range x.pkt).map fun i => x.lastPkt.getD (i % x.lastPkt.length) [])
  (again.zipIdx.filter fun e => !mapHas x.buffer (h + e.2)).foldl (fun b e => mapSet b (h + e.2) (false, e.1)) x.buffer

theorem replayBuffer_keeps {k : Nat} {e : Bool × List Int} (hk : mapFind x.buffer k = some e) :
    mapFind (replayBuffer s x) k = some e := by
  refine mapFind_foldl_unheld _ (fun e : List Int × Nat => (false, e.1)) _ _ _ _ (fun f hf hfk => ?_) hk
  have hfree := (List.mem_filter.mp hf).2
  rw [hfk, mapHas_of_mapFind hk] at hfree
  exact absurd hfree (by decide)

theorem execStreamPacketMissing_eq (hn : nerrisUp s = true) (hx : getRx s h = some x) (hrend : s.time.rendering = true)
    (hk : x.kind ≠ 2) (hst : x.st = 1) (hm : x.missing < 7) (hlast : x.lastPkt ≠ []) :
    exec (.streamPacketMissing h) s = .next (streamEvent 0 h 2 (count (0x4400 + 8 * h + 1) (count (0x4400 + 8 * h + 5)
      (setRx h { x with buffer := replayBuffer s x, missing := x.missing + 1, st := 2, lossAt := none } s)))) := by
  have hplays : rendering s = true := hrend
  change execStreamPacketMissing h s = _
  unfold execStreamPacketMissing
  simp only [hx]
  rw [if_neg (by simp [hn, hplays, hk, hst, hlast]; omega), if_pos hst, if_neg (by omega)]
  rfl

theorem execStreamPacket_unused (hx : getRx s h = none) : exec (.streamPacketRx h p) s = .next s
    ∧ exec (.streamPacketMissing h) s = .next s ∧ exec (.eomsPacket h p) s = .next s := by
  refine ⟨?_, ?_, ?_⟩
  · change execStreamPacketRx h p s = _
    unfold execStreamPacketRx
    simp only [hx]
  · change execStreamPacketMissing h s = _
    unfold execStreamPacketMissing
    simp only [hx]
  · change execEomsPacket h p s = _
    unfold execEomsPacket
    simp only [hx]

/-! ### EOMS packets and resolved destinations -/

section
variable (hn : nerrisUp s = true) (hpow : s.sys.ao.power = .run) (hx : getRx s h = some x) (hk : x.kind = 2)
  (hr : x.removing = false)
include hn hpow hx hk hr

theorem execEomsPacket_type (ht : p.payloadType ≠ x.ptype) : exec (.eomsPacket h p) s = .next (count 0x4292 s) := by
  change execEomsPacket h p s = _
  unfold execEomsPacket
  simp only [hx]
  rw [if_neg (by simp [hn, hpow, hk, hr]), if_pos ht]

theorem execEomsPacket_short (ht : p.payloadType = x.ptype) (hlen : p.payload.length < 16) :
    exec (.eomsPacket h p) s = .next (count 0x4292 (eomsSequence h x (p.seq % 65536) s)) := by
  change execEomsPacket h p s = _
  unfold execEomsPacket
  simp only [hx]
  rw [if_neg (by simp [hn, hpow, hk, hr]), if_neg (not_not_intro ht), if_pos (.inl hlen)]

/-- A packet whose elements run past its end is skipped whole. -/
theorem execEomsPacket_torn (ht : p.payloadType = x.ptype) (hlen : 16 ≤ p.payload.length) (hlen' : p.payload.length ≤ 8192)
    (hver : byteAt p.payload 0 / 16 = 1) (hes : eomsElements p.payload (fieldBE p.payload 2 2) 16 = none)
    (hflags : ¬ ((byteAt p.payload 1).testBit 0 = true ∧ (byteAt p.payload 1).testBit 1 = true)) :
    exec (.eomsPacket h p) s = .next (countBy (0x0580 + 4 * h + 2) (fieldBE p.payload 2 2)
      (count 0x4292 (eomsSequence h x (p.seq % 65536) s))) := by
  have hgood : ¬ (byteAt p.payload 0 / 16 ≠ 1 ∨ ((byteAt p.payload 1).testBit 0 && (byteAt p.payload 1).testBit 1) = true) := by
    rw [Bool.and_eq_true]
    rintro (h' | h')
    · exact h' hver
    · exact hflags h'
  change execEomsPacket h p s = _
  unfold execEomsPacket
  simp only [hx, hes]
  rw [if_neg (by simp [hn, hpow, hk, hr]), if_neg (not_not_intro ht), if_neg (by omega), if_neg hgood]

end

theorem execArpRefresh_eq (mac : Option (BitVec 48)) (hn : nerrisUp s = true) (hx : getTx s h = some x) (hk : x.kind ≠ 1)
    (hg : ipIsGroup x.ipv x.addr.toNat = false) :
    exec (.arpRefresh h mac) s = .next (emit (.arp h) (setTx h { x with mac := mac, resolvedAt := s.now } s)) := by
  change execArpRefresh h mac s = _
  unfold execArpRefresh
  simp only [hx]
  rw [if_neg (by simp [hn, hk, hg])]

end

/-- Settles O37. -/
theorem streams : Obligations.Streams := by
  unfold Obligations.Streams
  refine ⟨fun rq s => ?_, fun h p x s hn hpow => ?_⟩
  · refine ⟨fun hs hc hk => ⟨fun hkey => ?_, fun hkey hgroup ho hd first hfree hsum hrun hjoin => ?_⟩,
      fun hs f hf => next_badArg hs (streamRxAddBody_checks hf),
      fun hs hk hc ho hd first hports hfree hsum hrun harp => ?_,
      fun hs hk => next_badArg hs (streamTxAddBody_kind hk), fun z hdir hz => ?_,
      fun hs hdir => next_badArg hs (streamRemoveBody_dir hdir)⟩
    · exact next_refused hs (by decide) (by decide) (streamRxAddBody_clash hc hkey)
    · exact next_recorded hs rfl (streamRxAddBody_ok hc hk hkey hgroup hfree hsum hrun hjoin (Prod.ext rfl ho))
    · exact next_recorded hs rfl (streamTxAddBody_ok hc hk hports hfree hsum hrun harp (Prod.ext rfl ho))
    · have hnamed := namedStream_found hdir hz
      refine ⟨fun hs hr hrend hfade => ?_, fun hs hr hrend => ?_, fun hs hr => ?_, fun hs hdir0 => ?_,
        fun hs hdir1 hmask hdscp hpcp httl => ?_⟩
      · exact next_answered hs rfl (streamRemoveBody_fades hnamed hr hrend hfade)
      · exact next_answered hs rfl (streamRemoveBody_idle hnamed hr hrend)
      · exact next_badArg hs (streamRemoveBody_removing hnamed hr)
      · exact next_answered hs rfl (streamStatusBody_rx hnamed hdir0)
      · exact next_recorded hs rfl (streamOptsBody_tx hnamed hdir1 hmask hdscp hpcp httl)
  · refine ⟨fun hx hk hr => ⟨execStreamPacketRx_misfit hn hpow hx hk hr, fun ht hwhole hsome hfit => ⟨fun hplace => ?_,
        fun hrend hplace fs hheld => ?_, fun hrend hplace hheld hrate hreach hst => ?_,
        fun hrend hplace hheld hrate hreach hst => ?_⟩⟩,
      execStreamPacket_unused, fun hx hrend hk hst hm hlast => ?_,
      fun hx hk hr => ⟨execEomsPacket_type hn hpow hx hk hr, execEomsPacket_short hn hpow hx hk hr,
        execEomsPacket_torn hn hpow hx hk hr⟩, fun mac hx hk hg => execArpRefresh_eq mac hn hx hk hg⟩
    · exact execStreamPacketRx_late hn hpow hx hk hr ht hwhole hsome hfit hplace
    · exact execStreamPacketRx_duplicate hn hpow hx hk hr ht hwhole hsome hfit hrend hplace hheld
    · rw [execStreamPacketRx_held hn hpow hx hk hr ht hwhole hsome hfit hrend hplace hheld hrate hreach (by omega), hst]
      rfl
    · rw [execStreamPacketRx_held hn hpow hx hk hr ht hwhole hsome hfit hrend hplace hheld hrate hreach (by omega), hst]
      rfl
    · obtain ⟨m, w, hevent⟩ : ∃ m w, streamEvent 0 h 2 (count (0x4400 + 8 * h + 1) (count (0x4400 + 8 * h + 5)
          (setRx h { x with buffer := replayBuffer s x, missing := x.missing + 1, st := 2, lossAt := none } s))) = _ :=
        event_eq _ _ _ _ _ _
      refine ⟨_, { x with buffer := replayBuffer s x, missing := x.missing + 1, st := 2, lossAt := none },
        execStreamPacketMissing_eq hn hx hrend hk hst hm hlast, ?_, rfl, rfl, rfl, rfl, rfl, ?_,
        fun k e hk' => replayBuffer_keeps hk'⟩
      · rw [hevent]
        exact mapFind_mapSet_same _ _ _
      · rw [hevent]
        change counter (count _ (count _ _)) _ = _
        rw [count, counter_countBy_other _ _ (by omega), count, counter_countBy]
        rfl

end Sys2Proof.Machine
end

section
/-! PROOFS. The speaker table, geometry windows and boundaries (O39). -/

namespace Sys2Proof.Machine
open Host

/-! ### The speaker table -/

section
variable {rs : List SpkRec} {arrays : Bool} {taper tf tc at_ : Nat} {s : State}

theorem buildTable_close (h : rs.any SpkRec.tooClose = true) :
    buildTable rs arrays taper tf tc at_ s = .error (refuse codeBadArg 3 at_ s) := by
  unfold buildTable
  rw [if_pos h]

theorem buildTable_double (h : rs.any SpkRec.tooClose = false) (hd : doubleElement rs = true) :
    buildTable rs arrays taper tf tc at_ s = .error (refuse codeBadArg 4 at_ s) := by
  unfold buildTable
  rw [if_neg (by rw [h]; decide), if_pos hd]

theorem buildTable_untyped (h : rs.any SpkRec.tooClose = false) (hd : doubleElement rs = false)
    (ht : rs.all SpkRec.typed = false) : buildTable rs arrays taper tf tc at_ s = .error (refuse codeBadArg 5 at_ s) := by
  unfold buildTable
  rw [if_neg (by rw [h]; decide), if_neg (by rw [hd]; decide), if_pos (by rw [ht]; rfl)]

end

section
variable {rq : Request} {s u : State} {d : List Byte}

theorem spkTableLoadBody_size (h : s.member.speakers < fieldLE rq.payload 0 2) :
    spkTableLoadBody rq s = refuse codeBadArg 1 0 s := by
  unfold spkTableLoadBody
  dsimp only
  rw [if_pos h]

section
variable (hn : fieldLE rq.payload 0 2 ≤ s.member.speakers) (ht : byteAt rq.payload 3 ≤ 32)
  (hf : fieldLE rq.payload 4 2 ≤ 18000) (hc : fieldLE rq.payload 6 2 ≤ 18000)
  (hl : refLength rq.payload 8 = 64 * fieldLE rq.payload 0 2) (hd : fetchReference rq 8 s = .ok (d, u))
include hn ht hf hc hl hd

theorem spkTableLoadBody_error {r : Reply}
    (hb : buildTable ((List.range (fieldLE rq.payload 0 2)).map fun i => spkRecAt d (64 * i)) (bit (byteAt rq.payload 2) 0)
      (byteAt rq.payload 3) (fieldLE rq.payload 4 2) (fieldLE rq.payload 6 2) 8 u = .error r) :
    spkTableLoadBody rq s = r := by
  unfold spkTableLoadBody
  simp only [hd, hb]
  rw [if_neg (by omega), if_neg (by omega), if_neg (by omega), if_neg (by omega), if_neg (not_not_intro hl)]

theorem spkTableLoadBody_ok {t : SpkTable}
    (hb : buildTable ((List.range (fieldLE rq.payload 0 2)).map fun i => spkRecAt d (64 * i)) (bit (byteAt rq.payload 2) 0)
      (byteAt rq.payload 3) (fieldLE rq.payload 4 2) (fieldLE rq.payload 6 2) 8 u = .ok t)
    (hlim : (((List.range (fieldLE rq.payload 0 2)).map fun i => spkRecAt d (64 * i)).any fun r => r.limited != r) = false) :
    spkTableLoadBody rq s = replyOk (meshReply t.mesh) (noteWithBytes true 0x0300 8 [] rq d { u with
      rend.geoStage.table := t, msg.ncp.stagedRecs := u.msg.ncp.stagedRecs.filter fun r => r.opcode != 0x0301 }) := by
  unfold spkTableLoadBody
  simp only [hd, hb, hlim]
  rw [if_neg (by omega), if_neg (by omega), if_neg (by omega), if_neg (by omega), if_neg (not_not_intro hl)]
  rfl

end

/-- A message that sets nothing sends its body's reply, unless that comes later. -/
theorem next_replied {op : NcpOp} {r : Reply} (h : served op rq s = true) (hk : op.key rq = none) (hb : op.body rq s = r)
    (hr : r.deferred = false) :
    (.next (serve op rq s) : Host.Outcome State Fault Refusal) = .next (respond rq op.opcode r r.state) := by
  rw [serve_of_served op rq s h]
  simp [performOp, hk, hb, hr]

theorem spkSetBody_ok {t : SpkTable} (hid : rq.flow < s.rend.geoStage.table.recs.length)
    (hlim : (spkRecAt rq.payload 0).limited = spkRecAt rq.payload 0)
    (hb : buildTable (s.rend.geoStage.table.recs.set rq.flow (spkRecAt rq.payload 0)) s.rend.geoStage.table.arrayInMesh
      s.rend.geoStage.table.taper s.rend.geoStage.table.thetaF s.rend.geoStage.table.thetaC 0 s = .ok t) :
    spkSetBody rq s = replyOk (meshReply t.mesh) { s with rend.geoStage.table := t } := by
  have hfirst : firstBad [(28, (spkRecAt rq.payload 0).gain == (spkRecAt rq.payload 0).gain),
      (30, (spkRecAt rq.payload 0).delay == (spkRecAt rq.payload 0).delay)] = none := by
    simp [firstBad]
  unfold spkSetBody
  simp only [hb, hlim, hfirst]
  rw [if_neg (by omega)]
  rfl

theorem spkSetBody_id (hid : s.rend.geoStage.table.recs.length ≤ rq.flow) : spkSetBody rq s = badArg noField s := by
  unfold spkSetBody
  dsimp only
  rw [if_pos hid]

theorem tableOf_eq (b : Nat) (hb : b ≤ 1) :
    tableOf s (b == 1) = if b = 1 then s.rend.geoStage.table else s.rend.geo.table := by
  obtain rfl | rfl : b = 0 ∨ b = 1 := by omega
  · rfl
  · rfl

theorem spkGetBody_ok {r : SpkRec} (hb : byteAt rq.payload 0 ≤ 1)
    (hr : (if byteAt rq.payload 0 = 1 then s.rend.geoStage.table else s.rend.geo.table).recs[rq.flow]? = some r) :
    spkGetBody rq s = replyOk (spkRecBytes r ++ bytesLE 1 (homeTile s.member rq.flow)
      ++ bytesLE 1 (flag (inMesh (if byteAt rq.payload 0 = 1 then s.rend.geoStage.table else s.rend.geo.table).mesh rq.flow))
      ++ [0, 0]) s := by
  unfold spkGetBody
  simp only [tableOf_eq _ hb, hr]
  rw [if_neg (by omega)]
  rfl

theorem spkEnvCfgBody_ok (hlow : 3000 ≤ fieldLE rq.payload 0 2) (hhigh : fieldLE rq.payload 0 2 ≤ 3800)
    (ha : fieldLE rq.payload 2 2 ≤ 500) :
    spkEnvCfgBody rq s = replyOk (bytesLE 2 (fieldLE rq.payload 0 2) ++ bytesLE 2 (fieldLE rq.payload 2 2))
      { s with rend.geoStage.c := fieldLE rq.payload 0 2, rend.geoStage.airA := fieldLE rq.payload 2 2 } := by
  have hcl : clampNat 3000 3800 (fieldLE rq.payload 0 2) = fieldLE rq.payload 0 2 := by
    unfold clampNat
    omega
  have hal : min 500 (fieldLE rq.payload 2 2) = fieldLE rq.payload 2 2 := by omega
  unfold spkEnvCfgBody
  simp only [hcl, hal]
  simp [firstBad, replyUsed]

theorem spkMeshGetBody_ok (hb : byteAt rq.payload 0 ≤ 1) :
    let t := if byteAt rq.payload 0 = 1 then s.rend.geoStage.table else s.rend.geo.table
    let ts := (t.mesh.triangles.drop (fieldLE rq.payload 2 2)).take 125
    spkMeshGetBody rq s = replyOk (bytesLE 2 ts.length ++ List.replicate 6 0
      ++ ts.flatMap fun t => bytesLE 2 t.1 ++ bytesLE 2 t.2.1 ++ bytesLE 2 t.2.2 ++ [0, 0]) s := by
  unfold spkMeshGetBody
  simp only [tableOf_eq _ hb]
  rw [if_neg (by omega)]
  rfl

theorem spkPairGetBody_ok {o : Obj} {q : Pair} (ho : activeObj s (fieldLE rq.payload 0 2) = some o)
    (hspk : rq.flow < s.rend.geo.table.recs.length)
    (hq : mapFind (mapGet (fun _ => ([] : AMap Pair)) (getSlice s o.slice).pairs (fieldLE rq.payload 0 2)) rq.flow = some q) :
    spkPairGetBody rq s = replyOk (bytesLE 4 q.target.delay ++ bytesLE 4 q.target.gain ++ bytesLE 2 q.target.pole
      ++ bytesLE 1 q.target.flags ++ [0] ++ bytesLE 8 (getSlice s o.slice).boundary) s := by
  unfold spkPairGetBody
  simp only [ho, hq]
  rw [if_neg (by omega)]
  rfl

end

/-! ### What computing a window leaves -/

/-- What the geometry notes while it computes: objects, counters that only rise, and reports. -/
def NotesOnly (s t : State) : Prop :=
  (∃ objs cs mb nc w, t = { s with rend.objs := objs, hw.counters := cs, msg.mbx := mb, msg.ncp := nc, wire := w })
    ∧ ∀ id, counter s id ≤ counter t id

theorem NotesOnly.refl (s : State) : NotesOnly s s := ⟨⟨_, _, _, _, _, rfl⟩, fun _ => Nat.le_refl _⟩

theorem NotesOnly.trans {s t u : State} (h : NotesOnly s t) (h' : NotesOnly t u) : NotesOnly s u := by
  obtain ⟨⟨objs, cs, mb, nc, w, rfl⟩, hc⟩ := h
  obtain ⟨⟨objs', cs', mb', nc', w', rfl⟩, hc'⟩ := h'
  exact ⟨⟨_, _, _, _, _, rfl⟩, fun id => (hc id).trans (hc' id)⟩

theorem NotesOnly.getSlice {s t : State} (h : NotesOnly s t) (sl : Nat) : getSlice t sl = getSlice s sl := by
  obtain ⟨⟨objs, cs, mb, nc, w, rfl⟩, -⟩ := h
  rfl

theorem NotesOnly.periodAt {s t : State} (h : NotesOnly s t) (b : Nat) : periodAt t b = periodAt s b := by
  obtain ⟨⟨objs, cs, mb, nc, w, rfl⟩, -⟩ := h
  rfl

theorem notes_setObj (id : Nat) (o : Obj) (s : State) : NotesOnly s (setObj id o s) :=
  ⟨⟨_, _, _, _, _, rfl⟩, fun _ => Nat.le_refl _⟩

theorem notes_countBy (id n : Nat) (s : State) : NotesOnly s (countBy id n s) := by
  refine ⟨⟨_, _, _, _, _, rfl⟩, fun j => ?_⟩
  by_cases h : j = id
  · subst h
    rw [counter_countBy]
    exact Nat.le_add_right _ _
  · rw [counter_countBy_other n s h]

theorem notes_event (cls die op flow : Nat) (fields : List Byte) (s : State) :
    NotesOnly s (event cls die op flow fields s) := by
  obtain ⟨m, w, hev⟩ := event_eq cls die op flow fields s
  obtain ⟨cs, mb, nc, w', hrep⟩ := reports_event cls die op flow fields s
  refine ⟨⟨_, cs, mb, nc, w', hrep⟩, fun id => ?_⟩
  rw [hev]
  exact Nat.le_refl _

theorem notes_oncePerSecond {key : Nat} {s t : State} (h : oncePerSecond key s = some t) : NotesOnly s t := by
  unfold oncePerSecond at h
  split at h
  · split at h
    · exact absurd h (by simp)
    · cases h
      exact ⟨⟨_, _, _, _, _, rfl⟩, fun _ => Nat.le_refl _⟩
  · cases h
    exact ⟨⟨_, _, _, _, _, rfl⟩, fun _ => Nat.le_refl _⟩

theorem notes_noteClamp (id kind n : Nat) (s : State) : NotesOnly s (noteClamp id kind n s) := by
  unfold noteClamp
  split
  · exact .refl s
  · split
    · exact .refl s
    · dsimp only
      split
      · exact (notes_countBy _ _ _).trans (notes_setObj _ _ _)
      · next h =>
        exact ((notes_countBy _ _ _).trans (notes_oncePerSecond h)).trans ((notes_setObj _ _ _).trans (notes_event _ _ _ _ _ _))

theorem notes_windowObject (sl : Nat) (g : GeoBank) (beds zones : AMap (List (Nat × Int)))
    (acc : State × AMap (AMap Target) × Nat) (e : Nat × ObjRec) :
    NotesOnly acc.1 (windowObject sl g beds zones acc e).1 := by
  obtain ⟨s, m, cycles⟩ := acc
  unfold windowObject
  dsimp only
  split
  · exact .refl s
  · next o _ =>
    have hdir : ∀ (c : Prop) [Decidable c] (x : Obj), NotesOnly s (if c then setObj e.1 x s else s) := by
      intro c _ x
      split
      · exact notes_setObj _ _ _
      · exact .refl s
    exact (((((hdir _ _).trans (notes_countBy _ _ _)).trans (notes_countBy _ _ _)).trans (notes_countBy _ _ _)).trans
      (notes_noteClamp _ _ _ _)).trans (notes_noteClamp _ _ _ _)

theorem notes_windowObjects (sl : Nat) (g : GeoBank) (beds zones : AMap (List (Nat × Int))) (es : List (Nat × ObjRec))
    (acc : State × AMap (AMap Target) × Nat) : NotesOnly acc.1 (es.foldl (windowObject sl g beds zones) acc).1 := by
  induction es generalizing acc with
  | nil => exact .refl acc.1
  | cons e es ih => exact (notes_windowObject sl g beds zones acc e).trans (ih _)

/-- The windows of a slice with the window of boundary `b` replaced. -/
def replaceWindow (b : Nat) (done : Window) (ws : List Window) : List Window :=
  ws.map fun v => if v.boundary = b then done else v

/-- A window is computed once: the slice gets its targets, and the rest is notes and a peak register. -/
theorem computeWindow_cases (sl b : Nat) (s : State) :
    computeWindow sl b s = s
      ∨ ((∃ w ∈ (getSlice s sl).windows, w.boundary = b ∧ w.computed = false)
        ∧ ∃ t done cycles, NotesOnly s t ∧ done.boundary = b ∧ computeWindow sl b s = regPeak (geoReg sl 8) cycles (setSlice sl
            { getSlice s sl with windows := replaceWindow b done (getSlice s sl).windows, geoLast := cycles } t)) := by
  unfold computeWindow
  split
  · exact .inl rfl
  · next w hw =>
    have hsat := List.find?_some hw
    rw [Bool.and_eq_true, beq_iff_eq, Bool.not_eq_true'] at hsat
    refine .inr ⟨⟨w, List.mem_of_find?_eq_some hw, hsat⟩, ?_⟩
    rcases hbank : windowBank s sl b with ⟨g, beds, zones⟩
    rcases hfold : w.records.foldl (windowObject sl g beds zones) (s, [], 0) with ⟨t, m, cycles⟩
    have hnotes : NotesOnly s t := by
      have h := notes_windowObjects sl g beds zones w.records (s, [], 0)
      rw [hfold] at h
      exact h
    refine ⟨t, { w with computed := true, targets := m }, min cycles 0xFFFFF, hnotes, hsat.1, ?_⟩
    simp only [hfold, hnotes.getSlice sl]
    rfl

theorem counter_computeWindow_le (sl b id : Nat) (s : State) : counter s id ≤ counter (computeWindow sl b s) id := by
  obtain h | ⟨-, t, done, cycles, hnotes, -, h⟩ := computeWindow_cases sl b s
  · rw [h]
  · rw [h]
    exact hnotes.2 id

theorem periodAt_computeWindow (sl b i : Nat) (s : State) : periodAt (computeWindow sl b s) i = periodAt s i := by
  obtain h | ⟨-, t, done, cycles, hnotes, -, h⟩ := computeWindow_cases sl b s
  · rw [h]
  · rw [h]
    exact hnotes.periodAt i

/-- Computing a window keeps the boundaries of the slice's windows. -/
theorem windows_computeWindow {sl b : Nat} {s : State} (h : ∃ w ∈ (getSlice s sl).windows, w.boundary = b) :
    ∃ w ∈ (getSlice (computeWindow sl b s) sl).windows, w.boundary = b := by
  obtain heq | ⟨-, t, done, cycles, -, hdone, heq⟩ := computeWindow_cases sl b s
  · rw [heq]
    exact h
  · obtain ⟨w, hw, hwb⟩ := h
    have hslice : (getSlice (computeWindow sl b s) sl).windows = replaceWindow b done (getSlice s sl).windows := by
      rw [heq]
      exact congrArg Slice.windows (getSlice_setSlice_same t sl _)
    refine ⟨done, ?_, hdone⟩
    rw [hslice]
    exact List.mem_map.mpr ⟨w, hw, if_pos hwb⟩

/-- Where every window of the boundary is computed, nothing is left to compute. -/
theorem computeWindow_computed {sl b : Nat} {s : State}
    (h : ∀ v ∈ (getSlice s sl).windows, v.boundary = b → v.computed = true) : computeWindow sl b s = s := by
  obtain heq | ⟨⟨w, hw, hwb, hwc⟩, -⟩ := computeWindow_cases sl b s
  · exact heq
  · exact absurd ((h w hw hwb).symm.trans hwc) (by decide)

/-! ### The end of a window and the boundary -/

/-- The targets of a window without those of unfinished pairs. -/
def cutWindow (b : Nat) (unfinished : List Nat) (v : Window) : Window :=
  if v.boundary ≠ b then v
  else { v with targets := v.targets.map fun e => (e.1, e.2.filter fun t => !unfinished.contains (e.1 * 512 + t.1)) }

/-- A slice that overran: its window cut and the tile's mark set. -/
def overrunSlice (sl b : Nat) (unfinished : List Nat) (s : State) : State :=
  setTile (sliceDie sl) { getTile s (sliceDie sl) with
      geoOverrun := (getTile s (sliceDie sl)).geoOverrun ||| BitVec.ofNat 4 (2 ^ (sl % 4)) }
    (setSlice sl { getSlice s sl with windows := (getSlice s sl).windows.map (cutWindow b unfinished) } s)

theorem execGeometryWindowEnd_late {sl : Nat} {s : State} {w : Window} {rest : List Window} {late : List Nat}
    (hw : (getSlice s sl).windows = w :: rest) (hlate : late ≠ []) (hpow : powered s (sliceDie sl) = true) :
    exec (.geometryWindowEnd sl late) s = .next (memEvent (sliceDie sl) ((Config.unstated 230 sl).toNat % 256) 2 0
      (count (0x0800 + 4 * sl + 3) (overrunSlice sl w.boundary late (computeWindow sl w.boundary s)))) := by
  change execGeometryWindowEnd sl late s = _
  unfold execGeometryWindowEnd
  simp only [hw]
  rw [if_neg (by simp [hlate, hpow])]
  rfl

theorem execGeometryWindowEnd_finished {sl : Nat} {s : State} {w : Window} {rest : List Window}
    (hw : (getSlice s sl).windows = w :: rest) : exec (.geometryWindowEnd sl []) s = .next s := by
  change execGeometryWindowEnd sl [] s = _
  unfold execGeometryWindowEnd
  simp only [hw]
  rw [if_pos (.inl rfl)]

/-- A report of a memory changes neither the rendering state nor the hardware's. -/
theorem memEvent_kept (die bank kind word : Nat) (s : State) :
    (memEvent die bank kind word s).rend = s.rend ∧ (memEvent die bank kind word s).hw = s.hw := by
  unfold memEvent eventLimited oncePerSecond
  split
  · exact ⟨rfl, rfl⟩
  · next t ht =>
    obtain ⟨m, w, hev⟩ := event_eq 15 die 0x0E82 0xFFFF
      (bytesLE 1 die ++ bytesLE 1 bank ++ bytesLE 1 kind ++ bytesLE 1 0 ++ bytesLE 4 word) t
    have hbase : t.rend = s.rend ∧ t.hw = s.hw := by
      split at ht
      · split at ht
        · exact absurd ht (by simp)
        · cases ht
          exact ⟨rfl, rfl⟩
      · cases ht
        exact ⟨rfl, rfl⟩
    rw [hev]
    exact hbase

theorem overrun_marked (x : BitVec 4) (sl : Nat) : (x ||| BitVec.ofNat 4 (2 ^ (sl % 4))).getLsbD (sl % 4) = true := by
  have hlt : sl % 4 < 4 := Nat.mod_lt _ (by decide)
  rw [BitVec.getLsbD_or, BitVec.getLsbD_ofNat, Nat.testBit_two_pow_self, decide_eq_true hlt]
  exact Bool.or_true _

theorem cutWindow_targets {b : Nat} {late : List Nat} {v : Window} (hb : (cutWindow b late v).boundary = b) :
    ∀ e ∈ (cutWindow b late v).targets, ∀ g ∈ e.2, late.contains (e.1 * 512 + g.1) = false := by
  by_cases hv : v.boundary = b
  · unfold cutWindow
    rw [if_neg (not_not_intro hv)]
    intro e he g hg
    obtain ⟨f, -, rfl⟩ := List.mem_map.mp he
    simpa using (List.mem_filter.mp hg).2
  · unfold cutWindow at hb
    rw [if_pos hv] at hb
    exact absurd hb hv

theorem execUpdateBoundary_eq {sl b : Nat} {s : State} (hsl : sl < s.member.slices) (hpow : powered s (sliceDie sl) = true) :
    exec (.updateBoundary sl b) s = .next (if (getSlice s sl).boundary < b then loadBoundary sl b s else s) := by
  change execUpdateBoundary sl b s = _
  unfold execUpdateBoundary
  simp only [hsl, hpow, true_and]

theorem loadBoundary_slice {sl b : Nat} {s : State} (h : ∃ w ∈ (getSlice s sl).windows, w.boundary = b) :
    (getSlice (loadBoundary sl b s) sl).boundary = b ∧ (getSlice (loadBoundary sl b s) sl).period = periodAt s b := by
  obtain ⟨w, hw, hwb⟩ := windows_computeWindow h
  have hfound : ((getSlice (computeWindow sl b s) sl).windows.find? fun v => v.boundary == b).isSome = true :=
    List.find?_isSome.mpr ⟨w, hw, beq_iff_eq.mpr hwb⟩
  obtain ⟨v, hv⟩ := Option.isSome_iff_exists.mp hfound
  unfold loadBoundary
  simp only [hv, periodAt_computeWindow]
  rw [getSlice_setSlice_same]
  exact ⟨rfl, rfl⟩

/-- Settles O39. -/
theorem speakersAndWindows : Obligations.SpeakersAndWindows := by
  unfold Obligations.SpeakersAndWindows
  intro rq s
  refine ⟨fun h => ⟨fun hn => ?_, fun hn ht hf hc hl d u hd => ⟨fun r hb hr _ _ => ?_, fun t hb hlim => ?_⟩⟩,
    fun rs arrays taper tf tc at_ => ⟨buildTable_close, buildTable_double, buildTable_untyped⟩,
    fun h hid hlim t hb => next_recorded h rfl (spkSetBody_ok hid hlim hb),
    fun h hid => next_badArg h (spkSetBody_id hid), fun h hb r hr => next_answered h rfl (spkGetBody_ok hb hr),
    fun h hlow hhigh ha => next_recorded h rfl (spkEnvCfgBody_ok hlow hhigh ha),
    fun h hb => next_answered h rfl (spkMeshGetBody_ok hb),
    fun h o ho hspk q hq => next_answered h rfl (spkPairGetBody_ok ho hspk hq),
    fun sl w rest hsl hw => ⟨execGeometryWindowEnd_finished hw, fun late hlate hpow =>
      ⟨_, execGeometryWindowEnd_late hw hlate hpow, ?_⟩⟩,
    fun sl b hsl hpow => ⟨fun hb => ?_, fun hb => ?_, loadBoundary_slice⟩⟩
  · exact next_refused h (by decide) (by decide) (spkTableLoadBody_size hn)
  · exact next_replied h rfl (spkTableLoadBody_error hn ht hf hc hl hd hb) hr
  · exact next_answered h rfl (spkTableLoadBody_ok hn ht hf hc hl hd hb hlim)
  · obtain ⟨hrend, hhw⟩ := memEvent_kept (sliceDie sl) ((Config.unstated 230 sl).toNat % 256) 2 0
      (count (0x0800 + 4 * sl + 3) (overrunSlice sl w.boundary late (computeWindow sl w.boundary s)))
    have hcount : ∀ j, counter (memEvent (sliceDie sl) ((Config.unstated 230 sl).toNat % 256) 2 0
        (count (0x0800 + 4 * sl + 3) (overrunSlice sl w.boundary late (computeWindow sl w.boundary s)))) j
          = counter (count (0x0800 + 4 * sl + 3) (computeWindow sl w.boundary s)) j := fun j => by
      unfold counter
      rw [hhw]
      rfl
    refine ⟨?_, ?_, fun hcomp => ?_, ?_⟩
    · unfold getTile
      rw [hrend]
      change (getTile (overrunSlice _ _ _ _) _).geoOverrun.getLsbD _ = _
      rw [overrunSlice, getTile_setTile_same]
      exact overrun_marked _ _
    · rw [hcount, count, counter_countBy]
      exact Nat.add_le_add_right (counter_computeWindow_le _ _ _ _) 1
    · rw [hcount, count, counter_countBy, computeWindow_computed hcomp]
    · have hwin : (getSlice (memEvent (sliceDie sl) ((Config.unstated 230 sl).toNat % 256) 2 0
          (count (0x0800 + 4 * sl + 3) (overrunSlice sl w.boundary late (computeWindow sl w.boundary s)))) sl).windows
            = (getSlice (computeWindow sl w.boundary s) sl).windows.map (cutWindow w.boundary late) := by
        unfold getSlice
        rw [hrend]
        exact congrArg Slice.windows (getSlice_setSlice_same _ sl _)
      rw [hwin]
      intro v hv hvb
      obtain ⟨v', -, rfl⟩ := List.mem_map.mp hv
      exact cutWindow_targets hvb
  · rw [execUpdateBoundary_eq hsl hpow, if_pos hb]
  · rw [execUpdateBoundary_eq hsl hpow, if_neg (by omega)]

end Sys2Proof.Machine
end

section
/-! PROOFS. The messages of the speaker chain (O40). -/

namespace Sys2Proof.Machine
open Host

/-! ### Fields of a payload -/

theorem fieldLE_lt (bs : List Byte) (off n : Nat) : fieldLE bs off n < 2 ^ (8 * n) := by
  induction n generalizing off with
  | zero => exact Nat.one_pos
  | succ n ih =>
    have hb := byteAt_le bs off
    have hrest := ih (off + 1)
    have hpow : 2 ^ (8 * (n + 1)) = 256 * 2 ^ (8 * n) := by rw [Nat.mul_add, Nat.pow_add, Nat.mul_comm]
    rw [fieldLE, hpow]
    omega

/-- Writing a field back gives the bytes it was read from. -/
theorem bytesLE_fieldLE (bs : List Byte) (off n : Nat) : bytesLE n (fieldLE bs off n) = slice bs off n := by
  induction n generalizing off with
  | zero => rfl
  | succ n ih =>
    have hb := byteAt_le bs off
    have hdiv : fieldLE bs off (n + 1) / 256 = fieldLE bs (off + 1) n := by
      rw [fieldLE]
      omega
    have hmod : BitVec.ofNat 8 (fieldLE bs off (n + 1)) = bs.getD off 0 := by
      apply BitVec.eq_of_toNat_eq
      rw [BitVec.toNat_ofNat, fieldLE]
      unfold byteAt at hb ⊢
      omega
    rw [bytesLE, hdiv, hmod, ih, slice, slice, List.range_succ_eq_map, List.map_cons, List.map_map]
    congr 1
    exact List.map_congr_left fun i _ => by simp [Nat.add_assoc, Nat.add_comm 1]

theorem bytesS_fieldS (bs : List Byte) (off n : Nat) : bytesS n (fieldS bs off n) = slice bs off n := by
  have hlt := fieldLE_lt bs off n
  rw [← bytesLE_fieldLE]
  unfold bytesS fieldS signed
  dsimp only
  rw [Nat.mod_eq_of_lt hlt]
  congr 1
  split
  · rw [Int.emod_eq_of_lt (by omega) (by exact_mod_cast hlt)]
    rfl
  · rw [Int.sub_emod_right, Int.emod_eq_of_lt (by omega) (by exact_mod_cast hlt)]
    rfl

theorem take_append_slice (bs : List Byte) (a n : Nat) (h : a + n ≤ bs.length) :
    bs.take a ++ slice bs a n = bs.take (a + n) := by
  rw [slice_eq_take_drop _ _ _ h, List.take_add]

/-- A request served has every field of its layout. -/
theorem layout_of_served {op : NcpOp} {rq : Request} {s : State} (h : served op rq s = true) :
    firstMissing (op.layout rq.version) 0 rq.payload.length = none := by
  obtain ⟨-, hg⟩ := (served_iff op rq s).mp h
  cases hm : firstMissing (op.layout rq.version) 0 rq.payload.length with
  | none => rfl
  | some f =>
    unfold gate at hg
    simp only [hm] at hg
    split_ifs at hg

/-- A payload that has every field of a layout is at least as long as the layout. -/
theorem le_length_of_firstMissing {l : List Nat} {off n : Nat} (hoff : off ≤ n) (h : firstMissing l off n = none) :
    off + l.sum ≤ n := by
  induction l generalizing off with
  | nil => exact hoff
  | cons size rest ih =>
    unfold firstMissing at h
    split_ifs at h with hsize
    have hrest := ih hsize h
    rw [List.sum_cons]
    omega

section
variable {rq : Request} {s : State}

/-! ### `chain.cfg` -/

theorem isChannel_speaker {m : Member} {c : Nat} (h : c < m.speakers) : isChannel m c = true := by
  simp [isChannel, h]

/-- The settings of a speaker's channel that sends to no bus. -/
theorem chainCfgBody_speaker (hlen : 16 ≤ rq.payload.length) (hc : rq.flow < s.member.speakers) (hc' : rq.flow < 512)
    (hn : byteAt rq.payload 1 = 0) :
    let f := byteAt rq.payload 0
    let y : ChanSet := { chanSet s true rq.flow with cfg := {
      invert := bit f 0, mainOff := bit f 1, sosBypass := bit f 2, firBypass := bit f 3, protBypass := bit f 4
      sends := [], trim := 0, delay := 0, model := 0xFFFF } }
    granulesFit s s.rend.geoStage.table (mapSet s.chain.stage rq.flow y) = true →
    chainCfgBody rq s = replyOk (rq.payload.take 14 ++ [0, 0]) (setStage rq.flow y s) := by
  intro f y hfit
  have hbus : isBus rq.flow = false := decide_eq_false (Nat.not_le.mpr hc')
  have hused : rq.payload.take 4 ++ slice rq.payload 4 2 ++ slice rq.payload 6 2 ++ slice rq.payload 8 2
      ++ slice rq.payload 10 2 ++ slice rq.payload 12 2 = rq.payload.take 14 := by
    rw [take_append_slice _ 4 2 (by omega), take_append_slice _ 6 2 (by omega), take_append_slice _ 8 2 (by omega),
      take_append_slice _ 10 2 (by omega), take_append_slice _ 12 2 (by omega)]
  unfold chainCfgBody
  simp only [isChannel_speaker hc, hn, hbus, Bool.false_and, List.take_zero, bytesS_fieldS, bytesLE_fieldLE,
    Bool.not_true, Bool.false_eq_true, if_false]
  rw [if_neg (by decide), if_neg (by simp), if_neg (by simp), if_neg (by rw [show _ = true from hfit]; decide)]
  rw [show firstBad _ = none from rfl, if_neg (by decide), if_neg (by decide), bytesS_fieldS, bytesS_fieldS, hused]
  rfl

theorem chainCfgBody_channel (hc : isChannel s.member rq.flow = false) : chainCfgBody rq s = badArg noField s := by
  unfold chainCfgBody
  dsimp only
  rw [if_pos (by rw [hc]; rfl)]

theorem chainCfgBody_mainOff (hc : isChannel s.member rq.flow = true) (hbus : 512 ≤ rq.flow) (hn : byteAt rq.payload 1 ≤ 2)
    (hoff : bit (byteAt rq.payload 0) 1 = true) : chainCfgBody rq s = refuse codeBadArg 2 0 s := by
  have hb : isBus rq.flow = true := decide_eq_true hbus
  unfold chainCfgBody
  dsimp only
  rw [if_neg (by rw [hc]; decide), if_neg (by omega), if_pos (by rw [hb, hoff]; rfl)]

/-! ### Sections, FIR and protection -/

theorem chainSosStageBody_ok (hc : isChannel s.member rq.flow = true) (hn : byteAt rq.payload 0 ≤ 24)
    (hw : byteAt rq.payload 1 + byteAt rq.payload 2 ≤ 24) (hlen : 4 + 20 * byteAt rq.payload 2 ≤ rq.payload.length)
    (hst : ∀ i, i < byteAt rq.payload 2 → (sectionAt rq.payload i).stable = true) :
    let x := chanSet s true rq.flow
    let y : ChanSet := { x with sos := ((List.range (byteAt rq.payload 2)).foldl
      (fun m i => mapSet m (byteAt rq.payload 1 + i) (sectionAt rq.payload i)) x.sos) }
    sosFit s rq.flow y (byteAt rq.payload 0) = byteAt rq.payload 0 →
    chainSosStageBody rq s = replyOk (bytesLE 1 (byteAt rq.payload 0))
      (setStage rq.flow { y with sosCount := byteAt rq.payload 0 } s) := by
  intro x y hfit
  have hnone : ((List.range (byteAt rq.payload 2)).find? fun i => !(sectionAt rq.payload i).stable) = none :=
    List.find?_eq_none.mpr fun i hi => by simp [hst i (List.mem_range.mp hi)]
  unfold chainSosStageBody
  simp only [hnone]
  rw [if_neg (by rw [hc]; decide), if_neg (by omega), if_neg (by omega), if_neg (by omega), if_pos (by exact hfit), hfit]
  rfl

theorem chainSosStageBody_unstable (hc : isChannel s.member rq.flow = true) (hn : byteAt rq.payload 0 ≤ 24)
    (hw : byteAt rq.payload 1 + byteAt rq.payload 2 ≤ 24) (hlen : 4 + 20 * byteAt rq.payload 2 ≤ rq.payload.length)
    (hsome : 0 < byteAt rq.payload 2) (hst : (sectionAt rq.payload 0).stable = false) :
    chainSosStageBody rq s = refuse codeBadArg 1 16 s := by
  have hfirst : ((List.range (byteAt rq.payload 2)).find? fun i => !(sectionAt rq.payload i).stable) = some 0 := by
    obtain ⟨k, hk⟩ : ∃ k, byteAt rq.payload 2 = k + 1 := ⟨_, (Nat.succ_pred_eq_of_pos hsome).symm⟩
    rw [hk, List.range_succ_eq_map, List.find?_cons_of_pos (by rw [hst]; rfl)]
  unfold chainSosStageBody
  simp only [hfirst]
  rw [if_neg (by rw [hc]; decide), if_neg (by omega), if_neg (by omega), if_neg (by omega)]

theorem chainFirStageBody_ok {d : List Byte} {u : State} (hc : isChannel s.member rq.flow = true)
    (href : refLength rq.payload 4 = 4 * fieldLE rq.payload 0 2)
    (hmax : fieldLE rq.payload 0 2 ≤ firMax (rateHz s.time.rate)) (hd : fetchReference rq 4 s = .ok (d, u))
    (htime : u.time = s.time) :
    let cs := (List.range (fieldLE rq.payload 0 2)).map fun i => signed 24 (fieldLE d (4 * i) 4)
    let y : ChanSet := { chanSet u true rq.flow with fir := cs }
    tileFir u (mapSet u.chain.stage rq.flow y) (homeTile u.member rq.flow) ≤ 14400000000 →
    chainFirStageBody rq s = replyOk (bytesLE 2 (fieldLE rq.payload 0 2) ++ bytesLE 2 (peakTap cs))
      (noteWithBytes true 0x0402 4 [] rq d (setStage rq.flow y u)) := by
  intro cs y hfit
  have hmin : min (fieldLE rq.payload 0 2) (firMax (frHz u)) = fieldLE rq.payload 0 2 := by
    rw [frHz, htime]
    omega
  have hcs : (List.range (fieldLE rq.payload 0 2)).map (firCoef d) = cs := rfl
  have hlen : cs.length = fieldLE rq.payload 0 2 := by simp [cs]
  have hwhole : decide (tileFir u (mapSet u.chain.stage rq.flow { chanSet u true rq.flow with fir := cs })
      (homeTile u.member rq.flow) ≤ firLimit) = true := decide_eq_true hfit
  unfold chainFirStageBody
  simp only [hd, hmin, hcs, hwhole, if_true, hlen]
  rw [if_neg (by rw [hc]; decide), if_neg (not_not_intro href)]
  rfl

theorem chainProtCfgBody_ok (hc : isChannel s.member rq.flow = true) (hlook : byteAt rq.payload 1 ≤ 64)
    (hlow : -12288 ≤ fieldS rq.payload 2 2) (hhigh : fieldS rq.payload 2 2 ≤ 6144) (hrel : 1 ≤ fieldLE rq.payload 4 2)
    (hrel' : fieldLE rq.payload 4 2 ≤ 5000) (hmar : 500 ≤ fieldLE rq.payload 6 2) (hmar' : fieldLE rq.payload 6 2 ≤ 1000) :
    let q : ProtCfg := { excursion := bit (byteAt rq.payload 0) 0, thermal := bit (byteAt rq.payload 0) 1
                         peak := bit (byteAt rq.payload 0) 2, look := byteAt rq.payload 1, threshold := fieldS rq.payload 2 2
                         release := fieldLE rq.payload 4 2, margin := fieldLE rq.payload 6 2 }
    chainProtCfgBody rq s = replyOk (protBytes q) (setStage rq.flow { chanSet s true rq.flow with prot := q } s) := by
  intro q
  have hl : min 64 (byteAt rq.payload 1) = byteAt rq.payload 1 := by omega
  have ht : clampInt (-12288) 6144 (fieldS rq.payload 2 2) = fieldS rq.payload 2 2 := by
    unfold clampInt
    omega
  have hr : clampNat 1 5000 (fieldLE rq.payload 4 2) = fieldLE rq.payload 4 2 := by
    unfold clampNat
    omega
  have hm : clampNat 500 1000 (fieldLE rq.payload 6 2) = fieldLE rq.payload 6 2 := by
    unfold clampNat
    omega
  unfold chainProtCfgBody
  simp only [hl, ht, hr, hm]
  rw [if_neg (by rw [hc]; decide)]
  simp [firstBad, replyUsed, q]

theorem Section.stable_iff (q : Section) :
    q.stable = true ↔ q.a2.natAbs < 2 ^ 28 ∧ (q.a1.natAbs : Int) < 2 ^ 28 + q.a2 := by
  unfold Section.stable
  rw [Bool.and_eq_true, decide_eq_true_iff, decide_eq_true_iff]

/-! ### Models, and what is read -/

theorem chainModelBody_ok (hi : fieldLE rq.payload 0 2 < 512) (hre : (modelAt rq.payload).re ≠ 0)
    (hbl : (modelAt rq.payload).bl ≠ 0) (hmms : (modelAt rq.payload).mms ≠ 0) (hcms : (modelAt rq.payload).cms ≠ 0)
    (hx : (modelAt rq.payload).xmax ≠ 0) (hfs : 8 * (modelAt rq.payload).fs ≤ fxOf (rateHz s.time.rate)) :
    let m := modelAt rq.payload
    chainModelBody rq s = replyOk
      (bytesLE 2 (min 65535 (fxRoundTo 10 m.fs).toNat) ++ bytesLE 2 (min 65535 (fxRoundTo 1000 m.qts).toNat))
      { s with chain.modelStage := mapSet s.chain.modelStage (fieldLE rq.payload 0 2) m } := by
  intro m
  have hfirst : firstBad [(4, (modelAt rq.payload).re != 0), (8, (modelAt rq.payload).bl != 0),
      (12, (modelAt rq.payload).mms != 0), (16, (modelAt rq.payload).cms != 0), (24, (modelAt rq.payload).xmax != 0)] = none := by
    simp [firstBad, hre, hbl, hmms, hcms, hx]
  unfold chainModelBody
  simp only [hfirst]
  rw [if_neg (by omega), if_neg (not_lt.mpr (by exact hfs))]

theorem chainModelBody_number (hi : 512 ≤ fieldLE rq.payload 0 2) : chainModelBody rq s = badArg 0 s := by
  unfold chainModelBody
  dsimp only
  rw [if_pos hi]

theorem chainGetBody_ok (hc : isChannel s.member rq.flow = true) (hb : byteAt rq.payload 0 ≤ 1) :
    let c := rq.flow
    let y := chanSet s (byteAt rq.payload 0 == 1) c
    let t := tableOf s (byteAt rq.payload 0 == 1)
    chainGetBody rq s = replyOk (chanCfgBytes y.cfg (trimOf t y c) (delayOf t y c) (modelOf t y c)
      ++ bytesLE 1 y.sosCount ++ [0] ++ bytesLE 2 y.fir.length ++ bytesLE 2 (peakTap y.fir)
      ++ bytesLE 2 ((delayOf t y c + 255) / 256) ++ protBytes y.prot
      ++ bytesLE 1 (flag (mapFind s.chain.models (modelOf t y c)).isSome) ++ [0, 0, 0]) s := by
  intro c y t
  unfold chainGetBody
  dsimp only
  rw [if_neg (by rw [hc]; decide), if_neg (by omega)]
  rfl

/-- The head of `chain.status`: gains, corner, estimates and excursion. -/
def chainStatusHead (s : State) (c : Nat) : List Byte :=
  let q := (getChan s c).prot
  bytesS 2 (gain256 q.ge) ++ bytesS 2 (gain256 q.gt) ++ bytesS 2 (gain256 q.gp) ++ bytesLE 2 (fxRound q.corner).toNat
    ++ estimateBytes (estimates s c).1 ++ estimateBytes (estimates s c).2 ++ bytesLE 4 (fxRoundTo 1000000 q.xLast).toNat

theorem length_chainStatusHead (s : State) (c : Nat) : (chainStatusHead s c).length = 16 := by
  simp [chainStatusHead, bytesS, estimateBytes, length_bytesLE]

theorem chainStatusBody_ok (hc : isChannel s.member rq.flow = true) :
    let c := rq.flow
    let y := chanSet s false c
    chainStatusBody rq s = replyOk (chainStatusHead s c ++ bytesLE 4 ((if isBus c then 0 else insertsOf s c)
      + delayOf s.rend.geo.table y c + y.prot.look + peakTap y.fir)) s := by
  intro c y
  unfold chainStatusBody
  dsimp only
  rw [if_neg (by rw [hc]; decide)]
  rfl

theorem chainBudgetBody_ok (hd : s.member.tarnDies.contains (byteAt rq.payload 0) = true) :
    let d := byteAt rq.payload 0
    chainBudgetBody rq s = replyOk (bytesLE 4 (tileFir s s.chain.stage d / 1000000) ++ bytesLE 4 14400
      ++ bytesLE 4 (tileSos s s.chain.stage d / 1000) ++ bytesLE 4 720000
      ++ bytesLE 2 (tileGranules s s.rend.geoStage.table s.chain.stage d) ++ bytesLE 2 2048) s := by
  intro d
  unfold chainBudgetBody
  dsimp only
  rw [if_neg (by rw [hd]; decide)]

theorem chainBudgetBody_die (hd : s.member.tarnDies.contains (byteAt rq.payload 0) = false) :
    chainBudgetBody rq s = badArg 0 s := by
  unfold chainBudgetBody
  dsimp only
  rw [if_pos (by rw [hd]; rfl)]

end

/-- Settles O40. -/
theorem chainMessages : Obligations.ChainMessages := by
  unfold Obligations.ChainMessages
  intro rq s
  refine ⟨fun h hc hc' hn hfit => ?_, fun h hc => next_badArg h (chainCfgBody_channel hc), fun h hc hbus hn hoff => ?_,
    fun h hc hn hw hlen => ⟨fun hst hfit => ?_, fun hsome hst => ?_⟩, Section.stable_iff,
    fun h hc href hmax d u hd htime hfit => ?_, fun h hc hlook hlow hhigh hrel hrel' hmar hmar' => ?_,
    fun h hi hre hbl hmms hcms hx hfs => ?_, fun h hi => next_badArg h (chainModelBody_number hi),
    fun h hc hb => next_answered h rfl (chainGetBody_ok hc hb), fun h hc => ⟨_, ?_, next_answered h rfl (chainStatusBody_ok hc), ?_⟩,
    fun h hd => next_answered h rfl (chainBudgetBody_ok hd), fun h hd => next_badArg h (chainBudgetBody_die hd)⟩
  · have hlen : 16 ≤ rq.payload.length := le_length_of_firstMissing (Nat.zero_le _) (layout_of_served h)
    exact next_recorded h rfl (chainCfgBody_speaker hlen hc hc' hn hfit)
  · exact next_refused h (by decide) (by decide) (chainCfgBody_mainOff hc hbus hn hoff)
  · exact next_recorded h rfl (chainSosStageBody_ok hc hn hw hlen hst hfit)
  · exact next_refused h (by decide) (by decide) (chainSosStageBody_unstable hc hn hw hlen hsome hst)
  · exact next_answered h rfl (chainFirStageBody_ok hc href hmax hd htime hfit)
  · exact next_recorded h rfl (chainProtCfgBody_ok hc hlook hlow hhigh hrel hrel' hmar hmar')
  · exact next_recorded h rfl (chainModelBody_ok hi hre hbl hmms hcms hx hfs)
  · rw [List.length_append, length_chainStatusHead, length_bytesLE]
  · intro y hbus
    rw [List.drop_left' (length_chainStatusHead s rq.flow), if_pos hbus, Nat.zero_add]

end Sys2Proof.Machine
end

section
/-! PROOFS. Ponds, DRAM and the bus matrix (O41). -/

namespace Sys2Proof.Machine
open Host

section
variable {die bank : Nat} {s : State}

/-! ### The state rules of a bank, and reports that leave the hardware as it is -/

theorem getBank_setBank (die bank : Nat) (b : PondBank) (s : State) : getBank (setBank die bank b s) die bank = b :=
  mapGet_mapSet_same _ _ _ _

/-- A report sent at most once a second changes messages and what goes out alone. -/
theorem eventLimited_eq (key cls die op flow : Nat) (fields : List Byte) (s : State) :
    ∃ m w, eventLimited key cls die op flow fields s = { s with msg := m, wire := w } := by
  unfold eventLimited
  cases h : oncePerSecond key s with
  | none => exact ⟨s.msg, s.wire, rfl⟩
  | some t =>
    obtain ⟨m, w, hev⟩ := event_eq cls die op flow fields t
    obtain ⟨m', rfl⟩ : ∃ m', t = { s with msg := m' } := by
      unfold oncePerSecond at h
      split at h
      · split_ifs at h
        cases h
        exact ⟨_, rfl⟩
      · cases h
        exact ⟨_, rfl⟩
    exact ⟨m, w, hev⟩

theorem eventLimited_hw (key cls die op flow : Nat) (fields : List Byte) (s : State) :
    (eventLimited key cls die op flow fields s).hw = s.hw := by
  obtain ⟨m, w, h⟩ := eventLimited_eq key cls die op flow fields s
  rw [h]

theorem eventLimited_sys (key cls die op flow : Nat) (fields : List Byte) (s : State) :
    (eventLimited key cls die op flow fields s).sys = s.sys := by
  obtain ⟨m, w, h⟩ := eventLimited_eq key cls die op flow fields s
  rw [h]

theorem dramEvent_hw (kind channel : Nat) (m : Master) (addr : Nat) (s : State) :
    (dramEvent kind channel m addr s).hw = s.hw := eventLimited_hw _ _ _ _ _ _ _

/-! ### Owner and power mode -/

theorem pndBankWrite_other {m : Master} {v : Word} (hm : m ≠ .controlCluster) : pndBankWrite m die bank v s = s := by
  unfold pndBankWrite
  rw [if_pos hm]

/-- A write that keeps TEST_INT gives both fields to the bank. -/
theorem pndBankWrite_fields {v : Word} (hint : v.getLsbD 10 = false) :
    pndBankWrite .controlCluster die bank v s
      = writePower die bank (v.toNat / 256 % 4) (v.toNat % 256) (writeOwner die bank (v.toNat % 256) s) := by
  unfold pndBankWrite
  rw [if_neg (not_not_intro rfl)]
  simp only [hint, Bool.false_eq_true, if_false]

theorem execPndBankOwnerWrite_there (m : Master) (v : Word) (hb : hasBank s die bank = true) (hp : powered s die = true) :
    execPndBankOwnerWrite m die bank v s = .next (busOk [] (pndBankWrite m die bank v s)) := by
  unfold execPndBankOwnerWrite
  rw [if_pos (by rw [hb, hp]; rfl)]

theorem execPndBankPowerWrite_there (m : Master) (v : Word) (hb : hasBank s die bank = true) (hp : powered s die = true) :
    execPndBankPowerWrite m die bank v s = .next (busOk [] (pndBankWrite m die bank v s)) :=
  execPndBankOwnerWrite_there m v hb hp

theorem writeOwner_same : writeOwner die bank (getBank s die bank).owner s = s := by
  unfold writeOwner
  rw [if_pos rfl]

theorem writeOwner_changed {o : Nat} (h : o ≠ (getBank s die bank).owner) :
    writeOwner die bank o s = if mayHand s die bank o then handBank die bank o s else pndRefused die bank o s := by
  unfold writeOwner
  rw [if_neg h]

theorem writePower_same {p asked : Nat} (h : p = (getBank s die bank).pwr) : writePower die bank p asked s = s := by
  unfold writePower
  dsimp only
  rw [if_pos (.inl h)]

theorem writePower_taken {p asked : Nat} (h : p ≠ (getBank s die bank).pwr) (hp : p < 3)
    (hpool : p = 0 ∨ (getBank s die bank).owner = 0) : writePower die bank p asked s = setPower die bank p s := by
  unfold writePower
  dsimp only
  rw [if_neg (by omega), if_neg (by omega)]

theorem writePower_refused {p asked : Nat} (h : p ≠ (getBank s die bank).pwr) (hp : p < 3) (h0 : p ≠ 0)
    (howned : (getBank s die bank).owner ≠ 0) : writePower die bank p asked s = pndRefused die bank asked s := by
  unfold writePower
  dsimp only
  rw [if_neg (by omega), if_pos ⟨h0, howned⟩]

theorem getBank_setPower (p : Nat) : (getBank (setPower die bank p s) die bank).pwr = p := by
  unfold setPower
  dsimp only
  rw [getBank_setBank]

/-! ### Parity of a bank of the Shore, and the background test -/

theorem execPondParityError_shore {word : Nat} {m : Master} {again : Bool} (hd : s.member.has die = true)
    (hp : powered s die = true) (hb : hasBank s die bank = true) (hbank : bank < 0x100) (hw : word < 16384)
    (hon : (getBank s die bank).pwr = 0) (hshore : isShore die = true) :
    execPondParityError { die := die, bank := bank, word := word, reader := m, again := again } s
      = .next (wordParity { die := die, bank := bank, word := word, reader := m, again := again } s) := by
  unfold execPondParityError
  dsimp only
  rw [if_neg (by simp [hd, hp]), if_pos hbank, if_neg (by simp [hb, hon, hw]), if_pos hshore]

theorem replayCycles_other {m : Master} (hm : ∀ n, m ≠ .ripple n) : replayCycles m s = s := by
  cases m with
  | ripple n => exact absurd rfl (hm n)
  | _ => rfl

theorem pondCounter_shore (k : Nat) (h : isShore die = true) : pondCounter die k = 0x6150 + k := if_pos h

theorem wordParity_replayed {word : Nat} {m : Master} (hshore : isShore die = true) (hm : ∀ n, m ≠ .ripple n) :
    wordParity { die := die, bank := bank, word := word, reader := m, again := false } s
      = count 0x6150 (bankError die bank s) := by
  unfold wordParity
  dsimp only
  rw [if_pos (by decide), replayCycles_other hm, pondCounter_shore 0 hshore]

theorem wordParity_concealed {word : Nat} {m : Master} (hshore : isShore die = true) (hm : m ≠ .controlCluster)
    (ht : isTarn die = false) :
    let u := queueBank die bank (count 0x6151 (bankError die bank s))
    wordParity { die := die, bank := bank, word := word, reader := m, again := true } s
      = { u with hw.ponds.bad := pondAddr die bank (4 * word) :: u.hw.ponds.bad } := by
  unfold wordParity
  dsimp only
  simp only [ht, hm, and_false, Bool.not_true, Bool.false_eq_true, if_false, pondCounter_shore 1 hshore]

theorem execPondTestRegion_on {region : Nat} (pass : Bool) (hb : hasBank s die bank = true) (hp : powered s die = true)
    (hon : (getBank s die bank).pwr = 0) (hr : region < 255) :
    let t := count (pondCounter die 2) s
    let u := if pass then t
      else memEvent die bank 2 (64 * region)
        (setBank die bank { getBank s die bank with failed := true } (count (pondCounter die 3) t))
    execPondTestRegion die bank region pass s
      = .next { u with hw.ponds.testing := mapSet u.hw.ponds.testing die (bank * 256 + region + 1) } := by
  unfold execPondTestRegion
  simp only [if_neg (show ¬ region = 255 by omega)]
  rw [if_neg (by simp [hb, hp, hon]; omega)]

theorem execPondTestRegion_failed {region : Nat} (hb : hasBank s die bank = true) (hp : powered s die = true)
    (hon : (getBank s die bank).pwr = 0) (hr : region < 255) :
    ∃ t, execPondTestRegion die bank region false s = .next t ∧ (getBank t die bank).failed = true ∧ t.hw.mem = s.hw.mem := by
  let u := setBank die bank { getBank s die bank with failed := true }
    (count (pondCounter die 3) (count (pondCounter die 2) s))
  obtain ⟨hrend, hhw⟩ := memEvent_kept die bank 2 (64 * region) u
  have hbank : getBank (memEvent die bank 2 (64 * region) u) die bank
      = mapGet (bank0 (memEvent die bank 2 (64 * region) u).member) u.hw.ponds.banks (die * 256 + bank) := by
    rw [getBank, hhw]
  refine ⟨_, execPondTestRegion_on false hb hp hon hr, ?_, ?_⟩
  · change (getBank (memEvent die bank 2 (64 * region) u) die bank).failed = true
    rw [hbank]
    exact congrArg PondBank.failed (mapGet_mapSet_same _ _ _ _)
  · change (memEvent die bank 2 (64 * region) u).hw.mem = s.hw.mem
    rw [hhw]
    rfl

/-! ### `diag.pond.status` -/

theorem diagPondStatusBody_ok {rq : Request} (hdie : byteAt rq.payload 0 = die) (hbank : byteAt rq.payload 1 = bank)
    (hd : s.member.has die = true) (hn : bankCount die ≠ 0) (hb : hasBank s die bank = true) :
    diagPondStatusBody rq s = replyOk (bytesLE 1 (getBank s die bank).pwr
      ++ bytesLE 1 (flag (getBank s die bank).testInt + 2 * flag (getBank s die bank).queued)
      ++ bytesLE 2 (getBank s die bank).owner ++ bytesLE 4 (getBank s die bank).errors) s := by
  unfold diagPondStatusBody
  simp only [hdie, hbank]
  rw [if_neg (by simp [hd, hn]), if_neg (by simp [hb])]

theorem diagPondStatusBody_absent {rq : Request} (hdie : byteAt rq.payload 0 = die) (hd : s.member.has die = false) :
    diagPondStatusBody rq s = badArg 0 s := by
  unfold diagPondStatusBody
  simp only [hdie]
  rw [if_pos (.inl (by rw [hd]; rfl))]

/-! ### Watchdogs -/

theorem execDecodeErrorWatchdog_open {m : Master} {addr : Nat} {write : Bool} (hm : m ≠ .controlCluster)
    (h : mapFind s.hw.opens (masterKey m) = some (addr, write)) :
    execDecodeErrorWatchdog m s
      = .next (endDecodeError m addr write { s with hw.opens := mapErase s.hw.opens (masterKey m) }) := by
  unfold execDecodeErrorWatchdog
  simp only [h, if_neg hm]

theorem execDecodeErrorWatchdog_none {m : Master} (h : mapFind s.hw.opens (masterKey m) = none) :
    execDecodeErrorWatchdog m s = .next s := by
  unfold execDecodeErrorWatchdog
  simp only [h]

/-! ### DRAM -/

/-- The state after the count and the report of a DRAM parity error of one kind. -/
def dramNoted (kind : Nat) (m : Master) (d : Nat) (s : State) : State :=
  dramEvent kind (d / 256 % 2) m (dramAddr s d) (count (dramCounter (d / 256 % 2) kind) s)

theorem activeShore_dramNoted (kind : Nat) (m : Master) (d : Nat) (s : State) :
    activeShore (dramNoted kind m d s) = activeShore s :=
  congrArg (·.red.active) (eventLimited_sys _ _ _ _ _ _ _)

theorem execDramParityError_on {addr d : Nat} {m : Master} {second : Bool} (hd : dramOffset s addr = some d)
    (hp : powered s (activeShore s) = true) (hst : s.hw.dram.st = 1) :
    execDramParityError addr m second s = .next (
      let t := dramNoted (flag second) m d s
      if !second then t
      else if m = .controlCluster then fatal 3 (activeShore t) t
      else { t with hw.ponds.bad := dramAddr s d / 4 * 4 :: t.hw.ponds.bad }) := by
  unfold execDramParityError
  simp only [hd]
  rw [if_neg (by simp [hp, hst])]
  rfl

theorem execRowhammerThrottle_on {ch b row addr : Nat} {m : Master} (hch : ch < 2) (hb : b < 16) (hst : s.hw.dram.st = 1)
    (hp : powered s (activeShore s) = true) :
    execRowhammerThrottle ch b row m addr s = .next (
      let t := count (dramCounter ch 4) s
      if s.hw.dram.limited.contains (ch, b, row, masterNumber m) then t
      else dramEvent 2 ch m addr (emit (.refresh ch b) (count (dramCounter ch 5)
        { t with hw.dram.limited := (ch, b, row, masterNumber m) :: t.hw.dram.limited }))) := by
  unfold execRowhammerThrottle
  dsimp only
  rw [if_neg (by simp [hp, hst]; omega)]

theorem execRowhammerThrottle_first {ch b row addr : Nat} {m : Master} (hch : ch < 2) (hb : b < 16)
    (hst : s.hw.dram.st = 1) (hp : powered s (activeShore s) = true)
    (hnew : s.hw.dram.limited.contains (ch, b, row, masterNumber m) = false) :
    ∃ u, execRowhammerThrottle ch b row m addr s = .next u
      ∧ u.hw.dram.limited = (ch, b, row, masterNumber m) :: s.hw.dram.limited
      ∧ counter u (dramCounter ch 5) = counter s (dramCounter ch 5) + 1 := by
  let t := count (dramCounter ch 4) s
  let v : State := { t with hw.dram.limited := (ch, b, row, masterNumber m) :: t.hw.dram.limited }
  have hhw : (dramEvent 2 ch m addr (emit (.refresh ch b) (count (dramCounter ch 5) v))).hw
      = (count (dramCounter ch 5) v).hw := dramEvent_hw _ _ _ _ _
  refine ⟨dramEvent 2 ch m addr (emit (.refresh ch b) (count (dramCounter ch 5) v)), ?_, ?_, ?_⟩
  · rw [execRowhammerThrottle_on hch hb hst hp]
    dsimp only
    rw [if_neg (by rw [hnew]; decide)]
  · rw [hhw]
    rfl
  · rw [counter, hhw]
    change counter (count (dramCounter ch 5) v) (dramCounter ch 5) = _
    rw [count, counter_countBy]
    congr 1
    exact counter_countBy_other 1 s (by unfold dramCounter; omega)

theorem execDramRowIdleClose_bank {ch b : Nat} (hch : ch < 2) (hb : b < 16) :
    execDramRowIdleClose ch b s = .next { s with
      hw.dram.banks := mapSet s.hw.dram.banks (ch * 16 + b) { getDramBank s (ch * 16 + b) with openRow := none } } := by
  unfold execDramRowIdleClose
  rw [if_neg (by omega)]
  rfl

end

/-- Settles O41. -/
theorem pondsAndDram : Obligations.PondsAndDram := by
  unfold Obligations.PondsAndDram
  intro die bank s
  refine ⟨fun hb hp => ⟨fun m v hm => ?_, fun v ho hpw hint hkeep => ?_, fun v ho hpw hlt hint => ⟨fun hpool => ?_, fun h0 howned => ?_⟩⟩,
    fun p => getBank_setPower p, fun word m again hd hp hb hbank hw hon hshore => ⟨fun ha hm => ?_, fun ha hm ht => ?_⟩,
    fun region hb hp hon hr => ⟨execPondTestRegion_on true hb hp hon hr, execPondTestRegion_failed hb hp hon hr⟩,
    fun rq h hdie hbank => ⟨fun hd hn hb => next_answered h rfl (diagPondStatusBody_ok hdie hbank hd hn hb),
      fun hd => next_badArg h (diagPondStatusBody_absent hdie hd)⟩,
    fun m addr write hm h => execDecodeErrorWatchdog_open hm h, fun m h => execDecodeErrorWatchdog_none h, fun addr => rfl,
    fun addr m d hd hp hst => ⟨execDramParityError_on hd hp hst, fun hm => ?_, fun hm => ?_⟩,
    fun ch b row m addr hch hb hst hp => ⟨fun hold => ?_, fun hnew => execRowhammerThrottle_first hch hb hst hp hnew⟩,
    rfl, fun ch b hch hb => execDramRowIdleClose_bank hch hb⟩
  · refine ⟨(execPndBankOwnerWrite_there m v hb hp).trans ?_, (execPndBankPowerWrite_there m v hb hp).trans ?_⟩ <;>
      rw [pndBankWrite_other hm]
  · refine (execPndBankOwnerWrite_there _ v hb hp).trans ?_
    rw [pndBankWrite_fields hint, writePower_same (hpw.trans hkeep.symm), writeOwner_changed ho]
  · refine (execPndBankPowerWrite_there _ v hb hp).trans ?_
    rw [pndBankWrite_fields hint, ho, writeOwner_same, writePower_taken hpw hlt hpool]
  · refine (execPndBankPowerWrite_there _ v hb hp).trans ?_
    rw [pndBankWrite_fields hint, ho, writeOwner_same, writePower_refused hpw hlt h0 howned]
  · subst ha
    refine (execPondParityError_shore hd hp hb hbank hw hon hshore).trans ?_
    rw [wordParity_replayed hshore hm]
    rfl
  · subst ha
    refine (execPondParityError_shore hd hp hb hbank hw hon hshore).trans ?_
    rw [wordParity_concealed hshore hm ht]
    rfl
  · refine (execDramParityError_on hd hp hst).trans ?_
    dsimp only
    rw [if_neg (by simp), if_pos hm, activeShore_dramNoted]
    rfl
  · refine (execDramParityError_on hd hp hst).trans ?_
    dsimp only
    rw [if_neg (by simp), if_neg hm]
    rfl
  · refine (execRowhammerThrottle_on hch hb hst hp).trans ?_
    dsimp only
    rw [if_pos hold]

end Sys2Proof.Machine
end

section
/-! PROOFS. Fatal errors, the state dump and the counters (O42). -/

namespace Sys2Proof.Machine
open Host

section
variable {rq : Request} {s : State}

theorem execFatalError_cause {cause die : Nat} (hlow : 1 ≤ cause) (hhigh : cause ≤ 7) (hd : s.member.has die = true) :
    execFatalError cause die s = .next (fatal cause die s) := by
  unfold execFatalError
  rw [if_pos ⟨hlow, hhigh, hd⟩]

/-! ### The end of a dump -/

theorem execDumpWritten_dumping {word : Nat} (complete : Bool) (h : s.sys.fatal.dumping = some word)
    (hdue : s.sys.fatal.restartDue = false) :
    execDumpWritten complete s = .next (afterDump word (recordFatal word complete 0 s)) := by
  unfold execDumpWritten
  simp only [h, hdue, Bool.not_false, Bool.and_true]

theorem execDumpWritten_none (complete : Bool) (h : s.sys.fatal.dumping = none) : execDumpWritten complete s = .next s := by
  unfold execDumpWritten
  simp only [h]

theorem afterDump_restart {word : Nat} (h : failsOver s (bits word 7 0) (bits word 15 8) = false) :
    afterDump word s
      = { s with sys.fatal.dumping := none, sys.fatal.restartDue := true, sys.fatal.announce := true } := by
  unfold afterDump
  dsimp only
  rw [if_neg (by rw [h]; decide)]

theorem afterDump_failsOver {word : Nat} (h : failsOver s (bits word 7 0) (bits word 15 8) = true) :
    (afterDump word s).sys = { s.sys with
      fatal.dumping := none, fatal.restartDue := false, red.hubUp := false, red.declared := some (activeShore s, 1) } := by
  unfold afterDump
  dsimp only
  rw [if_pos h]
  rfl

/-! ### The dump that is present -/

theorem diagDumpInfoBody_none (h : dumpPresent s = none) : diagDumpInfoBody rq s = replyOk (List.replicate 20 0) s := by
  unfold diagDumpInfoBody
  simp only [h]

theorem diagDumpInfoBody_present {place base : Nat} (h : dumpPresent s = some (place, base)) :
    let d := readBytes s base 24
    diagDumpInfoBody rq s = replyOk (bytesLE 1 1 ++ bytesLE 1 place ++ bytesLE 2 (fieldLE d 6 2)
      ++ bytesLE 4 (fieldLE d 8 4) ++ slice d 16 8 ++ slice d 12 4) s := by
  unfold diagDumpInfoBody
  simp only [h]

theorem diagDumpReadBody_ok {place base : Nat} (hlow : 1 ≤ fieldLE rq.payload 4 2) (hhigh : fieldLE rq.payload 4 2 ≤ 1000)
    (h : dumpPresent s = some (place, base))
    (hin : fieldLE rq.payload 0 4 + fieldLE rq.payload 4 2 ≤ fieldLE (readBytes s base 12) 8 4) :
    diagDumpReadBody rq s = replyOk (readBytes s (base + fieldLE rq.payload 0 4) (fieldLE rq.payload 4 2)) s := by
  unfold diagDumpReadBody
  simp only [h]
  rw [if_neg (by omega), if_neg (by omega)]

theorem diagDumpReadBody_length (h : fieldLE rq.payload 4 2 = 0 ∨ 1000 < fieldLE rq.payload 4 2) :
    diagDumpReadBody rq s = badArg 4 s := by
  unfold diagDumpReadBody
  dsimp only
  rw [if_pos (by omega)]

theorem diagDumpClearBody_none (h : dumpPresent s = none) : diagDumpClearBody rq s = replyOk [] s := by
  unfold diagDumpClearBody
  simp only [h]

theorem diagDumpClearBody_present {place base : Nat} (h : dumpPresent s = some (place, base)) :
    diagDumpClearBody rq s = replyOk [] (writeBytes base (List.replicate 6 0) s) := by
  unfold diagDumpClearBody
  simp only [h]

/-- Without the first byte of its magic a header is not valid. -/
theorem dumpValid_of_zeroed (base : Nat) : dumpValid (writeBytes base (List.replicate 6 0) s) base = false := by
  have hzero : memByte (memPuts s.hw.mem base (List.replicate 6 0)) base = 0 :=
    memByte_memPuts_inside s.hw.mem base 0 (List.replicate 6 0) (by decide)
  have hmagic : (readBytes (writeBytes base (List.replicate 6 0) s) base 512).take 6 ≠ dumpMagic := by
    intro heq
    have hfirst := congrArg (·[0]?) heq
    simp [readBytes, memGets, mem_writeBytes, dumpMagic] at hfirst
    exact absurd (hfirst.symm.trans hzero) (by decide)
  unfold dumpValid
  dsimp only
  rw [beq_false_of_ne hmagic, Bool.false_and]

/-! ### Counters -/

theorem diagCountersReadBody_ok (hlow : 1 ≤ fieldLE rq.payload 2 2) (hhigh : fieldLE rq.payload 2 2 ≤ 125)
    (hids : ∀ i, i < fieldLE rq.payload 2 2 → isCounter (fieldLE rq.payload 0 2 + i) = true) :
    diagCountersReadBody rq s = replyOk
      ((List.range (fieldLE rq.payload 2 2)).flatMap fun i => bytesLE 8 (counter s (fieldLE rq.payload 0 2 + i))) s := by
  have hread : ∀ i ∈ List.range (fieldLE rq.payload 2 2),
      bytesLE 8 (counterRead s (fieldLE rq.payload 0 2 + i)) = bytesLE 8 (counter s (fieldLE rq.payload 0 2 + i)) := by
    intro i hi
    rw [counterRead, if_pos (hids i (List.mem_range.mp hi))]
  unfold diagCountersReadBody
  dsimp only
  rw [if_neg (by omega), List.flatMap_congr hread]

end

/-- Settles O42. -/
theorem dumps : Obligations.Dumps := by
  unfold Obligations.Dumps
  intro rq s
  refine ⟨fun cause die hlow hhigh hd => execFatalError_cause hlow hhigh hd,
    fun word complete h hdue => execDumpWritten_dumping complete h hdue, fun word h => afterDump_restart h, fun word h => ?_,
    fun h complete => execDumpWritten_none complete h, fun h hd => next_answered h rfl (diagDumpInfoBody_none (rq := rq) hd),
    fun h place base hd => next_answered h rfl (diagDumpInfoBody_present (rq := rq) hd),
    fun h hlow hhigh place base hd hin => next_answered h rfl (diagDumpReadBody_ok hlow hhigh hd hin),
    fun h hlen => next_badArg h (diagDumpReadBody_length hlen),
    fun h => ⟨fun place base hd => ⟨_, next_answered h rfl (diagDumpClearBody_present (rq := rq) hd), rfl, dumpValid_of_zeroed base⟩,
      fun hd => next_answered h rfl (diagDumpClearBody_none (rq := rq) hd)⟩,
    fun h hlow hhigh hids => next_answered h rfl (diagCountersReadBody_ok hlow hhigh hids)⟩
  have hsys := afterDump_failsOver h
  simp only [hsys, and_self]

end Sys2Proof.Machine
end

section
/-! PROOFS. The `rpl` messages (O43). -/

namespace Sys2Proof.Machine
open Host

section
variable {rq : Request} {s : State}

/-! ### Loading, starting, stopping and resetting a core -/

theorem rplLoadBody_ok {image : List Byte} {t : State} (hc : coreThere s (byteAt rq.payload 0) = true)
    (hf : fetchReference rq 4 s = .ok (image, t)) (hlen : image.length ≤ 65536) (hword : image.length % 4 = 0) :
    rplLoadBody rq s = replyOk (bytesLE 4 image.length ++ (digestBytes (Config.sha384 image)).take 8)
      (noteWithBytes false 0x0A00 4 [BitVec.ofNat 8 (byteAt rq.payload 0)] rq image
        (loadCore (byteAt rq.payload 0) (bit (byteAt rq.payload 1) 0) image t)) := by
  unfold rplLoadBody
  simp only [hf]
  rw [if_neg (by rw [hc]; decide), if_neg (by omega)]

theorem rplStartBody_ok (hc : coreThere s (byteAt rq.payload 0) = true) :
    rplStartBody rq s = replyOk [] (startCore (byteAt rq.payload 0) s) := by
  unfold rplStartBody
  dsimp only
  rw [if_neg (by rw [hc]; decide)]

theorem rplStartBody_absent (hc : coreThere s (byteAt rq.payload 0) = false) : rplStartBody rq s = badArg 0 s := by
  unfold rplStartBody
  dsimp only
  rw [if_pos (by rw [hc]; rfl)]

theorem rplStopBody_ok (hc : coreThere s (byteAt rq.payload 0) = true) :
    rplStopBody rq s = replyOk [] (stopCore (byteAt rq.payload 0) s) := by
  unfold rplStopBody
  dsimp only
  rw [if_neg (by rw [hc]; decide)]

theorem rplResetBody_ok (hc : coreThere s (byteAt rq.payload 0) = true) :
    rplResetBody rq s = replyOk [] (resetCore (byteAt rq.payload 0) s) := by
  unfold rplResetBody
  dsimp only
  rw [if_neg (by rw [hc]; decide)]

theorem rplMeasureBody_ok (hc : coreThere s (byteAt rq.payload 0) = true) :
    let c := getCore s (byteAt rq.payload 0)
    rplMeasureBody rq s = replyOk (bytesLE 4 c.busyLast ++ bytesLE 4 c.peak ++ bytesLE 4 c.ovr) s := by
  intro c
  unfold rplMeasureBody
  dsimp only
  rw [if_neg (by rw [hc]; decide)]

/-- Loading and stopping wait for the end of a repeat, and are served outside one. -/
theorem execRplLoad_eq : execRplLoad rq s
    = .next (if inRepeat s (byteAt rq.payload 0) then s else serve rplLoadOp rq s) := rfl

theorem execRplStop_eq : execRplStop rq s
    = .next (if inRepeat s (byteAt rq.payload 0) then s else serve rplStopOp rq s) := rfl

theorem startCore_fresh (n : Nat) (s : State) :
    (getCore (startCore n s) n).st = .running ∧ (getCore (startCore n s) n).pc = 0 ∧ (getCore (startCore n s) n).d = []
      ∧ (getCore (startCore n s) n).windows = (getCore s n).windows := by
  unfold startCore
  simp only [getCore_setCore_same]
  exact ⟨trivial, rfl, rfl, rfl⟩

theorem stopCore_running {n : Nat} (h : (getCore s n).st = .running) : (getCore (stopCore n s) n).st = .stopped := by
  unfold stopCore
  dsimp only
  rw [if_pos h, getCore_setCore_same]

/-! ### Grants -/

theorem rplGrantBody_checked (hc : coreThere s (byteAt rq.payload 0) = true) (hlow : 224 ≤ byteAt rq.payload 1)
    (hhigh : byteAt rq.payload 1 + byteAt rq.payload 2 ≤ 256) (hop : byteAt rq.payload 3 < 2) :
    let banks := (List.range (byteAt rq.payload 2)).map (byteAt rq.payload 1 + ·)
    rplGrantBody rq s
      = if byteAt rq.payload 3 = 0 then grantBanks (byteAt rq.payload 0) banks s else returnBanks (byteAt rq.payload 0) banks s := by
  intro banks
  have hfirst : firstBad [(0, coreThere s (byteAt rq.payload 0)), (1, decide (224 ≤ byteAt rq.payload 1)),
      (2, decide (byteAt rq.payload 1 + byteAt rq.payload 2 ≤ 256)), (3, decide (byteAt rq.payload 3 < 2))] = none := by
    simp [firstBad, hc, hlow, hhigh, hop]
  unfold rplGrantBody
  simp only [hfirst]
  rfl

/-- A bank of the pool may pass to a core that the table names. -/
theorem mayHand_core {die b n : Nat} (howner : (getBank s die b).owner = 0) (hx : xferAllows s die b (0x40 + n % 16) = true)
    (hcode : ownerCode s.member die (0x40 + n % 16) = true) : mayHand s die b (0x40 + n % 16) = true := by
  have hfix : fixedOwner die 0 = false := by simp [fixedOwner]
  have hfix' : fixedOwner die (0x40 + n % 16) = false := by
    have hout : ¬ 0x40 + n % 16 < 0x14 := by omega
    have hspring : (0x40 + n % 16 == 0x20) = false := beq_false_of_ne (by omega)
    simp [fixedOwner, hout, hspring]
  unfold mayHand
  simp only [howner, hfix, hfix', hcode]
  exact hx

theorem grantBanks_ok {n : Nat} {banks : List Nat}
    (hpool : ∀ b ∈ banks, (getBank s (coreDie n) b).owner = 0 ∧ xferAllows s (coreDie n) b (0x40 + n % 16) = true)
    (hroom : (getCore s n).windows.length + banks.length ≤ 8)
    (hcode : ∀ b ∈ banks, ownerCode s.member (coreDie n) (0x40 + n % 16) = true) :
    grantBanks n banks s
      = replyOk [] (banks.foldl (fun s b => noteGrant n b (handBank (coreDie n) b (0x40 + n % 16) s)) s) := by
  have htaken : ∀ b ∈ banks, ((getBank s (coreDie n) b).owner == 0x60
      || (ownerCore (coreDie n) (getBank s (coreDie n) b).owner).isSome) = false := by
    intro b hb
    rw [(hpool b hb).1]
    simp [ownerCore]
  have hmay : banks.any (fun b => !((getBank s (coreDie n) b).owner == 0x60
      || (ownerCore (coreDie n) (getBank s (coreDie n) b).owner).isSome) && !mayHand s (coreDie n) b (coreOwner n)) = false := by
    refine List.any_eq_false.mpr fun b hb => ?_
    obtain ⟨howner, hx⟩ := hpool b hb
    rw [coreOwner, mayHand_core howner hx (hcode b hb), Bool.not_true, Bool.and_false]
    decide
  have hnone : banks.any (fun b => (getBank s (coreDie n) b).owner == 0x60
      || (ownerCore (coreDie n) (getBank s (coreDie n) b).owner).isSome) = false :=
    List.any_eq_false.mpr fun b hb => ne_true_of_eq_false (htaken b hb)
  unfold grantBanks
  dsimp only
  rw [if_neg (by exact ne_true_of_eq_false hmay), if_neg (by rw [hnone]; simp; omega)]
  rfl

theorem returnBanks_ok {n : Nat} {banks : List Nat} (h : ∀ b ∈ banks, (getBank s (coreDie n) b).owner = 0x40 + n % 16) :
    returnBanks n banks s = replyOk [] (banks.foldl (fun s b => forgetGrant n b (handBank (coreDie n) b 0 s)) s) := by
  have hnone : banks.any (fun b => (getBank s (coreDie n) b).owner != coreOwner n) = false :=
    List.any_eq_false.mpr fun b hb => by simp [h b hb, coreOwner]
  unfold returnBanks
  dsimp only
  rw [if_neg (by rw [hnone]; decide)]

theorem returnBanks_other {n : Nat} {banks : List Nat} (h : ∃ b ∈ banks, (getBank s (coreDie n) b).owner ≠ 0x40 + n % 16) :
    returnBanks n banks s = badArg 1 s := by
  obtain ⟨b, hb, hne⟩ := h
  have hsome : banks.any (fun b => (getBank s (coreDie n) b).owner != coreOwner n) = true :=
    List.any_eq_true.mpr ⟨b, hb, bne_iff_ne.mpr hne⟩
  unfold returnBanks
  dsimp only
  rw [if_pos hsome]

/-! ### Inserts -/

theorem rplInsertBody_removed (hp : byteAt rq.payload 0 = 1 ∨ byteAt rq.payload 0 = 2)
    (hid : fieldLE rq.payload 2 2 < s.member.speakers) (hcore : byteAt rq.payload 1 = 0xFF) :
    rplInsertBody rq s = replyOk [] { s with
      chain.insertStage := mapSet s.chain.insertStage (insertKey (byteAt rq.payload 0) (fieldLE rq.payload 2 2)) none } := by
  have hpoint : ¬ byteAt rq.payload 0 = 0 := by omega
  have hlt : byteAt rq.payload 0 < 3 := by omega
  unfold rplInsertBody
  simp only [hcore, if_neg hpoint, firstBad, hlt, hid, decide_true, beq_self_eq_true, Bool.or_true, Bool.true_or, if_true]

theorem rplInsertBody_placed {k : Nat} (hp : byteAt rq.payload 0 = 1 ∨ byteAt rq.payload 0 = 2)
    (hid : fieldLE rq.payload 2 2 < s.member.speakers) (hcore : byteAt rq.payload 1 ≠ 0xFF)
    (hlt : byteAt rq.payload 1 < s.member.cores) :
    let key := insertKey (byteAt rq.payload 0) (fieldLE rq.payload 2 2)
    insertDie s key = some (coreDie (byteAt rq.payload 1)) → mapFind (stagedInserts s) key = none →
    freeInsertSlot s (byteAt rq.payload 1) key = some k →
    rplInsertBody rq s = replyOk [] { s with
      chain.insertStage := mapSet s.chain.insertStage key (some { core := byteAt rq.payload 1, slot := k }) } := by
  intro key hdie hnew hfree
  have hpoint : ¬ byteAt rq.payload 0 = 0 := by omega
  have hpoint' : byteAt rq.payload 0 < 3 := by omega
  unfold rplInsertBody
  simp only [if_neg hpoint, firstBad, hpoint', hlt, hid, hdie, hnew, hfree, decide_true, beq_self_eq_true, Bool.or_true,
    Bool.true_or, if_true, if_neg hcore, key]

theorem rplInsertBody_die (hp : byteAt rq.payload 0 = 1 ∨ byteAt rq.payload 0 = 2)
    (hid : fieldLE rq.payload 2 2 < s.member.speakers) (hcore : byteAt rq.payload 1 ≠ 0xFF)
    (hlt : byteAt rq.payload 1 < s.member.cores)
    (hdie : insertDie s (insertKey (byteAt rq.payload 0) (fieldLE rq.payload 2 2)) ≠ some (coreDie (byteAt rq.payload 1))) :
    rplInsertBody rq s = badArg 1 s := by
  have hpoint : ¬ byteAt rq.payload 0 = 0 := by omega
  have hpoint' : byteAt rq.payload 0 < 3 := by omega
  have hother : (byteAt rq.payload 1 == 0xFF || insertDie s (insertKey (byteAt rq.payload 0) (fieldLE rq.payload 2 2))
      == some (coreDie (byteAt rq.payload 1))) = false := by
    rw [beq_false_of_ne hcore, beq_false_of_ne hdie]
    rfl
  unfold rplInsertBody
  simp only [if_neg hpoint, firstBad, hpoint', hlt, hid, hother, decide_true, Bool.true_or, if_true, Bool.false_eq_true, if_false]

end

/-- Settles O43. -/
theorem rippleMessages : Obligations.RippleMessages := by
  unfold Obligations.RippleMessages
  intro rq s
  refine ⟨fun hc hrep => ⟨fun h image t hf hlen hword => ?_, fun h => next_answered h rfl (rplStartBody_ok hc), fun h => ?_,
      fun h => next_answered h rfl (rplResetBody_ok hc), fun h => next_answered h rfl (rplMeasureBody_ok hc)⟩,
    fun hrep => ⟨?_, ?_⟩, fun h hc => next_badArg h (rplStartBody_absent hc), startCore_fresh _ s, fun h => stopCore_running h,
    fun h hc hlow hhigh => ⟨fun hop hpool hroom hcode => ?_, fun hop hown => ?_, fun hop hother => ?_⟩,
    fun h hp hid => ⟨fun hcore => next_recorded h rfl (rplInsertBody_removed hp hid hcore),
      fun hcore hlt hdie hnew k hfree => next_recorded h rfl (rplInsertBody_placed hp hid hcore hlt hdie hnew hfree),
      fun hcore hlt hdie => next_badArg h (rplInsertBody_die hp hid hcore hlt hdie)⟩⟩
  · refine execRplLoad_eq.trans ?_
    rw [if_neg (by rw [hrep]; decide)]
    exact next_answered h rfl (rplLoadBody_ok hc hf hlen hword)
  · refine execRplStop_eq.trans ?_
    rw [if_neg (by rw [hrep]; decide)]
    exact next_answered h rfl (rplStopBody_ok hc)
  · refine execRplLoad_eq.trans ?_
    rw [if_pos hrep]
  · refine execRplStop_eq.trans ?_
    rw [if_pos hrep]
  · refine next_answered h rfl ((rplGrantBody_checked hc hlow hhigh (by omega)).trans ?_)
    rw [if_pos hop]
    exact grantBanks_ok hpool hroom hcode
  · refine next_answered h rfl ((rplGrantBody_checked hc hlow hhigh (by omega)).trans ?_)
    rw [if_neg (by omega)]
    exact returnBanks_ok hown
  · refine next_badArg h ((rplGrantBody_checked hc hlow hhigh (by omega)).trans ?_)
    rw [if_neg (by omega)]
    exact returnBanks_other hother

end Sys2Proof.Machine
end

section
/-! PROOFS. Line outputs, DAC_CLR and the Outlet tick (O44). -/

namespace Sys2Proof.Machine
open Host

/-! ### Folds over the state -/

/-- What every step of a fold keeps, the fold keeps. -/
theorem foldl_related {α : Type} {R : State → State → Prop} (hrefl : ∀ s, R s s) (htrans : ∀ s t u, R s t → R t u → R s u)
    {f : State → α → State} {l : List α} (hf : ∀ a ∈ l, ∀ s, R s (f s a)) (s : State) : R s (l.foldl f s) := by
  induction l generalizing s with
  | nil => exact hrefl s
  | cons a l ih =>
    exact htrans _ _ _ (hf a (List.mem_cons_self ..) s) (ih (fun b hb => hf b (List.mem_cons_of_mem a hb)) _)

/-- A fold reaches the step of `a` in a state that the other steps leave related to the start, and leave so to the end. -/
theorem foldl_reaches {α : Type} {R : State → State → Prop} (hrefl : ∀ s, R s s)
    (htrans : ∀ s t u, R s t → R t u → R s u) {f : State → α → State} {l : List α} {a : α} (ha : a ∈ l) (hnodup : l.Nodup)
    (hother : ∀ b ∈ l, b ≠ a → ∀ s, R s (f s b)) (s : State) : ∃ u, R s u ∧ R (f u a) (l.foldl f s) := by
  induction l generalizing s with
  | nil => exact absurd ha (List.not_mem_nil)
  | cons b l ih =>
    obtain ⟨hfresh, hrest⟩ := List.nodup_cons.mp hnodup
    rcases List.mem_cons.mp ha with rfl | hmem
    · refine ⟨s, hrefl s, foldl_related hrefl htrans (fun c hc => hother c (List.mem_cons_of_mem a hc) ?_) (f s a)⟩
      rintro rfl
      exact hfresh hc
    · have hne : b ≠ a := by
        rintro rfl
        exact hfresh hmem
      obtain ⟨u, hu, hu'⟩ := ih hmem hrest (fun c hc => hother c (List.mem_cons_of_mem b hc)) (f s b)
      exact ⟨u, htrans _ _ _ (hother b (List.mem_cons_self ..) hne s) hu, hu'⟩

/-! ### Outlets and their channels -/

theorem outletDies_range {m : Member} {die : Nat} (h : die ∈ m.outletDies) : 6 ≤ die ∧ die < 8 := by
  cases m with
  | evr2 => exact absurd h (List.not_mem_nil)
  | evr4 => simp [Member.outletDies] at h; omega
  | evr8 => simp [Member.outletDies] at h; omega

theorem nodup_outletDies (m : Member) : m.outletDies.Nodup := by
  cases m <;> decide

theorem outletWorks_range {s : State} {die : Nat} (h : outletWorks s die = true) : 6 ≤ die ∧ die < 8 :=
  outletDies_range (List.contains_iff_mem.mp (Bool.and_eq_true_iff.mp h).1)

theorem mem_outletChannels {die c : Nat} : c ∈ outletChannels die ↔ ∃ n, n < 16 ∧ (die - 6) * 16 + n = c := by
  simp [outletChannels]

theorem channel_mem {die n : Nat} (hn : n < 16) : (die - 6) * 16 + n ∈ outletChannels die := mem_outletChannels.mpr ⟨n, hn, rfl⟩

theorem nodup_outletChannels (die : Nat) : (outletChannels die).Nodup :=
  List.nodup_range.map fun _ _ h => Nat.add_left_cancel h

/-- A channel of an Outlet names its Outlet. -/
theorem channelDie_outlet {die n : Nat} (h : 6 ≤ die) (hn : n < 16) : channelDie ((die - 6) * 16 + n) = die := by
  unfold channelDie
  omega

section
variable {rq : Request} {s : State}

/-! ### `out.dac.cfg` and `out.dac.status` -/

theorem channelRefused_of_le {c : Nat} (h : s.member.channels ≤ c) : channelRefused s c = true := decide_eq_true h

theorem channelRefused_of_lt {c : Nat} (h : c < s.member.channels) : channelRefused s c = false :=
  decide_eq_false (Nat.not_le.mpr h)

theorem outDacCfgBody_channel (h : s.member.channels ≤ byteAt rq.payload 0) : outDacCfgBody rq s = badArg 0 s := by
  unfold outDacCfgBody
  dsimp only
  rw [if_pos (channelRefused_of_le h)]

theorem outDacCfgBody_rate (h : byteAt rq.payload 0 < s.member.channels) (hr : fieldLE rq.payload 4 4 = 0) :
    outDacCfgBody rq s = badArg 4 s := by
  unfold outDacCfgBody
  dsimp only
  rw [if_neg (by rw [channelRefused_of_lt h]; decide), if_pos hr]

/-- The channel with its new settings, its clear code apart. -/
theorem outDacCfgBody_ok (h : byteAt rq.payload 0 < s.member.channels) (he : byteAt rq.payload 1 ≤ 1)
    (hr : 0 < fieldLE rq.payload 4 4) (hr' : fieldLE rq.payload 4 4 ≤ 8 * rateHz s.time.rate)
    (hlow : -8388608 ≤ fieldS rq.payload 8 4) (hhigh : fieldS rq.payload 8 4 ≤ 8388607) :
    let c := byteAt rq.payload 0
    let v := fieldS rq.payload 8 4
    outDacCfgBody rq s = replyOk [] (setDac c { Dac.setClear s.now s.outs.dacClr v (getDac s c) with
        enable := byteAt rq.payload 1 == 1, step := fieldLE rq.payload 2 2, rate := fieldLE rq.payload 4 4 }
      (if s.outs.dacClr then emit (.dacClear c v) s else s)) := by
  intro c v
  have henable : min 1 (byteAt rq.payload 1) = byteAt rq.payload 1 := by omega
  have hrate : min (fieldLE rq.payload 4 4) (8 * rateHz s.time.rate) = fieldLE rq.payload 4 4 := by omega
  have hclear : clampInt (-8388608) 8388607 (fieldS rq.payload 8 4) = fieldS rq.payload 8 4 := by
    unfold clampInt
    omega
  unfold outDacCfgBody
  simp only [henable, hrate, hclear]
  rw [if_neg (by rw [channelRefused_of_lt h]; decide), if_neg (by omega)]
  simp only [firstBad, beq_self_eq_true, if_true]
  rfl

theorem dacState_eq {c st : Nat}
    (h : (st = 0 ∧ (getDac s c).enable = false ∧ (getDac s c).pos = 0) ∨ (st = 3 ∧ (getDac s c).enable = false ∧ (getDac s c).pos ≠ 0)
      ∨ (st = 4 ∧ (getDac s c).enable = true ∧ s.outs.dacClr = true)
      ∨ ((getDac s c).enable = true ∧ s.outs.dacClr = false ∧ (getOutlet s (6 + c / 16)).loss = false
          ∧ (getOutlet s (6 + c / 16)).hub = false ∧ st = if (getDac s c).pos = 64 then 2 else 1)) : dacState s c = st := by
  unfold dacState channelDie
  rcases h with ⟨rfl, he, hp⟩ | ⟨rfl, he, hp⟩ | ⟨rfl, he, hclr⟩ | ⟨he, hclr, hloss, hhub, rfl⟩
  · simp [he, hp]
  · simp [he, hp]
  · simp [he, hclr]
  · simp [he, hclr, hloss, hhub]

theorem outDacStatusBody_ok (h : byteAt rq.payload 0 < s.member.channels) :
    let c := byteAt rq.payload 0
    let d := getDac s c
    outDacStatusBody rq s = replyOk (bytesLE 1 (dacState s c) ++ bytesLE 1 (flag s.outs.dacClr) ++ [0, 0] ++ bytesS 4 d.clear
      ++ bytesS 4 d.code ++ bytesLE 4 d.step ++ bytesLE 4 (min d.rate (8 * rateHz s.time.rate))) s := by
  intro c d
  unfold outDacStatusBody
  dsimp only
  rw [if_neg (by rw [channelRefused_of_lt h]; decide)]
  rfl

end

/-! ### DAC_CLR -/

/-- A line channel put on its clear code. -/
def Dac.cleared (d : Dac) : Dac := { d with pos := 0, code := d.clear, acc := d.clear * 65536, limiting := false, moving := none }

/-- The states differ in line channels, counters and what goes out alone. -/
def LineOnly (s t : State) : Prop :=
  ∃ dacs cs w, t = { s with outs.dacs := dacs, hw.counters := cs, wire := w }

theorem LineOnly.refl (s : State) : LineOnly s s := ⟨_, _, _, rfl⟩

theorem LineOnly.trans {s t u : State} (h : LineOnly s t) (h' : LineOnly t u) : LineOnly s u := by
  obtain ⟨d, cs, w, rfl⟩ := h
  obtain ⟨d', cs', w', rfl⟩ := h'
  exact ⟨d', cs', w', rfl⟩

/-- One channel driven to its clear code. -/
def clearChannel (s : State) (c : Nat) : State :=
  emit (.dacClear c (getDac s c).clear) (setDac c (getDac s c).cleared s)

/-- One Outlet's channels driven to their clear codes. -/
def clearOutlet (s : State) (die : Nat) : State := (outletChannels die).foldl clearChannel (count (0x5080 + (die - 6)) s)

theorem clearDacs_eq (s : State) :
    clearDacs s = (s.member.outletDies.filter (outletWorks s)).foldl clearOutlet { s with outs.dacClr := true } := rfl

theorem clearChannel_lineOnly (s : State) (c : Nat) : LineOnly s (clearChannel s c) := ⟨_, _, _, rfl⟩

theorem clearOutlet_lineOnly (s : State) (die : Nat) : LineOnly s (clearOutlet s die) :=
  .trans ⟨_, _, _, rfl⟩ (foldl_related .refl (fun _ _ _ => .trans) (fun c _ t => clearChannel_lineOnly t c) _)

theorem clearDacs_lineOnly (s : State) : LineOnly { s with outs.dacClr := true } (clearDacs s) :=
  foldl_related .refl (fun _ _ _ => .trans) (fun die _ t => clearOutlet_lineOnly t die) _

theorem getDac_clearChannel_same (s : State) (c : Nat) : getDac (clearChannel s c) c = (getDac s c).cleared :=
  mapGet_mapSet_same _ _ _ _

theorem getDac_clearChannel_other {c j : Nat} (s : State) (h : j ≠ c) : getDac (clearChannel s c) j = getDac s j :=
  mapGet_mapSet_other _ _ _ _ _ h

theorem getDac_clearOutlet_same {die c : Nat} (s : State) (hc : c ∈ outletChannels die) :
    getDac (clearOutlet s die) c = (getDac s c).cleared := by
  obtain ⟨u, hu, hu'⟩ := foldl_reaches (R := fun s t => getDac t c = getDac s c) (fun _ => rfl)
    (fun _ _ _ h h' => h'.trans h) hc (nodup_outletChannels die) (fun b _ hb t => getDac_clearChannel_other t hb.symm)
    (count (0x5080 + (die - 6)) s)
  have hstart : getDac (count (0x5080 + (die - 6)) s) c = getDac s c := rfl
  rw [clearOutlet, hu', getDac_clearChannel_same, hu, hstart]

theorem getDac_clearOutlet_other {die c : Nat} (s : State) (hc : c ∉ outletChannels die) :
    getDac (clearOutlet s die) c = getDac s c :=
  foldl_related (R := fun s t => getDac t c = getDac s c) (fun _ => rfl) (fun _ _ _ h h' => h'.trans h)
    (fun b hb t => getDac_clearChannel_other t (by rintro rfl; exact hc hb)) (count (0x5080 + (die - 6)) s)

theorem counter_clearChannel (s : State) (c j : Nat) : counter (clearChannel s c) j = counter s j := rfl

/-- Counters other than the Outlet's own do not move. -/
theorem counter_clearOutlet (s : State) (die j : Nat) :
    counter (clearOutlet s die) j = counter (count (0x5080 + (die - 6)) s) j := by
  unfold clearOutlet
  exact foldl_related (R := fun s t => counter t j = counter s j) (fun _ => rfl) (fun _ _ _ h h' => h'.trans h)
    (fun c _ t => counter_clearChannel t c j) _

/-- The channels of two Outlets are apart. -/
theorem outletChannels_disjoint {die die' c : Nat} (h : 6 ≤ die) (h' : 6 ≤ die') (hne : die' ≠ die)
    (hc : c ∈ outletChannels die) : c ∉ outletChannels die' := by
  rw [mem_outletChannels] at hc ⊢
  obtain ⟨n, hn, rfl⟩ := hc
  rintro ⟨n', hn', heq⟩
  omega

theorem workingOutlets_range {s : State} {die : Nat} (h : die ∈ s.member.outletDies.filter (outletWorks s)) : 6 ≤ die :=
  (outletDies_range (List.mem_filter.mp h).1).1

theorem mem_workingOutlets {s : State} {die : Nat} (h : outletWorks s die = true) :
    die ∈ s.member.outletDies.filter (outletWorks s) :=
  List.mem_filter.mpr ⟨List.contains_iff_mem.mp (Bool.and_eq_true_iff.mp h).1, h⟩

theorem getDac_clearDacs {s : State} {die c : Nat} (hw : outletWorks s die = true) (hc : c ∈ outletChannels die) :
    getDac (clearDacs s) c = (getDac s c).cleared := by
  have hmem := mem_workingOutlets hw
  obtain ⟨u, hu, hu'⟩ := foldl_reaches (R := fun s t => getDac t c = getDac s c) (fun _ => rfl)
    (fun _ _ _ h h' => h'.trans h) hmem ((nodup_outletDies s.member).filter _)
    (fun b hb hne t => getDac_clearOutlet_other t
      (outletChannels_disjoint (workingOutlets_range hmem) (workingOutlets_range hb) hne hc)) { s with outs.dacClr := true }
  have hstart : getDac { s with outs.dacClr := true } c = getDac s c := rfl
  rw [clearDacs_eq, hu', getDac_clearOutlet_same u hc, hu, hstart]

theorem counter_clearDacs {s : State} {die : Nat} (hw : outletWorks s die = true) :
    counter (clearDacs s) (0x5080 + (die - 6)) = counter s (0x5080 + (die - 6)) + 1 := by
  have hmem := mem_workingOutlets hw
  have hdie := workingOutlets_range hmem
  obtain ⟨u, hu, hu'⟩ := foldl_reaches (R := fun s t => counter t (0x5080 + (die - 6)) = counter s (0x5080 + (die - 6)))
    (fun _ => rfl) (fun _ _ _ h h' => h'.trans h) hmem ((nodup_outletDies s.member).filter _)
    (fun b hb hne t => by
      have hb' := workingOutlets_range hb
      exact (counter_clearOutlet t b _).trans (counter_countBy_other 1 t (by omega))) { s with outs.dacClr := true }
  have hstart : counter { s with outs.dacClr := true } (0x5080 + (die - 6)) = counter s (0x5080 + (die - 6)) := rfl
  rw [clearDacs_eq, hu', counter_clearOutlet, count, counter_countBy, hu, hstart]

theorem execDacClrRise_taken {s : State} {ns : Nat} (h : s.outs.dacClr = false) (hns : 50 ≤ ns) (hd : s.member.outletDies ≠ []) :
    execDacClrRise ns s = .next (clearDacs s) := by
  unfold execDacClrRise
  rw [if_neg (by simp [h, hd]), if_pos hns]

theorem execDacClrRise_held {s : State} (ns : Nat) (h : s.outs.dacClr = true) : execDacClrRise ns s = .next s := by
  unfold execDacClrRise
  rw [if_pos (.inl h)]

theorem execDacClrRise_short {s : State} {ns : Nat} (h : s.outs.dacClr = false) (hns : ns < 50) (hd : s.member.outletDies ≠ []) :
    ∃ t, execDacClrRise ns s = .next t ∧ (t = { s with free := s.free + 1 } ∨ t.outs.dacClr = true) := by
  have hcases : ∀ b : Bool, (if b then clearDacs { s with free := s.free + 1 } else { s with free := s.free + 1 })
        = { s with free := s.free + 1 }
      ∨ (if b then clearDacs { s with free := s.free + 1 } else { s with free := s.free + 1 }).outs.dacClr = true := by
    rintro (_ | _)
    · exact .inl rfl
    · obtain ⟨dacs, cs, w, heq⟩ := clearDacs_lineOnly { s with free := s.free + 1 }
      exact .inr (congrArg (·.outs.dacClr) heq)
  refine ⟨_, ?_, hcases ((Config.freeBits s.free).getLsbD 0)⟩
  unfold execDacClrRise
  rw [if_neg (by simp [h, hd]), if_neg (by omega)]
  rfl

/-! ### The Outlet tick -/

/-- The states differ in the channels and boost controllers of Outlets and in counters alone. -/
def TickOnly (s t : State) : Prop :=
  ∃ dacs amps boosts cs, t = { s with outs.dacs := dacs, outs.amps := amps, outs.boosts := boosts, hw.counters := cs }

theorem TickOnly.refl (s : State) : TickOnly s s := ⟨_, _, _, _, rfl⟩

theorem TickOnly.trans {s t u : State} (h : TickOnly s t) (h' : TickOnly t u) : TickOnly s u := by
  obtain ⟨d, a, b, cs, rfl⟩ := h
  obtain ⟨d', a', b', cs', rfl⟩ := h'
  exact ⟨d', a', b', cs', rfl⟩

/-- A line channel held by DAC_CLR stands on its clear code. -/
theorem dacTick_held {s : State} (c : Nat) (h : s.outs.dacClr = true) :
    ∃ hist cs, dacTick c s = setDac c { (getDac s c).cleared with hist := hist } { s with hw.counters := cs } := by
  unfold dacTick
  rcases wordOut 24 (getDst s (0x50000000 + c)).last with ⟨code, sat⟩
  cases sat with
  | false =>
    refine ⟨(code :: (getDac s c).hist).take 32, s.hw.counters, ?_⟩
    simp only [Bool.false_eq_true, if_false, h, if_true]
    rfl
  | true =>
    refine ⟨(code :: (getDac s c).hist).take 32, (count (0x5000 + 4 * c) s).hw.counters, ?_⟩
    simp only [if_true]
    rw [if_pos (show (count (0x5000 + 4 * c) s).outs.dacClr = true from h)]
    rfl

/-- A line channel that is not held moves one step of its crossfade. -/
theorem dacTick_driven {s : State} (c : Nat) (h : s.outs.dacClr = false) :
    ∃ d cs, dacTick c s = setDac c d { s with hw.counters := cs }
      ∧ d.pos = if carriesFeed s c then min 64 ((getDac s c).pos + 1) else (getDac s c).pos - 1 := by
  unfold dacTick
  rcases wordOut 24 (getDst s (0x50000000 + c)).last with ⟨code, sat⟩
  cases sat with
  | false =>
    simp only [Bool.false_eq_true, if_false, h]
    exact ⟨_, _, rfl, rfl⟩
  | true =>
    simp only [if_true]
    rw [if_neg (show ¬ (count (0x5000 + 4 * c) s).outs.dacClr = true from ne_true_of_eq_false h)]
    exact ⟨_, _, rfl, rfl⟩

theorem dacTick_eq (s : State) (c : Nat) : ∃ d cs, dacTick c s = setDac c d { s with hw.counters := cs } := by
  cases h : s.outs.dacClr with
  | true =>
    obtain ⟨hist, cs, heq⟩ := dacTick_held c h
    exact ⟨_, cs, heq⟩
  | false =>
    obtain ⟨d, cs, heq, -⟩ := dacTick_driven c h
    exact ⟨d, cs, heq⟩

theorem pilotSample_kept (hz : Nat) (a : Amp) : (pilotSample hz a).2.st = a.st ∧ (pilotSample hz a).2.fade = a.fade := by
  unfold pilotSample
  split
  · exact ⟨rfl, rfl⟩
  · exact ⟨rfl, rfl⟩

/-- The states differ in counters alone. -/
def CountsOnly (s t : State) : Prop := ∃ cs, t = { s with hw.counters := cs }

theorem CountsOnly.refl (s : State) : CountsOnly s s := ⟨_, rfl⟩

theorem CountsOnly.trans {s t u : State} (h : CountsOnly s t) (h' : CountsOnly t u) : CountsOnly s u := by
  obtain ⟨cs, rfl⟩ := h
  obtain ⟨cs', rfl⟩ := h'
  exact ⟨cs', rfl⟩

theorem countsOnly_countBy (id n : Nat) (s : State) : CountsOnly s (countBy id n s) := ⟨_, rfl⟩

theorem CountsOnly.countIf {s t : State} {p : Prop} [Decidable p] {id : Nat} (h : CountsOnly s t) :
    CountsOnly s (if p then count id t else t) := by
  split
  · exact h.trans (countsOnly_countBy id 1 t)
  · exact h

theorem CountsOnly.countUnless {s t : State} {p : Prop} [Decidable p] {id : Nat} (h : CountsOnly s t) :
    CountsOnly s (if p then t else count id t) := by
  split
  · exact h
  · exact h.trans (countsOnly_countBy id 1 t)

/-- The line's length as the boost controller asks: a change waits for the fade. -/
def Amp.resized (w : Nat) (a : Amp) : Amp :=
  if a.fade = 0 ∧ a.w ≠ w then { a with w := w, line := [], resizing := false } else if a.w = w then { a with resizing := false } else a

theorem Amp.resized_kept (w : Nat) (a : Amp) : (a.resized w).st = a.st ∧ (a.resized w).fade = a.fade := by
  unfold Amp.resized
  split_ifs
  · exact ⟨rfl, rfl⟩
  · exact ⟨rfl, rfl⟩
  · exact ⟨rfl, rfl⟩

/-- A power channel left as a tick leaves it, with counters moved. -/
theorem setAmp_counted {s u : State} {c : Nat} {a b : Amp} (hu : CountsOnly s u) (hst : a.st = b.st) (hfade : a.fade = b.fade) :
    ∃ a' cs, setAmp c a u = setAmp c a' { s with hw.counters := cs } ∧ a'.st = b.st ∧ a'.fade = b.fade := by
  obtain ⟨cs, rfl⟩ := hu
  exact ⟨a, cs, rfl, hst, hfade⟩

/-- A tick leaves a power channel in the state and at the fade of its step. -/
theorem ampTick_eq (s : State) (c : Nat) : ∃ a cs, ampTick c s = setAmp c a { s with hw.counters := cs }
    ∧ a.st = (ampStep s c).st ∧ a.fade = (ampStep s c).fade := by
  obtain ⟨hst, hfade⟩ := Amp.resized_kept ((getBoost s (groupOf c)).delay (rateHz s.time.rate)) { ampStep s c with clip := false }
  unfold ampTick
  dsimp only
  generalize hq : pilotSample _ _ = q
  obtain ⟨p, a⟩ := q
  have hpst := (pilotSample_kept _ _).1.symm.trans (congrArg (·.2.st) hq)
  have hpfade := (pilotSample_kept _ _).2.symm.trans (congrArg (·.2.fade) hq)
  exact setAmp_counted (CountsOnly.refl s).countUnless.countIf (hpst.symm.trans hst) (hpfade.symm.trans hfade)

theorem boostTick_eq (s : State) (g : Nat) : ∃ b, boostTick g s = setBoost g b s := by
  unfold boostTick
  dsimp only
  split
  · exact ⟨_, rfl⟩
  · split
    · exact ⟨_, rfl⟩
    · exact ⟨_, rfl⟩

/-- What one channel does in an Outlet tick. -/
def channelTick (s : State) (c : Nat) : State := ampTick c (dacTick c s)

/-- The states differ as a tick may make them, and not in one channel. -/
def TickOther (c : Nat) (s t : State) : Prop := TickOnly s t ∧ getDac t c = getDac s c ∧ getAmp t c = getAmp s c

theorem TickOther.refl (c : Nat) (s : State) : TickOther c s s := ⟨.refl s, rfl, rfl⟩

theorem TickOther.trans {c : Nat} {s t u : State} (h : TickOther c s t) (h' : TickOther c t u) : TickOther c s u := by
  obtain ⟨ht, hd, ha⟩ := h
  obtain ⟨ht', hd', ha'⟩ := h'
  exact ⟨ht.trans ht', hd'.trans hd, ha'.trans ha⟩

/-- One channel's tick: its line channel as `dacTick` leaves it, its power channel as `ampStep` says. -/
theorem channelTick_eq (s : State) (c : Nat) : ∃ d a cs,
    channelTick s c = setAmp c a (setDac c d { s with hw.counters := cs })
      ∧ d = getDac (dacTick c s) c ∧ a.st = (ampStep s c).st ∧ a.fade = (ampStep s c).fade := by
  obtain ⟨d, cs, hd⟩ := dacTick_eq s c
  obtain ⟨a, cs', ha, hst, hfade⟩ := ampTick_eq (dacTick c s) c
  have hstep : ampStep (dacTick c s) c = ampStep s c := by
    rw [hd]
    rfl
  refine ⟨d, a, cs', ?_, ?_, hstep ▸ hst, hstep ▸ hfade⟩
  · rw [channelTick, ha, hd]
    rfl
  · rw [hd, getDac_setDac_same]

theorem channelTick_other {s : State} {c j : Nat} (h : j ≠ c) : TickOther j s (channelTick s c) := by
  obtain ⟨d, a, cs, heq, -, -, -⟩ := channelTick_eq s c
  rw [heq]
  exact ⟨⟨_, _, _, _, rfl⟩, getDac_setDac_other { s with hw.counters := cs } c d j h,
    getAmp_setAmp_other (setDac c d { s with hw.counters := cs }) c a j h⟩

theorem channelTick_tickOnly (s : State) (c : Nat) : TickOnly s (channelTick s c) := by
  obtain ⟨d, a, cs, heq, -, -, -⟩ := channelTick_eq s c
  rw [heq]
  exact ⟨_, _, _, _, rfl⟩

theorem boostTick_other (s : State) (g j : Nat) : TickOther j s (boostTick g s) := by
  obtain ⟨b, heq⟩ := boostTick_eq s g
  rw [heq]
  exact ⟨⟨_, _, _, _, rfl⟩, rfl, rfl⟩

/-- The boost controllers of an Outlet. -/
def outletBoosts (die : Nat) : List Nat := (List.range 4).map fun h => 4 * (die - 6) + h

/-- The channels and the boost controllers of an Outlet in its tick. -/
def outletWork (die : Nat) (s : State) : State :=
  (outletBoosts die).foldl (fun s g => boostTick g s) ((outletChannels die).foldl channelTick s)

theorem execOutletTick_eq {s : State} {die : Nat} (h : outletWorks s die = true) :
    execOutletTick die s = .next (outletWork die (countFeed die s)) := by
  unfold execOutletTick
  rw [if_neg (by rw [h]; decide)]
  rfl

theorem outletWork_tickOnly (die : Nat) (s : State) : TickOnly s (outletWork die s) :=
  (foldl_related TickOnly.refl (fun _ _ _ => .trans) (fun c _ t => channelTick_tickOnly t c) s).trans
    (foldl_related TickOnly.refl (fun _ _ _ => .trans) (fun g _ t => (boostTick_other t g 0).1) _)

/-- Each channel of an Outlet is worked on once, in a state that has it as the tick found it. -/
theorem outletWork_reaches {die c : Nat} (s : State) (hc : c ∈ outletChannels die) :
    ∃ u, TickOther c s u ∧ TickOther c (channelTick u c) (outletWork die s) := by
  obtain ⟨u, hu, hu'⟩ := foldl_reaches (R := TickOther c) (.refl c) (fun _ _ _ => .trans) hc (nodup_outletChannels die)
    (fun b _ hb t => channelTick_other hb.symm) s
  exact ⟨u, hu, hu'.trans (foldl_related (.refl c) (fun _ _ _ => .trans) (fun g _ t => boostTick_other t g c) _)⟩

/-- A line channel after the tick of its Outlet. -/
theorem getDac_outletWork {die c : Nat} (s : State) (hc : c ∈ outletChannels die) :
    ∃ u, TickOther c s u ∧ getDac (outletWork die s) c = getDac (dacTick c u) c := by
  obtain ⟨u, hu, -, hd, -⟩ := outletWork_reaches s hc
  obtain ⟨d, a, cs, heq, hdac, -, -⟩ := channelTick_eq u c
  refine ⟨u, hu, hd.trans ?_⟩
  rw [heq, ← hdac]
  exact getDac_setDac_same { u with hw.counters := cs } c d

/-- A power channel after the tick of its Outlet. -/
theorem getAmp_outletWork {die c : Nat} (s : State) (hc : c ∈ outletChannels die) :
    (getAmp (outletWork die s) c).st = (ampStep s c).st ∧ (getAmp (outletWork die s) c).fade = (ampStep s c).fade := by
  obtain ⟨u, ⟨hu, -, hamp⟩, -, -, ha⟩ := outletWork_reaches s hc
  obtain ⟨d, a, cs, heq, -, hst, hfade⟩ := channelTick_eq u c
  have hstep : ampStep u c = ampStep s c := by
    obtain ⟨dacs, amps, boosts, cs', rfl⟩ := hu
    unfold ampStep wantsHold
    rw [hamp]
    rfl
  rw [ha, heq, getAmp_setAmp_same]
  exact ⟨hstep ▸ hst, hstep ▸ hfade⟩

theorem countFeed_comes {s : State} {die : Nat} (h : feedComes s die = true) :
    countFeed die s = setOutlet die
      { getOutlet s die with noFeed := 0, loss := false, index := (getTile s (parentTarn die)).index } s := by
  unfold countFeed
  dsimp only
  rw [if_pos h]

/-! ### One step of a line channel and of a power channel -/

theorem getDac_dacTick_held {s : State} {c : Nat} (h : s.outs.dacClr = true) :
    (getDac (dacTick c s) c).code = (getDac s c).clear ∧ (getDac (dacTick c s) c).pos = 0 := by
  obtain ⟨hist, cs, heq⟩ := dacTick_held c h
  rw [heq, getDac_setDac_same]
  exact ⟨rfl, rfl⟩

theorem getDac_dacTick_pos {s : State} {c : Nat} (h : s.outs.dacClr = false) :
    (getDac (dacTick c s) c).pos = if carriesFeed s c then min 64 ((getDac s c).pos + 1) else (getDac s c).pos - 1 := by
  obtain ⟨d, cs, heq, hpos⟩ := dacTick_driven c h
  rw [heq, getDac_setDac_same, hpos]

theorem carriesFeed_of_off {s : State} {c : Nat} (h : (getDac s c).enable = false) : carriesFeed s c = false := by
  simp [carriesFeed, h]

theorem carriesFeed_of_on {s : State} {c : Nat} (h : (getDac s c).enable = true) (hclr : s.outs.dacClr = false)
    (hloss : (getOutlet s (channelDie c)).loss = false) (hhub : (getOutlet s (channelDie c)).hub = false)
    (hrun : s.sys.ao.power = .run) : carriesFeed s c = true := by
  simp [carriesFeed, h, hclr, hloss, hhub, hrun]

/-- What a step of a power channel reads of the line channel's state is the same after other channels' ticks. -/
theorem TickOther.carriesFeed {c : Nat} {s t : State} (h : TickOther c s t) : carriesFeed t c = carriesFeed s c := by
  obtain ⟨⟨dacs, amps, boosts, cs, rfl⟩, hd, -⟩ := h
  unfold Machine.carriesFeed
  rw [hd]
  rfl

theorem TickOther.dac {c : Nat} {s t : State} (h : TickOther c s t) : getDac t c = getDac s c := h.2.1

theorem TickOther.dacClr {c : Nat} {s t : State} (h : TickOther c s t) : t.outs.dacClr = s.outs.dacClr := by
  obtain ⟨⟨dacs, amps, boosts, cs, rfl⟩, -, -⟩ := h
  rfl

theorem outletWork_held {s : State} {die c : Nat} (hc : c ∈ outletChannels die) (h : s.outs.dacClr = true) :
    (getDac (outletWork die s) c).code = (getDac s c).clear ∧ (getDac (outletWork die s) c).pos = 0 := by
  obtain ⟨u, hu, heq⟩ := getDac_outletWork s hc
  rw [heq, ← hu.dac]
  exact getDac_dacTick_held (hu.dacClr.trans h)

theorem outletWork_pos {s : State} {die c : Nat} (hc : c ∈ outletChannels die) (h : s.outs.dacClr = false) :
    (getDac (outletWork die s) c).pos = if carriesFeed s c then min 64 ((getDac s c).pos + 1) else (getDac s c).pos - 1 := by
  obtain ⟨u, hu, heq⟩ := getDac_outletWork s hc
  rw [heq, getDac_dacTick_pos (hu.dacClr.trans h), hu.carriesFeed, hu.dac]

theorem ampStep_turnedOff {s : State} {c : Nat} (hst : (getAmp s c).st = .running) (hmode : (getAmp s c).mode = 0)
    (hfade : 2 ≤ (getAmp s c).fade) :
    ampStep s c = { getAmp s c with st := .fadingOut, fade := (getAmp s c).fade - 1 } := by
  have hstop : wantsStop (getAmp s c) = true := by simp [wantsStop, hmode]
  have hmore : ¬ (getAmp s c).fade ≤ 1 := by omega
  unfold ampStep
  simp only [hst, hstop, Bool.true_or, if_true, if_neg hmore]

theorem ampStep_fadesIn {s : State} {c : Nat} (hst : (getAmp s c).st = .holding) (hmode : (getAmp s c).mode ≠ 0)
    (hheat : (getAmp s c).heat = false) (hpins : pinsDriven s = false) (hrun : s.sys.ao.power = .run)
    (hhalt : s.sys.fatal.halted = false) (hhold : wantsHold s c = false) (hfade : (getAmp s c).fade < 63) :
    ampStep s c = { getAmp s c with st := .fadingIn, fade := (getAmp s c).fade + 1 } := by
  have hstop : (wantsStop (getAmp s c) || pinsDriven s || s.sys.ao.power != .run || s.sys.fatal.halted) = false := by
    simp [wantsStop, hmode, hheat, hpins, hrun, hhalt]
  have hless : ¬ 63 ≤ (getAmp s c).fade := by omega
  have hmin : min 64 ((getAmp s c).fade + 1) = (getAmp s c).fade + 1 := by omega
  unfold ampStep
  simp only [hst, hstop, hhold, Bool.false_eq_true, if_false, if_neg hless, hmin]

theorem ampStep_still {s : State} {c : Nat} (h : (getAmp s c).st = .off ∨ (getAmp s c).st = .latched ∨ (getAmp s c).st = .waiting) :
    ampStep s c = getAmp s c := by
  unfold ampStep
  rcases h with h | h | h
  · simp only [h]
  · simp only [h]
  · simp only [h]

/-- An Outlet whose feed has come. -/
def fedOutlet (die : Nat) (s : State) : State :=
  setOutlet die { getOutlet s die with noFeed := 0, loss := false, index := (getTile s (parentTarn die)).index } s

theorem execOutletTick_fed {s : State} {die : Nat} (hw : outletWorks s die = true) (hfeed : feedComes s die = true) :
    execOutletTick die s = .next (outletWork die (fedOutlet die s)) := by
  rw [execOutletTick_eq hw, countFeed_comes hfeed]
  rfl

/-- What the tick of an Outlet leaves as it was. -/
theorem outletWork_kept (die : Nat) (s : State) :
    let t := outletWork die s
    getOutlet t die = getOutlet s die ∧ t.sys = s.sys ∧ t.msg = s.msg ∧ t.rend = s.rend ∧ t.chain = s.chain ∧ t.cores = s.cores
      ∧ t.route = s.route ∧ t.net = s.net ∧ t.time = s.time ∧ t.wire = s.wire ∧ t.hw.regs = s.hw.regs ∧ t.hw.mem = s.hw.mem := by
  intro t
  obtain ⟨dacs, amps, boosts, cs, heq⟩ := outletWork_tickOnly die s
  have ht : t = { s with outs.dacs := dacs, outs.amps := amps, outs.boosts := boosts, hw.counters := cs } := heq
  rw [ht]
  exact ⟨rfl, rfl, rfl, rfl, rfl, rfl, rfl, rfl, rfl, rfl, rfl, rfl⟩

section
variable {s : State} {die n : Nat}

theorem fed_line_held (hn : n < 16) (hclr : s.outs.dacClr = true) :
    let c := (die - 6) * 16 + n
    (getDac (outletWork die (fedOutlet die s)) c).code = (getDac s c).clear
      ∧ (getDac (outletWork die (fedOutlet die s)) c).pos = 0 :=
  outletWork_held (s := fedOutlet die s) (channel_mem (die := die) hn) hclr

theorem fed_line_on (hdie : 6 ≤ die) (hn : n < 16) (hclr : s.outs.dacClr = false)
    (hen : (getDac s ((die - 6) * 16 + n)).enable = true) (hhub : (getOutlet s die).hub = false) (hrun : s.sys.ao.power = .run) :
    (getDac (outletWork die (fedOutlet die s)) ((die - 6) * 16 + n)).pos
      = min 64 ((getDac s ((die - 6) * 16 + n)).pos + 1) := by
  have hout : getOutlet (fedOutlet die s) (channelDie ((die - 6) * 16 + n))
      = { getOutlet s die with noFeed := 0, loss := false, index := (getTile s (parentTarn die)).index } := by
    rw [channelDie_outlet hdie hn]
    exact getOutlet_setOutlet_same s die _
  have hcarries : carriesFeed (fedOutlet die s) ((die - 6) * 16 + n) = true :=
    carriesFeed_of_on hen hclr (by rw [hout]) (by rw [hout]; exact hhub) hrun
  have hpos := outletWork_pos (s := fedOutlet die s) (channel_mem (die := die) hn) hclr
  rw [hpos, if_pos hcarries]
  rfl

theorem fed_line_off (hn : n < 16) (hclr : s.outs.dacClr = false) (hen : (getDac s ((die - 6) * 16 + n)).enable = false) :
    (getDac (outletWork die (fedOutlet die s)) ((die - 6) * 16 + n)).pos = (getDac s ((die - 6) * 16 + n)).pos - 1 := by
  have hcarries : carriesFeed (fedOutlet die s) ((die - 6) * 16 + n) = false := carriesFeed_of_off hen
  have hpos := outletWork_pos (s := fedOutlet die s) (channel_mem (die := die) hn) hclr
  rw [hpos, if_neg (ne_true_of_eq_false hcarries)]
  rfl

theorem fed_amp (hn : n < 16) {a : Amp} (h : ampStep (fedOutlet die s) ((die - 6) * 16 + n) = a) :
    (getAmp (outletWork die (fedOutlet die s)) ((die - 6) * 16 + n)).st = a.st
      ∧ (getAmp (outletWork die (fedOutlet die s)) ((die - 6) * 16 + n)).fade = a.fade :=
  h ▸ getAmp_outletWork (fedOutlet die s) (channel_mem (die := die) hn)

/-- Nothing holds a channel whose Outlet has its feed. -/
theorem wantsHold_fed (hdie : 6 ≤ die) (hn : n < 16) (hhub : (getOutlet s die).hub = false) (hrate : (getOutlet s die).rate = false)
    (hres : (getAmp s ((die - 6) * 16 + n)).resizing = false) (hchk : (getAmp s ((die - 6) * 16 + n)).check = false) :
    wantsHold (fedOutlet die s) ((die - 6) * 16 + n) = false := by
  have hout : getOutlet (fedOutlet die s) (channelDie ((die - 6) * 16 + n))
      = { getOutlet s die with noFeed := 0, loss := false, index := (getTile s (parentTarn die)).index } := by
    rw [channelDie_outlet hdie hn]
    exact getOutlet_setOutlet_same s die _
  have hamp : getAmp (fedOutlet die s) ((die - 6) * 16 + n) = getAmp s ((die - 6) * 16 + n) := rfl
  unfold wantsHold
  simp only [hout, hamp, hhub, hrate, hres, hchk, Bool.or_self]

end

/-! ### Feed loss -/

/-- A channel of an Outlet that has lost its feed, counted. -/
def countLoss (s : State) (c : Nat) : State :=
  let s := if (getDac s c).enable then count (0x5000 + 4 * c + 2) s else s
  if (getAmp s c).st.switching then count (0x5380 + c) s else s

theorem execFeedLoss_idle {s : State} {die : Nat}
    (h : outletWorks s die = false ∨ (getOutlet s die).noFeed < 4 ∨ (getOutlet s die).loss = true) :
    execFeedLoss die s = .next s := by
  unfold execFeedLoss
  dsimp only
  rw [if_pos (h.imp_left (fun h => by rw [h]; rfl))]

theorem execFeedLoss_lost {s : State} {die : Nat} (hw : outletWorks s die = true) (hn : 4 ≤ (getOutlet s die).noFeed)
    (hl : (getOutlet s die).loss = false) :
    execFeedLoss die s
      = .next ((outletChannels die).foldl countLoss (setOutlet die { getOutlet s die with loss := true } s)) := by
  unfold execFeedLoss
  dsimp only
  rw [if_neg (by simp [hw, hl]; omega)]
  rfl

theorem countLoss_countsOnly (s : State) (c : Nat) : CountsOnly s (countLoss s c) :=
  CountsOnly.countIf (CountsOnly.countIf (.refl s))

theorem counter_countIf (b : Bool) (id : Nat) (s : State) : counter (if b then count id s else s) id = counter s id + flag b := by
  cases b with
  | false => rfl
  | true => exact counter_countBy id 1 s

theorem counter_countIf_other {id j : Nat} (b : Bool) (s : State) (h : j ≠ id) :
    counter (if b then count id s else s) j = counter s j := by
  cases b with
  | false => rfl
  | true => exact counter_countBy_other 1 s h

/-- The counters that a lost feed moves for a channel. -/
theorem counter_countLoss {s : State} {c : Nat} (hc : c < 32) :
    counter (countLoss s c) (0x5000 + 4 * c + 2) = counter s (0x5000 + 4 * c + 2) + flag (getDac s c).enable
      ∧ counter (countLoss s c) (0x5380 + c) = counter s (0x5380 + c) + flag (getAmp s c).st.switching := by
  have hamp : getAmp (if (getDac s c).enable then count (0x5000 + 4 * c + 2) s else s) c = getAmp s c := by
    split
    · rfl
    · rfl
  unfold countLoss
  dsimp only
  rw [hamp]
  constructor
  · rw [counter_countIf_other _ _ (by omega), counter_countIf]
  · rw [counter_countIf, counter_countIf_other _ _ (by omega)]

theorem counter_countLoss_other {s : State} {c j : Nat} (h : j ≠ 0x5000 + 4 * c + 2) (h' : j ≠ 0x5380 + c) :
    counter (countLoss s c) j = counter s j := by
  unfold countLoss
  dsimp only
  rw [counter_countIf_other _ _ h', counter_countIf_other _ _ h]

/-- The states differ in counters, and not in the two of one channel. -/
def LossOther (c : Nat) (s t : State) : Prop :=
  CountsOnly s t ∧ counter t (0x5000 + 4 * c + 2) = counter s (0x5000 + 4 * c + 2) ∧ counter t (0x5380 + c) = counter s (0x5380 + c)

theorem LossOther.refl (c : Nat) (s : State) : LossOther c s s := ⟨.refl s, rfl, rfl⟩

theorem LossOther.trans {c : Nat} {s t u : State} (h : LossOther c s t) (h' : LossOther c t u) : LossOther c s u := by
  obtain ⟨hc, hd, ha⟩ := h
  obtain ⟨hc', hd', ha'⟩ := h'
  exact ⟨hc.trans hc', hd'.trans hd, ha'.trans ha⟩

theorem countLoss_other {s : State} {b c : Nat} (hb : b < 32) (hc : c < 32) (h : b ≠ c) : LossOther c s (countLoss s b) :=
  ⟨countLoss_countsOnly s b, counter_countLoss_other (by omega) (by omega), counter_countLoss_other (by omega) (by omega)⟩

theorem outletChannels_lt {die c : Nat} (h : die < 8) (hc : c ∈ outletChannels die) : c < 32 := by
  obtain ⟨n, hn, rfl⟩ := mem_outletChannels.mp hc
  omega

theorem counter_foldl_countLoss {s : State} {die c : Nat} (hdie : die < 8) (hc : c ∈ outletChannels die) :
    counter ((outletChannels die).foldl countLoss s) (0x5000 + 4 * c + 2)
        = counter s (0x5000 + 4 * c + 2) + flag (getDac s c).enable
      ∧ counter ((outletChannels die).foldl countLoss s) (0x5380 + c)
        = counter s (0x5380 + c) + flag (getAmp s c).st.switching := by
  obtain ⟨u, ⟨⟨cs, rfl⟩, hd, ha⟩, -, hd', ha'⟩ := foldl_reaches (R := LossOther c) (.refl c) (fun _ _ _ => .trans) hc
    (nodup_outletChannels die) (fun b hb hne t => countLoss_other (outletChannels_lt hdie hb) (outletChannels_lt hdie hc) hne) s
  obtain ⟨hstep, hstep'⟩ := counter_countLoss (s := { s with hw.counters := cs }) (outletChannels_lt hdie hc)
  rw [hd', ha', hstep, hstep', hd, ha]
  exact ⟨rfl, rfl⟩

/-- Settles O44. -/
theorem lineOutputs : Obligations.LineOutputs := by
  unfold Obligations.LineOutputs
  intro rq die s
  refine ⟨fun h => ⟨fun hc => next_badArg h (outDacCfgBody_channel hc), fun hc hr => next_badArg h (outDacCfgBody_rate hc hr),
      fun hc he hr hr' hlow hhigh => ?_⟩, fun h hc st hst => ?_, fun ns => ⟨execDacClrRise_held ns, fun hclr hns hd => ?_,
      fun hclr hns hd => execDacClrRise_short hclr hns hd⟩, rfl, fun hw => ⟨?_, execFeedLoss_idle (.inl hw)⟩, fun hw hfeed => ?_,
    fun hw hn => execFeedLoss_idle (.inr hn), fun hw hn hl => ?_⟩
  · intro v e
    have hok := outDacCfgBody_ok hc he hr hr' hlow hhigh
    refine ⟨fun hclr => ?_, fun hclr hsame => ?_, fun hclr hen hne => ?_⟩
    · refine next_recorded h rfl (hok.trans ?_)
      rw [if_pos hclr, hclr, Dac.setClear, if_pos rfl]
      rfl
    · refine next_recorded h rfl (hok.trans ?_)
      rw [if_neg (ne_true_of_eq_false hclr), hclr, Dac.setClear, if_neg (by decide), if_pos hsame]
    · refine next_recorded h rfl (hok.trans ?_)
      have hmoves : ¬ ((getDac s (byteAt rq.payload 0)).enable = true ∨ fieldS rq.payload 8 4 = (getDac s (byteAt rq.payload 0)).clear) :=
        not_or.mpr ⟨ne_true_of_eq_false hen, hne⟩
      rw [if_neg (ne_true_of_eq_false hclr), hclr, Dac.setClear, if_neg (by decide), if_neg hmoves]
  · refine next_answered h rfl ((outDacStatusBody_ok hc).trans ?_)
    rw [dacState_eq hst]
  · obtain ⟨dacs, cs, w, heq⟩ := clearDacs_lineOnly s
    refine ⟨_, execDacClrRise_taken hclr hns hd, by rw [heq], fun x n hx hn => ?_, fun x hx => counter_clearDacs hx, by rw [heq],
      by rw [heq], by rw [heq], by rw [heq]⟩
    exact getDac_clearDacs hx (channel_mem hn)
  · change execOutletTick die s = .next s
    unfold execOutletTick
    rw [if_pos (by rw [hw]; rfl)]
  · obtain ⟨hout, hkept⟩ := outletWork_kept die (fedOutlet die s)
    obtain ⟨hsys, hmsg, hrend, hchain, hcores, hroute, hnet, htime, hwire, hregs, hmem⟩ := hkept
    have hdie := (outletWorks_range hw).1
    refine ⟨_, execOutletTick_fed hw hfeed, hout.trans (getOutlet_setOutlet_same s die _), hsys, hmsg, hrend, hchain, hcores, hroute,
      hnet, htime, hwire, hregs, hmem, fun n hn => ⟨fed_line_held hn, fun hclr hen hhub hrun => fed_line_on hdie hn hclr hen hhub hrun,
        fun hclr hen => fed_line_off hn hclr hen, fun hst hmode hfade => fed_amp hn (ampStep_turnedOff hst hmode hfade),
        fun hst hmode hheat hpins hrun hhalt hhub hrate hres hchk hfade => ?_, fun hst => fed_amp hn (ampStep_still hst)⟩⟩
    exact fed_amp hn (ampStep_fadesIn hst hmode hheat hpins hrun hhalt (wantsHold_fed hdie hn hhub hrate hres hchk) hfade)
  · have hdie := (outletWorks_range hw).2
    obtain ⟨cs, heq⟩ : CountsOnly _ ((outletChannels die).foldl countLoss (setOutlet die { getOutlet s die with loss := true } s)) :=
      foldl_related .refl (fun _ _ _ => .trans) (fun c _ t => countLoss_countsOnly t c) _
    refine ⟨_, execFeedLoss_lost hw hn hl, by rw [heq]; rfl, ?_, fun n hlt => ?_⟩
    · rw [heq]
      exact getOutlet_setOutlet_same s die _
    · exact counter_foldl_countLoss hdie (channel_mem hlt)

end Sys2Proof.Machine
end

section
/-! PROOFS. Sense chains and the auxiliary converter (O45). -/

namespace Sys2Proof.Machine
open Host

section
variable {rq : Request} {s : State}

/-! ### Powers of two -/

theorem log2Of_pow {l : Nat} (h : l ≤ 16) : log2Of (2 ^ l) = some l := by
  have hall : ∀ k, k < 17 → log2Of (2 ^ k) = some k := by decide
  exact hall l (by omega)

theorem log2Of_none {m : Nat} (h : ∀ l, l ≤ 16 → m ≠ 2 ^ l) : log2Of m = none := by
  refine List.find?_eq_none.mpr fun k hk => ?_
  have hlt := List.mem_range.mp hk
  exact fun heq => h k (by omega) (beq_iff_eq.mp heq).symm

/-! ### The settings of a sense chain, and what it reports -/

theorem outSenseCfgBody_ok {l : Nat} (hc : byteAt rq.payload 0 < s.member.channels) (hl : 3 ≤ l) (hl' : l ≤ 9)
    (hm : fieldLE rq.payload 2 2 = 2 ^ l) (hn : 1 ≤ byteAt rq.payload 1) (hn' : byteAt rq.payload 1 ≤ 4) :
    let c := byteAt rq.payload 0
    let x := getSense s c
    let n := byteAt rq.payload 1
    let y : Sense := { x with
      log2M := l, order := n, loaded := (byteAt rq.payload 4).testBit 0, vfs := fieldLE rq.payload 8 4, ifs := fieldLE rq.payload 12 4
      restartDue := x.restartDue || (x.log2M != l || x.order != n) }
    outSenseCfgBody rq s = replyOk (bytesLE 4 (6144000 / 2 ^ l) ++ bytesLE 4 (modNs (n * (2 ^ l - 1) + 2 * y.peak * 2 ^ l + 8))
      ++ bytesLE 4 (modNs (2 * (n + 31) * 2 ^ l))) (setSense c y s) := by
  have hlog : log2Of (fieldLE rq.payload 2 2) = some l := by rw [hm, log2Of_pow (by omega)]
  have hclamp : clampNat 3 9 l = l := by
    unfold clampNat
    omega
  have horder : clampNat 1 4 (byteAt rq.payload 1) = byteAt rq.payload 1 := by
    unfold clampNat
    omega
  unfold outSenseCfgBody
  simp only [hlog, hclamp, horder]
  rw [if_neg (by rw [channelRefused_of_lt hc]; decide)]
  simp only [firstBad, beq_self_eq_true, if_true]
  rfl

theorem outSenseCfgBody_factor (hc : byteAt rq.payload 0 < s.member.channels)
    (hm : ∀ l, l ≤ 16 → fieldLE rq.payload 2 2 ≠ 2 ^ l) : outSenseCfgBody rq s = badArg 2 s := by
  unfold outSenseCfgBody
  simp only [log2Of_none hm]
  rw [if_neg (by rw [channelRefused_of_lt hc]; decide)]

/-- A chain with a coefficient set written to the bank that is not in force. -/
def Sense.withCoefs (cs : List Int) (x : Sense) : Sense :=
  if x.bank = 0 then { x with coef1 := cs, pending := true } else { x with coef0 := cs, pending := true }

theorem Sense.withCoefs_kept (cs : List Int) (x : Sense) :
    (x.withCoefs cs).log2M = x.log2M ∧ (x.withCoefs cs).order = x.order := by
  unfold Sense.withCoefs
  split
  · exact ⟨rfl, rfl⟩
  · exact ⟨rfl, rfl⟩

theorem outSenseCoefBody_ok (hc : byteAt rq.payload 0 < s.member.channels) :
    let c := byteAt rq.payload 0
    let x := getSense s c
    let cs := (List.range 31).map fun i => signed 24 (fieldLE rq.payload (4 + 4 * i) 4)
    outSenseCoefBody rq s = replyOk (bytesLE 1 (peakTap cs) ++ [0, 0, 0]
      ++ bytesLE 4 (modNs (x.order * (2 ^ x.log2M - 1) + 2 * peakTap cs * 2 ^ x.log2M + 8))) (setSense c (x.withCoefs cs) s) := by
  intro c x cs
  obtain ⟨hlog, horder⟩ := Sense.withCoefs_kept cs x
  have hbody : outSenseCoefBody rq s = replyOk (bytesLE 1 (peakTap cs) ++ bytesLE 3 0
      ++ bytesLE 4 (senseDelay (x.withCoefs cs).log2M (x.withCoefs cs).order (peakTap cs))) (setSense c (x.withCoefs cs) s) := by
    unfold outSenseCoefBody
    dsimp only
    rw [if_neg (by rw [channelRefused_of_lt hc]; decide)]
    rfl
  rw [hbody, hlog, horder]
  rfl

theorem outSenseReadBody_ok (hc : byteAt rq.payload 0 < s.member.channels) :
    let x := getSense s (byteAt rq.payload 0)
    outSenseReadBody rq s = replyOk (bytesS 4 (roundDiv (x.v * x.vfs) (2 ^ 23)) ++ bytesS 4 (roundDiv (x.i * x.ifs) (2 ^ 23))
      ++ bytesS 4 x.v ++ bytesS 4 x.i ++ bytesLE 1 (3 * flag x.valid + 4 * flag x.ovlV + 8 * flag x.ovlI) ++ [0, 0, 0]) s := by
  intro x
  have hflags : flagAt x.valid 0 + flagAt x.valid 1 + flagAt x.ovlV 2 + flagAt x.ovlI 3
      = 3 * flag x.valid + 4 * flag x.ovlV + 8 * flag x.ovlI := by
    unfold flagAt flag
    split_ifs <;> rfl
  unfold outSenseReadBody
  dsimp only
  rw [if_neg (by rw [channelRefused_of_lt hc]; decide), hflags]
  rfl

theorem outSenseReadBody_channel (hc : s.member.channels ≤ byteAt rq.payload 0) : outSenseReadBody rq s = badArg 0 s := by
  unfold outSenseReadBody
  dsimp only
  rw [if_pos (channelRefused_of_le hc)]

/-! ### The settings of an auxiliary input, and what is read -/

theorem outAuxCfgBody_limits {l : Nat} (hd : s.member.outletDies.contains (byteAt rq.payload 0) = true)
    (hm : fieldLE rq.payload 2 2 = 2 ^ l) (hl : l ≤ 16) (hlim : fieldS rq.payload 12 4 < fieldS rq.payload 8 4) :
    outAuxCfgBody rq s = badArg 8 s := by
  have hlog : log2Of (fieldLE rq.payload 2 2) = some l := by rw [hm, log2Of_pow hl]
  unfold outAuxCfgBody
  simp only [hlog]
  rw [if_neg (by rw [hd]; decide), if_pos hlim]

theorem outAuxCfgBody_ok {l : Nat} (hd : s.member.outletDies.contains (byteAt rq.payload 0) = true)
    (hin : byteAt rq.payload 1 ≤ 15) (hl : 3 ≤ l) (hl' : l ≤ 9) (hm : fieldLE rq.payload 2 2 = 2 ^ l)
    (hn : 1 ≤ byteAt rq.payload 4) (hn' : byteAt rq.payload 4 ≤ 4) (he : byteAt rq.payload 5 ≤ 1)
    (hlim : fieldS rq.payload 8 4 ≤ fieldS rq.payload 12 4) :
    let c := byteAt rq.payload 0
    let k := auxKey c (byteAt rq.payload 1)
    let t := setAux k { getAux s k with
      m := 2 ^ l, n := byteAt rq.payload 4, enable := byteAt rq.payload 5 == 1, low := fieldS rq.payload 8 4
      high := fieldS rq.payload 12 4, valid := (getAux s k).valid && byteAt rq.payload 5 == 1 } s
    outAuxCfgBody rq s = replyOk (bytesLE 1 c ++ bytesLE 1 (byteAt rq.payload 1) ++ bytesLE 2 (2 ^ l) ++ bytesLE 1 (byteAt rq.payload 4)
      ++ bytesLE 1 (byteAt rq.payload 5) ++ [0, 0] ++ bytesS 4 (fieldS rq.payload 8 4) ++ bytesS 4 (fieldS rq.payload 12 4)
      ++ bytesLE 4 (scanNs t c)) t := by
  have hlog : log2Of (fieldLE rq.payload 2 2) = some l := by rw [hm, log2Of_pow (by omega)]
  have hclamp : clampNat 3 9 l = l := by
    unfold clampNat
    omega
  have horder : clampNat 1 4 (byteAt rq.payload 4) = byteAt rq.payload 4 := by
    unfold clampNat
    omega
  have hinput : min 15 (byteAt rq.payload 1) = byteAt rq.payload 1 := by omega
  have henable : min 1 (byteAt rq.payload 5) = byteAt rq.payload 5 := by omega
  unfold outAuxCfgBody
  simp only [hlog, hclamp, horder, hinput, henable]
  rw [if_neg (by rw [hd]; decide), if_neg (by omega)]
  simp only [firstBad, beq_self_eq_true, if_true]
  rfl

theorem outAuxReadBody_ok (hd : s.member.outletDies.contains (byteAt rq.payload 0) = true) :
    let c := byteAt rq.payload 0
    outAuxReadBody rq s = replyOk ((List.range 16).flatMap (fun i => bytesS 4 (auxValue i (getAux s (auxKey c i)).raw))
      ++ bytesLE 2 (maskOf ((List.range 16).filter fun i => (getAux s (auxKey c i)).valid)) ++ [0, 0] ++ bytesLE 4 (scanNs s c)) s := by
  intro c
  unfold outAuxReadBody
  dsimp only
  rw [if_neg (by rw [hd]; decide)]
  rfl

end

/-! ### An output of the decimators -/

section
variable {ch : Nat} {v i : Int} {s : State} {x : Sense}

theorem senseStep_restart (hp : x.pending = false) (hdue : x.restartDue = true) :
    senseStep ch v i x s
      = ({ x with histV := [], histI := [], restart := x.order + 31, restartDue := false, valid := false },
        count (0x5100 + 4 * ch + 3) s) := by
  unfold senseStep
  simp only [hp, Bool.false_eq_true, if_false, hdue, if_true]

/-- The counters of the two overloads. -/
def countOverloads (ch : Nat) (v i : Int) (s : State) : State :=
  countBy (0x5100 + 4 * ch) (flag (overloaded v)) (countBy (0x5100 + 4 * ch + 1) (flag (overloaded i)) s)

theorem countOverloads_v : counter (countOverloads ch v i s) (0x5100 + 4 * ch)
    = counter s (0x5100 + 4 * ch) + flag (overloaded v) := by
  rw [countOverloads, counter_countBy, counter_countBy_other _ _ (by omega)]

theorem countOverloads_i : counter (countOverloads ch v i s) (0x5100 + 4 * ch + 1)
    = counter s (0x5100 + 4 * ch + 1) + flag (overloaded i) := by
  rw [countOverloads, counter_countBy_other _ _ (by omega), counter_countBy]

theorem countOverloads_conceal : counter (countOverloads ch v i s) (0x5100 + 4 * ch + 2) = counter s (0x5100 + 4 * ch + 2) := by
  rw [countOverloads, counter_countBy_other _ _ (by omega), counter_countBy_other _ _ (by omega)]

/-- The chain with its histories one output longer. -/
def Sense.shifted (v i : Int) (x : Sense) : Sense :=
  { x with histV := (satInt 24 v :: x.histV).take 31, histI := (satInt 24 i :: x.histI).take 31 }

theorem senseStep_filtered (hp : x.pending = false) (hdue : x.restartDue = false) (hc : x.conceal = false) :
    senseStep ch v i x s
      = ({ x.shifted v i with
            v := senseFir (x.shifted v i) (x.shifted v i).histV, i := senseFir (x.shifted v i) (x.shifted v i).histI
            ovlV := overloaded (satInt 24 v), ovlI := overloaded (satInt 24 i), restart := x.restart - 1
            valid := decide (x.restart ≤ 1) }, countOverloads ch (satInt 24 v) (satInt 24 i) s) := by
  unfold senseStep
  simp only [hp, Bool.false_eq_true, if_false, hdue, hc, Sense.shifted, countOverloads]

theorem senseStep_concealed (hp : x.pending = false) (hdue : x.restartDue = false) (hc : x.conceal = true) :
    senseStep ch v i x s
      = ({ x.shifted v i with
            v := satInt 24 v, i := satInt 24 i
            ovlV := overloaded (satInt 24 v), ovlI := overloaded (satInt 24 i), restart := x.restart - 1
            valid := decide (x.restart ≤ 1), conceal := false },
        memEvent (channelDie ch) 0xFA 1 0 (count (0x5100 + 4 * ch + 2) (countOverloads ch (satInt 24 v) (satInt 24 i) s))) := by
  unfold senseStep
  simp only [hp, Bool.false_eq_true, if_false, hdue, hc, if_true, Sense.shifted, countOverloads]

theorem senseStep_swapped (hp : x.pending = true) :
    (senseStep ch v i x s).1.bank = 1 - x.bank ∧ (senseStep ch v i x s).1.pending = false := by
  unfold senseStep
  simp only [hp, if_true]
  cases hdue : x.restartDue with
  | true => exact ⟨rfl, rfl⟩
  | false => exact ⟨rfl, rfl⟩

/-- What a sample adds to its channel's DC window and pilot interval. -/
def Amp.sampled (x : Sense) (a : Amp) : Amp :=
  { a with
    dcSum := if x.valid && !x.ovlV then a.dcSum + x.v else a.dcSum, dcN := a.dcN + flag (x.valid && !x.ovlV)
    dcTotal := a.dcTotal + 1, pilotBad := a.pilotBad || !x.valid || x.ovlV || x.ovlI }

theorem execSenseDecimatorOutput_on (hc : ch < s.member.channels) (hw : outletWorks s (channelDie ch) = true) :
    let r := senseStep ch v i (getSense s ch) s
    execSenseDecimatorOutput ch v i s = .next (setAmp ch ((getAmp r.2 ch).sampled r.1) (setSense ch r.1 r.2)) := by
  intro r
  unfold execSenseDecimatorOutput
  rw [if_neg (by simp [channelRefused_of_lt hc, hw])]
  rfl

theorem getSense_sampled (x : Sense) (a : Amp) (t : State) : getSense (setAmp ch a (setSense ch x t)) ch = x :=
  getSense_setSense_same t ch x

theorem decimator_restart (hc : ch < s.member.channels) (hw : outletWorks s (channelDie ch) = true)
    (hp : (getSense s ch).pending = false) (hdue : (getSense s ch).restartDue = true) :
    let z := getSense s ch
    ∃ t, execSenseDecimatorOutput ch v i s = .next t
      ∧ getSense t ch = { z with histV := [], histI := [], restart := z.order + 31, restartDue := false, valid := false }
      ∧ counter t (0x5100 + 4 * ch + 3) = counter s (0x5100 + 4 * ch + 3) + 1 := by
  intro z
  refine ⟨_, execSenseDecimatorOutput_on hc hw, ?_, ?_⟩
  · rw [getSense_sampled, senseStep_restart hp hdue]
  · rw [senseStep_restart hp hdue]
    exact counter_countBy _ 1 s

/-- With a loaded set the filter takes the bank in force. -/
theorem senseFir_loaded (hl : x.loaded = true) (h : List Int) :
    senseFir x h = satInt 24 (roundDiv (((List.range 31).map fun k => x.coefs.getD k 0 * h.getD k 0).sum) (2 ^ 22)) := by
  unfold senseFir
  dsimp only
  rw [if_pos hl]

theorem decimator_filtered (hc : ch < s.member.channels) (hw : outletWorks s (channelDie ch) = true)
    (hp : (getSense s ch).pending = false) (hdue : (getSense s ch).restartDue = false) (hcon : (getSense s ch).conceal = false) :
    let z := getSense s ch
    ∃ t, execSenseDecimatorOutput ch v i s = .next t
      ∧ getSense t ch = { z.shifted v i with
          v := senseFir (z.shifted v i) (z.shifted v i).histV, i := senseFir (z.shifted v i) (z.shifted v i).histI
          ovlV := overloaded (satInt 24 v), ovlI := overloaded (satInt 24 i), restart := z.restart - 1
          valid := decide (z.restart ≤ 1) }
      ∧ counter t (0x5100 + 4 * ch) = counter s (0x5100 + 4 * ch) + flag (overloaded (satInt 24 v))
      ∧ counter t (0x5100 + 4 * ch + 1) = counter s (0x5100 + 4 * ch + 1) + flag (overloaded (satInt 24 i))
      ∧ (getAmp t ch).dcTotal = (getAmp s ch).dcTotal + 1 ∧ (getAmp t ch).st = (getAmp s ch).st
      ∧ t = { s with hw.counters := t.hw.counters, outs.senses := t.outs.senses, outs.amps := t.outs.amps } := by
  intro z
  have hexec := execSenseDecimatorOutput_on (v := v) (i := i) hc hw
  rw [senseStep_filtered hp hdue hcon] at hexec
  refine ⟨_, hexec, getSense_sampled _ _ _, countOverloads_v, countOverloads_i, ?_, ?_, rfl⟩
  · rw [getAmp_setAmp_same]
    rfl
  · rw [getAmp_setAmp_same]
    rfl

theorem decimator_concealed (hc : ch < s.member.channels) (hw : outletWorks s (channelDie ch) = true)
    (hp : (getSense s ch).pending = false) (hdue : (getSense s ch).restartDue = false) (hcon : (getSense s ch).conceal = true) :
    ∃ t, execSenseDecimatorOutput ch v i s = .next t
      ∧ (getSense t ch).v = satInt 24 v ∧ (getSense t ch).i = satInt 24 i ∧ (getSense t ch).conceal = false
      ∧ counter t (0x5100 + 4 * ch + 2) = counter s (0x5100 + 4 * ch + 2) + 1 := by
  have hexec := execSenseDecimatorOutput_on (v := v) (i := i) hc hw
  rw [senseStep_concealed hp hdue hcon] at hexec
  obtain ⟨-, hhw⟩ := memEvent_kept (channelDie ch) 0xFA 1 0
    (count (0x5100 + 4 * ch + 2) (countOverloads ch (satInt 24 v) (satInt 24 i) s))
  refine ⟨_, hexec, ?_, ?_, ?_, ?_⟩
  · rw [getSense_sampled]
  · rw [getSense_sampled]
  · rw [getSense_sampled]
  · change mapGet _ (memEvent (channelDie ch) 0xFA 1 0
      (count (0x5100 + 4 * ch + 2) (countOverloads ch (satInt 24 v) (satInt 24 i) s))).hw.counters _ = _
    rw [hhw]
    exact (counter_countBy _ 1 _).trans (congrArg (· + 1) countOverloads_conceal)

theorem decimator_swapped (hc : ch < s.member.channels) (hw : outletWorks s (channelDie ch) = true)
    (hp : (getSense s ch).pending = true) :
    ∃ t, execSenseDecimatorOutput ch v i s = .next t ∧ (getSense t ch).bank = 1 - (getSense s ch).bank
      ∧ (getSense t ch).pending = false := by
  refine ⟨_, execSenseDecimatorOutput_on hc hw, ?_⟩
  rw [getSense_sampled]
  exact senseStep_swapped hp

end

/-! ### A conversion of the auxiliary converter -/

section
variable {die input : Nat} {raw : Int} {s : State}

theorem setAux_setAux (k : Nat) (x y : Aux) (s : State) : setAux k y (setAux k x s) = setAux k y s := by
  unfold setAux
  rw [show ({ s with outs.auxs := mapSet s.outs.auxs k x } : State).outs.auxs = mapSet s.outs.auxs k x from rfl, mapSet_mapSet_same]

/-- An input with a conversion's result. -/
def Aux.converted (raw : Int) (a : Aux) : Aux := { a with raw := satInt 24 raw, valid := true }

/-- What the input measures, taken up. -/
def auxTaken (die input : Nat) (value : Int) (s : State) : State :=
  if input = 0 then { s with sys.temps := mapSet s.sys.temps die value }
  else if 6 ≤ input ∧ input < 10 then railReading (4 * (die - 6) + (input - 6)) value s
  else if 10 ≤ input ∧ input < 14 then groupReading (4 * (die - 6) + (input - 10)) value s
  else s

theorem execAuxConversion_on (hw : outletWorks s die = true) (hin : input < 16)
    (hen : (getAux s (auxKey die input)).enable = true) :
    let value := auxValue input (satInt 24 raw)
    execAuxConversion die input raw s = .next (auxTaken die input value (auxLimits die input value
      (setAux (auxKey die input) ((getAux s (auxKey die input)).converted raw) s))) := by
  intro value
  unfold execAuxConversion
  dsimp only
  rw [if_neg (by simp [hw, hen]; omega)]
  rfl

theorem execAuxConversion_off (h : outletWorks s die = false ∨ (getAux s (auxKey die input)).enable = false) :
    execAuxConversion die input raw s = .next s := by
  unfold execAuxConversion
  dsimp only
  rw [if_pos (by rcases h with h | h <;> simp [h])]

theorem auxTaken_plain {value : Int} (h : input ≠ 0 ∧ (input < 6 ∨ 14 ≤ input)) : auxTaken die input value s = s := by
  unfold auxTaken
  rw [if_neg h.1, if_neg (by omega), if_neg (by omega)]

/-- `out.aux.limit` of an input. -/
def auxReport (die input : Nat) (value : Int) (kind : Nat) (s : State) : State :=
  eventLimited (0x70000 + auxKey die input) 20 die 0x0983 0xFFFF
    (bytesLE 1 die ++ bytesLE 1 input ++ bytesLE 1 kind ++ [0] ++ bytesS 4 value) s

variable {a : Aux} {value : Int}

theorem auxLimits_inside (hlow : a.low ≤ value) (hhigh : value ≤ a.high) (hl : a.limit = false) :
    auxLimits die input value (setAux (auxKey die input) (a.converted raw) s) = setAux (auxKey die input) (a.converted raw) s := by
  unfold auxLimits
  simp only [getAux_setAux_same, Aux.converted, hl]
  rw [if_neg (by omega), if_neg (by decide)]

theorem auxLimits_beyond (hout : value < a.low ∨ a.high < value) (hl : a.limit = false) :
    auxLimits die input value (setAux (auxKey die input) (a.converted raw) s)
      = auxReport die input value (if value < a.low then 0 else 1) (count (0x5180 + 16 * (die - 6) + input)
          (setAux (auxKey die input) { a.converted raw with limit := true, inside := 0 } s)) := by
  unfold auxLimits
  simp only [getAux_setAux_same, Aux.converted, hl, setAux_setAux]
  rw [if_pos hout]
  rfl

theorem auxLimits_counting (hlow : a.low ≤ value) (hhigh : value ≤ a.high) (hl : a.limit = true) (hn : a.inside < 3) :
    auxLimits die input value (setAux (auxKey die input) (a.converted raw) s)
      = setAux (auxKey die input) { a.converted raw with inside := a.inside + 1 } s := by
  unfold auxLimits
  simp only [getAux_setAux_same, Aux.converted, hl, setAux_setAux]
  rw [if_neg (by omega), if_pos trivial, if_neg (by omega)]

theorem auxLimits_ended (hlow : a.low ≤ value) (hhigh : value ≤ a.high) (hl : a.limit = true) (hn : 3 ≤ a.inside) :
    auxLimits die input value (setAux (auxKey die input) (a.converted raw) s)
      = auxReport die input value 2 (setAux (auxKey die input) { a.converted raw with limit := false, inside := 0 } s) := by
  unfold auxLimits
  simp only [getAux_setAux_same, Aux.converted, hl, setAux_setAux]
  rw [if_neg (by omega), if_pos trivial, if_pos hn]
  rfl

end

/-- Settles O45. -/
theorem senseAndAux : Obligations.SenseAndAux := by
  unfold Obligations.SenseAndAux
  intro rq ch s
  refine ⟨fun h hc l hl hl' hm hn hn' => next_recorded h rfl (outSenseCfgBody_ok hc hl hl' hm hn hn'),
    fun h hc hm => next_badArg h (outSenseCfgBody_factor hc hm), fun h hc => next_recorded h rfl (outSenseCoefBody_ok hc),
    fun h hc => next_answered h rfl (outSenseReadBody_ok hc), fun h hc => next_badArg h (outSenseReadBody_channel hc),
    fun l h hd hin hl hl' hm hn hn' he => ⟨fun hlim => next_badArg h (outAuxCfgBody_limits hd hm (by omega) hlim),
      fun hlim => next_recorded h rfl (outAuxCfgBody_ok hd hin hl hl' hm hn hn' he hlim)⟩,
    fun h hd => next_answered h rfl (outAuxReadBody_ok hd),
    fun v i hc hw hp => ⟨fun hdue => decimator_restart hc hw hp hdue, fun hdue hcon hload => ?_,
      fun hdue hcon => decimator_concealed hc hw hp hdue hcon⟩,
    fun v i hc hw hp => decimator_swapped hc hw hp, fun die input raw hw hin hen => ?_,
    fun die input raw h => execAuxConversion_off h⟩
  · obtain ⟨t, hexec, hsense, hrest⟩ := decimator_filtered (v := v) (i := i) hc hw hp hdue hcon
    refine ⟨t, hexec, hsense.trans ?_, hrest⟩
    rw [senseFir_loaded (x := (getSense s ch).shifted v i) hload, senseFir_loaded (x := (getSense s ch).shifted v i) hload]
    rfl
  · have hexec := execAuxConversion_on (raw := raw) hw hin hen
    refine ⟨fun hlow hhigh hl => ⟨fun hplain => hexec.trans ?_, fun hz => hexec.trans ?_, fun h6 h10 => hexec.trans ?_,
      fun h10 h14 => hexec.trans ?_⟩, fun hplain hout hl => hexec.trans ?_, fun hplain hlow hhigh hl hn => hexec.trans ?_,
      fun hplain hlow hhigh hl hn => hexec.trans ?_⟩
    · rw [auxTaken_plain hplain, auxLimits_inside hlow hhigh hl]
      rfl
    · rw [auxLimits_inside hlow hhigh hl, auxTaken, if_pos hz]
      rfl
    · rw [auxLimits_inside hlow hhigh hl, auxTaken, if_neg (by omega), if_pos ⟨h6, h10⟩]
      rfl
    · rw [auxLimits_inside hlow hhigh hl, auxTaken, if_neg (by omega), if_neg (by omega), if_pos ⟨h10, h14⟩]
      rfl
    · rw [auxTaken_plain hplain, auxLimits_beyond hout hl]
      rfl
    · rw [auxTaken_plain hplain, auxLimits_counting hlow hhigh hl hn]
      rfl
    · rw [auxTaken_plain hplain, auxLimits_ended hlow hhigh hl hn]
      rfl

end Sys2Proof.Machine
end

section
/-! PROOFS. Power channels (O46). -/

namespace Sys2Proof.Machine
open Host

/-! ### Writes that meet at one channel -/

theorem setAmp_setAmp (c : Nat) (a b : Amp) (s : State) : setAmp c b (setAmp c a s) = setAmp c b s := by
  unfold setAmp
  rw [show ({ s with outs.amps := mapSet s.outs.amps c a } : State).outs.amps = mapSet s.outs.amps c a from rfl, mapSet_mapSet_same]

theorem count_setAmp (id c : Nat) (a : Amp) (s : State) : count id (setAmp c a s) = setAmp c a (count id s) := rfl

theorem getAmp_count (id c : Nat) (s : State) : getAmp (count id s) c = getAmp s c := rfl

/-- A channel that the member has on an Outlet that works. -/
theorem channel_there {s : State} {ch : Nat} (hc : ch < s.member.channels) (hw : outletWorks s (6 + ch / 16) = true) :
    channelRefused s ch = false ∧ outletWorks s (channelDie ch) = true := ⟨channelRefused_of_lt hc, hw⟩

/-! ### Locking to a reference -/

/-- A mode-2 channel that switches locks to a frequency between 0.60 and 1.05 times its idle frequency. -/
def syncFits (a : Amp) (hz : Nat) : Bool :=
  a.mode == 2 && a.st.switching && decide (600 * a.idle ≤ hz) && decide (hz ≤ 1050 * a.idle) && hz != 0

theorem syncFits_iff {a : Amp} {hz : Nat} : syncFits a hz = true
    ↔ a.mode = 2 ∧ a.st.switching = true ∧ 600 * a.idle ≤ hz ∧ hz ≤ 1050 * a.idle ∧ hz ≠ 0 := by
  simp only [syncFits, Bool.and_eq_true, beq_iff_eq, decide_eq_true_eq, bne_iff_ne, and_assoc]

theorem trySync_still {s : State} {c hz : Nat} (h : (getAmp s c).mode ≠ 2 ∨ (getAmp s c).st.switching = false) :
    trySync c hz s = setAmp c { getAmp s c with syncLock := false } s := by
  unfold trySync
  dsimp only
  rw [if_pos (h.imp_right fun h => by rw [h]; rfl)]

theorem trySync_tried {s : State} {c hz : Nat} (hm : (getAmp s c).mode = 2) (hs : (getAmp s c).st.switching = true) :
    trySync c hz s = if syncFits (getAmp s c) hz then setAmp c { getAmp s c with syncLock := true } s
      else count (0x5200 + 8 * c + 7) (setAmp c { getAmp s c with syncLock := false } s) := by
  have hfits : (decide (60 * ((getAmp s c).idle * 1000) ≤ 100 * hz) && decide (100 * hz ≤ 105 * ((getAmp s c).idle * 1000)) && hz != 0)
      = syncFits (getAmp s c) hz := by
    have hlow : 60 * ((getAmp s c).idle * 1000) ≤ 100 * hz ↔ 600 * (getAmp s c).idle ≤ hz := by omega
    have hhigh : 100 * hz ≤ 105 * ((getAmp s c).idle * 1000) ↔ hz ≤ 1050 * (getAmp s c).idle := by omega
    simp only [syncFits, hm, hs, hlow, hhigh, beq_self_eq_true, Bool.true_and]
  unfold trySync
  simp only [hfits]
  rw [if_neg (by simp [hm, hs])]
  cases syncFits (getAmp s c) hz with
  | true => rfl
  | false => rfl

/-- Whatever it comes to, the channel says whether it is locked. -/
theorem getAmp_trySync (c hz : Nat) (s : State) :
    getAmp (trySync c hz s) c = { getAmp s c with syncLock := syncFits (getAmp s c) hz } := by
  by_cases h : (getAmp s c).mode = 2 ∧ (getAmp s c).st.switching = true
  · obtain ⟨hm, hs⟩ := h
    rw [trySync_tried hm hs]
    cases hf : syncFits (getAmp s c) hz with
    | true => exact getAmp_setAmp_same s c _
    | false => exact getAmp_setAmp_same s c _
  · have hno : syncFits (getAmp s c) hz = false := by
      unfold syncFits
      cases hs : (getAmp s c).st.switching with
      | true => simp [show (getAmp s c).mode ≠ 2 from fun hm => h ⟨hm, hs⟩]
      | false => simp
    rw [hno, trySync_still (by cases hs : (getAmp s c).st.switching with
      | true => exact .inl fun hm => h ⟨hm, hs⟩
      | false => exact .inr rfl), getAmp_setAmp_same]

/-! ### Starts and stops -/

section
variable {s : State} {ch : Nat}

theorem execChannelStart_starting (hc : channelRefused s ch = false) (hw : outletWorks s (channelDie ch) = true)
    (hst : (getAmp s ch).st = .starting) (hp : pinsDriven s = false) :
    execChannelStart ch s = .next (setAmp ch { getAmp s ch with
      st := .startHold, line := [], pilotPhase := 0, dcSum := 0, dcN := 0, dcTotal := 0 } s) := by
  unfold execChannelStart
  dsimp only
  rw [if_neg (by simp [hc, hw, hst, hp])]

/-- The reference that a channel of an Outlet tries at its start. -/
def startReference (s : State) (ch refHz : Nat) : Nat :=
  if (getOutlet s (channelDie ch)).syncExt then refHz else (getOutlet s (channelDie ch)).syncHz

theorem execStartHoldEnd_inRange {kHz refHz : Nat} (hc : channelRefused s ch = false) (hw : outletWorks s (channelDie ch) = true)
    (hst : (getAmp s ch).st = .startHold) (hlow : 300 ≤ kHz) (hhigh : kHz ≤ 700) :
    execStartHoldEnd ch kHz refHz s
      = .next (trySync ch (startReference s ch refHz) (setAmp ch { getAmp s ch with st := .holding, idle := kHz } s)) := by
  have hbad : (decide (kHz < 300) || decide (700 < kHz)) = false := by simp; omega
  unfold execStartHoldEnd
  simp only [hbad, Bool.or_false]
  rw [if_neg (by simp [hc, hw, hst])]
  rfl

theorem execStartHoldEnd_outOfRange {kHz refHz : Nat} (hc : channelRefused s ch = false) (hw : outletWorks s (channelDie ch) = true)
    (hst : (getAmp s ch).st = .startHold) (hbad : kHz < 300 ∨ 700 < kHz) :
    execStartHoldEnd ch kHz refHz s = .next (trySync ch (startReference s ch refHz) (count (0x5300 + 4 * ch + 3)
      (setAmp ch { getAmp s ch with st := .holding, idle := kHz, freqErr := true } s))) := by
  have hbad' : (decide (kHz < 300) || decide (700 < kHz)) = true := by simp; omega
  unfold execStartHoldEnd
  simp only [hbad', Bool.or_true]
  rw [if_neg (by simp [hc, hw, hst])]
  rfl

theorem execChannelStopComplete_stopping (hc : channelRefused s ch = false) (hw : outletWorks s (channelDie ch) = true)
    (hst : (getAmp s ch).st = .stopHold) :
    execChannelStopComplete ch s = .next (ampMayStart ch (setAmp ch ((getAmp s ch).gatesLow .off) s)) := by
  unfold execChannelStopComplete
  dsimp only
  rw [if_neg (by simp [hc, hw, hst])]

theorem ampMayStart_mode0 (h : (getAmp s ch).mode = 0) : ampMayStart ch s = s := by
  unfold ampMayStart
  dsimp only
  rw [if_pos (.inl h)]

theorem ampMayStart_starts (hm : (getAmp s ch).mode ≠ 0) (hst : (getAmp s ch).st = .off) (hp : pinsDriven s = false)
    (hrun : s.sys.ao.power = .run) (hhalt : s.sys.fatal.halted = false) :
    ampMayStart ch s
      = setAmp ch (if (getAmp s ch).heat then { getAmp s ch with st := .waiting } else (getAmp s ch).begin false) s := by
  unfold ampMayStart
  dsimp only
  rw [if_neg (by simp [hm, hst, hp, hrun, hhalt])]
  split
  · rfl
  · rfl

/-! ### Faults and retries -/

/-- A channel whose retry has failed: the eighth in a row latches. -/
def Amp.failedOnce (b : Amp) : Amp :=
  if b.retries < 7 then { b.gatesLow .waiting with retries := b.retries + 1, retryDue := true, expired := false, recent := false }
  else { b.gatesLow .latched with retries := min 15 (b.retries + 1), retryDue := false, expired := false, recent := false }

theorem retryFailed_eq (c : Nat) (s : State) :
    retryFailed c s = count (0x5200 + 8 * c + 3) (setAmp c (getAmp s c).failedOnce s) := by
  unfold retryFailed Amp.failedOnce
  dsimp only
  by_cases h : (getAmp s c).retries < 7
  · have hn : min 15 ((getAmp s c).retries + 1) = (getAmp s c).retries + 1 := by omega
    have hlast : decide (8 ≤ (getAmp s c).retries + 1) = false := by simp; omega
    rw [if_pos h, hn, hlast]
    rfl
  · have hlast : decide (8 ≤ min 15 ((getAmp s c).retries + 1)) = true := by simp; omega
    rw [if_neg h, hlast]
    rfl

theorem latched_failedOnce (b : Amp) : (b.failedOnce.st == .latched) = decide (7 ≤ b.retries) := by
  unfold Amp.failedOnce
  split
  · next h => rw [decide_eq_false (by omega)]; rfl
  · next h => rw [decide_eq_true (by omega)]; rfl

/-- A retry that fails, with its report: cause 7 once it latches. -/
def reportRetry (ch cause : Nat) (b : Amp) (s : State) : State :=
  ampFault ch (if b.retries < 7 then cause else 7) (decide (7 ≤ b.retries)) (count (0x5200 + 8 * ch + 3) (setAmp ch b.failedOnce s))

theorem ampFault_retryFailed (ch cause : Nat) (s : State) :
    ampFault ch (if (getAmp (retryFailed ch s) ch).st == .latched then 7 else cause) ((getAmp (retryFailed ch s) ch).st == .latched)
      (retryFailed ch s) = reportRetry ch cause (getAmp s ch) s := by
  have hst : getAmp (retryFailed ch s) ch = (getAmp s ch).failedOnce := by
    rw [retryFailed_eq]
    exact getAmp_setAmp_same s ch _
  rw [hst, latched_failedOnce, retryFailed_eq]
  unfold reportRetry
  by_cases h : (getAmp s ch).retries < 7
  · rw [if_pos h, if_neg (by simp; omega)]
  · rw [if_neg h, if_pos (by simp; omega)]

/-- The state in which a shutdown is taken: counted, its group's floor due. -/
def shutCounted (ch : Nat) (s : State) : State :=
  count (0x5200 + 8 * ch + 2) (setBoost (groupOf ch) { getBoost s (groupOf ch) with floorDue := true } s)

theorem shutDown_eq (ch cause : Nat) (s : State) :
    let a := getAmp s ch
    let u := shutCounted ch s
    shutDown ch cause s = if a.check then reportRetry ch 6 a u
      else if a.retryMs = 0 then ampFault ch cause true (setAmp ch { a.gatesLow .latched with recent := false } u)
      else if a.recent then reportRetry ch cause a u
      else ampFault ch cause false (setAmp ch { a.gatesLow .waiting with retryDue := true, expired := false } u) := by
  intro a u
  have hamp : getAmp u ch = a := rfl
  have hcheck := ampFault_retryFailed ch 6 u
  have hrecent := ampFault_retryFailed ch cause u
  rw [hamp] at hcheck hrecent
  rw [← hcheck, ← hrecent]
  rfl

theorem execHardShort_switching (hc : channelRefused s ch = false) (hw : outletWorks s (channelDie ch) = true)
    (hs : (getAmp s ch).st.switching = true) : execHardShort ch s = .next (shutDown ch 1 s) := by
  unfold execHardShort
  rw [if_neg (by simp [hc, hw, hs])]

theorem execHardShort_still (hs : (getAmp s ch).st.switching = false) : execHardShort ch s = .next s := by
  unfold execHardShort
  rw [if_pos (.inr (.inr (by rw [hs]; rfl)))]

theorem execCycleTrip_switching (k : Nat) (hc : channelRefused s ch = false) (hw : outletWorks s (channelDie ch) = true)
    (hs : (getAmp s ch).st.switching = true) :
    let t := count (0x5200 + 8 * ch + 1) s
    execCycleTrip ch k s = .next (if (getAmp s ch).check then reportRetry ch 6 (getAmp s ch) t
      else if 3 ≤ k then shutDown ch 2 t else t) := by
  intro t
  have hfail := ampFault_retryFailed ch 6 t
  rw [getAmp_count] at hfail
  rw [← hfail]
  unfold execCycleTrip
  dsimp only
  rw [if_neg (by simp [hc, hw, hs])]

theorem execCycleTrip_still (k : Nat) (hs : (getAmp s ch).st.switching = false) : execCycleTrip ch k s = .next s := by
  unfold execCycleTrip
  dsimp only
  rw [if_pos (.inr (.inr (by rw [hs]; rfl)))]

theorem execClipEpisode_still (hs : (getAmp s ch).st.switching = false) : execClipEpisode ch s = .next s := by
  unfold execClipEpisode
  dsimp only
  rw [if_pos (.inr (.inr (by rw [hs]; rfl)))]

theorem oncePerSecond_recent {key m : Nat} (h : mapFind s.msg.ncp.lastSent key = some m) (hnow : s.now < m + cyclesPerSecond) :
    oncePerSecond key s = none := by
  unfold oncePerSecond
  simp only [h, if_pos hnow]

theorem oncePerSecond_first {key : Nat} (h : mapFind s.msg.ncp.lastSent key = none) :
    oncePerSecond key s = some { s with msg.ncp.lastSent := mapSet s.msg.ncp.lastSent key s.now } := by
  unfold oncePerSecond
  simp only [h]

/-- The state in which a clip episode is counted and shown. -/
def clipCounted (ch : Nat) (s : State) : State := count (0x5200 + 8 * ch + 4) (setAmp ch { getAmp s ch with clip := true } s)

theorem execClipEpisode_quiet (hc : channelRefused s ch = false) (hw : outletWorks s (channelDie ch) = true)
    (hs : (getAmp s ch).st.switching = true) (hquiet : oncePerSecond (0x71000 + ch) (clipCounted ch s) = none) :
    execClipEpisode ch s = .next (clipCounted ch s) := by
  unfold clipCounted at hquiet ⊢
  unfold execClipEpisode
  simp only [hquiet]
  rw [if_neg (by simp [hc, hw, hs])]

theorem execClipEpisode_reported {t : State} (hc : channelRefused s ch = false) (hw : outletWorks s (channelDie ch) = true)
    (hs : (getAmp s ch).st.switching = true) (hsent : oncePerSecond (0x71000 + ch) (clipCounted ch s) = some t) :
    execClipEpisode ch s = .next (ampFault ch 4 false t) := by
  unfold clipCounted at hsent
  unfold execClipEpisode
  simp only [hsent]
  rw [if_neg (by simp [hc, hw, hs])]

theorem execRetryTimer_due (hc : channelRefused s ch = false) (hw : outletWorks s (channelDie ch) = true)
    (hst : (getAmp s ch).st = .waiting) (hdue : (getAmp s ch).retryDue = true) :
    execRetryTimer ch s
      = .next (setAmp ch (if (getAmp s ch).heat then { getAmp s ch with expired := true } else (getAmp s ch).begin true) s) := by
  unfold execRetryTimer
  dsimp only
  rw [if_neg (by simp [hc, hw, hst, hdue])]
  split
  · rfl
  · rfl

theorem execRetryTimer_idle (h : (getAmp s ch).st ≠ .waiting ∨ (getAmp s ch).retryDue = false) :
    execRetryTimer ch s = .next s := by
  unfold execRetryTimer
  dsimp only
  rw [if_pos (.inr (.inr (h.imp_right fun h => by rw [h]; rfl)))]

theorem execRetryCheckEnd_failed {z : Nat} (hc : channelRefused s ch = false) (hw : outletWorks s (channelDie ch) = true)
    (hchk : (getAmp s ch).check = true) (hst : (getAmp s ch).st = .holding) (hz : z < (getAmp s ch).shortLim) :
    execRetryCheckEnd ch z s = .next (reportRetry ch 6 { getAmp s ch with zmag := z } s) := by
  have hfail := ampFault_retryFailed ch 6 (setAmp ch { getAmp s ch with zmag := z } s)
  rw [getAmp_setAmp_same] at hfail
  have hone : reportRetry ch 6 { getAmp s ch with zmag := z } s
      = reportRetry ch 6 { getAmp s ch with zmag := z } (setAmp ch { getAmp s ch with zmag := z } s) := by
    unfold reportRetry
    rw [setAmp_setAmp]
  rw [hone, ← hfail]
  unfold execRetryCheckEnd
  dsimp only
  rw [if_neg (by simp [hc, hw, hchk, hst]), if_pos hz]

theorem execRetryCheckEnd_passed {z : Nat} (hc : channelRefused s ch = false) (hw : outletWorks s (channelDie ch) = true)
    (hchk : (getAmp s ch).check = true) (hst : (getAmp s ch).st = .holding) (hz : (getAmp s ch).shortLim ≤ z) :
    execRetryCheckEnd ch z s = .next (setAmp ch { getAmp s ch with check := false, recent := true, zmag := z } s) := by
  unfold execRetryCheckEnd
  dsimp only
  rw [if_neg (by simp [hc, hw, hchk, hst]), if_neg (by omega)]

theorem execRetryCountReset_running (hc : channelRefused s ch = false) (hst : (getAmp s ch).st = .running) :
    execRetryCountReset ch s = .next (setAmp ch { getAmp s ch with retries := 0, recent := false } s) := by
  unfold execRetryCountReset
  dsimp only
  rw [if_neg (by simp [hc, hst])]

end

/-! ### Events of an Outlet -/

section
variable {die cls op flow : Nat} {fields : List Byte} {s : State}

theorem outletEvent_sent (h : nerrisUp s = true) : outletEvent die cls op flow fields s = event cls die op flow fields s := by
  unfold outletEvent
  rw [if_pos h]

theorem outletEvent_kept (h : nerrisUp s = false) (hroom : (getOutlet s die).kept.length < 16) :
    outletEvent die cls op flow fields s = setOutlet die { getOutlet s die with
      kept := (getOutlet s die).kept ++ [{ cls := cls, opcode := op, flow := flow, fields := fields }] } s := by
  unfold outletEvent
  dsimp only
  rw [if_neg (by rw [h]; decide), if_pos hroom]

theorem outletEvent_dropped (h : nerrisUp s = false) (hfull : 16 ≤ (getOutlet s die).kept.length) :
    outletEvent die cls op flow fields s = s := by
  unfold outletEvent
  dsimp only
  rw [if_neg (by rw [h]; decide), if_neg (by omega)]

end

/-- Settles O46. -/
theorem powerChannels : Obligations.PowerChannels := by
  unfold Obligations.PowerChannels
  intro ch s hch hworks
  obtain ⟨hc, hw⟩ := channel_there hch hworks
  intro a o low begun report failed shut
  have hshut : ∀ cause t, getAmp t ch = a → shutDown ch cause t = shut cause t := fun cause t ht => by
    rw [shutDown_eq, ht]
    rfl
  refine ⟨fun hst hp => execChannelStart_starting hc hw hst hp,
    fun kHz ref hst => ⟨fun hm hlow hhigh => ?_, fun hm hbad => ?_, fun hm hlow hhigh hfl hfh => ?_, fun hm hlow hhigh hout => ?_⟩,
    fun hst => ⟨fun hm => ?_, fun hm hp hrun hhalt => ?_⟩, fun hs => ?_,
    fun hs k => ⟨fun hchk => ?_, fun hchk hk => ?_, fun hchk hk => ?_⟩,
    fun hs => ⟨execHardShort_still hs, fun k => execCycleTrip_still k hs, execClipEpisode_still hs⟩,
    fun hs => ⟨fun m hm hnow => execClipEpisode_quiet hc hw hs (oncePerSecond_recent hm hnow),
      fun hm => execClipEpisode_reported hc hw hs (oncePerSecond_first hm)⟩,
    fun hst hdue => execRetryTimer_due hc hw hst hdue, fun h => execRetryTimer_idle h,
    fun z hchk hst => ⟨fun hz => execRetryCheckEnd_failed hc hw hchk hst hz, fun hz => execRetryCheckEnd_passed hc hw hchk hst hz⟩,
    fun hst => execRetryCountReset_running hc hst, fun die cls op flow fields => ⟨fun h => outletEvent_sent h,
      fun h hroom => outletEvent_kept h hroom, fun h hfull => outletEvent_dropped h hfull⟩⟩
  · refine (execStartHoldEnd_inRange hc hw hst hlow hhigh).trans ?_
    rw [trySync_still (by rw [getAmp_setAmp_same]; exact .inl hm), getAmp_setAmp_same, setAmp_setAmp]
  · refine (execStartHoldEnd_outOfRange hc hw hst hbad).trans ?_
    rw [count_setAmp, trySync_still (by rw [getAmp_setAmp_same]; exact .inl hm), getAmp_setAmp_same, setAmp_setAmp]
  · refine (execStartHoldEnd_inRange hc hw hst hlow hhigh).trans ?_
    rw [trySync_tried (by rw [getAmp_setAmp_same]; exact hm) (by rw [getAmp_setAmp_same]; rfl), getAmp_setAmp_same, setAmp_setAmp,
      if_pos]
    have hpos : 600 * kHz ≤ startReference s ch ref := hfl
    exact syncFits_iff.mpr ⟨hm, rfl, hfl, hfh, by omega⟩
  · refine (execStartHoldEnd_inRange hc hw hst hlow hhigh).trans ?_
    rw [trySync_tried (by rw [getAmp_setAmp_same]; exact hm) (by rw [getAmp_setAmp_same]; rfl), getAmp_setAmp_same, setAmp_setAmp,
      if_neg]
    · rw [setAmp_setAmp]
    · intro hfits
      obtain ⟨-, -, hfl, hfh, -⟩ := syncFits_iff.mp hfits
      exact hout.elim (Nat.not_lt.mpr hfl) (Nat.not_lt.mpr hfh)
  · refine (execChannelStopComplete_stopping hc hw hst).trans ?_
    rw [ampMayStart_mode0 (s := setAmp ch ((getAmp s ch).gatesLow .off) s) (by rw [getAmp_setAmp_same]; exact hm)]
    rfl
  · refine (execChannelStopComplete_stopping hc hw hst).trans ?_
    rw [ampMayStart_starts (s := setAmp ch ((getAmp s ch).gatesLow .off) s) (by rw [getAmp_setAmp_same]; exact hm) (by rw [getAmp_setAmp_same]; rfl) hp hrun hhalt, getAmp_setAmp_same,
      setAmp_setAmp]
    rfl
  · exact (execHardShort_switching hc hw hs).trans (congrArg _ (hshut 1 s rfl))
  · refine (execCycleTrip_switching k hc hw hs).trans ?_
    rw [if_pos hchk]
    rfl
  · refine (execCycleTrip_switching k hc hw hs).trans ?_
    rw [if_neg (ne_true_of_eq_false hchk), if_neg (by omega)]
  · refine (execCycleTrip_switching k hc hw hs).trans ?_
    rw [if_neg (ne_true_of_eq_false hchk), if_pos hk]
    exact congrArg _ (hshut 2 _ rfl)

end Sys2Proof.Machine
end

section
/-! PROOFS. The `amp` messages of a channel (O47). -/

namespace Sys2Proof.Machine
open Host

section
variable {rq : Request} {s : State}

/-! ### `amp.cfg` -/

theorem limitTo_within {ifs lo hi v : Nat} (hlow : lo * ifs ≤ 1000 * v) (hhigh : 1000 * v ≤ hi * ifs) : limitTo ifs lo hi v = v := by
  have hl : (ifs * lo + 999) / 1000 ≤ v := by
    rw [Nat.mul_comm] at hlow
    omega
  have hh : v ≤ ifs * hi / 1000 := by
    rw [Nat.mul_comm hi] at hhigh
    omega
  unfold limitTo clampNat
  split
  · rfl
  · omega

/-- A channel whose mode has become 0: a wait and a start end at once, a start hold ends as a stop. -/
def Amp.turnedOff (a : Amp) : Amp :=
  match a.st with
  | .waiting => { a with st := .off, retryDue := false, expired := false }
  | .starting => { a with st := .off, check := false }
  | .startHold => { a with st := .stopHold, check := false }
  | _ => { a with check := false }

theorem Amp.turnedOff_waiting {a : Amp} (h : a.st = .waiting) :
    a.turnedOff = { a with st := .off, retryDue := false, expired := false } := by
  unfold Amp.turnedOff
  simp only [h]

theorem Amp.turnedOff_starting {a : Amp} (h : a.st = .starting) : a.turnedOff = { a with st := .off, check := false } := by
  unfold Amp.turnedOff
  simp only [h]

theorem Amp.turnedOff_startHold {a : Amp} (h : a.st = .startHold) : a.turnedOff = { a with st := .stopHold, check := false } := by
  unfold Amp.turnedOff
  simp only [h]

theorem Amp.turnedOff_other {a : Amp} (h : a.st = .off ∨ a.st = .latched ∨ a.st = .holding ∨ a.st = .running) :
    a.turnedOff = { a with check := false } := by
  unfold Amp.turnedOff
  rcases h with h | h | h | h
  · simp only [h]
  · simp only [h]
  · simp only [h]
  · simp only [h]

theorem ampCfgBody_channel (h : s.member.channels ≤ byteAt rq.payload 0) : ampCfgBody rq s = badArg 0 s := by
  unfold ampCfgBody
  dsimp only
  rw [if_pos (channelRefused_of_le h)]

theorem ampCfgBody_fullScale (hc : byteAt rq.payload 0 < s.member.channels) (hm : byteAt rq.payload 1 ≠ 0)
    (hfs : (getSense s (byteAt rq.payload 0)).vfs = 0 ∨ (getSense s (byteAt rq.payload 0)).ifs = 0) :
    ampCfgBody rq s = refuse codeBadArg 2 1 s := by
  unfold ampCfgBody
  dsimp only
  rw [if_neg (by rw [channelRefused_of_lt hc]; decide), if_pos ⟨by omega, hfs⟩]

/-- The thresholds of a request lie within the current full scale. -/
def thresholdsFit (rq : Request) (s : State) : Prop :=
  let ifs := (getSense s (byteAt rq.payload 0)).ifs
  10 * ifs ≤ 1000 * fieldLE rq.payload 8 2 ∧ 1000 * fieldLE rq.payload 8 2 ≤ 90 * ifs
    ∧ 20 * ifs ≤ 1000 * fieldLE rq.payload 10 2 ∧ 1000 * fieldLE rq.payload 10 2 ≤ 98 * ifs

theorem ampCfgBody_limits (hc : byteAt rq.payload 0 < s.member.channels) (hfit : thresholdsFit rq s)
    (hv : (getSense s (byteAt rq.payload 0)).vfs ≠ 0) (hi : (getSense s (byteAt rq.payload 0)).ifs ≠ 0)
    (hnear : 10 * fieldLE rq.payload 10 2 ≤ 11 * fieldLE rq.payload 8 2) : ampCfgBody rq s = refuse codeBadArg 1 10 s := by
  obtain ⟨hl, hh, hl', hh'⟩ := hfit
  unfold ampCfgBody
  simp only [limitTo_within hl hh, limitTo_within hl' hh']
  rw [if_neg (by rw [channelRefused_of_lt hc]; decide), if_neg (by simp [hv, hi]), if_pos hnear]

/-- A request's retry interval is 0 or within its range. -/
theorem retry_within {r : Nat} (h : r = 0 ∨ (50 ≤ r ∧ r ≤ 10000)) : (if r = 0 then 0 else clampNat 50 10000 r) = r := by
  unfold clampNat
  split
  · omega
  · omega

/-- The settings of a channel by a request of mode 0 or 1. -/
def ampSettings (rq : Request) (a : Amp) : Amp :=
  { a with mode := byteAt rq.payload 1, phase := fieldLE rq.payload 2 2, retryMs := fieldLE rq.payload 4 4
           cycleLim := fieldLE rq.payload 8 2, hardLim := fieldLE rq.payload 10 2, syncLock := false }

theorem ampCfgBody_ok (hc : byteAt rq.payload 0 < s.member.channels) (hmode : byteAt rq.payload 1 ≤ 1)
    (hretry : fieldLE rq.payload 4 4 = 0 ∨ (50 ≤ fieldLE rq.payload 4 4 ∧ fieldLE rq.payload 4 4 ≤ 10000))
    (hfit : thresholdsFit rq s) (hv : (getSense s (byteAt rq.payload 0)).vfs ≠ 0)
    (hi : (getSense s (byteAt rq.payload 0)).ifs ≠ 0) (hfar : 11 * fieldLE rq.payload 8 2 < 10 * fieldLE rq.payload 10 2) :
    let c := byteAt rq.payload 0
    let b := ampSettings rq (getAmp s c)
    ampCfgBody rq s = replyOk (bytesLE 4 (fieldLE rq.payload 4 4))
      (ampMayStart c (setAmp c (if byteAt rq.payload 1 ≠ 0 then b else b.turnedOff) s)) := by
  obtain ⟨hl, hh, hl', hh'⟩ := hfit
  have hmin : min 2 (byteAt rq.payload 1) = byteAt rq.payload 1 := by omega
  have hmode2 : (byteAt rq.payload 1 == 2) = false := beq_false_of_ne (by omega)
  unfold ampCfgBody
  simp only [limitTo_within hl hh, limitTo_within hl' hh', hmin, retry_within hretry, hmode2, Bool.and_false]
  rw [if_neg (by rw [channelRefused_of_lt hc]; decide), if_neg (by simp [hv, hi]), if_neg (by omega), if_neg (by omega)]
  simp only [firstBad, beq_self_eq_true, if_true]
  rfl

/-- A channel just written may start. -/
theorem ampMayStart_written {c : Nat} {a : Amp} (hm : a.mode ≠ 0) (hst : a.st = .off) (hp : pinsDriven s = false)
    (hrun : s.sys.ao.power = .run) (hhalt : s.sys.fatal.halted = false) :
    ampMayStart c (setAmp c a s) = setAmp c (if a.heat then { a with st := .waiting } else a.begin false) s := by
  have hget := getAmp_setAmp_same s c a
  rw [ampMayStart_starts (s := setAmp c a s) (by rw [hget]; exact hm) (by rw [hget]; exact hst) hp hrun hhalt, hget, setAmp_setAmp]

theorem ampMayStart_writtenOn {c : Nat} {a : Amp} (hst : a.st ≠ .off) : ampMayStart c (setAmp c a s) = setAmp c a s := by
  unfold ampMayStart
  dsimp only
  rw [if_pos (.inr (.inl (by rw [getAmp_setAmp_same]; exact hst)))]

/-! ### `amp.clear` -/

theorem filter_testBit_pow {k : Nat} (h : k < 32) : ((List.range 32).filter fun c => (2 ^ k).testBit c) = [k] := by
  have hall : ∀ k, k < 32 → ((List.range 32).filter fun c => (2 ^ k).testBit c) = [k] := by decide
  exact hall k h

theorem ampClearBody_one {k : Nat} (hmask : fieldLE rq.payload 0 4 = 2 ^ k) (hk : k < 32) :
    ampClearBody rq s = if channelRefused s k then badArg 0 s else replyOk [] (ampClearOne k s) := by
  unfold ampClearBody
  simp only [hmask, filter_testBit_pow hk, List.any_cons, List.any_nil, Bool.or_false, List.foldl_cons, List.foldl_nil]

theorem ampClearOne_eq (k : Nat) (s : State) :
    let b : Amp := { getAmp s k with retries := 0 }
    ampClearOne k s = setAmp k (if (b.st = .latched ∨ b.st = .waiting) ∧ b.mode ≠ 0 then
        (if b.heat then { b with st := .waiting, retryDue := true, expired := true } else b.begin true)
      else b) s := by
  intro b
  exact (apply_ite (fun x => setAmp k x s) _ _ _).symm

/-! ### The pilot tone and `amp.status` -/

theorem ampPilotCfgBody_ok (hc : byteAt rq.payload 0 < s.member.channels) (hon : byteAt rq.payload 1 ≤ 1)
    (hf : 10 ≤ fieldLE rq.payload 2 2) (hf' : fieldLE rq.payload 2 2 ≤ 40000) (hl : -15360 ≤ fieldS rq.payload 4 2)
    (hl' : fieldS rq.payload 4 2 ≤ -7680) (hms : 100 ≤ fieldLE rq.payload 6 2) (hms' : fieldLE rq.payload 6 2 ≤ 10000) :
    let c := byteAt rq.payload 0
    ampPilotCfgBody rq s = replyOk (bytesLE 1 c ++ bytesLE 1 (byteAt rq.payload 1) ++ bytesLE 2 (fieldLE rq.payload 2 2)
        ++ bytesS 2 (fieldS rq.payload 4 2) ++ bytesLE 2 (fieldLE rq.payload 6 2) ++ slice rq.payload 8 10)
      (setAmp c { getAmp s c with
        pilotOn := byteAt rq.payload 1 == 1, pilotHz := fieldLE rq.payload 2 2, pilotLvl := fieldS rq.payload 4 2
        pilotMs := fieldLE rq.payload 6 2, openLim := fieldLE rq.payload 8 4, shortLim := fieldLE rq.payload 12 4
        drift := fieldLE rq.payload 16 2, pilotPhase := 0, refMeas := [], inOpen := false, inShort := false, inDrift := false } s) := by
  have honMin : min 1 (byteAt rq.payload 1) = byteAt rq.payload 1 := by omega
  have hhz : clampNat 10 40000 (fieldLE rq.payload 2 2) = fieldLE rq.payload 2 2 := by
    unfold clampNat
    omega
  have hlevel : clampInt (-15360) (-7680) (fieldS rq.payload 4 2) = fieldS rq.payload 4 2 := by
    unfold clampInt
    omega
  have hinterval : clampNat 100 10000 (fieldLE rq.payload 6 2) = fieldLE rq.payload 6 2 := by
    unfold clampNat
    omega
  unfold ampPilotCfgBody
  simp only [honMin, hhz, hlevel, hinterval]
  rw [if_neg (by rw [channelRefused_of_lt hc]; decide)]
  simp only [firstBad, beq_self_eq_true, if_true]
  rfl

theorem ampStatusBody_ok (hc : byteAt rq.payload 0 < s.member.channels) :
    let c := byteAt rq.payload 0
    let a := getAmp s c
    ampStatusBody rq s = replyOk (bytesLE 1 a.st.code ++ bytesLE 1 a.retries ++ [0, 0] ++ bytesLE 4 a.zmag ++ bytesS 2 a.zph
      ++ bytesS 2 (if (getBoost s (c / 4)).beta = 0 then -32768 else (getBoost s (c / 4)).temp)) s := by
  intro c a
  unfold ampStatusBody
  dsimp only
  rw [if_neg (by rw [channelRefused_of_lt hc]; decide)]
  rfl

theorem ampStatusBody_channel (h : s.member.channels ≤ byteAt rq.payload 0) : ampStatusBody rq s = badArg 0 s := by
  unfold ampStatusBody
  dsimp only
  rw [if_pos (channelRefused_of_le h)]

/-- The states of `amp.status`, each with its number. -/
theorem code_of_state {st : AmpState} {code : Nat} (h : (st, code) ∈ [(AmpState.off, 0), (.starting, 0), (.startHold, 0),
    (.holding, 0), (.stopHold, 0), (.fadingIn, 1), (.running, 1), (.fadingOut, 1), (.waiting, 2), (.latched, 3)]) : st.code = code := by
  have hall : ∀ e ∈ [(AmpState.off, 0), (.starting, 0), (.startHold, 0), (.holding, 0), (.stopHold, 0), (.fadingIn, 1), (.running, 1),
      (.fadingOut, 1), (.waiting, 2), (.latched, 3)], e.1.code = e.2 := by decide
  exact hall _ h

end

/-- Settles O47. -/
theorem ampMessages : Obligations.AmpMessages := by
  unfold Obligations.AmpMessages
  intro rq s
  refine ⟨fun h => ⟨fun hc => next_badArg h (ampCfgBody_channel hc),
      fun hc hm hfs => next_refused h (by decide) (by decide) (ampCfgBody_fullScale hc hm hfs),
      fun hc hm hw hlim hv hnear => ?_, fun hc hw hlim hv hfar => ?_⟩,
    fun h k hmask hk => ⟨fun hc => ?_, fun hc => ?_⟩,
    fun h hc hon hf hf' hl hl' hms hms' => next_recorded h rfl (ampPilotCfgBody_ok hc hon hf hf' hl hl' hms hms'),
    fun h hc code hcode => ?_, fun h hc => next_badArg h (ampStatusBody_channel hc)⟩
  · obtain ⟨hi, hfit⟩ := hlim
    exact next_refused h (by decide) (by decide) (ampCfgBody_limits hc hfit hv hi hnear)
  · obtain ⟨hi, hfit⟩ := hlim
    have hoff : ∀ {b : Amp}, byteAt rq.payload 1 = 0 → (ampSettings rq (getAmp s (byteAt rq.payload 0))).turnedOff = b → b.mode = 0 →
        ampCfgBody rq s = replyOk (bytesLE 4 (fieldLE rq.payload 4 4)) (setAmp (byteAt rq.payload 0) b s) := by
      intro b hm hb hb0
      rw [ampCfgBody_ok hc (by omega) hw hfit hv hi hfar, if_neg (not_not_intro hm), hb, ampMayStart_mode0]
      rw [getAmp_setAmp_same]
      exact hb0
    have hon : byteAt rq.payload 1 = 1 → ampCfgBody rq s = replyOk (bytesLE 4 (fieldLE rq.payload 4 4)) (ampMayStart
        (byteAt rq.payload 0) (setAmp (byteAt rq.payload 0) (ampSettings rq (getAmp s (byteAt rq.payload 0))) s)) := by
      intro hm
      rw [ampCfgBody_ok hc (by omega) hw hfit hv hi hfar, if_pos (by omega)]
    refine ⟨fun hm hst => next_recorded h rfl (hoff hm (Amp.turnedOff_other hst) hm),
      fun hm hst => next_recorded h rfl (hoff hm (Amp.turnedOff_waiting hst) hm),
      fun hm hst => next_recorded h rfl (hoff hm (Amp.turnedOff_starting hst) hm),
      fun hm hst => next_recorded h rfl (hoff hm (Amp.turnedOff_startHold hst) hm),
      fun hm hst hp hrun hhalt => next_recorded h rfl ((hon hm).trans ?_),
      fun hm hst => next_recorded h rfl ((hon hm).trans ?_)⟩
    · have hmode : (ampSettings rq (getAmp s (byteAt rq.payload 0))).mode ≠ 0 := show byteAt rq.payload 1 ≠ 0 by omega
      rw [ampMayStart_written (a := ampSettings rq (getAmp s (byteAt rq.payload 0))) hmode hst hp hrun hhalt]
      rfl
    · rw [ampMayStart_writtenOn (a := ampSettings rq (getAmp s (byteAt rq.payload 0))) hst]
      rfl
  · refine next_badArg h ((ampClearBody_one hmask hk).trans ?_)
    rw [if_pos (channelRefused_of_le hc)]
  · refine next_answered h rfl ((ampClearBody_one hmask hk).trans ?_)
    rw [if_neg (by rw [channelRefused_of_lt hc]; decide), ampClearOne_eq]
    rfl
  · refine next_answered h rfl ((ampStatusBody_ok hc).trans ?_)
    rw [code_of_state hcode]

end Sys2Proof.Machine
end

section
/-! PROOFS. References, DC window and pilot tone of the power stage (O49). -/

namespace Sys2Proof.Machine
open Host

/-! ### The channels of an Outlet try a reference -/

/-- The states differ in power channels and counters alone. -/
def SyncOnly (s t : State) : Prop := ∃ amps cs, t = { s with outs.amps := amps, hw.counters := cs }

theorem SyncOnly.refl (s : State) : SyncOnly s s := ⟨_, _, rfl⟩

theorem SyncOnly.trans {s t u : State} (h : SyncOnly s t) (h' : SyncOnly t u) : SyncOnly s u := by
  obtain ⟨a, cs, rfl⟩ := h
  obtain ⟨a', cs', rfl⟩ := h'
  exact ⟨a', cs', rfl⟩

theorem SyncOnly.getOutlet {s t : State} (h : SyncOnly s t) (die : Nat) : getOutlet t die = getOutlet s die := by
  obtain ⟨a, cs, rfl⟩ := h
  rfl

/-- The counter of a channel's sync slips. -/
def slipCounter (c : Nat) : Nat := 0x5200 + 8 * c + 7

/-- The two ends of `trySync`: the channel written, and a slip counted or not. -/
theorem trySync_eq (c hz : Nat) (s : State) : ∃ a,
    trySync c hz s = setAmp c a s ∨ trySync c hz s = count (slipCounter c) (setAmp c a s) := by
  unfold trySync
  dsimp only
  split
  · exact ⟨_, .inl rfl⟩
  · split
    · exact ⟨_, .inl rfl⟩
    · exact ⟨_, .inr rfl⟩

theorem trySync_syncOnly (c hz : Nat) (s : State) : SyncOnly s (trySync c hz s) := by
  obtain ⟨a, h | h⟩ := trySync_eq c hz s
  · rw [h]
    exact ⟨_, _, rfl⟩
  · rw [h]
    exact ⟨_, _, rfl⟩

/-- The states differ as trials make them, and not in one channel. -/
def SyncOther (c : Nat) (s t : State) : Prop :=
  SyncOnly s t ∧ getAmp t c = getAmp s c ∧ counter t (slipCounter c) = counter s (slipCounter c)

theorem SyncOther.refl (c : Nat) (s : State) : SyncOther c s s := ⟨.refl s, rfl, rfl⟩

theorem SyncOther.trans {c : Nat} {s t u : State} (h : SyncOther c s t) (h' : SyncOther c t u) : SyncOther c s u := by
  obtain ⟨ho, ha, hc⟩ := h
  obtain ⟨ho', ha', hc'⟩ := h'
  exact ⟨ho.trans ho', ha'.trans ha, hc'.trans hc⟩

theorem trySync_other {c j : Nat} (hz : Nat) (s : State) (h : j ≠ c) : SyncOther j s (trySync c hz s) := by
  refine ⟨trySync_syncOnly c hz s, ?_, ?_⟩
  · obtain ⟨a, heq | heq⟩ := trySync_eq c hz s
    · rw [heq, getAmp_setAmp_other s c a j h]
    · rw [heq, getAmp_count, getAmp_setAmp_other s c a j h]
  · obtain ⟨a, heq | heq⟩ := trySync_eq c hz s
    · rw [heq]
      rfl
    · rw [heq]
      exact counter_countBy_other 1 _ (by unfold slipCounter; omega)

/-- What one channel does when its Outlet's channels try the reference. -/
def tryReference (die : Nat) (s : State) (c : Nat) : State := trySync c (syncRef (getOutlet s die)) s

theorem trySyncAll_eq (die : Nat) (s : State) : trySyncAll die s = (outletChannels die).foldl (tryReference die) s := rfl

theorem trySyncAll_syncOnly (die : Nat) (s : State) : SyncOnly s (trySyncAll die s) :=
  foldl_related .refl (fun _ _ _ => .trans) (fun c _ t => trySync_syncOnly c (syncRef (getOutlet t die)) t) s

theorem counter_trySync_slipped {s : State} {c hz : Nat} (hm : (getAmp s c).mode = 2) (hs : (getAmp s c).st.switching = true)
    (hf : syncFits (getAmp s c) hz = false) : counter (trySync c hz s) (slipCounter c) = counter s (slipCounter c) + 1 := by
  rw [trySync_tried hm hs, if_neg (by rw [hf]; decide)]
  exact counter_countBy _ 1 _

/-- Each channel of the Outlet is locked when the reference fits it. -/
theorem getAmp_trySyncAll {s : State} {die c : Nat} (hc : c ∈ outletChannels die) :
    getAmp (trySyncAll die s) c = { getAmp s c with syncLock := syncFits (getAmp s c) (syncRef (getOutlet s die)) }
      ∧ ((getAmp s c).mode = 2 → (getAmp s c).st.switching = true → syncFits (getAmp s c) (syncRef (getOutlet s die)) = false →
        counter (trySyncAll die s) (slipCounter c) = counter s (slipCounter c) + 1) := by
  obtain ⟨u, ⟨hu, ha, hcu⟩, -, ha', hcu'⟩ := foldl_reaches (f := tryReference die) (R := SyncOther c) (.refl c) (fun _ _ _ => .trans) hc
    (nodup_outletChannels die) (fun b _ hb t => trySync_other (c := b) (syncRef (getOutlet t die)) t hb.symm) s
  rw [trySyncAll_eq]
  constructor
  · rw [ha', tryReference, getAmp_trySync, hu.getOutlet, ha]
  · intro hm hs hf
    rw [hcu', tryReference, counter_trySync_slipped (by rw [ha]; exact hm) (by rw [ha]; exact hs)
      (by rw [ha, hu.getOutlet]; exact hf), hcu]

/-! ### `amp.sync.cfg`, and an external reference lost or back -/

section
variable {rq : Request} {s : State} {die : Nat}

theorem ampSyncCfgBody_die (h : s.member.outletDies.contains (byteAt rq.payload 0) = false) : ampSyncCfgBody rq s = badArg 0 s := by
  unfold ampSyncCfgBody
  dsimp only
  rw [if_pos (by rw [h]; rfl)]

/-- An Outlet that takes its reference from its own clock. -/
def ownReference (hz : Nat) (o : Outlet) : Outlet := { o with syncExt := false, syncHz := hz, refLost := false }

theorem ampSyncCfgBody_own (hd : s.member.outletDies.contains die = true) (hdie : byteAt rq.payload 0 = die)
    (hext : byteAt rq.payload 1 = 0) (hlow : 300000 ≤ fieldLE rq.payload 4 4) (hhigh : fieldLE rq.payload 4 4 ≤ 500000) :
    let t := trySyncAll die (setOutlet die (ownReference (fieldLE rq.payload 4 4) (getOutlet s die)) s)
    ampSyncCfgBody rq s = replyOk (bytesLE 4 (fieldLE rq.payload 4 4)
      ++ bytesLE 2 (maskOf ((List.range 16).filter fun n => (getAmp t ((die - 6) * 16 + n)).syncLock))) t := by
  intro t
  have hhz : clampNat 300000 500000 (fieldLE rq.payload 4 4) = fieldLE rq.payload 4 4 := by
    unfold clampNat
    omega
  unfold ampSyncCfgBody
  simp only [hdie, hext, hhz]
  rw [if_neg (by rw [hd]; decide)]
  simp only [firstBad, beq_self_eq_true, if_true]
  rfl

/-- A channel let run free. -/
def runFree (s : State) (c : Nat) : State := setAmp c { getAmp s c with syncLock := false } s

theorem execSyncRefLost_external (hw : outletWorks s die = true) (he : (getOutlet s die).syncExt = true) :
    execSyncRefLost die s = .next ((outletChannels die).foldl runFree
      (setOutlet die { getOutlet s die with refLost := true, refHz := 0 } s)) := by
  unfold execSyncRefLost
  dsimp only
  rw [if_neg (by simp [hw, he])]
  rfl

theorem execSyncRefReturn_external {hz : Nat} (hw : outletWorks s die = true) (he : (getOutlet s die).syncExt = true)
    (hlow : 300000 ≤ hz) (hhigh : hz ≤ 500000) :
    execSyncRefReturn die hz s
      = .next (trySyncAll die (setOutlet die { getOutlet s die with refLost := false, refHz := hz } s)) := by
  unfold execSyncRefReturn
  dsimp only
  rw [if_neg (by simp [hw, he]; omega)]

theorem execSyncRef_idle (h : (getOutlet s die).syncExt = false ∨ outletWorks s die = false) :
    execSyncRefLost die s = .next s ∧ ∀ hz, execSyncRefReturn die hz s = .next s := by
  have hno : (!outletWorks s die) = true ∨ (!(getOutlet s die).syncExt) = true := by
    rcases h with h | h
    · exact .inr (by rw [h]; rfl)
    · exact .inl (by rw [h]; rfl)
  constructor
  · unfold execSyncRefLost
    dsimp only
    rw [if_pos hno]
  · intro hz
    unfold execSyncRefReturn
    dsimp only
    rw [if_pos (or_assoc.mp (.inl hno))]

/-- The states differ in power channels alone. -/
def AmpsOnly (s t : State) : Prop := ∃ amps, t = { s with outs.amps := amps }

theorem AmpsOnly.refl (s : State) : AmpsOnly s s := ⟨_, rfl⟩

theorem AmpsOnly.trans {s t u : State} (h : AmpsOnly s t) (h' : AmpsOnly t u) : AmpsOnly s u := by
  obtain ⟨a, rfl⟩ := h
  obtain ⟨a', rfl⟩ := h'
  exact ⟨a', rfl⟩

theorem runFree_all (die : Nat) (s : State) : AmpsOnly s ((outletChannels die).foldl runFree s) :=
  foldl_related .refl (fun _ _ _ => .trans) (fun _ _ _ => ⟨_, rfl⟩) s

theorem getAmp_runFree_all {c : Nat} (s : State) (hc : c ∈ outletChannels die) :
    getAmp ((outletChannels die).foldl runFree s) c = { getAmp s c with syncLock := false } := by
  obtain ⟨u, hu, hu'⟩ := foldl_reaches (f := runFree) (R := fun s t => getAmp t c = getAmp s c) (fun _ => rfl)
    (fun _ _ _ h h' => h'.trans h) hc (nodup_outletChannels die) (fun b _ hb t => getAmp_setAmp_other t b _ c hb.symm) s
  rw [hu', runFree, getAmp_setAmp_same, hu]

end

/-! ### The DC window -/

theorem setBoost_setAmp (g c : Nat) (b : Boost) (a : Amp) (s : State) :
    setBoost g b (setAmp c a s) = setAmp c a (setBoost g b s) := rfl

section
variable {s : State} {ch : Nat}

/-- The window's mean is beyond the threshold, over enough samples of a channel that switches. -/
def dcBeyond (s : State) (ch : Nat) : Prop :=
  let a := getAmp s ch
  a.st.switching = true ∧ a.dcN ≠ 0 ∧ a.dcTotal ≤ 2 * a.dcN
    ∧ (getBoost s (ch / 4)).dcMv * 2 ^ 23 * a.dcN < a.dcSum.natAbs * (getSense s ch).vfs

theorem execDcWindowEnd_within (hc : channelRefused s ch = false) (hw : outletWorks s (channelDie ch) = true) (h : ¬ dcBeyond s ch) :
    execDcWindowEnd ch s = .next (setAmp ch { getAmp s ch with dcSum := 0, dcN := 0, dcTotal := 0 } s) := by
  have hnot : (!(getAmp s ch).st.switching) = true ∨ (getAmp s ch).dcN = 0 ∨ 2 * (getAmp s ch).dcN < (getAmp s ch).dcTotal
      ∨ (getAmp s ch).dcSum.natAbs * (getSense s ch).vfs ≤ (getBoost s (groupOf ch)).dcMv * 2 ^ 23 * (getAmp s ch).dcN := by
    by_contra hall
    obtain ⟨hs, hn, ht, hm⟩ := by simpa only [not_or] using hall
    exact h ⟨by simpa using hs, hn, Nat.not_lt.mp ht, Nat.not_le.mp hm⟩
  unfold execDcWindowEnd
  dsimp only
  rw [if_neg (by simp [hc, hw]), if_pos (by exact hnot)]

/-- A fault of a channel just written, under a count. -/
theorem ampFault_counted (cause id : Nat) (latched : Bool) (a : Amp) (s : State) :
    ampFault ch cause latched (count id (setAmp ch a s)) = outletEvent (channelDie ch) 8 0x0980 ch
      (bytesLE 1 ch ++ bytesLE 1 cause ++ bytesLE 1 a.retries ++ bytesLE 1 (flag latched))
      (count id (setAmp ch { a with cause := cause } s)) := by
  unfold ampFault
  dsimp only
  rw [count_setAmp, getAmp_setAmp_same, setAmp_setAmp]
  rfl

theorem execDcWindowEnd_beyond (hc : channelRefused s ch = false) (hw : outletWorks s (channelDie ch) = true) (h : dcBeyond s ch) :
    execDcWindowEnd ch s = .next (ampFault ch 3 true (count (0x5200 + 8 * ch + 5) (setAmp ch
      { ({ getAmp s ch with dcSum := 0, dcN := 0, dcTotal := 0 } : Amp).gatesLow .latched with recent := false }
      (setBoost (ch / 4) { getBoost s (ch / 4) with floorDue := true } s)))) := by
  obtain ⟨hs, hn, ht, hm⟩ := h
  have hyes : ¬ ((!(getAmp s ch).st.switching) = true ∨ (getAmp s ch).dcN = 0 ∨ 2 * (getAmp s ch).dcN < (getAmp s ch).dcTotal
      ∨ (getAmp s ch).dcSum.natAbs * (getSense s ch).vfs ≤ (getBoost s (groupOf ch)).dcMv * 2 ^ 23 * (getAmp s ch).dcN) := by
    rintro (hs' | hn' | ht' | hm')
    · rw [hs] at hs'
      exact absurd hs' (by decide)
    · exact hn hn'
    · omega
    · exact absurd hm (Nat.not_lt.mpr hm')
  unfold execDcWindowEnd
  dsimp only
  rw [if_neg (by simp [hc, hw]), if_neg (by exact hyes), getAmp_setAmp_same]
  rw [setBoost_setAmp, setAmp_setAmp]
  rfl

/-! ### The pilot tone -/

theorem execPilotIntervalEnd_idle {vre vim ire iim : Int} (h : (getAmp s ch).pilotOn = false ∨ (getAmp s ch).st.switching = false) :
    execPilotIntervalEnd ch vre vim ire iim s = .next s := by
  unfold execPilotIntervalEnd
  extract_lets a x
  generalize pilotZ _ _ _ _ _ _ = q
  rw [if_pos (.inr (.inr (h.imp (fun h => by rw [h]; rfl) (fun h => by rw [h]; rfl))))]

theorem execPilotIntervalEnd_bad {vre vim ire iim : Int} (hc : channelRefused s ch = false) (hw : outletWorks s (channelDie ch) = true)
    (hon : (getAmp s ch).pilotOn = true) (hs : (getAmp s ch).st.switching = true) (hbad : (getAmp s ch).pilotBad = true) :
    execPilotIntervalEnd ch vre vim ire iim s
      = .next (count (0x5300 + 4 * ch + 1) (setAmp ch { getAmp s ch with pilotBad := false } s)) := by
  unfold execPilotIntervalEnd
  extract_lets a x
  generalize pilotZ _ _ _ _ _ _ = q
  rw [if_neg (by simp [a, hc, hw, hon, hs]), if_pos hbad]

/-- The state after an interval among the first eight of a channel: counted, judged, one more reference. -/
def pilotMeasured (ch z : Nat) (ph : Int) (s : State) : State :=
  let a := getAmp s ch
  count (0x5300 + 4 * ch) (setAmp ch { a with
    zmag := z, zph := ph, refMeas := if z = 0xFFFFFFFF then a.refMeas else a.refMeas ++ [z]
    inOpen := decide (a.openLim < z), inShort := decide (z < a.shortLim), inDrift := false } s)

/-- A limit entered or not. -/
def pilotEntered (ch limit z : Nat) (enters : Bool) (s : State) : State := if enters then pilotEntry ch limit z s else s

theorem execPilotIntervalEnd_first {vre vim ire iim : Int} {z : Nat} {ph : Int} (hc : channelRefused s ch = false)
    (hw : outletWorks s (channelDie ch) = true) (hon : (getAmp s ch).pilotOn = true) (hs : (getAmp s ch).st.switching = true)
    (hgood : (getAmp s ch).pilotBad = false) (hz : pilotZ (getSense s ch).vfs (getSense s ch).ifs vre vim ire iim = (z, ph))
    (hlen : (getAmp s ch).refMeas.length < 8) :
    execPilotIntervalEnd ch vre vim ire iim s
      = .next (pilotEntered ch 1 z (decide (z < (getAmp s ch).shortLim) && !(getAmp s ch).inShort)
        (pilotEntered ch 0 z (decide ((getAmp s ch).openLim < z) && !(getAmp s ch).inOpen) (pilotMeasured ch z ph s))) := by
  have hrefs : (if (getAmp s ch).refMeas.length < 8 ∧ z ≠ 0xFFFFFFFF then (getAmp s ch).refMeas ++ [z] else (getAmp s ch).refMeas)
      = if z = 0xFFFFFFFF then (getAmp s ch).refMeas else (getAmp s ch).refMeas ++ [z] := by
    by_cases hz' : z = 0xFFFFFFFF
    · rw [if_neg (fun h => h.2 hz'), if_pos hz']
    · rw [if_pos ⟨hlen, hz'⟩, if_neg hz']
  have hdrift : decide (8 ≤ (getAmp s ch).refMeas.length) = false := decide_eq_false (by omega)
  unfold execPilotIntervalEnd
  extract_lets a x
  generalize hq : pilotZ x.vfs x.ifs vre vim ire iim = q
  obtain rfl : q = (z, ph) := hq.symm.trans hz
  dsimp only
  rw [if_neg (by simp [a, hc, hw, hon, hs]), if_neg (by rw [hgood]; decide), hrefs, hdrift]
  simp only [Bool.false_and, Bool.false_eq_true, if_false]
  rfl

theorem pilotEntered_not {limit z : Nat} : pilotEntered ch limit z false s = s := rfl

theorem pilotEntered_enters {limit z : Nat} : pilotEntered ch limit z true s = pilotEntry ch limit z s := rfl

/-- A limit is entered where the value is beyond it and was not before. -/
theorem entersLimit_iff {beyond : Prop} [Decidable beyond] {before : Bool} :
    (decide beyond && !before) = true ↔ beyond ∧ before = false := by
  rw [Bool.and_eq_true, decide_eq_true_eq, Bool.not_eq_true']

theorem entersLimit_not {beyond : Prop} [Decidable beyond] {before : Bool} (h : ¬ beyond ∨ before = true) :
    (decide beyond && !before) = false := by
  refine Bool.eq_false_iff.mpr fun henters => ?_
  obtain ⟨hb, hbefore⟩ := entersLimit_iff.mp henters
  rcases h with h | h
  · exact h hb
  · rw [h] at hbefore
    exact absurd hbefore (by decide)

/-- An entry into a limit that is the first since a report is counted and reported. -/
theorem pilotEntry_first {limit z : Nat} (h : mapFind s.msg.ncp.lastSent (0x72000 + ch) = none) :
    pilotEntry ch limit z s = outletEvent (channelDie ch) 11 0x0981 ch (bytesLE 1 ch ++ bytesLE 1 limit ++ bytesLE 2 0 ++ bytesLE 4 z)
      { count (0x5300 + 4 * ch + 2) s with msg.ncp.lastSent := mapSet s.msg.ncp.lastSent (0x72000 + ch) s.now } := by
  unfold pilotEntry
  dsimp only
  rw [oncePerSecond_first (s := count (0x5300 + 4 * ch + 2) s) h]
  rfl

end

/-- Settles O49. -/
theorem guardsAndReferences : Obligations.GuardsAndReferences := by
  unfold Obligations.GuardsAndReferences
  intro die ch s
  refine ⟨fun rq h hdie hlow hhigh => ⟨fun hd => ?_, fun hd hext => ?_⟩, fun hw he => ?_, fun hw he hz hlow hhigh => ?_,
    fun h => execSyncRef_idle h, fun hch hworks => ?_, fun vre vim ire iim h => execPilotIntervalEnd_idle h⟩
  · exact next_badArg h (ampSyncCfgBody_die (by rw [hdie]; exact hd))
  · have hout := getOutlet_setOutlet_same s die (ownReference (fieldLE rq.payload 4 4) (getOutlet s die))
    have hamp : ∀ n, n < 16 → _ := fun n hn =>
      (getAmp_trySyncAll (s := setOutlet die (ownReference (fieldLE rq.payload 4 4) (getOutlet s die)) s) (channel_mem (die := die) hn)).1
    rw [hout] at hamp
    have hlocks : ∀ n ∈ List.range 16, _ := fun n hn => congrArg Amp.syncLock (hamp n (List.mem_range.mp hn))
    obtain ⟨amps, cs, heq⟩ := trySyncAll_syncOnly die (setOutlet die (ownReference (fieldLE rq.payload 4 4) (getOutlet s die)) s)
    refine ⟨_, next_recorded h rfl ((ampSyncCfgBody_own hd hdie hext hlow hhigh).trans ?_), ?_, hamp, by rw [heq]; rfl⟩
    · rw [List.filter_congr hlocks]
      rfl
    · rw [heq]
      exact hout
  · obtain ⟨amps, heq⟩ := runFree_all die (setOutlet die { getOutlet s die with refLost := true, refHz := 0 } s)
    exact ⟨_, execSyncRefLost_external hw he, by rw [heq]; rfl, fun n hn => getAmp_runFree_all _ (channel_mem hn)⟩
  · have hout := getOutlet_setOutlet_same s die { getOutlet s die with refLost := false, refHz := hz }
    refine ⟨_, execSyncRefReturn_external hw he hlow hhigh, ((trySyncAll_syncOnly die _).getOutlet die).trans hout, fun n hn => ?_⟩
    have htry := getAmp_trySyncAll (s := setOutlet die { getOutlet s die with refLost := false, refHz := hz } s)
      (channel_mem (die := die) hn)
    have href : syncRef { getOutlet s die with refLost := false, refHz := hz } = hz := by
      unfold syncRef
      simp only [he, if_true, Bool.false_eq_true, if_false]
    rw [hout, href] at htry
    exact htry
  · obtain ⟨hc, hw⟩ := channel_there hch hworks
    refine ⟨fun hnot => execDcWindowEnd_within hc hw hnot, fun hyes => (execDcWindowEnd_beyond hc hw hyes).trans ?_,
      fun vre vim ire iim hon hs => ⟨fun hbad => execPilotIntervalEnd_bad hc hw hon hs hbad, fun hgood z ph hz hlen => ?_⟩⟩
    · rw [ampFault_counted]
      rfl
    · have hfirst := execPilotIntervalEnd_first hc hw hon hs hgood hz hlen
      refine ⟨fun hopen hshort => hfirst.trans ?_, fun hopen hin hshort hm => hfirst.trans ?_,
        fun hopen hshort hin hm => hfirst.trans ?_⟩
      · rw [entersLimit_not (hshort.imp_left Nat.not_lt.mpr), entersLimit_not (hopen.imp_left Nat.not_lt.mpr)]
        rfl
      · rw [entersLimit_not (.inl (Nat.not_lt.mpr hshort)), entersLimit_iff.mpr ⟨hopen, hin⟩, pilotEntered_not, pilotEntered_enters,
          pilotEntry_first (s := pilotMeasured ch z ph s) hm]
        rfl
      · rw [entersLimit_not (.inl (Nat.not_lt.mpr hopen)), entersLimit_iff.mpr ⟨hshort, hin⟩, pilotEntered_not, pilotEntered_enters,
          pilotEntry_first (s := pilotMeasured ch z ph s) hm]
        rfl

end Sys2Proof.Machine
end

section
/-! PROOFS. Heartbeats, votes and the declaration of a hub failure (O51). -/

namespace Sys2Proof.Machine
open Host

/-! ### Wardens -/

theorem getWarden_setWarden (die : Nat) (w : Warden) (s : State) : getWarden (setWarden die w s) die = w :=
  mapGet_mapSet_same _ _ _ _

theorem getWarden_setWarden_other {die j : Nat} (w : Warden) (s : State) (h : j ≠ die) :
    getWarden (setWarden die w s) j = getWarden s j := mapGet_mapSet_other _ _ _ _ _ h

theorem setWarden_setWarden (die : Nat) (v w : Warden) (s : State) : setWarden die w (setWarden die v s) = setWarden die w s := by
  unfold setWarden
  rw [show ({ s with sys.red.wardens := mapSet s.sys.red.wardens die v } : State).sys.red.wardens = mapSet s.sys.red.wardens die v
    from rfl, mapSet_mapSet_same]

theorem nodup_tarnDies (m : Member) : m.tarnDies.Nodup := by
  cases m <;> decide

theorem mem_tarnDies {die : Nat} (h : isTarn die = true) : die ∈ Member.evr8.tarnDies := by
  simp [isTarn] at h
  simp [Member.tarnDies]
  omega

/-! ### Heartbeats -/

/-- The states differ in wardens and what goes out, and not in one warden. -/
def WardenOther (die : Nat) (s t : State) : Prop :=
  (∃ ws w, t = { s with sys.red.wardens := ws, wire := w }) ∧ getWarden t die = getWarden s die

theorem WardenOther.refl (die : Nat) (s : State) : WardenOther die s s := ⟨⟨_, _, rfl⟩, rfl⟩

theorem WardenOther.trans {die : Nat} {s t u : State} (h : WardenOther die s t) (h' : WardenOther die t u) :
    WardenOther die s u := by
  obtain ⟨⟨ws, w, rfl⟩, hw⟩ := h
  obtain ⟨⟨ws', w', rfl⟩, hw'⟩ := h'
  exact ⟨⟨ws', w', rfl⟩, hw'.trans hw⟩

/-- A heartbeat that reaches a Tarn's warden. -/
def hearBeat (s : State) (d : Nat) : State :=
  let w := getWarden s d
  let t := setWarden d { w with lastHb := s.now, hbAge := 0 } s
  if w.suspect then castVote d false t else t

theorem hearBeat_other {d die : Nat} (s : State) (h : die ≠ d) : WardenOther die s (hearBeat s d) := by
  unfold hearBeat
  dsimp only
  split
  · exact ⟨⟨_, _, rfl⟩, (getWarden_setWarden_other _ _ h).trans (getWarden_setWarden_other _ _ h)⟩
  · exact ⟨⟨_, _, rfl⟩, getWarden_setWarden_other _ _ h⟩

theorem getWarden_hearBeat (s : State) (d : Nat) :
    (getWarden (hearBeat s d) d).lastHb = s.now ∧ (getWarden (hearBeat s d) d).hbAge = 0
      ∧ (getWarden (hearBeat s d) d).suspect = false := by
  have hcast : ∀ t, getWarden (castVote d false t) d
      = { getWarden t d with suspect := false, votes := (getWarden t d).votes &&& ~~~(voteBit d) } :=
    fun t => getWarden_setWarden d _ t
  unfold hearBeat
  dsimp only
  split
  · rw [hcast, getWarden_setWarden]
    exact ⟨rfl, rfl, rfl⟩
  · next h =>
    rw [getWarden_setWarden]
    exact ⟨rfl, rfl, Bool.eq_false_iff.mpr h⟩

/-- The Tarns that a heartbeat of the active Shore reaches. -/
def beatReaches (s : State) : List Nat := s.member.tarnDies.filter fun d => powered s d && linkUpBetween s (activeShore s) d

theorem execHeartbeatSend_eq {s : State} (hm : s.member = .evr8) (hn : nerrisUp s = true) :
    execHeartbeatSend s = .next ((beatReaches s).foldl hearBeat (emitAll ((beatReaches s).map fun d => .heartbeat d) s)) := by
  unfold execHeartbeatSend
  rw [if_neg (by simp [hm, hn])]
  rfl

theorem execHeartbeatSend_not {s : State} (h : s.member ≠ .evr8 ∨ nerrisUp s = false) : execHeartbeatSend s = .next s := by
  unfold execHeartbeatSend
  rw [if_pos (h.imp_right fun h => by rw [h]; rfl)]

theorem heartbeats_kept (s : State) (ds : List Nat) (es : List Emission) :
    ∃ ws w, ds.foldl hearBeat (emitAll es s) = { s with sys.red.wardens := ws, wire := w } :=
  foldl_related (R := fun s t => ∃ ws w, t = { s with sys.red.wardens := ws, wire := w }) (fun _ => ⟨_, _, rfl⟩)
    (fun _ _ _ ⟨_, _, h⟩ ⟨ws, w, h'⟩ => ⟨ws, w, by rw [h', h]⟩) (fun d _ t => (hearBeat_other (die := d + 1) t (by omega)).1)
    (emitAll es s)

theorem heartbeat_reached {s : State} {die : Nat} (es : List Emission) (hd : die ∈ beatReaches s) :
    let t := (beatReaches s).foldl hearBeat (emitAll es s)
    (getWarden t die).lastHb = s.now ∧ (getWarden t die).hbAge = 0 ∧ (getWarden t die).suspect = false := by
  obtain ⟨u, ⟨⟨ws, w, hu⟩, -⟩, -, hw⟩ := foldl_reaches (R := WardenOther die) (.refl die) (fun _ _ _ => .trans) hd
    ((nodup_tarnDies s.member).filter _) (fun b _ hb t => hearBeat_other t hb.symm) (emitAll es s)
  have hnow : u.now = s.now := by
    rw [hu]
    rfl
  intro t
  rw [show getWarden t die = _ from hw, ← hnow]
  exact getWarden_hearBeat u die

theorem heartbeat_missed {s : State} {die : Nat} (es : List Emission) (hd : die ∉ beatReaches s) :
    getWarden ((beatReaches s).foldl hearBeat (emitAll es s)) die = getWarden s die :=
  (foldl_related (R := WardenOther die) (.refl die) (fun _ _ _ => .trans)
    (fun b hb t => hearBeat_other t (by rintro rfl; exact hd hb)) (emitAll es s)).2

/-! ### Votes -/

section
variable {die : Nat} {s : State}

/-- The votes that a warden sends to the others. -/
def votesTo (s : State) (die : Nat) : List Emission :=
  (s.member.tarnDies.filter fun d => d != die && linkUpBetween s die d).map fun d => .vote die d true

theorem tryQuorum_declares (h : 3 ≤ votesHeld (getWarden s die)) (hm : mayDeclare s = true) :
    tryQuorum die s = declareHub false s := by
  unfold tryQuorum
  rw [if_pos (by rw [hm, decide_eq_true h]; rfl)]

theorem tryQuorum_not (h : votesHeld (getWarden s die) < 3 ∨ mayDeclare s = false) : tryQuorum die s = s := by
  unfold tryQuorum
  rw [if_neg]
  rcases h with h | h
  · rw [decide_eq_false (by omega), Bool.false_and]
    decide
  · rw [h, Bool.and_false]
    decide

theorem execWardenSuspect_young {age : Nat} (h : age ≤ 100 * wardenWindow s die) : execWardenSuspect die age s = .next s := by
  unfold execWardenSuspect
  rw [if_pos (.inr (.inr (.inr (by omega))))]

/-- A warden that suspects, with its own vote. -/
def suspecting (die age : Nat) (w : Warden) : Warden :=
  { w with hbAge := min 65535 age, suspect := true, votes := w.votes ||| BitVec.ofNat 4 (2 ^ (die - 2)) }

theorem execWardenSuspect_old {age : Nat} (hw : wardenWorks s die = true) (hp : s.sys.red.proving = none) (hg : inGap s = false)
    (h : 100 * wardenWindow s die < age) :
    execWardenSuspect die age s
      = .next (tryQuorum die (emitAll (votesTo s die) (setWarden die (suspecting die age (getWarden s die)) s))) := by
  unfold execWardenSuspect castVote
  simp only [getWarden_setWarden, setWarden_setWarden]
  rw [if_neg (by simp [hw, hp, hg]; omega)]
  rfl

theorem execWardenSuspect_off (age : Nat) (hw : wardenWorks s die = false) : execWardenSuspect die age s = .next s := by
  unfold execWardenSuspect
  rw [if_pos (.inl (by rw [hw]; rfl))]

theorem execWardenVoteRx_taken {src : Nat} (suspect : Bool) (hw : wardenWorks s die = true) (hp : s.sys.red.proving = none)
    (hne : src ≠ die) (ht : isTarn src = true) :
    let w := getWarden s die
    execWardenVoteRx die src suspect s = .next (tryQuorum die (setWarden die
      { w with votes := if suspect then w.votes ||| voteBit src else w.votes &&& ~~~(voteBit src) } s)) := by
  intro w
  unfold execWardenVoteRx
  rw [if_neg (by simp [hw, hp, hne, ht])]

theorem execWardenVoteRx_off (src : Nat) (suspect : Bool) (hw : wardenWorks s die = false) :
    execWardenVoteRx die src suspect s = .next s := by
  unfold execWardenVoteRx
  rw [if_pos (.inl (by rw [hw]; rfl))]

theorem execFatalDeclarationRx_passed {x : Nat} (hw : wardenWorks s die = true) (hup : s.sys.red.hubUp = false)
    (hm : mayDeclare s = true) (hd : s.sys.red.declared = some (x, 1)) :
    execFatalDeclarationRx die s = .next (declareHub true (emitAll
      ((s.member.tarnDies.filter fun d => d != die && linkUpBetween s die d).map fun d => .declaration die d) s)) := by
  unfold execFatalDeclarationRx
  simp only [hd]
  rw [if_neg (by simp [hw, hup, hm])]

theorem execFatalDeclarationRx_none (hd : s.sys.red.declared = none) : execFatalDeclarationRx die s = .next s := by
  unfold execFatalDeclarationRx
  simp only [hd]

/-! ### A declaration -/

theorem and_not_and_self (a b : BitVec 6) : a &&& ~~~b &&& b = 0 := by
  ext i
  simp

theorem or_and_self (a b : BitVec 6) : (a ||| b) &&& b = b := by
  ext i
  simp
  exact Or.inr

theorem setLinksOf_eq (die st : Nat) (s : State) : ∃ ls, setLinksOf die st s = { s with hw.links := ls } :=
  foldl_related (R := fun s t => ∃ ls, t = { s with hw.links := ls }) (fun _ => ⟨_, rfl⟩)
    (fun _ _ _ ⟨_, h⟩ ⟨ls, h'⟩ => ⟨ls, by rw [h', h]⟩) (fun _ _ _ => ⟨_, rfl⟩) s

/-- What a check given up changes. -/
theorem abandonCheck_eq (s : State) : ∃ ao red outlets,
    abandonCheck s = { s with sys.ao := ao, sys.red := red, outs.outlets := outlets } ∧ red.active = s.sys.red.active := by
  unfold abandonCheck
  split
  · split
    · exact ⟨_, _, _, rfl, rfl⟩
    · exact ⟨_, _, _, rfl, rfl⟩
  · dsimp only
    cases s.sys.red.proving.isSome with
    | true => exact ⟨_, _, _, rfl, rfl⟩
    | false => exact ⟨_, _, _, rfl, rfl⟩

/-- The state in which a failed Shore is isolated and its locks are freed. -/
def hubIsolated (self : Bool) (s : State) : State :=
  let failed := activeShore s
  let t := setLinksOf failed 2 (abandonCheck s)
  let t := if self then { t with sys.red.dumpHold := true } else loseDie failed (dropGroup failed t)
  freeLocks (fun k _ => k / 64 == failed)
    (freeLocks (fun k o => decide (128 ≤ k) && (o == 0x0001 || o == 0x0010 || o == 0x0020 || o == 0x8000)) t)

/-- The wardens' own record of the declaration. -/
def noteDeclared (s : State) (d : Nat) : State :=
  let w := getWarden s d
  setWarden d { w with declared := true, failovers := min 65535 (w.failovers + 1) } s

/-- The state in which the Outlets hold, the standby is powered and the wardens have noted the declaration. -/
def hubNoted (self : Bool) (s : State) : State :=
  (hubIsolated self s).member.tarnDies.foldl noteDeclared
    (raiseGroup (standbyDie (hubIsolated self s)) (setHub true (hubIsolated self s)))

theorem hubIsolated_eq (self : Bool) (s : State) : ∃ hw ao red outlets locks,
    hubIsolated self s = { s with hw := hw, sys.ao := ao, sys.red := red, outs.outlets := outlets, msg.locks := locks }
      ∧ red.active = s.sys.red.active ∧ (self = true → red.dumpHold = true) := by
  obtain ⟨ao, red, outlets, hab, hact⟩ := abandonCheck_eq s
  obtain ⟨ls, hlinks⟩ := setLinksOf_eq (activeShore s) 2 (abandonCheck s)
  unfold hubIsolated
  dsimp only
  rw [hlinks, hab]
  cases self with
  | true => exact ⟨_, _, _, _, _, rfl, hact, fun _ => rfl⟩
  | false => exact ⟨_, _, _, _, _, rfl, hact, nofun⟩

theorem noteDeclared_all (ds : List Nat) (s : State) : ∃ ws, ds.foldl noteDeclared s = { s with sys.red.wardens := ws } :=
  foldl_related (R := fun s t => ∃ ws, t = { s with sys.red.wardens := ws }) (fun _ => ⟨_, rfl⟩)
    (fun _ _ _ ⟨_, h⟩ ⟨ws, h'⟩ => ⟨ws, by rw [h', h]⟩) (fun _ _ _ => ⟨_, rfl⟩) s

theorem getOutlet_setHub {d : Nat} (on : Bool) (s : State) (hd : d ∈ s.member.outletDies) :
    (getOutlet (setHub on s) d).hub = on :=
  mapMods_make (P := fun o => o.hub = on) (fun _ => rfl) s.member.outletDies s.outs.outlets d (.inl hd)

theorem declareHub_facts (self : Bool) (s : State) :
    let t := declareHub self s
    t.sys.red.hubUp = false ∧ t.sys.red.standbyState = 2 ∧ t.sys.red.declared = some (activeShore s, flag self)
      ∧ t.sys.red.declaredAt = s.now ∧ t.time.rendering = false ∧ t.sys.fatal.dumping = none
      ∧ t.sys.ao.enables &&& groupBit (standbyDie s) = groupBit (standbyDie s) ∧ (self = true → t.sys.red.dumpHold = true)
      ∧ (∀ d, d ∈ s.member.outletDies → (getOutlet t d).hub = true) := by
  obtain ⟨hw, ao, red, outlets, locks, hiso, hact, hhold⟩ := hubIsolated_eq self s
  have hdie : standbyDie (hubIsolated self s) = standbyDie s := by
    rw [hiso]
    exact congrArg (1 - ·) hact
  have hout : ∀ d, d ∈ s.member.outletDies → (getOutlet (setHub true (hubIsolated self s)) d).hub = true :=
    fun d hd => getOutlet_setHub true _ (by rw [hiso]; exact hd)
  obtain ⟨ws, hws⟩ := noteDeclared_all (hubIsolated self s).member.tarnDies
    (raiseGroup (standbyDie (hubIsolated self s)) (setHub true (hubIsolated self s)))
  obtain ⟨gap, hgap⟩ : ∃ gap, declareHub self s = { hubNoted self s with
        time.rendering := false, sys.fatal.dumping := none, sys.fatal.restartDue := false
        sys.red.hubUp := false, sys.red.standbyState := 2, sys.red.standbyCause := 0
        sys.red.declared := some (activeShore s, flag self), sys.red.declaredAt := (hubNoted self s).now
        sys.red.gapStart := gap, sys.red.dumpCopied := false } := ⟨_, rfl⟩
  have hnow : (hubIsolated self s).now = s.now := by rw [hiso]
  have hnoted : (hubIsolated self s).sys.red.dumpHold = red.dumpHold := by rw [hiso]
  intro t
  rw [show t = _ from hgap]
  unfold hubNoted
  rw [hws, hdie]
  exact ⟨rfl, rfl, rfl, hnow, rfl, rfl, or_and_self _ _, fun h => hnoted.trans (hhold h), hout⟩

/-! ### A takeover that does not come, and the dump hold -/

theorem execTakeoverTimeout_gap (h : inGap s = true) : ∃ t, execTakeoverTimeout s = .next t ∧ t.sys.fatal.halted = true
    ∧ t.sys.red.standbyState = 3 ∧ t.sys.ao.enables &&& groupBit (standbyDie s) = 0 := by
  unfold execTakeoverTimeout
  rw [if_neg (by rw [h]; decide)]
  exact ⟨_, rfl, rfl, rfl, and_not_and_self _ _⟩

theorem execTakeoverTimeout_not (h : inGap s = false) : execTakeoverTimeout s = .next s := by
  unfold execTakeoverTimeout
  rw [if_pos (by rw [h]; rfl)]

theorem copyDump_eq (s : State) : ∃ a bs b,
    copyDump s = { s with hw.mem := memPuts s.hw.mem a bs, sys.red.dumpCopied := b } := by
  unfold copyDump
  extract_lets at_ pond src
  clear_value src
  cases src with
  | none => exact ⟨0, [], s.sys.red.dumpCopied, rfl⟩
  | some a =>
    dsimp only
    generalize (if dramUsable s = true then (at_ (takingShore s), dumpSize) else (pond (takingShore s), pondDumpSize)) = q
    unfold writeBytes
    exact ⟨_, _, true, rfl⟩

theorem copyIf_eq (c : Prop) [Decidable c] (s : State) : ∃ a bs b,
    (if c then copyDump s else s) = { s with hw.mem := memPuts s.hw.mem a bs, sys.red.dumpCopied := b } := by
  split
  · exact copyDump_eq s
  · exact ⟨0, [], s.sys.red.dumpCopied, rfl⟩

theorem dumpEvent_eq (s : State) : ∃ m w, dumpEvent s = { s with msg := m, wire := w } := by
  unfold dumpEvent
  split
  · exact ⟨s.msg, s.wire, rfl⟩
  · extract_lets hd
    exact event_eq 1 (activeShore s) 0x0E81 0xFFFF (slice hd 12 4 ++ bytesLE 4 0 ++ slice hd 16 8) s

theorem dumpEventIf_eq (c : Prop) [Decidable c] (s : State) :
    ∃ m w, (if c then dumpEvent s else s) = { s with msg := m, wire := w } := by
  split
  · exact dumpEvent_eq s
  · exact ⟨s.msg, s.wire, rfl⟩

/-- What the end of a dump hold comes to: at most the bytes of one copy are written before the failed Shore is powered off. -/
theorem execDumpHoldEnd_eq (copied : Bool) (h : s.sys.red.dumpHold = true) : ∃ a bs b m w,
    let u := { s with hw.mem := memPuts s.hw.mem a bs, sys.red.dumpCopied := b }
    execDumpHoldEnd copied s = .next { loseDie (heldShore s) (dropGroup (heldShore s) u) with
      sys.red.dumpHold := false, msg := m, wire := w } := by
  unfold execDumpHoldEnd
  rw [if_neg (by rw [h]; decide)]
  obtain ⟨a, bs, b, hcopy⟩ := copyIf_eq ((copied && railUp s (takingShore s)) = true) s
  refine ⟨a, bs, b, ?_⟩
  dsimp only
  rw [hcopy]
  obtain ⟨m, w, hev⟩ := dumpEventIf_eq ((s.sys.red.hubUp && b) = true)
    { loseDie (heldShore s) (dropGroup (heldShore s)
        { s with hw.mem := memPuts s.hw.mem a bs, sys.red.dumpCopied := b }) with sys.red.dumpHold := false }
  exact ⟨m, w, congrArg _ hev⟩

theorem execDumpHoldEnd_held (copied : Bool) (h : s.sys.red.dumpHold = true) : ∃ t, execDumpHoldEnd copied s = .next t
    ∧ t.sys.red.dumpHold = false ∧ t.sys.ao.enables &&& groupBit (heldShore s) = 0 ∧ t.sys.red.active = s.sys.red.active := by
  obtain ⟨a, bs, b, m, w, hend⟩ := execDumpHoldEnd_eq copied h
  exact ⟨_, hend, rfl, and_not_and_self _ _, rfl⟩

theorem execDumpHoldEnd_not (copied : Bool) (h : s.sys.red.dumpHold = false) : execDumpHoldEnd copied s = .next s := by
  unfold execDumpHoldEnd
  rw [if_pos (by rw [h]; rfl)]

end

/-- Settles O51. -/
theorem hubFailure : Obligations.HubFailure := by
  intro die s w
  refine ⟨fun hm hn => ?beat, execHeartbeatSend_not, fun hw hp hg age => ⟨execWardenSuspect_young, fun hold => ?suspects⟩,
    fun hw hp src hne ht => ?votes, fun hw => ⟨execWardenVoteRx_off _ _ hw, execWardenSuspect_off _ hw⟩,
    fun hw hup hm x hd => execFatalDeclarationRx_passed hw hup hm hd, execFatalDeclarationRx_none,
    fun self => declareHub_facts self s, execTakeoverTimeout_gap, execTakeoverTimeout_not,
    fun copied => ⟨execDumpHoldEnd_not copied, execDumpHoldEnd_held copied⟩⟩
  case beat =>
    obtain ⟨ws, wire, hkept⟩ := heartbeats_kept s (beatReaches s) ((beatReaches s).map fun d => .heartbeat d)
    refine ⟨_, execHeartbeatSend_eq hm hn, ?_, fun ht hpow hlink => heartbeat_reached _ ?_, fun hpow => heartbeat_missed _ ?_⟩
    · rw [hkept]
    · refine List.mem_filter.mpr ⟨?_, by rw [hpow, hlink]; rfl⟩
      rw [hm]
      exact mem_tarnDies ht
    · intro hd
      have hon := (List.mem_filter.mp hd).2
      rw [hpow] at hon
      exact nomatch hon
  case suspects =>
    intro v t
    have hv : getWarden t die = v := getWarden_setWarden die v s
    have hrun : exec (.wardenSuspect die age) s = .next (tryQuorum die t) := execWardenSuspect_old hw hp hg hold
    refine ⟨fun h => hrun.trans (congrArg _ (tryQuorum_not ?_)), fun h hm => hrun.trans (congrArg _ (tryQuorum_declares ?_ hm))⟩
    · exact h.imp_left fun h => by rw [hv]; exact h
    · rw [hv]
      exact h
  case votes =>
    intro v t
    have hv := fun v => getWarden_setWarden die v s
    have hrun := execWardenVoteRx_taken true hw hp hne ht
    refine ⟨fun h => hrun.trans (congrArg _ (tryQuorum_not ?_)), fun h hm => hrun.trans (congrArg _ (tryQuorum_declares ?_ hm)),
      fun h => (execWardenVoteRx_taken false hw hp hne ht).trans (congrArg _ (tryQuorum_not (.inl ?_)))⟩
    · exact h.imp_left fun h => by rw [hv]; exact h
    · rw [hv]
      exact h
    · rw [hv]
      exact h

end Sys2Proof.Machine
end

section
/-! PROOFS. The canonical form of memory through the commands that write it in bulk (O59). -/

namespace Sys2Proof.Machine
open Host

/-! ### What keeps the form -/

/-- A change of the state that keeps the canonical form of memory. -/
def KeepsForm (s t : State) : Prop := Memory.wf s.hw.mem = true → Memory.wf t.hw.mem = true

theorem KeepsForm.refl (s : State) : KeepsForm s s := id

theorem KeepsForm.trans {s t u : State} (h : KeepsForm s t) (h' : KeepsForm t u) : KeepsForm s u := h' ∘ h

theorem KeepsForm.of_mem {s t : State} (h : t.hw.mem = s.hw.mem) : KeepsForm s t := fun hs => h ▸ hs

theorem foldl_keepsForm {α : Type} {f : State → α → State} (hf : ∀ s a, KeepsForm s (f s a)) (l : List α) (s : State) :
    KeepsForm s (l.foldl f s) :=
  foldl_related (R := KeepsForm) .refl (fun _ _ _ => .trans) (fun a _ s => hf s a) s

theorem writeBytes_keepsForm (a : Nat) (bs : List Byte) (s : State) : KeepsForm s (writeBytes a bs s) := memory_wf_writeBytes a bs s

theorem clearMem_keepsForm (lo hi : Nat) (s : State) : KeepsForm s (clearMem lo hi s) := memory_wf_clearMem lo hi s

theorem dramWrite_keepsForm (a : Nat) (bs : List Byte) (s : State) : KeepsForm s (dramWrite a bs s) := by
  obtain ⟨banks, cs, bad, h⟩ := dramWrite_eq a bs s
  rw [h]
  exact writeBytes_keepsForm a bs s

/-! ### Requests served -/

theorem respond_hw (rq : Request) (op : Nat) (r : Reply) (s : State) : (respond rq op r s).hw = s.hw := by
  unfold respond respondAt
  extract_lets ver k done body field status bytes
  split
  · rfl
  · split
    · rfl
    · rfl

theorem performOp_keepsForm {op : NcpOp} {rq : Request} {s : State} (layer : Nat) (h : KeepsForm s (op.body rq s).state) :
    KeepsForm s (performOp op layer rq s).state := by
  unfold performOp
  dsimp only
  split
  · split
    · exact h.trans (.of_mem (by unfold noteSetting; split <;> rfl))
    · exact h
  · exact h

/-- A request keeps the form where its message's body does. -/
theorem serve_keepsForm {op : NcpOp} {rq : Request} {s : State} (h : KeepsForm s (op.body rq s).state) :
    KeepsForm s (serve op rq s) := by
  unfold serve
  split
  · exact .refl s
  · split
    · exact .of_mem (congrArg Hw.mem (respond_hw _ _ _ s))
    · dsimp only
      split
      · exact performOp_keepsForm 1 h
      · exact (performOp_keepsForm 1 h).trans (.of_mem (congrArg Hw.mem (respond_hw _ _ _ _)))

/-! ### Basin writes, and the blocks of the rings -/

theorem memBasinWriteBody_keepsForm (rq : Request) (s : State) : KeepsForm s (memBasinWriteBody rq s).state := by
  unfold memBasinWriteBody
  dsimp only
  split_ifs
  · exact .refl s
  · exact .refl s
  · exact .refl s
  · exact dramWrite_keepsForm _ _ s

theorem execRingCaptureBlock_keepsForm {n : Nat} {s t : State} (h : execRingCaptureBlock n s = .next t) : KeepsForm s t := by
  unfold execRingCaptureBlock at h
  cases h
  split
  · exact .refl s
  · extract_lets first
    split
    · exact .refl s
    · exact fun hs => dramWrite_keepsForm _ _ _ (foldl_keepsForm (fun s _ => dramWrite_keepsForm _ _ s) _ s hs)

/-! ### The loading of a program -/

/-- The state in which a reference is fetched, or its request refused. -/
def fetchedState : Except Reply (List Byte × State) → State
  | .error r => r.state
  | .ok x => x.2

theorem fetchReference_mem (rq : Request) (at_ : Nat) (s : State) :
    (fetchedState (fetchReference rq at_ s)).hw.mem = s.hw.mem := by
  unfold fetchReference
  split
  · rfl
  · split
    · dsimp only
      split
      · rfl
      · rfl
    · split
      · rfl
      · rfl

theorem withVectors_mem (f : State → State) (s : State) : (withVectors f s).hw.mem = (f s).hw.mem := by
  obtain ⟨pba, w, h⟩ := withVectors_eq s f
  rw [h]

theorem setIn_mem (n : Nat) (b : MbxIn) (s : State) : (setIn n b s).hw.mem = s.hw.mem := withVectors_mem _ s

theorem setOut_mem (n : Nat) (b : MbxOut) (s : State) : (setOut n b s).hw.mem = s.hw.mem := withVectors_mem _ s

theorem mbxErr_mem (mask : Nat) (s : State) : (mbxErr mask s).hw.mem = s.hw.mem := withVectors_mem _ s

theorem mbxStale_mem (n : Nat) (s : State) : (mbxStale n s).hw.mem = s.hw.mem := by
  unfold mbxStale
  dsimp only
  split
  · rw [mbxErr_mem, setIn_mem]
  · rfl

theorem releaseClaims_mem (id : Nat) (s : State) : (releaseClaims id s).hw.mem = s.hw.mem := by
  unfold releaseClaims
  refine foldl_related (R := fun s t => t.hw.mem = s.hw.mem) (fun _ => rfl) (fun _ _ _ h h' => h'.trans h) (fun n _ t => ?_) s
  have hstale : (if (getIn t n).st = .filling ∧ (getIn t n).owner = id then mbxStale n t else t).hw.mem = t.hw.mem := by
    split
    · exact mbxStale_mem n t
    · rfl
  extract_lets t' b b' u o
  have hu : u.hw.mem = t.hw.mem := (setIn_mem n b' t').trans hstale
  split
  · exact (setOut_mem n _ u).trans hu
  · exact hu

theorem placeProgram_keepsForm (n : Nat) (image : List Byte) (s : State) : KeepsForm s (placeProgram n image s) :=
  .trans (memory_wf_clearCode n s) (writeBytes_keepsForm _ _ _)

theorem stopCore_mem (n : Nat) (s : State) : (stopCore n s).hw.mem = s.hw.mem := by
  unfold stopCore
  dsimp only
  split
  · rfl
  · rfl

theorem loadCore_keepsForm (n : Nat) (start : Bool) (image : List Byte) (s : State) : KeepsForm s (loadCore n start image s) := by
  have hstop : KeepsForm s (releaseClaims (0x100 + n) (stopCore n s)) :=
    .of_mem ((releaseClaims_mem _ _).trans (stopCore_mem n s))
  have hput := hstop.trans (placeProgram_keepsForm n image _)
  unfold loadCore
  dsimp only
  split
  · exact hput.trans (.of_mem rfl)
  · exact hput.trans (.of_mem rfl)

theorem rplLoadBody_keepsForm (rq : Request) (s : State) : KeepsForm s (rplLoadBody rq s).state := by
  have hfetched := fetchReference_mem rq 4 s
  unfold rplLoadBody
  dsimp only
  split
  · exact .refl s
  · split
    · next h =>
      rw [h] at hfetched
      exact .of_mem hfetched
    · next h =>
      rw [h] at hfetched
      have hfetch := KeepsForm.of_mem hfetched
      split
      · exact hfetch
      · exact hfetch.trans ((loadCore_keepsForm _ _ _ _).trans (.of_mem rfl))

theorem execRplLoad_keepsForm {rq : Request} {s t : State} (h : execRplLoad rq s = .next t) : KeepsForm s t := by
  unfold execRplLoad at h
  split at h
  · cases h
    exact .refl s
  · cases h
    exact serve_keepsForm (rplLoadBody_keepsForm rq s)

/-! ### The journal -/

theorem writeMirror_keepsForm (s : State) (die : Nat) : KeepsForm s (writeMirror s die) := by
  unfold writeMirror
  split
  · exact .refl s
  · dsimp only
    split_ifs
    · exact .trans (.of_mem rfl) (writeBytes_keepsForm _ _ _)
    · exact .trans (.of_mem rfl) (writeBytes_keepsForm _ _ _)
    · exact .trans (.of_mem rfl) (writeBytes_keepsForm _ _ _)

theorem writeJournal_keepsForm (s : State) : KeepsForm s (writeJournal s) := by
  unfold writeJournal
  split
  · exact .refl s
  · exact fun hs => foldl_keepsForm writeMirror_keepsForm _ _ hs

theorem execJournalBatch_keepsForm {s t : State} (h : execJournalBatch s = .next t) : KeepsForm s t := by
  unfold execJournalBatch at h
  split at h
  · cases h
    exact writeJournal_keepsForm s
  · cases h
    exact .refl s

/-! ### The state dump and its copy -/

theorem putDump_keepsForm (base size : Nat) (header : List Byte) (secs : List (Nat × Nat × Nat × List Byte)) (s : State) :
    KeepsForm s (putDump base size header secs s) :=
  .trans ((clearMem_keepsForm _ _ s).trans (writeBytes_keepsForm _ _ _))
    (foldl_keepsForm (fun s _ => writeBytes_keepsForm _ _ s) secs _)

theorem writeDump_keepsForm (cause : Nat) (complete : Bool) (extra : Nat) (s : State) : KeepsForm s (writeDump cause complete extra s) := by
  have hdraw : KeepsForm s (if complete then ((0 : BitVec 1024), s) else drawFree s).2 := by
    split
    · exact .refl s
    · exact .of_mem rfl
  unfold writeDump
  extract_lets inDram all
  generalize (if complete = true then ((0 : BitVec 1024), s) else drawFree s) = q at hdraw ⊢
  have hput : ∀ h kept, KeepsForm s
      (if inDram = true then putDump (dumpStart s) dumpSize h kept q.2 else putDump (pondDump s) pondDumpSize h kept q.2) := by
    intro h kept
    split
    · exact hdraw.trans (putDump_keepsForm _ _ _ _ _)
    · exact hdraw.trans (putDump_keepsForm _ _ _ _ _)
  exact hput _ _

theorem laterFault_keepsForm (base cause : Nat) (s : State) : KeepsForm s (laterFault base cause s) := by
  unfold laterFault
  extract_lets h n body
  split
  · exact .of_mem rfl
  · exact writeBytes_keepsForm _ _ s

theorem recordFatal_keepsForm (cause : Nat) (complete : Bool) (extra : Nat) (s : State) :
    KeepsForm s (recordFatal cause complete extra s) := by
  unfold recordFatal
  split
  · exact laterFault_keepsForm _ _ s
  · exact writeDump_keepsForm _ _ _ s

theorem afterDump_mem (word : Nat) (s : State) : (afterDump word s).hw.mem = s.hw.mem := by
  unfold afterDump
  dsimp only
  split
  · rfl
  · rfl

theorem execDumpWritten_keepsForm {b : Bool} {s t : State} (h : execDumpWritten b s = .next t) : KeepsForm s t := by
  unfold execDumpWritten at h
  split at h
  · cases h
    exact .refl s
  · cases h
    exact (recordFatal_keepsForm _ _ _ s).trans (.of_mem (afterDump_mem _ _))

theorem execDumpHoldEnd_keepsForm {b : Bool} {s t : State} (h : execDumpHoldEnd b s = .next t) : KeepsForm s t := by
  cases hheld : s.sys.red.dumpHold with
  | false =>
    rw [execDumpHoldEnd_not b hheld] at h
    cases h
    exact .refl s
  | true =>
    obtain ⟨a, bs, copied, m, w, hend⟩ := execDumpHoldEnd_eq b hheld
    rw [hend] at h
    cases h
    exact fun hs => memory_wf_memClear _ _ _ (memory_wf_memPuts _ a bs hs)

/-! ### The test of a region -/

theorem execPondTestRegion_mem {die bank region : Nat} {pass : Bool} {s t : State}
    (h : execPondTestRegion die bank region pass s = .next t) : t.hw.mem = s.hw.mem := by
  have hfail : ∀ u b', (memEvent die bank 2 (64 * region) (setBank die bank b' (count (pondCounter die 3) u))).hw.mem = u.hw.mem :=
    fun u b' => (congrArg Hw.mem (memEvent_kept die bank 2 (64 * region) _).2).trans rfl
  unfold execPondTestRegion at h
  cases h
  dsimp only
  split
  · rfl
  · have hjudged : (if pass = true then count (pondCounter die 2) s
        else memEvent die bank 2 (64 * region) (setBank die bank { getBank s die bank with failed := true }
          (count (pondCounter die 3) (count (pondCounter die 2) s)))).hw.mem = s.hw.mem := by
      split
      · rfl
      · exact hfail (count (pondCounter die 2) s) _
    split
    · exact hjudged
    · exact hjudged

/-- Settles O59. -/
theorem memoryCanonical : Obligations.MemoryCanonical := by
  intro c rq n bank region b s t hc hrun
  simp only [List.mem_cons, List.not_mem_nil, or_false] at hc
  rcases hc with rfl | rfl | rfl | rfl | rfl | rfl | rfl
  · cases hrun
    exact serve_keepsForm (memBasinWriteBody_keepsForm rq s)
  · exact execRplLoad_keepsForm hrun
  · exact execRingCaptureBlock_keepsForm hrun
  · exact execJournalBatch_keepsForm hrun
  · exact execDumpWritten_keepsForm hrun
  · exact execDumpHoldEnd_keepsForm hrun
  · exact KeepsForm.of_mem (execPondTestRegion_mem hrun)

end Sys2Proof.Machine
end
